-- ==== Sys2Proof/Word.lean ====
section
/-! DEFINITION. The word types of the model (R7, R15, R59 and R123 give the widths). -/
namespace Sys2Proof

/-- One byte. -/
abbrev Byte := BitVec 8

/-- A 64-bit register value (R15: registers are 32 or 64 bits wide). -/
abbrev W64 := BitVec 64

/-- A 32-bit data word. -/
abbrev W32 := BitVec 32

/-- A raw memory word: 32 data bits, the poison bit and seven check bits (R123). -/
abbrev W40 := BitVec 40

/-- A raw memory sector: 32 data bytes and 4 parity bytes (R126). -/
abbrev W288 := BitVec 288

end Sys2Proof
end

