-- ==== Sys2Proof/Syntax.lean ====
section
/-! DEFINITION. The commands of the block and the types of their operands. -/
namespace Sys2Proof

/-- Who makes a change (R22, R555). -/
inductive Origin where
  | vi (v : Nat)
  | serviceFw
  | shepherd
  | bmc
  | steer (c : Nat)
  | herdCore (n : Nat)
deriving DecidableEq, Repr

/-- SV_ACCESS_ERR.ORIGIN: the origin codes. -/
def Origin.code : Origin → Nat
  | .vi v => v % 64
  | .serviceFw => 0x40
  | .shepherd => 0x41
  | .bmc => 0x42
  | .steer c => 0x50 + c % 18
  | .herdCore n => 0x70 + n % 4

/-- The sender of an access: its origin, the port it came by (R565 byte 18), the VI and context behind it, whether a
core's context ran at the privileged level, and the herd ID it came from. -/
structure Acc where
  origin : Origin
  port : Nat
  vi : Nat
  ctx : Nat
  priv : Bool
  herd : Nat
deriving DecidableEq, Repr

/-- A register write: its sender, whether it is 64 bits wide, and the value. -/
structure Wr where
  acc : Acc
  wide : Bool
  value : W64
deriving DecidableEq, Repr

/-- A data word in flight: 32 bits and the poison mark; a poisoned word's data are its tag (R129, R130). -/
structure PW where
  data : W32
  poison : Bool
deriving DecidableEq, Repr

/-- A Herdlink frame: the header of R468 and its payload words. -/
structure Frame where
  type : Nat
  vc : Nat
  sub : Nat
  detours : Nat
  dest : Nat
  bcast : Bool
  linkLocal : Bool
  src : Nat
  len : Nat
  addr : Nat
  tag : Nat
  arg : Nat
  payload : List PW
deriving DecidableEq, Repr

/-- Who makes an access to a plot (R180, R203); a member of the herd with the herd window that admits it (R106) and the I/O die it
comes through (R250); the walk of a VI's page tables (R176); and the service firmware. -/
inductive PlotReq where
  | stream (engine ctx : Nat)
  /-- A context's reads of its list entries, and the write of its breadcrumb. -/
  | list (engine ctx : Nat)
  | gather (cluster : Nat)
  | core (core ctx : Nat)
  | bar2 (port : Nat)
  | herd (src tag win die : Nat)
  | cache (slice : Nat)
  | scrub (slot : Nat)
  | trace (unit : Nat)
  | walk (vi : Nat)
  | service
deriving DecidableEq, Repr

/-- What a transfer at an arbitration point is part of (R261): a stream context, a context of a core, a fill of a sector of a cache line
(R227), or another unit's work. -/
inductive TrOwner where
  | stream (e x : Nat)
  /-- A context's list entries and breadcrumb. -/
  | list (e x : Nat)
  | core (core ctx : Nat)
  | fill (slice la k : Nat)
  | unit
deriving DecidableEq, Repr

/-- A lookup as LC_LOOKUP presents it (R220, R221, R225): the bytes, the VI, the class, ALLOC or BYPASS, SHARED, the cluster it serves, the
pin of its read, and its requester. -/
structure LcAsk where
  addr : Nat
  len : Nat
  vi : Nat
  cls : Nat
  alloc : Bool
  shared : Bool
  cluster : Nat
  pin : Option (Nat × Nat)
  req : PlotReq
deriving DecidableEq, Repr

/-- One word of a tensor-memory access: its byte offset (a multiple of 4), the bytes it covers, and its data. -/
structure TmWord where
  addr : Nat
  mask : Nat
  data : PW
deriving DecidableEq, Repr

/-- What a boot meets outside the model (R628): whether each NOR image verifies (bit 0 A, bit 1 B), whether every rail comes
into regulation and every PLL locks, the sensors sampled at stage 6 with their readings in 0.25 °C units, the clusters that
pass their self-test, the cache slices that fail theirs, the stacks that train, and those whose sector decoders pass their self-test, as bit
masks. -/
structure BootIn where
  images : Nat
  rails : Bool
  plls : Bool
  temps : List (Nat × Nat)
  clusters : Nat
  slices : Nat
  stackBits : Nat
  tests : Nat
deriving DecidableEq, Repr


/-- The commands of the block: one constructor for each row of the command table. -/
inductive Instr where
  /-- REGISTER_WRITE (R11): A write to a register that has no row of its own is checked for path, width, writer, apply class and log space, then applied or refused. -/
  | registerWrite (w : Wr) (off : Nat) (poison : Bool)
  /-- SHADOW_APPLY (R12): At its named boundary, the last value written to a SHADOW field takes effect and PENDING clears. -/
  | shadowApply (off : Nat)
  /-- ACCESS_ERR_CLEAR (R22): Writing 1 to SV_ACCESS_ERR.VALID clears the whole capture register. -/
  | accessErrClear (w : Wr)
  /-- PTP_SYNC (R26): A shepherd under PTP takes a Sync message and uses it to step, slew or count towards lock. -/
  | ptpSync (l2 : Bool) (domain : Nat) (t1 : Nat) (frac : Nat) (utc : Nat)
  /-- PTP_DELAY_RESP (R30): A Delay_Req and Delay_Resp exchange completes and measures the PTP path delay. -/
  | ptpDelayResp (t1 : Nat) (t2 : Nat) (t3 : Nat) (t4 : Nat)
  /-- PPS_PULSE (R27): A rising edge on PPS_IN marks a TAI second and disciplines fleet time. -/
  | ppsPulse (frac : Nat)
  /-- PPS_OUT_PULSE (R28): At each whole second of FT_NOW, PPS_OUT emits a 100 µs pulse. -/
  | ppsOutPulse
  /-- TIME (R32): A time message arrives on a Herdlink port and steers the module's fleet time towards the shepherd's. -/
  | time (p : Nat) (addr : Nat) (tag : Nat) (arg : Nat) (ok : Bool) (frac : Nat)
  /-- TIME_SEND (R32): Every 10 µs, the module sends time messages on each torus port, corrected for hops and with the holdover age. -/
  | timeSend
  /-- DELAY_REQ (R33): A DELAY_REQ frame arrives and is answered with a stamped DELAY_RESP. -/
  | delayReq (p : Nat) (frac : Nat)
  /-- DELAY_RESP (R33): A DELAY_RESP arrives and completes a link-delay measurement for the port. -/
  | delayResp (p : Nat) (addr : Nat) (tag : Nat)
  /-- HOLDOVER_ENTER (R29): The lock-loss time limit expires and a locked module falls to HOLDOVER. -/
  | holdoverEnter
  /-- ACCEPT_STEP (R31): A write to FT_CTRL.ACCEPT_STEP steps FT_NOW forward to a reference that is ahead and fires passed strokes late. -/
  | acceptStep (w : Wr)
  /-- STROKE_COMMIT (R35): Setting FT_STG_CTL.COMMIT checks a stroke and installs it in a slot, writing FT_STG_STATUS. -/
  | strokeCommit (w : Wr)
  /-- STROKE_REPLACE (R40): A commit with REPLACE overwrites an ARMED or DEFERRED slot, or installs in a free one. -/
  | strokeReplace (w : Wr)
  /-- STROKE_CANCEL (R40): A commit with CANCEL moves an ARMED or DEFERRED slot to CANCELLED. -/
  | strokeCancel (w : Wr)
  /-- GENSWAP (R443): A GENSWAP stroke fires and makes the new generation ACTIVE for its table set. -/
  | genswap (n : Nat)
  /-- GENRETIRE (R174): A GENRETIRE stroke fires and retires every tagged plot of the generation. -/
  | genretire (n : Nat)
  /-- PHASE_STROKE (R515): A PHASE stroke fires and names a phase to the power manager. -/
  | phaseStroke (n : Nat)
  /-- OXENTER (R516): An OXENTER stroke fires and puts the module in Ox mode at the named points. -/
  | oxenter (n : Nat)
  /-- OXLEAVE (R516): An OXLEAVE stroke fires and ends Ox mode. -/
  | oxleave (n : Nat)
  /-- CAPSET (R505): A CAPSET stroke fires and sets the module cap for the next estimate. -/
  | capset (n : Nat)
  /-- SCRUB_STROKE (R143): A SCRUB stroke fires and starts the pass of the named scrub slot. -/
  | scrubStroke (n : Nat)
  /-- MUWIN_OPEN (R205): A MUWIN_OPEN stroke fires and opens the named mule window. -/
  | muwinOpen (n : Nat)
  /-- MUWIN_CLOSE (R206): A MUWIN_CLOSE stroke fires and closes the named mule window. -/
  | muwinClose (n : Nat)
  /-- FWACTIVATE (R571): A FWACTIVATE stroke fires and switches to the verified image or fails. -/
  | fwactivate (n : Nat)
  /-- TRACEMARK (R47): A TRACEMARK stroke fires and writes a MARK record to every active trace unit. -/
  | tracemark (n : Nat)
  /-- TRACE_ENABLE (R47): Writing FT_TRACE_CTL.EN from 0 to 1 resets the ring pointers and writes a SYNC record. -/
  | traceEnable (w : Wr) (u : Nat)
  /-- PORT_ISSUE (R63): A crossbar port issues a run or gather, which is split into bank requests. -/
  | portIssue (c : Nat) (port : Nat) (write : Bool) (ws : List TmWord)
  /-- BANK_GRANT (R69): A bank grants one waiting request by OLD status and port priority. -/
  | bankGrant (c : Nat) (bank : Nat)
  /-- READ_RETURN (R66): A read's words return 9 TMCK cycles after its last grant, decoded under the word code. -/
  | readReturn (c : Nat) (port : Nat)
  /-- WRITE_COMMIT (R66): A write commits 6 TMCK cycles after its grant. -/
  | writeCommit (c : Nat) (port : Nat) (upset : List (Nat × Nat))
  /-- MERGE_TIMEOUT (R73): 64 TMCK cycles after allocation, a merge-buffer entry flushes its partial words. -/
  | mergeTimeout (c : Nat) (port : Nat) (line : Nat)
  /-- TMX_COUNTER_CLEAR (R82): Writing TMX_CNT_CTL.CLEAR zeroes all 18 port counters. -/
  | tmxCounterClear (w : Wr) (c : Nat)
  /-- HOT_PERIOD_END (R83): At the end of a sample period, the hot-bank sampler writes one ring entry. -/
  | hotPeriodEnd (c : Nat)
  /-- CLUSTER_DOMAIN_WAKE (R84): A cluster domain wakes and starts the blank clear of its memories. -/
  | clusterDomainWake (c : Nat)
  /-- TM_CLEAR_DONE (R84): The 4,104-cycle blank clear ends, CLEAR_DONE is set, and held requests are served. -/
  | tmClearDone (c : Nat) (ok : Bool)
  /-- CLUSTER_DOMAIN_OFF (R94): A cluster domain powers off after its merge buffers are fenced, losing its data and contexts. -/
  | clusterDomainOff (c : Nat)
  /-- SPINE_DOMAIN_WAKE (R115): A spine domain wakes with every lock word free and ORPHANED set. -/
  | spineDomainWake (d : Nat) (fail : Nat)
  /-- FAB_ACCESS (R96): An access from outside the cluster reaches FAB and is admitted by the lowest matching window or refused. -/
  | fabAccess (c : Nat) (cls : Nat) (src : Nat) (vi : Nat) (write : Bool) (off : Nat) (len : Nat) (data : List PW) (msgs : Nat)
  /-- WINDOW_OPEN (R116): Writing 1 to WN_CTL.OPEN opens a window for later accesses. -/
  | windowOpen (w : Wr) (c : Nat) (n : Nat)
  /-- WINDOW_CLOSE (R100): Writing 0 to WN_CTL.OPEN closes a window to accesses in later cycles. -/
  | windowClose (w : Wr) (c : Nat) (n : Nat)
  /-- WINDOW_BLANK (R101): After a VI reset, once INFLIGHT reaches 0, the owned window's range is written blank and its counter zeroed. -/
  | windowBlank (c : Nat) (w : Nat)
  /-- WN_CNT_WRITE (R104): A write to WN_CNT sets an arrival counter's value. -/
  | wnCntWrite (w : Wr) (c : Nat) (n : Nat)
  /-- WN_CNT_SUB (R104): A write to WN_CNT_SUB subtracts the amount from an arrival counter in one step. -/
  | wnCntSub (w : Wr) (c : Nat) (n : Nat)
  /-- LOCK_FORCE (R114): Setting LK_FORCE.GO force-releases a lock word with ORPHANED set. -/
  | lockForce (w : Wr) (d : Nat)
  /-- SCRUB_GO (R143): Setting IN_SCRUB_CTL.GO starts a scrub pass. -/
  | scrubGo (w : Wr) (d : Nat) (n : Nat)
  /-- SCRUB_ACCESS (R144): At its pace, the scrub reads the next row or sector and, in CORRECT mode, writes it back. -/
  | scrubAccess (d : Nat) (n : Nat) (ue : Bool) (skip : Bool)
  /-- SCRUB_PASS_END (R146): A scrub pass ends and writes its summary, setting DONE. -/
  | scrubPassEnd (d : Nat) (n : Nat)
  /-- SCRUB_STOP (R156): Writing IN_SCRUB_CTL.STOP ends the pass after its current access with end code 1. -/
  | scrubStop (w : Wr) (d : Nat) (n : Nat)
  /-- ERROR_COUNT_CLEAR (R159): Writing IN_ECNT_CLR zeroes every error and bite counter. -/
  | errorCountClear (w : Wr) (d : Nat)
  /-- SPLIT_WRITE (R147): Setting IN_DIAG.GO stores chosen data, poison and check bits without encoding. -/
  | splitWrite (w : Wr) (d : Nat)
  /-- TM_ROW_REPAIR (R152): IN_REPAIR of kind TM row copies a row into a spare in one read-modify-write cycle and remaps it. -/
  | tmRowRepair (w : Wr) (d : Nat)
  /-- LC_LINE_REPAIR (R244): IN_REPAIR of kind LC line switches a line to a spare frame as one tag access. -/
  | lcLineRepair (w : Wr) (d : Nat)
  /-- HBM_ROW_REPAIR (R153): IN_REPAIR of kind HBM row holds the pseudo-channel, applies soft post-package repair and releases it. -/
  | hbmRowRepair (w : Wr) (d : Nat)
  /-- HBM_REPAIR_DEFERRED_START (R153): A repair that waited for its channel in PROC starts when the channel returns to MEM. -/
  | hbmRepairDeferredStart (stack : Nat) (pc : Nat)
  /-- PLOT_ENABLE (R169): Writing PL_CTL.ENABLE from 0 to 1 starts a whole-plot fill. -/
  | plotEnable (w : Wr) (k : Nat) (n : Nat)
  /-- PLOT_ATTR_CHANGE (R169): Changing LAYOUT, PROT or OWNER_VI of an enabled plot starts a whole-plot fill. -/
  | plotAttrChange (w : Wr) (k : Nat) (n : Nat)
  /-- PLOT_FILL_DONE (R169): A whole-plot fill ends, the plot becomes READY and FILLED is set. -/
  | plotFillDone (p : Nat) (row : Nat)
  /-- PL_TAG_WRITE (R175): A PL_TAG write sets a plot's table set and generation and clears RETIRED. -/
  | plTagWrite (w : Wr) (k : Nat) (n : Nat)
  /-- RANGE_FILL (R171): Setting PL_FILL.GO starts a BLANK or ZERO fill of a plot range. -/
  | rangeFill (w : Wr) (k : Nat)
  /-- RANGE_FILL_DONE (R171): A range fill ends and PL_FILL.GO clears with its result. -/
  | rangeFillDone (k : Nat) (upto : Nat)
  /-- PLOT_ACCESS (R180): An access reaches a plot after translation and is checked against the plot's state, owner and tag. -/
  | plotAccess (phys : Bool) (addr : Nat) (len : Nat) (write : Bool) (data : List PW) (vi : Nat) (pin : Option (Nat × Nat)) (req : PlotReq)
  /-- PRI_RESPONSE (R178): A PRI response arrives and the waiting walk is retried or faults. -/
  | priResponse (vi : Nat) (page : Nat) (ok : Bool)
  /-- PRI_TIMEOUT (R178): A page request with no response within the time-out faults the access. -/
  | priTimeout (vi : Nat) (page : Nat)
  /-- TLB_INV (R179): Setting PL_TLB_INV.GO invalidates cached translations for a VI and applies its page-table root. -/
  | tlbInv (w : Wr)
  /-- TLB_INV_DONE (R179): Every cache has dropped the entries and earlier walks have ended, and GO clears. -/
  | tlbInvDone
  /-- REFRESH (R181): A bank's refresh falls due and holds the bank for 200 ns. -/
  | refresh (stack : Nat) (pc : Nat) (bank : Nat)
  /-- REFRESH_MANAGEMENT (R182): A bank's activation count passes the threshold and a refresh management command is issued. -/
  | refreshManagement (stack : Nat) (pc : Nat) (bank : Nat)
  /-- STACK_INIT (R183): A stack is powered, trained and initialised, applying hard repairs, with every plot OFF. -/
  | stackInit (k : Nat) (ok : Bool) (test : Bool)
  /-- MUISSUE (R192): A steer core queues a mule command, or acts at once on a window command. -/
  | muissue (core : Nat) (x : Nat)
  /-- MU_CMD_GO (R192): Setting MU_CMD_GO.GO queues the descriptor in MU_CMD. -/
  | muCmdGo (w : Wr)
  /-- ROWCOPY (R193): At the head of its queue, a mule copies rows A to D within its bank. -/
  | rowcopy (stack : Nat) (pc : Nat) (ue : Option (Nat × Bool × Nat)) (err : Option Nat)
  /-- ROWINIT (R193): At the head of its queue, a mule fills rows D with the repeated pattern. -/
  | rowinit (stack : Nat) (pc : Nat) (ue : Option (Nat × Bool × Nat)) (err : Option Nat)
  /-- ROWAND (R193): At the head of its queue, a mule writes A AND B to D. -/
  | rowand (stack : Nat) (pc : Nat) (ue : Option (Nat × Bool × Nat)) (err : Option Nat)
  /-- ROWOR (R193): At the head of its queue, a mule writes A OR B to D. -/
  | rowor (stack : Nat) (pc : Nat) (ue : Option (Nat × Bool × Nat)) (err : Option Nat)
  /-- ROWXOR (R193): At the head of its queue, a mule writes A XOR B to D. -/
  | rowxor (stack : Nat) (pc : Nat) (ue : Option (Nat × Bool × Nat)) (err : Option Nat)
  /-- ROWANDN (R193): At the head of its queue, a mule writes A AND NOT B to D. -/
  | rowandn (stack : Nat) (pc : Nat) (ue : Option (Nat × Bool × Nat)) (err : Option Nat)
  /-- ROWNOT (R193): At the head of its queue, a mule writes NOT A to D. -/
  | rownot (stack : Nat) (pc : Nat) (ue : Option (Nat × Bool × Nat)) (err : Option Nat)
  /-- CHAIN (R193): At the head of its queue, a mule shifts rows to bank k ± 1 of its pseudo-channel. -/
  | chain (stack : Nat) (pc : Nat) (ue : Option (Nat × Bool × Nat)) (err : Option Nat)
  /-- BUSCOPY (R195): At the head of its queue, a mule copies rows over the base-die bus to another channel and bank. -/
  | buscopy (stack : Nat) (pc : Nat) (ue : Option (Nat × Bool × Nat)) (err : Option Nat)
  /-- WINOPEN (R197): A WINOPEN command opens a mule window at issue and writes its status. -/
  | winopen (d : BitVec 256) (vi : Nat) (svc : Bool)
  /-- WINCLOSE (R197): A WINCLOSE command closes a mule window at issue and writes its status. -/
  | winclose (d : BitVec 256) (vi : Nat) (svc : Bool)
  /-- MULE_COMMAND_DONE (R199): A mule command leaves the queue, writes a MU_STAT entry and posts its counter increment. -/
  | muleCommandDone (stack : Nat) (pc : Nat)
  /-- MU_WIN_CMD_OPEN (R205): MU_WIN_CMD with CLOSE 0 opens a mule window if every condition holds. -/
  | muWinCmdOpen (w : Wr)
  /-- MU_WIN_CMD_CLOSE (R206): MU_WIN_CMD with CLOSE 1 closes a mule window, sending its channels to EXIT. -/
  | muWinCmdClose (w : Wr)
  /-- DRAIN_COMPLETE (R200): The last access admitted before DRAIN completes and the channel enters PROC. -/
  | drainComplete (stack : Nat) (pc : Nat)
  /-- EXIT_COMPLETE (R200): The command in progress completes, the channel returns to MEM and held traffic is released. -/
  | exitComplete (stack : Nat) (pc : Nat)
  /-- HOLD_EXPIRY (R203): An access held at a non-MEM channel longer than MU_HOLD.LIMIT completes with its timeout outcome. -/
  | holdExpiry (group : Nat)
  /-- BUDGET_PERIOD (R208): A new 1 µs activity budget period starts and waiting activations resume. -/
  | budgetPeriod
  /-- SUSPECT_CLEAR (R218): Writing 1 to MU_SUSPECT.VALID clears the suspect register. -/
  | suspectClear (w : Wr) (k : Nat) (pc : Nat)
  /-- LC_LOOKUP (R227): A slice accepts a lookup that hits, joins a miss register or allocates one and presents fills. -/
  | lcLookup (asks : List LcAsk) (upset : List (Nat × Nat × Nat × Nat))
  /-- LC_RETRY (R228): A lookup refused with RETRY is presented again 16 TMCK cycles later. -/
  | lcRetry (slice : Nat)
  /-- LC_FILL_ARRIVE (R230): A sector arrives from the stack, is delivered to its waiters and installed unless forbidden. -/
  | lcFillArrive (slice : Nat) (la : Nat) (k : Nat) (ue : Bool)
  /-- LC_INVAL_WRITE (R233): An invalidating write passes its slice, invalidates touched sectors and takes an invalidation entry. -/
  | lcInvalWrite (addr : Nat) (len : Nat) (data : List PW) (vi : Nat) (req : PlotReq)
  /-- LC_PART_WRITE (R224): A write to LC_PART reassigns slices and starts a sweep of old and new slices. -/
  | lcPartWrite (w : Wr) (v : Nat)
  /-- LC_SWEEP_DONE (R224): A partition sweep ends after 520 TMCK cycles and SWEEPING clears. -/
  | lcSweepDone (v : Nat)
  /-- LC_OP_FLUSH (R236): LC_OP with FLUSH 1 starts an LCFLUSH of a range or partition. -/
  | lcOpFlush (w : Wr)
  /-- LC_OP_INVAL (R235): LC_OP with FLUSH 0 starts an LCINVAL of a range or partition. -/
  | lcOpInval (w : Wr)
  /-- LC_OP_DONE (R237): An LC operation completes after its last probe and freed registers, and reports its result. -/
  | lcOpDone (n : Nat)
  /-- LC_COUNTER_CLEAR (R237): Writing LC_CNT_CTL.CLEAR zeroes every slice counter of the spine. -/
  | lcCounterClear (w : Wr) (d : Nat)
  /-- FEED_WINDOW (R253): A feed window starts and every trough is refilled by its weight and capped. -/
  | feedWindow (arb : Nat) (first : List Nat)
  /-- ARBITER_GRANT (R256): A free point is granted to the fullest trough of the highest waiting class. -/
  | arbiterGrant (arb : Nat) (point : Nat) (reqs : List (Nat × Nat × Nat × TrOwner × Nat))
  /-- TRANSFER_ABANDON (R261): A holder drops REQ without END after a reset, cancel or halt, and an ABANDONED entry is logged. -/
  | transferAbandon (arb : Nat) (point : Nat) (empty : Bool)
  /-- ARBITER_PARITY_ERROR (R267): A parity error resets a trough to its weight or releases a point's grant. -/
  | arbiterParityError (arb : Nat) (grant : Bool) (ix : Nat)
  /-- TR_COUNTER_CLEAR (R267): Writing TR_CNT_CLR zeroes the arbiter's counters. -/
  | trCounterClear (w : Wr) (arb : Nat)
  /-- STISSUE (R270): A steer core issues a block list to a stream context. -/
  | stissue (core : Nat) (x : Nat)
  /-- ST_CMD_ISSUE (R270): Setting ST_CMD.ISSUE queues a list on a stream context. -/
  | stCmdIssue (w : Wr) (e : Nat) (c : Nat)
  /-- ST_CMD_CANCEL (R291): Writing ST_CMD.CANCEL starts the cancel of a stream context. -/
  | stCmdCancel (w : Wr) (e : Nat) (c : Nat)
  /-- ST_CMD_RESUME (R288): Writing ST_CMD.RESUME resumes a halted stream context. -/
  | stCmdResume (w : Wr) (e : Nat) (c : Nat)
  /-- ENTRY_FETCH (R276): A read-ahead entry read returns and is decoded, linked or merged. -/
  | entryFetch (e : Nat) (x : Nat) (ext : List PW) (early : Bool) (src : List PW)
  /-- BLOCK_RETIRE (R278): A delivered block retires in entry order and posts its counts and signal. -/
  | blockRetire (e : Nat) (x : Nat) (src : List PW) (upset : List Nat)
  /-- LIST_END (R271): A list's END entry retires, posting its signal and starting the next list or idling. -/
  | listEnd (e : Nat) (x : Nat)
  /-- STREAM_HALT (R285): A fault reaches the first unretired block and the context drains, writes a breadcrumb and halts. -/
  | streamHalt (e : Nat) (x : Nat) (outer : Option (Nat × Nat × Nat)) (src : List PW) (upset : List Nat) (landed : List (Nat × Nat × Nat × List PW))
  /-- CANCEL_COMPLETE (R291): A cancel finishes draining, retires delivered blocks and returns the context to IDLE. -/
  | cancelComplete (e : Nat) (x : Nat) (landed : List (Nat × Nat × Nat × List PW))
  /-- ST_COUNTER_CLEAR (R291): Writing ST_CNT_CLR zeroes the engine's stream counters. -/
  | stCounterClear (w : Wr) (e : Nat)
  /-- MX_NORMAL (R311): A matrix operation in normal mode runs at the head of its queue. -/
  | mxNormal (c : Nat) (upset : List (Nat × Nat))
  /-- MX_EXACT (R312): A matrix operation in exact mode accumulates products in long accumulators. -/
  | mxExact (c : Nat) (upset : List (Nat × Nat))
  /-- VX_ADD (R314): A vector ADD runs elementwise. -/
  | vxAdd (c : Nat) (upset : List (Nat × Nat))
  /-- VX_SUB (R314): A vector SUB runs elementwise. -/
  | vxSub (c : Nat) (upset : List (Nat × Nat))
  /-- VX_MUL (R314): A vector MUL runs elementwise. -/
  | vxMul (c : Nat) (upset : List (Nat × Nat))
  /-- VX_FMA (R314): A vector fused multiply-add runs elementwise with one rounding. -/
  | vxFma (c : Nat) (upset : List (Nat × Nat))
  /-- VX_MIN (R314): A vector MIN runs elementwise. -/
  | vxMin (c : Nat) (upset : List (Nat × Nat))
  /-- VX_MAX (R314): A vector MAX runs elementwise. -/
  | vxMax (c : Nat) (upset : List (Nat × Nat))
  /-- VX_CMP (R314): A vector CMP writes a 1-bit mask. -/
  | vxCmp (c : Nat) (upset : List (Nat × Nat))
  /-- VX_SEL (R314): A vector SEL picks SRC1 or SRC2 by mask bit. -/
  | vxSel (c : Nat) (upset : List (Nat × Nat))
  /-- VX_CVT (R314): A vector CVT converts between formats. -/
  | vxCvt (c : Nat) (upset : List (Nat × Nat))
  /-- VX_EXP (R314): A vector EXP special function runs. -/
  | vxExp (c : Nat) (upset : List (Nat × Nat))
  /-- VX_LOG (R314): A vector LOG special function runs. -/
  | vxLog (c : Nat) (upset : List (Nat × Nat))
  /-- VX_RCP (R314): A vector RCP special function runs. -/
  | vxRcp (c : Nat) (upset : List (Nat × Nat))
  /-- VX_RSQRT (R314): A vector RSQRT special function runs. -/
  | vxRsqrt (c : Nat) (upset : List (Nat × Nat))
  /-- VX_SIGMOID (R314): A vector SIGMOID special function runs. -/
  | vxSigmoid (c : Nat) (upset : List (Nat × Nat))
  /-- VX_TANH (R314): A vector TANH special function runs. -/
  | vxTanh (c : Nat) (upset : List (Nat × Nat))
  /-- ACCCLR (R314): ACCCLR clears accumulator ACC in every lane. -/
  | accclr (c : Nat) (upset : List (Nat × Nat))
  /-- ACCSUM (R306): ACCSUM offers each element as a term to its lane's accumulator. -/
  | accsum (c : Nat) (upset : List (Nat × Nat))
  /-- ACCDOT (R306): ACCDOT offers exact products as terms to the accumulators. -/
  | accdot (c : Nat) (upset : List (Nat × Nat))
  /-- ACCMERGE (R307): ACCMERGE merges stored long accumulators into ACC. -/
  | accmerge (c : Nat) (upset : List (Nat × Nat))
  /-- ACCLOAD (R314): ACCLOAD loads ACC of all 64 lanes from TM. -/
  | accload (c : Nat) (upset : List (Nat × Nat))
  /-- ACCSTORE (R314): ACCSTORE stores ACC of all 64 lanes to TM. -/
  | accstore (c : Nat) (upset : List (Nat × Nat))
  /-- ACCROUND (R308): ACCROUND rounds each lane's accumulator once, or reduces the lanes first. -/
  | accround (c : Nat) (upset : List (Nat × Nat))
  /-- TOPK (R315): TOPK writes the K highest-scoring pairs in descending order. -/
  | topk (c : Nat) (upset : List (Nat × Nat))
  /-- GT_SUM (R323): A gather operation pools bags of rows by SUM. -/
  | gtSum (c : Nat)
  /-- GT_MEAN (R323): A gather operation pools bags of rows by MEAN. -/
  | gtMean (c : Nat)
  /-- GT_MAX (R323): A gather operation pools bags of rows by MAX. -/
  | gtMax (c : Nat)
  /-- GT_WSUM (R323): A gather operation pools bags of rows by weighted SUM. -/
  | gtWsum (c : Nat)
  /-- GATHER_ROW_ARRIVE (R322): A gathered row arrives and is checked and pooled into its bag. -/
  | gatherRowArrive (c : Nat) (pos : Nat) (upset : List Nat)
  /-- ENGINE_COMPLETE (R303): An engine operation completes, writes XX_DONE and posts its signal. -/
  | engineComplete (c : Nat) (k : Nat) (err : Bool)
  /-- ENGINE_COUNTER_CLEAR (R303): Writing XX_CNT_CLR zeroes an engine block's counters. -/
  | engineCounterClear (w : Wr) (c : Nat) (k : Nat)
  /-- CONTEXT_START (R336): Setting SC_CTX_CTL.START moves a STOPPED context to READY. -/
  | contextStart (w : Wr) (core : Nat) (x : Nat)
  /-- CONTEXT_STOP (R336): Setting SC_CTX_CTL.STOP stops a context at its next instruction boundary. -/
  | contextStop (w : Wr) (core : Nat) (x : Nat)
  /-- CONTEXT_RESET (R338): Writing SC_CTX_CTL.RESET resets a context's state and releases its locks. -/
  | contextReset (w : Wr) (core : Nat) (x : Nat)
  /-- CORE_RESET (R339): Writing SC_CORE_CTL.RESET resets all 16 contexts of a core. -/
  | coreReset (w : Wr) (core : Nat)
  /-- HOST_KICK (R366): Writing SC_CTX_KICK.HOST raises the HOST interrupt of a context. -/
  | hostKick (w : Wr) (core : Nat) (x : Nat)
  /-- ALARM (R366): FT_NOW reaches SC_CTX_ALARM and raises the ALARM interrupt. -/
  | alarm (core : Nat) (x : Nat)
  /-- INTERRUPT_DELIVER (R366): A pending enabled interrupt is taken at the context's next boundary, abandoning any wait. -/
  | interruptDeliver (core : Nat) (x : Nat)
  /-- TIME_SLICE_END (R337): A context's time slice ends and the core switches to the next READY context. -/
  | timeSliceEnd (core : Nat)
  /-- WAIT_WAKE (R398): A waited-for condition becomes true and the WAITING context becomes READY. -/
  | waitWake (core : Nat) (x : Nat)
  /-- REMOTE_ACCESS_COMPLETE (R356): A VIRT or PHYS access completes or is refused and its context becomes READY or traps. -/
  | remoteAccessComplete (core : Nat) (x : Nat) (data : List PW)
  /-- UNIT_ANSWER (R355): A unit answers a class-Q instruction and its result code is written to rd. -/
  | unitAnswer (core : Nat) (x : Nat) (rd : Nat)
  /-- REG_PARITY_ERROR (R377): A register file parity error makes the context FAULTED with REG_PARITY. -/
  | regParityError (core : Nat) (x : Nat)
  /-- STEER_WINDOW_ACCESS (R341): A BAR0 access through the steer-memory window reads or writes one word. -/
  | steerWindowAccess (a : Acc) (core : Nat) (off : Nat) (write : Bool) (v : W32)
  /-- CFG_ERR_CLEAR (R405): Writing 1 to SC_CFG_ERR.VALID clears the SETCFG capture register. -/
  | cfgErrClear (w : Wr) (core : Nat)
  /-- SC_COUNTER_CLEAR (R355): Writing SC_CNT_CLR zeroes a core's counters. -/
  | scCounterClear (w : Wr) (core : Nat)
  /-- ADD (R383): rd ← ra + rb. -/
  | add (core : Nat) (x : Nat)
  /-- SUB (R383): rd ← ra − rb. -/
  | sub (core : Nat) (x : Nat)
  /-- AND (R383): rd ← ra and rb. -/
  | and (core : Nat) (x : Nat)
  /-- OR (R383): rd ← ra or rb. -/
  | or (core : Nat) (x : Nat)
  /-- XOR (R383): rd ← ra xor rb. -/
  | xor (core : Nat) (x : Nat)
  /-- ANDN (R383): rd ← ra and not rb. -/
  | andn (core : Nat) (x : Nat)
  /-- SHL (R383): Shift left by rb[5:0]. -/
  | shl (core : Nat) (x : Nat)
  /-- SHR (R383): Logical shift right by rb[5:0]. -/
  | shr (core : Nat) (x : Nat)
  /-- SRA (R383): Arithmetic shift right by rb[5:0]. -/
  | sra (core : Nat) (x : Nat)
  /-- MIN (R383): Signed minimum. -/
  | min (core : Nat) (x : Nat)
  /-- MAX (R383): Signed maximum. -/
  | max (core : Nat) (x : Nat)
  /-- MINU (R383): Unsigned minimum. -/
  | minu (core : Nat) (x : Nat)
  /-- MAXU (R383): Unsigned maximum. -/
  | maxu (core : Nat) (x : Nat)
  /-- CLZ (R383): Counts leading zero bits of ra. -/
  | clz (core : Nat) (x : Nat)
  /-- POPC (R383): Counts set bits of ra. -/
  | popc (core : Nat) (x : Nat)
  /-- MUL (R383): Low 64 bits of ra × rb. -/
  | mul (core : Nat) (x : Nat)
  /-- MULH (R383): High 64 bits of the signed product. -/
  | mulh (core : Nat) (x : Nat)
  /-- MULHU (R383): High 64 bits of the unsigned product. -/
  | mulhu (core : Nat) (x : Nat)
  /-- DIV (R383): Signed division truncated towards zero, never trapping. -/
  | div (core : Nat) (x : Nat)
  /-- DIVU (R383): Unsigned division. -/
  | divu (core : Nat) (x : Nat)
  /-- REM (R383): Signed remainder with the sign of ra. -/
  | rem (core : Nat) (x : Nat)
  /-- REMU (R383): Unsigned remainder. -/
  | remu (core : Nat) (x : Nat)
  /-- ADDI (R384): rd ← ra + sext(imm16). -/
  | addi (core : Nat) (x : Nat)
  /-- ANDI (R384): rd ← ra and zext(imm16). -/
  | andi (core : Nat) (x : Nat)
  /-- ORI (R384): rd ← ra or zext(imm16). -/
  | ori (core : Nat) (x : Nat)
  /-- XORI (R384): rd ← ra xor zext(imm16). -/
  | xori (core : Nat) (x : Nat)
  /-- SHLI (R384): Shift left by an immediate. -/
  | shli (core : Nat) (x : Nat)
  /-- SHRI (R384): Logical shift right by an immediate. -/
  | shri (core : Nat) (x : Nat)
  /-- SRAI (R384): Arithmetic shift right by an immediate. -/
  | srai (core : Nat) (x : Nat)
  /-- LUI (R384): rd ← sext(imm16 << 16). -/
  | lui (core : Nat) (x : Nat)
  /-- LI32 (R385): rd ← sext(imm32). -/
  | li32 (core : Nat) (x : Nat)
  /-- ORHI (R385): rd ← ra or (imm32 << 32). -/
  | orhi (core : Nat) (x : Nat)
  /-- ADDI32 (R385): rd ← ra + sext(imm32). -/
  | addi32 (core : Nat) (x : Nat)
  /-- CMPEQ (R386): Sets a predicate when ra = rb. -/
  | cmpeq (core : Nat) (x : Nat)
  /-- CMPNE (R386): Sets a predicate when ra ≠ rb. -/
  | cmpne (core : Nat) (x : Nat)
  /-- CMPLT (R386): Sets a predicate when ra < rb, signed. -/
  | cmplt (core : Nat) (x : Nat)
  /-- CMPGE (R386): Sets a predicate when ra ≥ rb, signed. -/
  | cmpge (core : Nat) (x : Nat)
  /-- CMPLTU (R386): Sets a predicate when ra < rb, unsigned. -/
  | cmpltu (core : Nat) (x : Nat)
  /-- CMPGEU (R386): Sets a predicate when ra ≥ rb, unsigned. -/
  | cmpgeu (core : Nat) (x : Nat)
  /-- TST (R386): Sets a predicate when ra and rb is nonzero. -/
  | tst (core : Nat) (x : Nat)
  /-- TSTZ (R386): Sets a predicate when ra and rb is zero. -/
  | tstz (core : Nat) (x : Nat)
  /-- PAND (R387): pd ← pa and pb. -/
  | pand (core : Nat) (x : Nat)
  /-- POR (R387): pd ← pa or pb. -/
  | por (core : Nat) (x : Nat)
  /-- PXOR (R387): pd ← pa xor pb. -/
  | pxor (core : Nat) (x : Nat)
  /-- PANDN (R387): pd ← pa and not pb. -/
  | pandn (core : Nat) (x : Nat)
  /-- PNOT (R387): pd ← not pa. -/
  | pnot (core : Nat) (x : Nat)
  /-- PSET (R387): pd ← 1. -/
  | pset (core : Nat) (x : Nat)
  /-- PCLR (R387): pd ← 0. -/
  | pclr (core : Nat) (x : Nat)
  /-- PTOG (R388): Moves a predicate into a g register. -/
  | ptog (core : Nat) (x : Nat)
  /-- GTOP (R388): Moves bit 0 of a g register into a predicate. -/
  | gtop (core : Nat) (x : Nat)
  /-- DSET (R388): Writes one lane of a d register. -/
  | dset (core : Nat) (x : Nat)
  /-- DGET (R388): Reads one lane of a d register. -/
  | dget (core : Nat) (x : Nat)
  /-- DCOPY (R388): Copies a d register. -/
  | dcopy (core : Nat) (x : Nat)
  /-- DZERO (R388): Clears a d register. -/
  | dzero (core : Nat) (x : Nat)
  /-- BR (R389): Branches on a predicate. -/
  | br (core : Nat) (x : Nat)
  /-- CALL (R389): Branches on a predicate, writing the return address to g31. -/
  | call (core : Nat) (x : Nat)
  /-- JR (R390): Jumps to ra + imm16 × 4, writing the return address to rd. -/
  | jr (core : Nat) (x : Nat)
  /-- LD (R392): Loads a value of the given size and space into rd. -/
  | ld (core : Nat) (x : Nat)
  /-- ST (R392): Stores the low bytes of a register in the given space. -/
  | st (core : Nat) (x : Nat)
  /-- LDD (R392): Loads 32 B into a d register. -/
  | ldd (core : Nat) (x : Nat)
  /-- STD (R392): Stores a d register as 32 B. -/
  | std (core : Nat) (x : Nat)
  /-- MXISSUE (R395): Queues a matrix descriptor. -/
  | mxissue (core : Nat) (x : Nat)
  /-- VXISSUE (R395): Queues a vector descriptor. -/
  | vxissue (core : Nat) (x : Nat)
  /-- GTISSUE (R395): Queues a gather descriptor. -/
  | gtissue (core : Nat) (x : Nat)
  /-- STCANCEL (R396): Starts the cancel of a stream context. -/
  | stcancel (core : Nat) (x : Nat)
  /-- STRESUME (R288): Resumes a halted stream context from OFFSET. -/
  | stresume (core : Nat) (x : Nat)
  /-- WAITCNT (R398): Waits until an arrival counter reaches a target under serial comparison. -/
  | waitcnt (core : Nat) (x : Nat)
  /-- WAITMU (R399): Waits until named mule channels are READY. -/
  | waitmu (core : Nat) (x : Nat)
  /-- WAITFT (R400): Waits until FT_NOW reaches a target. -/
  | waitft (core : Nat) (x : Nat)
  /-- FENCE (R401): Completes earlier accesses and flushes merge buffers in scope. -/
  | fence (core : Nat) (x : Nat)
  /-- LOCK (R402): Takes a local or remote lock word and returns the lock result. -/
  | lock (core : Nat) (x : Nat) (err : Nat)
  /-- UNLOCK (R402): Releases a local or remote lock word and returns the lock result. -/
  | unlock (core : Nat) (x : Nat) (err : Nat)
  /-- LCFLUSH (R403): Flushes an LC range or partition, answering on completion. -/
  | lcflush (core : Nat) (x : Nat)
  /-- LCINVAL (R403): Invalidates an LC range or partition, answering on completion. -/
  | lcinval (core : Nat) (x : Nat)
  /-- PHASE (R404): Names a phase to the power manager. -/
  | phase (core : Nat) (x : Nat)
  /-- SETCFG (R405): Writes a BAR0 register with origin STEER or HERDCORE and returns the result. -/
  | setcfg (core : Nat) (x : Nat)
  /-- GETCFG (R406): Reads a BAR0 register into rd. -/
  | getcfg (core : Nat) (x : Nat)
  /-- TRAP (R407): Takes a SOFTWARE trap with an immediate. -/
  | trap (core : Nat) (x : Nat)
  /-- ERET (R363): Returns from a trap to EPC at ELEVEL. -/
  | eret (core : Nat) (x : Nat)
  /-- PCIE_UNSUPPORTED_REQUEST (R421): A peer or AtomicOp request completes with Unsupported Request. -/
  | pcieUnsupportedRequest (port : Nat)
  /-- BAR2_ACCESS (R424): A host access through the BAR2 aperture reaches device physical space as VI0. -/
  | bar2Access (port : Nat) (off : Nat) (write : Bool) (len : Nat) (data : List PW) (poison : Bool)
  /-- ATS_INVALIDATION (R425): An ATS invalidation drops cached translations and completes once their accesses end. -/
  | atsInvalidation (port : Nat) (vi : Nat) (addr : Nat) (len : Nat) (tag : Nat)
  /-- QUEUE_ENABLE (R426): Writing HQ_Q_CFG.ENABLE from 0 to 1 resets the ring indices and enables the queue pair. -/
  | queueEnable (w : Wr) (q : Nat)
  /-- DOORBELL (R428): A BAR4 doorbell write updates SQ_TAIL or CQ_HEAD and sets the queue's pending bit. -/
  | doorbell (port : Nat) (fn : Nat) (k : Nat) (tail : Option Nat) (head : Option Nat) (poison : Bool)
  /-- SQ_FETCH (R430): The queue engine reads new submission entries while fewer than 8 are staged. -/
  | sqFetch (q : Nat)
  /-- ENTRY_STAGED (R430): A fetched submission entry arrives and is staged, or completed POISONED. -/
  | entryStaged (q : Nat)
  /-- ADMISSION (R436): Every 8 ns the scheduler admits one eligible entry by class, deadline and weight. -/
  | admission (die : Nat)
  /-- HQ_POST (R433): A write to HQ_POST completes an in-flight request with a status. -/
  | hqPost (w : Wr) (c : Option Nat) (poison : Bool)
  /-- COMPLETION_WRITE (R434): A completion entry is written at CQ_TAIL once the CQ has space. -/
  | completionWrite (q : Nat) (fails : Bool)
  /-- MSIX_COALESCE_TIMEOUT (R435): COAL_US after the first unsignalled completion, the queue raises its MSI-X vector. -/
  | msixCoalesceTimeout (q : Nat)
  /-- OPERATOR_ENABLE (R431): Writing HQ_OP.EN from 0 to 1 enables an operator and restarts inbox numbering. -/
  | operatorEnable (w : Wr) (v : Nat) (op : Nat)
  /-- QUEUE_CANCEL (R458): HQ_Q_CTL.CANCEL freezes a queue and completes its staged entries CANCELLED. -/
  | queueCancel (w : Wr) (q : Nat)
  /-- VI_RESET (R449): Setting HQ_VI_RESET.GO starts the reset of one VI's queues, work, cache, windows and locks. -/
  | viReset (w : Wr)
  /-- VI_RESET_DONE (R449): The VI reset finishes, queues are disabled, RESET_DONE is set and the event vector raised. -/
  | viResetDone (v : Nat)
  /-- FLR (R450): A function-level reset runs the VI reset of its VIs and returns their queue registers to reset values. -/
  | flr (port : Nat) (fn : Nat)
  /-- PCIE_LINK_LOSS (R451): Loss of a PCIe link acts as an FLR of that port's PF. -/
  | pcieLinkLoss (port : Nat)
  /-- PCIE_COMPLETION_TIMEOUT (R461): A read of host memory times out and returns words poisoned with kind LINK. -/
  | pcieCompletionTimeout (q : Nat) (ix : Nat)
  /-- SLOT_PARITY_ERROR (R460): A request slot with a parity error completes its request FAULT. -/
  | slotParityError (slot : Nat)
  /-- CREDIT (R471): A CREDIT control word returns buffer space for a VC sub-channel. -/
  | credit (p : Nat) (vc : Nat) (subch : Nat) (header : Bool) (n : Nat)
  /-- LINK_REPLAY (R472): A LINK word naming a bad cell makes the sender replay from it. -/
  | linkReplay (p : Nat) (bad : Bool) (cell : Nat)
  /-- LANE_LOSS (R465): A port loses one lane and retrains on three, running DEGRADED. -/
  | laneLoss (p : Nat) (l : Nat)
  /-- PORT_DOWN (R497): A port goes DOWN and its unanswered requests complete LINK_DOWN. -/
  | portDown (p : Nat)
  /-- PORT_TRAINED (R631): A Herdlink port completes training and reaches UP or DEGRADED. -/
  | portTrained (p : Nat) (lanes : Nat) (neighbour : Nat) (nport : Nat)
  /-- SPARE_PORT_TAKEOVER (R466): A spare port takes the direction of a torus port that went DOWN. -/
  | sparePortTakeover (p : Nat)
  /-- FRAME_ROUTE (R474): A frame not for this module is forwarded in dimension order, by route table or by detour. -/
  | frameRoute (p : Nat) (f : Frame)
  /-- WRITE (R477): A WRITE frame is admitted by a window or herd window and answered WRITE_ACK after commit. -/
  | write (p : Nat) (f : Frame)
  /-- POST (R477): A POST frame posts a block's count at its admitting window. -/
  | post (p : Nat) (f : Frame)
  /-- READ_REQ (R478): A READ_REQ frame is admitted and answered with READ_RESP. -/
  | readReq (p : Nat) (f : Frame)
  /-- READ_RESP (R478): A READ_RESP frame delivers read data to its originator. -/
  | readResp (p : Nat) (f : Frame)
  /-- WRITE_ACK (R477): A WRITE_ACK frame completes a remote write at its originator. -/
  | writeAck (p : Nat) (f : Frame)
  /-- REFUSE (R476): A REFUSE frame completes a transaction with its family and code. -/
  | refuse (p : Nat) (f : Frame)
  /-- LOCK_REQ (R479): A LOCK_REQ frame performs LOCK or UNLOCK at the target's lock unit. -/
  | lockReq (p : Nat) (f : Frame) (err : Nat)
  /-- LOCK_RESP (R479): A LOCK_RESP frame returns a remote lock result. -/
  | lockResp (p : Nat) (f : Frame)
  /-- MSG (R480): A MSG frame is written into a herd core context's ring and raises the HERD interrupt. -/
  | msg (p : Nat) (f : Frame)
  /-- HEARTBEAT (R484): A HEARTBEAT is received, followed by epoch rule and acknowledged. -/
  | heartbeat (p : Nat) (f : Frame) (member : Bool)
  /-- HEARTBEAT_SEND (R484): At every 100 µs of FT_NOW the shepherd broadcasts a heartbeat. -/
  | heartbeatSend
  /-- BEAT_ACK (R484): A BEAT_ACK from a member is recorded by the shepherd. -/
  | beatAck (p : Nat) (f : Frame)
  /-- MEMBER_LOST (R485): After 20 unacknowledged heartbeats the shepherd declares a member LOST and broadcasts LOST and RELEASE. -/
  | memberLost (h : Nat)
  /-- JOIN_SEND (R482): An ALONE module sends JOIN on every up port once per ms. -/
  | joinSend
  /-- JOIN (R483): A JOIN is carried to the shepherd and answered with ASSIGN or REJECT. -/
  | join (p : Nat) (f : Frame)
  /-- ASSIGN (R483): An ASSIGN gives a module its herd ID and role, or rejects it. -/
  | assign (p : Nat) (f : Frame) (dims : Nat) (bcast : Nat)
  /-- TAKEOVER (R486): A standby hears no heartbeat for 2 ms and becomes SHEPHERD with a new epoch. -/
  | takeover
  /-- SWAP_REQ (R487): A SWAP_REQ from the standby makes the shepherd start a HANDOVER. -/
  | swapReq (p : Nat) (f : Frame)
  /-- HANDOVER (R487): A HANDOVER makes the standby SHEPHERD, which answers TAKEN. -/
  | handover (p : Nat) (f : Frame)
  /-- TAKEN (R487): A TAKEN makes the old shepherd STANDBY. -/
  | taken (p : Nat) (f : Frame)
  /-- SWAP_RESULT (R487): A SWAP_RESULT reports the swap outcome in HD_CTL.RESULT. -/
  | swapResult (p : Nat) (f : Frame)
  /-- LOST (R498): A LOST broadcast ends transactions to the lost herd ID, or makes the named module ALONE. -/
  | lost (p : Nat) (f : Frame)
  /-- RELEASE (R113): A RELEASE broadcast frees every lock word held by the named herd ID. -/
  | release (p : Nat) (f : Frame)
  /-- FORCE (R114): A FORCE frame force-releases a lock word. -/
  | force (p : Nat) (f : Frame)
  /-- STROKE (R489): A STROKE frame is committed as origin SHEPHERD and answered with STROKE_RESULT. -/
  | stroke (p : Nat) (f : Frame)
  /-- STROKE_RESULT (R489): A STROKE_RESULT is totalled in HD_STROKE. -/
  | strokeResult (p : Nat) (f : Frame)
  /-- STROKE_RESULT_TIMEOUT (R489): A member with no stroke result within 1 ms counts as MISSING. -/
  | strokeResultTimeout (h : Nat)
  /-- ROUTE (R475): A ROUTE frame writes HL_ROUTE entries. -/
  | route (p : Nat) (f : Frame)
  /-- MIRROR (R485): A MIRROR frame updates the standby's copy of a herd-table entry. -/
  | mirror (p : Nat) (f : Frame)
  /-- EXPEL (R482): An EXPEL frame makes the module ALONE. -/
  | expel (p : Nat) (f : Frame)
  /-- TRANSACTION_TIMEOUT (R481): A remote transaction with no reply within HL_TIMEOUT completes UNREACHABLE. -/
  | transactionTimeout (tag : Nat)
  /-- HD_FOUND (R482): HD_CTL FOUND makes an ALONE module SHEPHERD with a new epoch. -/
  | hdFound (w : Wr)
  /-- HD_SWAP (R487): HD_CTL SWAP starts a role swap on the shepherd or standby. -/
  | hdSwap (w : Wr)
  /-- HD_LEAVE (R482): HD_CTL LEAVE makes the module ALONE. -/
  | hdLeave (w : Wr)
  /-- HD_EXPEL (R595): HD_CTL EXPEL on the shepherd expels the target member. -/
  | hdExpel (w : Wr)
  /-- PM_START (R503): Writing PM_CTL.START checks the VF tables and starts the power manager. -/
  | pmStart (w : Wr)
  /-- ESTIMATE_WINDOW (R508): At each 10 µs window end, group estimates are formed and each group is stepped or gated. -/
  | estimateWindow (mx : Nat) (tm : Nat) (vx : Nat) (mem : Nat) (io : Nat)
  /-- DVFS_STEP_COMPLETE (R504): A step's frequency change and voltage ramp end and the new point is in force. -/
  | dvfsStepComplete (g : Nat) (whole : Bool)
  /-- REGULATOR_TIMEOUT (R529): A regulator misses its target within 50 µs and an upward step is abandoned. -/
  | regulatorTimeout (g : Nat)
  /-- CALIBRATION_PERIOD (R511): At each 1 ms period end, gains and loss factor are updated from measured rail energy. -/
  | calibrationPeriod (input : List (Nat × Nat)) (rails : List (List (Nat × Nat))) (bad : Bool)
  /-- RAIL_LIMIT_WINDOW (R513): At each 10 µs window, a rail over its current limit loses an eighth of its pulses, or regains one. -/
  | railLimitWindow (r : Nat) (mean : Nat)
  /-- ACTIVITY_PARITY_ERROR (R530): A parity error in an activity counter discards the window's estimate for a group. -/
  | activityParityError (g : Nat)
  /-- SENSOR_SAMPLE (R532): Every 10 µs each sensor is sampled and reported. -/
  | sensorSample (n : Nat) (temp : Nat)
  /-- SENSOR_BAD (R549): A sensor out of range or stuck for 100 ms is marked BAD. -/
  | sensorBad (n : Nat)
  /-- THERMAL_TRIP (R535): A comparator reads 115 °C, the trip latches, clocks stop and rails are removed. -/
  | thermalTrip (n : Nat) (temp : Nat)
  /-- RAIL_STUCK (R550): A rail still up 1 ms after a trip latch sets RAIL_STUCK. -/
  | railStuck
  /-- REG_ALERT (R537): REG_ALERT_N falls and every DVFS group is forced to OP0 with full gating. -/
  | regAlert (rail : Nat)
  /-- EXT_ALERT (R537): EXT_ALERT_N falls and every DVFS group is forced to OP0 with full gating. -/
  | extAlert
  /-- REG_ALERT_RELEASE (R537): REG_ALERT_N rises and its 100 µs hold begins. -/
  | regAlertRelease
  /-- EXT_ALERT_RELEASE (R537): EXT_ALERT_N rises and its 100 µs hold begins. -/
  | extAlertRelease
  /-- ALERT_HOLD_END (R538): An alert's hold ends and, once both holds end, the forced state lifts. -/
  | alertHoldEnd (n : Nat)
  /-- HU_READY (R539): The hold-up store voltage crosses READY_V and readiness changes. -/
  | huReady (volt : Nat) (soc : Nat) (charging : Bool)
  /-- GAUGE_DISAGREE (R540): Gauge and voltage readiness differ for 1 s and GAUGE_DISAGREE is set. -/
  | gaugeDisagree
  /-- GAUGE_REZERO (R540): At full charge the gauge is re-zeroed to SOC 100. -/
  | gaugeRezero
  /-- HU_FAULT (R541): The store is not ready 10 s after charging began and HU_FAULT is set. -/
  | huFault
  /-- POWER_LOSS (R542): The 54 V input stays below 38 V for 5 µs, clocks stop and the save to NOR begins. -/
  | powerLoss
  /-- SHUTDOWN_SAVE_DONE (R542): The save ends and VDD_SVC is removed. -/
  | shutdownSaveDone (whole : Bool) (entries : Nat)
  /-- INPUT_OVERVOLTAGE (R624): Input above 63 V for 5 µs opens the hot-swap switch and acts as a power loss. -/
  | inputOvervoltage
  /-- WATCHDOG_RESTART (R554): The watchdog expires after 10 ms without a kick and restarts the service firmware. -/
  | watchdogRestart
  /-- AUDIT_ACK_MSG (R556): A 0x03 MSG from the shepherd to the service context acknowledges audit entries. -/
  | auditAckMsg (p : Nat) (f : Frame)
  /-- REGISTER_WRITE_MSG (R556): A 0x05 MSG from the shepherd writes a BAR0 register with origin SHEPHERD. -/
  | registerWriteMsg (p : Nat) (f : Frame)
  /-- LF_REQ (R558): Setting LF_REQ.GO checks an authorisation and performs a life-cycle transition. -/
  | lfReq (w : Wr)
  /-- LF_CHALLENGE_READ (R573): A read of LF_CHALLENGE yields a fresh nonce. -/
  | lfChallengeRead (a : Acc) (k : Nat)
  /-- NEST_READ (R562): NS_CMD READ moves 64 B from a Nest slot to NS_DATA. -/
  | nestRead (w : Wr) (ue : Bool)
  /-- NEST_WRITE (R562): NS_CMD WRITE moves 64 B from NS_DATA into a Nest slot. -/
  | nestWrite (w : Wr)
  /-- NEST_EMPTY_SLOT (R562): NS_CMD EMPTY_SLOT empties one Nest slot. -/
  | nestEmptySlot (w : Wr)
  /-- NEST_WIPE (R564): NS_CMD WIPE wipes the whole Nest. -/
  | nestWipe (w : Wr)
  /-- TAMPER (R564): TAMPER_N asserts and starts a Nest wipe. -/
  | tamper
  /-- NEST_WIPE_DONE (R561): A wipe ends after 655.36 µs and slot 0 is restored or left empty. -/
  | nestWipeDone
  /-- AUDIT_MIRROR (R566): An audit entry is programmed to the NOR ring in sequence order. -/
  | auditMirror (err : Bool)
  /-- AUDIT_EXPORT_PUSH (R567): The service firmware pushes mirrored entries to the shepherd as MSG frames. -/
  | auditExportPush
  /-- AUDIT_ACK (R567): A write to AU_ACK acknowledges entries as exported. -/
  | auditAck (w : Wr)
  /-- AUDIT_READ (R569): A write to AU_RD_SEQ fetches an audit entry into AU_RD_DATA. -/
  | auditRead (w : Wr)
  /-- FW_LOAD (R570): Setting SV_FW_LEN.GO stages an image into the idle region. -/
  | fwLoad (w : Wr)
  /-- FW_LOAD_DONE (R570): An image load ends and the region becomes STAGED with its digest. -/
  | fwLoadDone (err : Bool) (ver : Nat)
  /-- FW_VERIFY_DONE (R571): Verification of a committed FWACTIVATE image ends and the image is loaded into the idle bank. -/
  | fwVerifyDone (image : Nat) (signed : Bool)
  /-- DEBUG_UNLOCK (R573): A signed token unlocks JTAG debug access after a Nest wipe. -/
  | debugUnlock (jtag : Bool) (token : List Byte)
  /-- SPI_READ (R574): An SPI READ transfer reads mailbox words. -/
  | spiRead (addr : Nat) (n : Nat) (coll : List (Nat × W32))
  /-- SPI_WRITE (R574): An SPI WRITE transfer writes mailbox words. -/
  | spiWrite (addr : Nat) (words : List W32) (coll : List (Nat × W32))
  /-- SPI_STATUS (R574): An SPI STATUS transfer returns the doorbell and ROM flags. -/
  | spiStatus
  /-- SPI_RING (R574): An SPI RING transfer rings the service firmware's doorbell. -/
  | spiRing (b : Nat)
  /-- MCTP_CONTROL (R576): An MCTP control message is answered. -/
  | mctpControl (cmd : Nat) (eid : Nat)
  /-- GET_IDENTITY (R577): MCTP GET_IDENTITY returns identity and status registers. -/
  | getIdentity
  /-- GET_TELEMETRY (R577): MCTP GET_TELEMETRY returns power, throttle, temperature and store status. -/
  | getTelemetry
  /-- SET_POWER_LIMIT (R577): MCTP SET_POWER_LIMIT commits a CAPSET stroke with LATE_OK. -/
  | setPowerLimit (watts : Nat)
  /-- READ_REG (R577): MCTP READ_REG reads a BAR0 register with origin BMC. -/
  | readReg (off : Nat) (wide : Bool)
  /-- WRITE_REG (R577): MCTP WRITE_REG writes a BAR0 register with origin BMC. -/
  | writeReg (off : Nat) (wide : Bool) (v : W64)
  /-- READ_AUDIT (R577): MCTP READ_AUDIT returns up to 15 audit entries. -/
  | readAudit (seq : Nat) (n : Nat)
  /-- ACK_AUDIT (R567): MCTP ACK_AUDIT acknowledges audit entries. -/
  | ackAudit (seq : Nat)
  /-- FW_STAGE (R570): MCTP FW_STAGE stages an image chunk. -/
  | fwStage (image : Nat) (off : Nat) (chunk : List Byte)
  /-- FW_STATUS (R577): MCTP FW_STATUS returns the firmware staging status. -/
  | fwStatus
  /-- GET_CHALLENGE (R577): MCTP GET_CHALLENGE returns a fresh nonce. -/
  | getChallenge
  /-- LF_REQUEST (R558): MCTP LF_REQUEST requests a life-cycle transition with the authorisation in its payload. -/
  | lfRequest (target : Nat) (auth : List Byte)
  /-- SPARE_PREPARE (R585): SV_SPARE_CMD PREPARE powers, clears and self-tests the die's spare cluster. -/
  | sparePrepare (w : Wr) (d : Nat)
  /-- SPARE_PREPARED (R585): The spare's self-test ends and its state becomes PREPARED or NONE. -/
  | sparePrepared (d : Nat) (ok : Bool)
  /-- SPARE_MIGRATE (R586): SV_SPARE_CMD MIGRATE holds FAB and copies a logical cluster to the spare. -/
  | spareMigrate (w : Wr) (d : Nat)
  /-- MIGRATE_SWITCH (R586): The copy ends, SV_CLMAP names the spare, lock owners are rewritten and FAB is released. -/
  | migrateSwitch (d : Nat) (fault : Bool)
  /-- SPARE_FRESH (R587): SV_SPARE_CMD FRESH maps the spare without copying and retires the old cluster. -/
  | spareFresh (w : Wr) (d : Nat)
  /-- SPARE_CANCEL (R585): SV_SPARE_CMD CANCEL returns a PREPARED spare to DARK. -/
  | spareCancel (w : Wr) (d : Nat)
  /-- STACK_RETIRE (R590): SV_RETIRE retires a stack on one FTCK edge and powers it off. -/
  | stackRetire (w : Wr)
  /-- SLICE_RETIRE (R591): SV_RETIRE retires an LC slice and sweeps its partition. -/
  | sliceRetire (w : Wr)
  /-- STACK_REINSTATE (R592): SV_RETIRE REINSTATE powers, trains and initialises a retired stack. -/
  | stackReinstate (w : Wr) (ok : Bool)
  /-- SLICE_REINSTATE (R592): SV_RETIRE REINSTATE clears and self-tests a retired slice. -/
  | sliceReinstate (w : Wr) (ok : Bool)
  /-- SVC_POWER_ON (R626): P54V crosses 39.0 V and the SVC domain powers on and starts the boot. -/
  | svcPowerOn (addr : Nat)
  /-- MODULE_COLD_RESET (R626): SYS_RST_N held low for 10 µs resets the module except what it keeps. -/
  | moduleColdReset
  /-- TRIP_HOLD_END (R627): COOL_S after a trip latch, a held cold reset begins. -/
  | tripHoldEnd
  /-- BOOT_SEQUENCE (R628): The boot runs its stages in order to RUNNING or stops at the first failure. -/
  | bootSequence (b : BootIn) (n : Nat)
  /-- THERMAL_HOLD_RETRY (R629): Every 10 s in THERMAL_HOLD, boot stages 4–6 run again. -/
  | thermalHoldRetry (b : BootIn) (n : Nat)
  /-- PWR_EN_RISE (R628): PWR_EN rises and the boot proceeds from stage 4. -/
  | pwrEnRise (b : BootIn) (n : Nat)
  /-- PWR_EN_FALL (R632): PWR_EN falls, clocks stop and the main rails are removed. -/
  | pwrEnFall
  /-- RAIL_FAULT (R648): A rail leaves or fails to reach regulation and the main rails are removed with RAIL_FAIL. -/
  | railFault
  /-- PCIE_CONVENTIONAL_RESET (R626): PERSTe_N low resets port e's link and acts as an FLR of its PF. -/
  | pcieConventionalReset (e : Nat)
  /-- PCIE_LINK_TRAIN (R630): A PCIe port begins link training after PERST_N rises and the rails are up. -/
  | pcieLinkTrain (e : Nat)
  /-- TAP_RESET (R626): TRST_N low or five TCK cycles with TMS high resets the JTAG TAP. -/
  | tapReset
  /-- SPINE_DOMAIN_OFF (R115): A spine domain powers off: its lock words answer NO_LOCK, its trace units stop and its LC slices leave service. -/
  | spineDomainOff (d : Nat)
  /-- HBM_ACCESS (R609): At an HBM controller a granted access begins at its bank and completes, committing a write or returning a sector with its code decoded. -/
  | hbmAccess (group : Nat) (ue : Bool)
  /-- UNCORRECTABLE_CODEWORD (R472): A Herdlink receiver meets an uncorrectable FEC codeword or HCRC failure, discards cells from it and sends a LINK word naming it. -/
  | uncorrectableCodeword (p : Nat) (cell : Nat) (fec : Bool)
  /-- BAD_FRAME (R469): A frame of reserved TYPE or VC, or with a LEN beyond its type's limit, arrives and is discarded and counted as BAD_FRAME. -/
  | badFrame (p : Nat)
  /-- HERD_SILENT (R499): A member that hears no heartbeat for 2 ms sets HD_STATUS.SILENT and keeps its role. -/
  | herdSilent
  /-- REGISTER_READ (R22): A host BAR0 read that cannot be carried out returns 0 and is captured in SV_ACCESS_ERR, and a read of poisoned data completes as a poisoned TLP. -/
  | registerRead (a : Acc) (wide : Bool) (off : Nat)
  /-- HOST_READ_COMPLETION (R447): A PCIe completion for the Uloaby's own read of host memory arrives, and poisoned payload becomes LINK poison. -/
  | hostReadCompletion (q : Nat) (ix : Nat) (data : List PW) (poison : Bool) (ok : Bool)
  /-- REJECTED_RESET_PULSE (R626): A SYS_RST_N pulse from 20 ns up to 10 µs has no effect and is counted in SV_RESET_CAUSE.SHORT. -/
  | rejectedResetPulse
deriving DecidableEq, Repr

end Sys2Proof
end

