-- ==== Sys2Proof/Config.lean ====
section
/-! DEFINITION. The values the spec leaves open, as constants without a body: nothing in Lean can evaluate them, so a
statement that uses one holds whatever its value is. Each is named in the assumption log. -/
namespace Sys2Proof.Config

/-- An arbitrary value, fresh at each use: the argument is the model's counter `State.freeIdx` (log entry 3). -/
opaque freeNat : Nat → Nat

/-- SHA-384 over a byte string: byte k of the digest is bits 8k+7:8k (R565, R570, R561; log entry 4). -/
opaque sha384 : List Byte → BitVec 384

/-- ECDSA P-384 verification of a signature by a key over a message (R558, R571, R573; log entry 4). -/
opaque ecdsaVerify : (key : List Byte) → (message : List Byte) → (signature : List Byte) → Bool

/-- The PTP offset filter: the previous filtered offset and the new raw offset, both in quarter nanoseconds, give the
new filtered offset (R29 names the filter and does not describe it; log entry 5). -/
opaque ptpFilter : Int → Int → Int

/-- The vector engine's special functions on an FP32 input: the function's number and the input bits (R316 bounds
their error and does not fix their bits; log entry 6). -/
opaque specialFn : Nat → BitVec 32 → BitVec 32

/-- The Aladal production and test keys (R558, R559: fused hashes the spec does not state; log entry 4). -/
opaque aladalKey : Nat → List Byte

/-- The cycles an arbiter is into its feed window: the arbiter and the fleet time (R253; its clock is not modelled; log
entry 17). -/
opaque trPhase : Nat → Nat → Nat

/-- The soft post-package repairs an HBM bank has resources for: stack × 64 + pseudo-channel, bank (R153 names them and
does not count them; log entry 20). -/
opaque hbmSpares : Nat → Nat → Nat

/-- What INT32 holds of a finite value out of its range: sign and rounded magnitude (R304 states no result; log entry 21). -/
opaque int32Over : Bool → Nat → BitVec 32

/-- What INT32 holds of a NaN (0), +∞ (1) and −∞ (2) (R304 states no result; log entry 21). -/
opaque int32Odd : Nat → BitVec 32

/-- What E4M3, which has no infinity, holds of one, by its sign (R304 states no result; log entry 21). -/
opaque e4m3Inf : Bool → BitVec 8

/-- The mask bit of CMP for two FP32 operands (R314 names CMP and does not state its condition; log entry 22). -/
opaque vxCmp : BitVec 32 → BitVec 32 → Bool

/-- The result of an INT8 matrix product with ACCUM and a floating-point C: the prior C as FP32 and the 32-bit sum of the
products (R311 does not state how the two are joined; log entry 23). -/
opaque mxInt8Accum : BitVec 32 → BitVec 32 → BitVec 32

/-- What a SIZE outside 4 to 16 (its value) or a DEPTH of 15 (32 + 15) of a queue or an operator acts as (HQ_Q_CFG and HQ_OP
state no meaning; log entry 30). -/
opaque hqSize : Nat → Nat

/-- What a counter of clock cycles reads: the counter's key and the fleet time (R303, R355 name them; the clocks are not
modelled; log entry 49). -/
opaque cycleCount : Nat → Nat → Nat

end Sys2Proof.Config
end

