-- ==== Sys2Proof/Machine/Bits.lean ====
section
/-! DEFINITION. Bit-field, sign and saturation helpers shared by every family. -/
namespace Sys2Proof.Machine

/-- Bits `lo + w - 1 : lo` of a register value, as a number. -/
def getBits (v : W64) (lo w : Nat) : Nat := (v.toNat >>> lo) % 2 ^ w

/-- `v` with bits `lo + w - 1 : lo` replaced by `x` (taken modulo `2 ^ w`). -/
def setBits (v : W64) (lo w x : Nat) : W64 :=
  (v &&& ~~~(BitVec.ofNat 64 ((2 ^ w - 1) <<< lo))) ||| BitVec.ofNat 64 ((x % 2 ^ w) <<< lo)

/-- Bit `lo` of a register value. -/
def getBit (v : W64) (lo : Nat) : Bool := v.getLsbD lo

/-- A Bool as the number 0 or 1. -/
def b2n (b : Bool) : Nat := if b then 1 else 0

/-- Addition that saturates at `2 ^ w - 1`. -/
def satAdd (w a b : Nat) : Nat := if a + b < 2 ^ w then a + b else 2 ^ w - 1

/-- The low `w` bits of `x` read as a two's-complement number. -/
def sextNat (w x : Nat) : Int :=
  let y := x % 2 ^ w
  if 2 * y < 2 ^ w then (y : Int) else (y : Int) - (2 ^ w : Nat)

/-- A two's-complement number as a `w`-bit word. -/
def wrapInt (w : Nat) (x : Int) : Nat := (x % (2 ^ w : Nat)).toNat

/-- The serial comparison of 32-bit counters: `a` has reached `b` (used by R105). -/
def serialGe (a b : Nat) : Bool := ((a + 2 ^ 32 - b % 2 ^ 32) % 2 ^ 32) < 2 ^ 31

/-- Little-endian bytes of a number: `n` bytes, the lowest first (R341, R392). -/
def bytesOf : Nat → Nat → List Byte
  | 0, _ => []
  | n + 1, x => BitVec.ofNat 8 x :: bytesOf n (x / 256)

/-- The number a little-endian byte list spells. -/
def ofBytes : List Byte → Nat
  | [] => 0
  | b :: bs => b.toNat + 256 * ofBytes bs

/-- Bit `i` of a number. -/
def nbit (x i : Nat) : Bool := x.testBit i

/-- Field `lo +: w` of a number. -/
def nfield (x lo w : Nat) : Nat := (x >>> lo) % 2 ^ w

/-- The numbers `lo, lo + 1, …` (`n` of them). -/
def rangeFrom (lo n : Nat) : List Nat := (List.range n).map (lo + ·)

end Sys2Proof.Machine
end

