-- ==== Sys2Proof/Machine/Regs.lean ====
section
/-! DEFINITION. The register map: every register the spec gives the module, its width, fields, types, apply classes
(R10, R11), writers, BAR0 place (R17) and reset value. A register whose table says `fused` or `strap` has the value
log entry 1 names. -/
namespace Sys2Proof.Machine

/-- The registers, under the spec's names. A register that occurs once per cluster, spine, stack, port and so on is one
constructor; its places are told apart by two indexes. -/
inductive RegId where
  | SV_ID | SV_ASSEMBLY | SV_CLMAP | SV_ACCESS_ERR | FT_NOW | FT_STATUS | FT_SRC | FT_CTRL | FT_PPS_SEC | FT_UTC_OFFSET 
  | FT_PORT_ASYM | FT_STG_TIME | FT_STG_ARG | FT_STG_CTL | FT_STG_STATUS | FT_EVENT | FT_STK_TIME | FT_STK_ARG 
  | FT_STK_STATE | FT_STK_FIRED | FT_TRACE_CTL | FT_TRACE_BASE | FT_TRACE_HEAD | FT_TRACE_TAIL | FT_TRACE_STATUS 
  | TM_STATUS | TM_CFG | TMX_CNT_CTL | TMX_HOT_CFG | TMX_HOT_HEAD | TMX_HOT_RING_FT | TMX_HOT_RING | TMX_PORT_LOST 
  | TMX_PORT_CONF | TMX_MRG_RMW | TMX_MRG_FWD | TMX_MRG_DROP | WN_RANGE | WN_SRC | WN_CTL | WN_CNT | WN_CNT_SUB 
  | WN_STATUS | WN_REFUSE_CNT | WN_REFUSE_FT | WN_REFUSE | WN_REFUSE_OFF | WN_REFUSE_LEN | WN_HW_RANGE | WN_HW_SRC 
  | WN_HW_CTL | WN_HW_REFUSE_FT | WN_HW_REFUSE | WN_HW_REFUSE_ADDR | WN_HW_REFUSE_LEN | LK_FORCE | LK_EVENT 
  | LK_PART | LK_WORD | IN_ECNT | IN_BITE | IN_ECNT_CLR | IN_UE_LOG_FT | IN_UE_LOG_ADDR | IN_UE_LOG_TAG | IN_UE_HEAD 
  | IN_SCRUB_BASE | IN_SCRUB_LIMIT | IN_SCRUB_CTL | IN_SCRUB_SUM | IN_DIAG | IN_DIAG_ADDR | IN_DIAG_CHK | IN_DIAG_DATA 
  | IN_REPAIR | IN_ST_STATUS | PL_CTL | PL_TAG | PL_STATUS | PL_FILL | PL_FILL_RANGE | PL_THERM | PL_RFM | PL_PT_ROOT 
  | PL_TLB_INV | PL_TLB_INV_CNT | PL_PRI_CFG | PL_FAULT_FT | PL_FAULT_ADDR | PL_FAULT_INFO | PL_FAULT_HEAD 
  | MU_READY | MU_THERM | MU_HOLD | MU_HOLD_EXP | MU_BUDGET_NS | MU_SUSPECT | MU_CH | MU_STAT_FT | MU_STAT 
  | MU_STAT_HEAD | MU_CMD | MU_CMD_GO | MU_WIN_CMD | MU_WIN_CTL | MU_WIN_MASK | LC_PART | LC_PART_STATE | LC_OP 
  | LC_OP_BASE | LC_OP_LEN | LC_SLICE_STATUS | LC_SLICE_CNT | LC_SLICE_CNT_WRAPS | LC_CNT_CTL | TR_REQ | TR_TROUGH 
  | TR_BEATS | TR_BEATS_WRAPS | TR_STATUS | TR_CNT | TR_CNT_CLR | TR_ABANDON_FT | TR_ABANDON | TR_ABANDON_HEAD 
  | ST_CTX_CFG | ST_CTX_CRUMB | ST_CTX_STATUS | ST_CTX_DONE | ST_CMD_LIST | ST_CMD | ST_CRUMB | ST_CNT | ST_CNT_WRAPS 
  | ST_CNT_CLR | MX_STATUS | MX_DONE | MX_DONE_FT | MX_CNT | MX_CNT_WRAPS | MX_CNT_CLR | VX_STATUS | VX_DONE 
  | VX_DONE_FT | VX_CNT | VX_CNT_WRAPS | VX_CNT_CLR | GT_STATUS | GT_DONE | GT_DONE_FT | GT_CNT | GT_CNT_WRAPS 
  | GT_CNT_CLR | GT_CFG | SC_CORE_STATUS | SC_CORE_CFG | SC_CORE_QUANTUM | SC_CORE_CTL | SC_EVENT | SC_CTX_CFG 
  | SC_CTX_CTL | SC_CTX_STATUS | SC_CTX_KICK | SC_CTX_ALARM | SC_CTX_TRAP | SC_CTX_TRAP_CAUSE | SC_CTX_TRAP_INFO 
  | SC_CTX_TRAP_TAG | SC_CNT | SC_CNT_WRAPS | SC_CNT_CLR | SC_CFG_ERR | SC_CFG_ERR_FT | HQ_VI_RESET | HQ_APERTURE 
  | HQ_VI_CFG | HQ_VI_STATUS | HQ_VI_CNT | HQ_GEN | HQ_GEN_PINS | HQ_OP | HQ_OP_EST | HQ_OP_STATE | HQ_OP_CNT 
  | HQ_Q_CFG | HQ_Q_SQB | HQ_Q_CQB | HQ_Q_STATE | HQ_Q_CTL | HQ_POST_HQ | HQ_POST | HL_PORT_CFG | HL_PORT_STATUS 
  | HL_PORT_CNT | HL_DIMS | HL_BCAST | HL_TIMEOUT | HL_EVENT | HL_ROUTE | HD_STATUS | HD_CFG | HD_CTL | HD_SELF 
  | HD_STROKE | HD_MSG_BASE | HD_TABLE | HD_TABLE_ENTRY | PM_CTL | PM_STATUS | PM_SPLIT | PM_CAP | PM_POWER 
  | PM_CFG | PM_PHASE_VI | PM_ALERT_DEST | PM_EVENT | PM_GROUP | PM_EST | PM_CAL | PM_VF | PM_PHASE | PM_RAIL 
  | PM_RAIL_WIN | PM_THR_ACCUM | PM_THR_EPISODES | PM_THR_LAST_START | PM_THR_LAST_END | TH_SENSOR | TH_CFG 
  | TH_TRIP_FT | TH_TRIP | TH_ALERT | TH_HU_STATUS | TH_HU_CFG | TH_EVENT | TH_LAST_SHUTDOWN | SV_FW_STATUS 
  | SV_FW_LOAD | SV_FW_LEN | SV_FW_DIGEST | SV_FW_FLOOR | SV_SVC_STATUS | AU_STATUS | AU_SEQ | AU_ACKED | AU_ACK 
  | AU_EXPORT_DEST | AU_RD_SEQ | AU_RD_STATUS | AU_RD_DATA | LF_STATUS | LF_REQ | LF_AUTH_ADDR | LF_CHALLENGE 
  | NS_STATUS | NS_STATUS_FT | NS_CMD | NS_DATA | NS_OWNER | MB_STATUS | SV_SPARE_CMD | SV_SPARE_STATUS | SV_SPARE_FT 
  | SV_RETIRE | SV_RETIRED_STACKS | SV_RETIRED_SLICES | SV_RAS_CFG | SV_RAS_SUM | SV_RAS_EVT_FT | SV_RAS_EVT 
  | SV_RAS_HEAD | SV_BOOT | SV_BOOT_FT | SV_RESET_CAUSE | SV_STRAPS 
deriving DecidableEq, Repr

/-- R10: what a field's type makes of a write. -/
inductive FieldType where
  | rw | ro | w1c | wo | rw1s
deriving DecidableEq, Repr

/-- R11: when a written value takes effect. -/
inductive ApplyClass where
  | live | shadow | locked | stroke
deriving DecidableEq, Repr

/-- Who may write a register, as the sentence introducing it names its writers (R22, NOT_PERMITTED); `any` where no
sentence names them (log entry 2). -/
inductive Writers where
  | any | vi0 | svc | vi0Svc | vi0SvcShep | vi0SvcBmc | vi0SvcOwner | vi0Bmc | window | hwWindow | ctxOwner | trapRegs
deriving DecidableEq, Repr

/-- The power domain a register block lies in (R17, R61, R115, R191, R426). -/
inductive BlockDom where
  | svc | hq | hl | cluster | spine | spine0 | stack | stack0 | ioe
deriving DecidableEq, Repr

/-- A field of a register: the register, its lowest bit and its width. -/
structure Fld where
  id : RegId
  lo : Nat
  w : Nat
deriving DecidableEq, Repr

/-- One row of a register table. -/
structure FieldInfo where
  lo : Nat
  w : Nat
  ty : FieldType
  ap : ApplyClass
deriving DecidableEq, Repr

/-- One register: width in bits, fields, whether it is a data-path register (R16), and its writers. -/
structure RegInfo where
  width : Nat
  fields : List FieldInfo
  data : Bool
  writers : Writers
deriving DecidableEq, Repr

/-- One place of a register in BAR0: the base offset, the power domain, the (count, stride) pairs of its indexes, and
how many of them form the first index. -/
structure Place where
  id : RegId
  base : Nat
  dom : BlockDom
  dims : List (Nat × Nat)
  lead : Nat
  add : Nat
deriving DecidableEq, Repr

/-- The register table. -/
def RegId.info : RegId → RegInfo
  | .SV_ID => ⟨32, [⟨0, 16, .ro, .live⟩, ⟨16, 8, .ro, .live⟩], false, .any⟩
  | .SV_ASSEMBLY => ⟨32, [⟨0, 4, .ro, .live⟩, ⟨4, 4, .ro, .live⟩, ⟨8, 2, .ro, .live⟩, ⟨16, 8, .ro, .live⟩, ⟨24, 5, .ro, .live⟩], false, .any⟩
  | .SV_CLMAP => ⟨64, [⟨0, 64, .ro, .live⟩], false, .any⟩
  | .SV_ACCESS_ERR => ⟨64, [⟨0, 26, .ro, .live⟩, ⟨26, 1, .ro, .live⟩, ⟨27, 4, .ro, .live⟩, ⟨32, 8, .ro, .live⟩, ⟨40, 23, .ro, .live⟩, ⟨63, 1, .w1c, .live⟩], true, .any⟩
  | .FT_NOW => ⟨64, [⟨0, 64, .ro, .live⟩], true, .any⟩
  | .FT_STATUS => ⟨64, [⟨0, 2, .ro, .live⟩, ⟨2, 2, .ro, .live⟩, ⟨4, 1, .w1c, .live⟩, ⟨5, 1, .ro, .live⟩, ⟨8, 24, .ro, .live⟩, ⟨32, 12, .ro, .live⟩], true, .any⟩
  | .FT_SRC => ⟨32, [⟨0, 2, .ro, .live⟩, ⟨2, 1, .rw, .locked⟩, ⟨3, 7, .rw, .locked⟩, ⟨10, 2, .rw, .locked⟩], false, .any⟩
  | .FT_CTRL => ⟨32, [⟨0, 1, .wo, .live⟩], false, .any⟩
  | .FT_PPS_SEC => ⟨64, [⟨0, 64, .rw, .live⟩], false, .any⟩
  | .FT_UTC_OFFSET => ⟨32, [⟨0, 16, .rw, .live⟩], false, .any⟩
  | .FT_PORT_ASYM => ⟨32, [⟨0, 16, .rw, .shadow⟩], false, .any⟩
  | .FT_STG_TIME => ⟨64, [⟨0, 64, .rw, .live⟩], false, .any⟩
  | .FT_STG_ARG => ⟨64, [⟨0, 64, .rw, .live⟩], false, .any⟩
  | .FT_STG_CTL => ⟨32, [⟨0, 8, .rw, .live⟩, ⟨8, 8, .rw, .live⟩, ⟨16, 1, .rw, .live⟩, ⟨17, 1, .rw, .live⟩, ⟨18, 1, .rw, .live⟩, ⟨31, 1, .rw1s, .live⟩], false, .any⟩
  | .FT_STG_STATUS => ⟨32, [⟨0, 4, .ro, .live⟩, ⟨8, 8, .ro, .live⟩, ⟨31, 1, .ro, .live⟩], true, .any⟩
  | .FT_EVENT => ⟨32, [⟨0, 1, .w1c, .live⟩, ⟨1, 1, .w1c, .live⟩, ⟨2, 1, .w1c, .live⟩, ⟨3, 1, .w1c, .live⟩, ⟨4, 1, .w1c, .live⟩, ⟨5, 1, .w1c, .live⟩], true, .any⟩
  | .FT_STK_TIME => ⟨64, [⟨0, 64, .ro, .live⟩], false, .any⟩
  | .FT_STK_ARG => ⟨64, [⟨0, 64, .ro, .live⟩], false, .any⟩
  | .FT_STK_STATE => ⟨64, [⟨0, 3, .ro, .live⟩, ⟨8, 8, .ro, .live⟩, ⟨16, 8, .ro, .live⟩, ⟨24, 8, .ro, .live⟩], false, .any⟩
  | .FT_STK_FIRED => ⟨64, [⟨0, 64, .ro, .live⟩], false, .any⟩
  | .FT_TRACE_CTL => ⟨32, [⟨0, 1, .rw, .live⟩, ⟨1, 1, .rw, .locked⟩, ⟨2, 5, .rw, .locked⟩], false, .vi0Svc⟩
  | .FT_TRACE_BASE => ⟨64, [⟨0, 64, .rw, .locked⟩], false, .vi0Svc⟩
  | .FT_TRACE_HEAD => ⟨64, [⟨0, 26, .ro, .live⟩], true, .vi0Svc⟩
  | .FT_TRACE_TAIL => ⟨64, [⟨0, 26, .rw, .live⟩], true, .vi0Svc⟩
  | .FT_TRACE_STATUS => ⟨64, [⟨0, 32, .ro, .live⟩, ⟨32, 32, .ro, .live⟩], true, .vi0Svc⟩
  | .TM_STATUS => ⟨32, [⟨0, 1, .ro, .live⟩, ⟨1, 1, .w1c, .live⟩, ⟨2, 1, .ro, .live⟩], true, .any⟩
  | .TM_CFG => ⟨32, [⟨0, 6, .rw, .locked⟩], false, .any⟩
  | .TMX_CNT_CTL => ⟨32, [⟨0, 1, .rw, .live⟩, ⟨1, 1, .wo, .live⟩], true, .any⟩
  | .TMX_HOT_CFG => ⟨32, [⟨0, 1, .rw, .shadow⟩, ⟨1, 5, .rw, .shadow⟩, ⟨31, 1, .ro, .live⟩], false, .any⟩
  | .TMX_HOT_HEAD => ⟨32, [⟨0, 3, .ro, .live⟩, ⟨16, 16, .ro, .live⟩], true, .any⟩
  | .TMX_HOT_RING_FT => ⟨64, [⟨0, 64, .ro, .live⟩], true, .any⟩
  | .TMX_HOT_RING => ⟨64, [⟨0, 6, .ro, .live⟩, ⟨8, 24, .ro, .live⟩, ⟨32, 9, .ro, .live⟩, ⟨63, 1, .ro, .live⟩], true, .any⟩
  | .TMX_PORT_LOST => ⟨64, [⟨0, 40, .ro, .live⟩], true, .any⟩
  | .TMX_PORT_CONF => ⟨64, [⟨0, 40, .ro, .live⟩], true, .any⟩
  | .TMX_MRG_RMW => ⟨64, [⟨0, 40, .ro, .live⟩], true, .any⟩
  | .TMX_MRG_FWD => ⟨64, [⟨0, 40, .ro, .live⟩], true, .any⟩
  | .TMX_MRG_DROP => ⟨64, [⟨0, 40, .ro, .live⟩], true, .any⟩
  | .WN_RANGE => ⟨32, [⟨0, 16, .rw, .locked⟩, ⟨16, 16, .rw, .locked⟩], false, .window⟩
  | .WN_SRC => ⟨64, [⟨0, 8, .rw, .locked⟩, ⟨8, 8, .rw, .locked⟩, ⟨16, 6, .rw, .locked⟩, ⟨22, 1, .rw, .locked⟩, ⟨24, 12, .rw, .locked⟩, ⟨36, 12, .rw, .locked⟩, ⟨48, 1, .rw, .locked⟩], false, .window⟩
  | .WN_CTL => ⟨32, [⟨0, 1, .rw, .live⟩, ⟨1, 1, .rw, .locked⟩, ⟨2, 1, .rw, .locked⟩, ⟨3, 1, .rw, .locked⟩, ⟨4, 1, .rw, .locked⟩, ⟨5, 8, .rw, .locked⟩, ⟨16, 6, .rw, .locked⟩, ⟨31, 1, .ro, .live⟩], false, .window⟩
  | .WN_CNT => ⟨32, [⟨0, 32, .rw, .live⟩], true, .any⟩
  | .WN_CNT_SUB => ⟨32, [⟨0, 32, .wo, .live⟩], true, .any⟩
  | .WN_STATUS => ⟨32, [⟨0, 1, .w1c, .live⟩, ⟨8, 8, .ro, .live⟩], true, .any⟩
  | .WN_REFUSE_CNT => ⟨32, [⟨0, 32, .ro, .live⟩], true, .any⟩
  | .WN_REFUSE_FT => ⟨64, [⟨0, 64, .ro, .live⟩], true, .any⟩
  | .WN_REFUSE => ⟨64, [⟨0, 16, .ro, .live⟩, ⟨16, 1, .ro, .live⟩, ⟨17, 3, .ro, .live⟩, ⟨63, 1, .ro, .live⟩], true, .any⟩
  | .WN_REFUSE_OFF => ⟨64, [⟨0, 64, .ro, .live⟩], true, .any⟩
  | .WN_REFUSE_LEN => ⟨64, [⟨0, 64, .ro, .live⟩], true, .any⟩
  | .WN_HW_RANGE => ⟨64, [⟨0, 22, .rw, .locked⟩, ⟨32, 22, .rw, .locked⟩], false, .hwWindow⟩
  | .WN_HW_SRC => ⟨32, [⟨0, 12, .rw, .locked⟩, ⟨12, 12, .rw, .locked⟩, ⟨31, 1, .ro, .live⟩], false, .hwWindow⟩
  | .WN_HW_CTL => ⟨32, [⟨0, 1, .rw, .live⟩, ⟨1, 1, .rw, .locked⟩, ⟨2, 1, .rw, .locked⟩, ⟨3, 1, .rw, .locked⟩, ⟨4, 1, .rw, .locked⟩, ⟨5, 8, .rw, .locked⟩, ⟨13, 4, .rw, .locked⟩, ⟨17, 9, .rw, .locked⟩, ⟨26, 6, .rw, .locked⟩], false, .hwWindow⟩
  | .WN_HW_REFUSE_FT => ⟨64, [⟨0, 64, .ro, .live⟩], true, .any⟩
  | .WN_HW_REFUSE => ⟨64, [⟨0, 16, .ro, .live⟩, ⟨16, 1, .ro, .live⟩, ⟨17, 3, .ro, .live⟩, ⟨63, 1, .ro, .live⟩], true, .any⟩
  | .WN_HW_REFUSE_ADDR => ⟨64, [⟨0, 64, .ro, .live⟩], true, .any⟩
  | .WN_HW_REFUSE_LEN => ⟨64, [⟨0, 64, .ro, .live⟩], true, .any⟩
  | .LK_FORCE => ⟨32, [⟨0, 12, .rw, .live⟩, ⟨31, 1, .rw1s, .live⟩], false, .vi0SvcShep⟩
  | .LK_EVENT => ⟨32, [⟨0, 1, .w1c, .live⟩, ⟨1, 1, .w1c, .live⟩, ⟨16, 16, .ro, .live⟩], true, .any⟩
  | .LK_PART => ⟨32, [⟨0, 6, .rw, .locked⟩, ⟨6, 1, .rw, .locked⟩], false, .vi0⟩
  | .LK_WORD => ⟨64, [⟨0, 1, .ro, .live⟩, ⟨1, 1, .ro, .live⟩, ⟨2, 1, .ro, .live⟩, ⟨8, 12, .ro, .live⟩, ⟨20, 6, .ro, .live⟩, ⟨26, 5, .ro, .live⟩, ⟨32, 4, .ro, .live⟩], true, .any⟩
  | .IN_ECNT => ⟨64, [⟨0, 32, .ro, .live⟩], true, .any⟩
  | .IN_BITE => ⟨64, [⟨0, 32, .ro, .live⟩], true, .any⟩
  | .IN_ECNT_CLR => ⟨32, [⟨0, 1, .wo, .live⟩], true, .any⟩
  | .IN_UE_LOG_FT => ⟨64, [⟨0, 64, .ro, .live⟩], true, .any⟩
  | .IN_UE_LOG_ADDR => ⟨64, [⟨0, 64, .ro, .live⟩], true, .any⟩
  | .IN_UE_LOG_TAG => ⟨64, [⟨0, 32, .ro, .live⟩, ⟨63, 1, .ro, .live⟩], true, .any⟩
  | .IN_UE_HEAD => ⟨32, [⟨0, 4, .ro, .live⟩, ⟨16, 16, .ro, .live⟩], true, .any⟩
  | .IN_SCRUB_BASE => ⟨32, [⟨0, 24, .rw, .locked⟩], false, .any⟩
  | .IN_SCRUB_LIMIT => ⟨32, [⟨0, 24, .rw, .locked⟩], false, .any⟩
  | .IN_SCRUB_CTL => ⟨64, [⟨0, 2, .rw, .locked⟩, ⟨2, 9, .rw, .locked⟩, ⟨11, 1, .rw, .locked⟩, ⟨12, 11, .rw, .locked⟩, ⟨23, 8, .rw, .locked⟩, ⟨31, 1, .ro, .live⟩, ⟨32, 1, .w1c, .live⟩, ⟨33, 1, .rw1s, .live⟩, ⟨34, 1, .wo, .live⟩], false, .any⟩
  | .IN_SCRUB_SUM => ⟨64, [⟨0, 64, .ro, .live⟩], true, .any⟩
  | .IN_DIAG => ⟨32, [⟨0, 1, .rw, .live⟩, ⟨1, 1, .rw1s, .live⟩, ⟨2, 4, .ro, .live⟩], false, .vi0Svc⟩
  | .IN_DIAG_ADDR => ⟨64, [⟨0, 2, .rw, .live⟩, ⟨2, 9, .rw, .live⟩, ⟨16, 32, .rw, .live⟩], false, .any⟩
  | .IN_DIAG_CHK => ⟨32, [⟨0, 32, .rw, .live⟩], false, .any⟩
  | .IN_DIAG_DATA => ⟨32, [⟨0, 32, .rw, .live⟩], false, .any⟩
  | .IN_REPAIR => ⟨64, [⟨0, 2, .rw, .live⟩, ⟨2, 9, .rw, .live⟩, ⟨11, 6, .rw, .live⟩, ⟨17, 6, .rw, .live⟩, ⟨23, 14, .rw, .live⟩, ⟨37, 4, .rw, .live⟩, ⟨41, 1, .rw1s, .live⟩, ⟨42, 4, .ro, .live⟩], false, .any⟩
  | .IN_ST_STATUS => ⟨64, [⟨0, 1, .ro, .live⟩, ⟨1, 18, .ro, .live⟩, ⟨19, 32, .ro, .live⟩, ⟨51, 4, .ro, .live⟩], true, .any⟩
  | .PL_CTL => ⟨32, [⟨0, 1, .rw, .locked⟩, ⟨1, 1, .rw, .locked⟩, ⟨2, 1, .rw, .locked⟩, ⟨3, 1, .rw, .locked⟩, ⟨4, 6, .rw, .locked⟩], false, .vi0Svc⟩
  | .PL_TAG => ⟨32, [⟨0, 8, .rw, .locked⟩, ⟨8, 16, .rw, .locked⟩], false, .vi0Svc⟩
  | .PL_STATUS => ⟨32, [⟨0, 2, .ro, .live⟩, ⟨2, 1, .ro, .live⟩, ⟨3, 1, .ro, .live⟩, ⟨4, 1, .w1c, .live⟩, ⟨16, 14, .ro, .live⟩], true, .any⟩
  | .PL_FILL => ⟨32, [⟨0, 6, .rw, .locked⟩, ⟨6, 1, .rw, .locked⟩, ⟨7, 2, .rw, .locked⟩, ⟨12, 3, .ro, .live⟩, ⟨31, 1, .rw1s, .live⟩], false, .any⟩
  | .PL_FILL_RANGE => ⟨64, [⟨0, 22, .rw, .locked⟩, ⟨32, 22, .rw, .locked⟩], false, .any⟩
  | .PL_THERM => ⟨32, [⟨0, 8, .ro, .live⟩, ⟨8, 1, .ro, .live⟩], true, .any⟩
  | .PL_RFM => ⟨32, [⟨0, 14, .rw, .live⟩], false, .any⟩
  | .PL_PT_ROOT => ⟨64, [⟨12, 36, .rw, .shadow⟩], false, .any⟩
  | .PL_TLB_INV => ⟨64, [⟨0, 6, .rw, .live⟩, ⟨6, 1, .rw, .live⟩, ⟨7, 1, .rw1s, .live⟩, ⟨16, 48, .rw, .live⟩], true, .any⟩
  | .PL_TLB_INV_CNT => ⟨32, [⟨0, 32, .rw, .live⟩], false, .any⟩
  | .PL_PRI_CFG => ⟨32, [⟨0, 16, .rw, .live⟩], false, .any⟩
  | .PL_FAULT_FT => ⟨64, [⟨0, 64, .ro, .live⟩], true, .any⟩
  | .PL_FAULT_ADDR => ⟨64, [⟨0, 64, .ro, .live⟩], true, .any⟩
  | .PL_FAULT_INFO => ⟨64, [⟨0, 4, .ro, .live⟩, ⟨4, 6, .ro, .live⟩, ⟨10, 1, .ro, .live⟩, ⟨11, 1, .ro, .live⟩, ⟨63, 1, .ro, .live⟩], true, .any⟩
  | .PL_FAULT_HEAD => ⟨32, [⟨0, 4, .ro, .live⟩, ⟨16, 16, .ro, .live⟩], true, .any⟩
  | .MU_READY => ⟨64, [⟨0, 64, .ro, .live⟩], true, .any⟩
  | .MU_THERM => ⟨32, [⟨0, 2, .ro, .live⟩, ⟨16, 16, .ro, .live⟩], true, .any⟩
  | .MU_HOLD => ⟨32, [⟨0, 10, .rw, .shadow⟩, ⟨31, 1, .ro, .live⟩], false, .any⟩
  | .MU_HOLD_EXP => ⟨64, [⟨0, 64, .ro, .live⟩], true, .any⟩
  | .MU_BUDGET_NS => ⟨64, [⟨0, 64, .ro, .live⟩], true, .any⟩
  | .MU_SUSPECT => ⟨32, [⟨0, 14, .ro, .live⟩, ⟨14, 6, .ro, .live⟩, ⟨20, 1, .ro, .live⟩, ⟨21, 8, .ro, .live⟩, ⟨31, 1, .w1c, .live⟩], true, .any⟩
  | .MU_CH => ⟨64, [⟨0, 2, .ro, .live⟩, ⟨2, 8, .ro, .live⟩, ⟨10, 6, .ro, .live⟩, ⟨16, 13, .ro, .live⟩, ⟨32, 5, .ro, .live⟩, ⟨37, 8, .ro, .live⟩], true, .any⟩
  | .MU_STAT_FT => ⟨64, [⟨0, 64, .ro, .live⟩], true, .any⟩
  | .MU_STAT => ⟨64, [⟨0, 8, .ro, .live⟩, ⟨8, 8, .ro, .live⟩, ⟨16, 6, .ro, .live⟩, ⟨22, 8, .ro, .live⟩, ⟨32, 16, .ro, .live⟩, ⟨48, 9, .ro, .live⟩, ⟨63, 1, .ro, .live⟩], true, .any⟩
  | .MU_STAT_HEAD => ⟨32, [⟨0, 5, .ro, .live⟩, ⟨16, 16, .ro, .live⟩], true, .any⟩
  | .MU_CMD => ⟨64, [⟨0, 64, .rw, .live⟩], false, .vi0Svc⟩
  | .MU_CMD_GO => ⟨32, [⟨0, 1, .rw1s, .live⟩, ⟨8, 8, .ro, .live⟩], true, .vi0Svc⟩
  | .MU_WIN_CMD => ⟨32, [⟨0, 8, .rw, .live⟩, ⟨8, 1, .rw, .live⟩, ⟨16, 8, .ro, .live⟩, ⟨31, 1, .rw1s, .live⟩], false, .vi0Svc⟩
  | .MU_WIN_CTL => ⟨32, [⟨0, 3, .rw, .locked⟩, ⟨3, 6, .rw, .locked⟩, ⟨9, 6, .rw, .locked⟩, ⟨15, 13, .rw, .locked⟩, ⟨28, 2, .ro, .live⟩], false, .vi0Svc⟩
  | .MU_WIN_MASK => ⟨64, [⟨0, 64, .rw, .locked⟩], false, .vi0Svc⟩
  | .LC_PART => ⟨64, [⟨0, 64, .rw, .locked⟩], false, .vi0Svc⟩
  | .LC_PART_STATE => ⟨32, [⟨0, 1, .ro, .live⟩, ⟨8, 7, .ro, .live⟩], true, .any⟩
  | .LC_OP => ⟨32, [⟨0, 6, .rw, .live⟩, ⟨6, 1, .rw, .live⟩, ⟨7, 1, .rw, .live⟩, ⟨8, 4, .ro, .live⟩, ⟨31, 1, .rw1s, .live⟩], true, .vi0⟩
  | .LC_OP_BASE => ⟨64, [⟨0, 48, .rw, .live⟩], false, .any⟩
  | .LC_OP_LEN => ⟨64, [⟨0, 40, .rw, .live⟩], false, .any⟩
  | .LC_SLICE_STATUS => ⟨32, [⟨0, 1, .ro, .live⟩, ⟨1, 6, .ro, .live⟩, ⟨7, 1, .ro, .live⟩, ⟨8, 9, .ro, .live⟩, ⟨17, 6, .ro, .live⟩], true, .any⟩
  | .LC_SLICE_CNT => ⟨64, [⟨0, 48, .ro, .live⟩], true, .any⟩
  | .LC_SLICE_CNT_WRAPS => ⟨64, [⟨0, 16, .ro, .live⟩, ⟨16, 1, .w1c, .live⟩], true, .any⟩
  | .LC_CNT_CTL => ⟨32, [⟨0, 1, .rw, .live⟩, ⟨1, 1, .wo, .live⟩], true, .any⟩
  | .TR_REQ => ⟨32, [⟨0, 16, .rw, .shadow⟩, ⟨16, 2, .rw, .shadow⟩], false, .vi0Svc⟩
  | .TR_TROUGH => ⟨64, [⟨0, 20, .ro, .live⟩, ⟨20, 1, .ro, .live⟩, ⟨21, 2, .ro, .live⟩, ⟨32, 7, .ro, .live⟩], true, .any⟩
  | .TR_BEATS => ⟨64, [⟨0, 48, .ro, .live⟩], true, .any⟩
  | .TR_BEATS_WRAPS => ⟨64, [⟨0, 16, .ro, .live⟩, ⟨16, 1, .w1c, .live⟩], true, .any⟩
  | .TR_STATUS => ⟨32, [⟨0, 12, .ro, .live⟩, ⟨12, 1, .ro, .live⟩, ⟨13, 1, .w1c, .live⟩, ⟨14, 1, .w1c, .live⟩], true, .any⟩
  | .TR_CNT => ⟨64, [⟨0, 48, .ro, .live⟩], true, .any⟩
  | .TR_CNT_CLR => ⟨32, [⟨0, 1, .wo, .live⟩], false, .any⟩
  | .TR_ABANDON_FT => ⟨64, [⟨0, 64, .ro, .live⟩], true, .any⟩
  | .TR_ABANDON => ⟨64, [⟨0, 6, .ro, .live⟩, ⟨6, 6, .ro, .live⟩, ⟨12, 3, .ro, .live⟩, ⟨32, 24, .ro, .live⟩, ⟨63, 1, .ro, .live⟩], true, .any⟩
  | .TR_ABANDON_HEAD => ⟨32, [⟨0, 4, .ro, .live⟩, ⟨16, 16, .ro, .live⟩], true, .any⟩
  | .ST_CTX_CFG => ⟨32, [⟨0, 6, .rw, .locked⟩, ⟨6, 2, .rw, .locked⟩, ⟨8, 2, .rw, .locked⟩, ⟨10, 5, .rw, .locked⟩, ⟨15, 1, .rw, .locked⟩, ⟨16, 8, .rw, .locked⟩, ⟨24, 1, .rw, .locked⟩, ⟨25, 4, .rw, .locked⟩], false, .any⟩
  | .ST_CTX_CRUMB => ⟨64, [⟨0, 48, .rw, .locked⟩, ⟨48, 2, .rw, .locked⟩], false, .any⟩
  | .ST_CTX_STATUS => ⟨32, [⟨0, 2, .ro, .live⟩, ⟨2, 3, .ro, .live⟩, ⟨5, 1, .w1c, .live⟩, ⟨6, 1, .w1c, .live⟩], true, .any⟩
  | .ST_CTX_DONE => ⟨64, [⟨0, 64, .ro, .live⟩], true, .any⟩
  | .ST_CMD_LIST => ⟨64, [⟨0, 48, .rw, .live⟩, ⟨48, 2, .rw, .live⟩], true, .vi0Svc⟩
  | .ST_CMD => ⟨32, [⟨0, 1, .rw1s, .live⟩, ⟨1, 1, .wo, .live⟩, ⟨2, 1, .wo, .live⟩, ⟨8, 4, .ro, .live⟩], true, .vi0Svc⟩
  | .ST_CRUMB => ⟨64, [⟨0, 64, .ro, .live⟩], true, .any⟩
  | .ST_CNT => ⟨64, [⟨0, 48, .ro, .live⟩], true, .any⟩
  | .ST_CNT_WRAPS => ⟨64, [⟨0, 16, .ro, .live⟩, ⟨16, 1, .w1c, .live⟩], true, .any⟩
  | .ST_CNT_CLR => ⟨32, [⟨0, 1, .wo, .live⟩], false, .any⟩
  | .MX_STATUS => ⟨32, [⟨0, 1, .ro, .live⟩, ⟨1, 4, .ro, .live⟩, ⟨5, 1, .w1c, .live⟩, ⟨6, 1, .w1c, .live⟩, ⟨7, 1, .w1c, .live⟩, ⟨8, 1, .w1c, .live⟩], true, .any⟩
  | .MX_DONE => ⟨64, [⟨0, 16, .ro, .live⟩, ⟨16, 8, .ro, .live⟩, ⟨24, 1, .ro, .live⟩, ⟨32, 16, .ro, .live⟩], true, .any⟩
  | .MX_DONE_FT => ⟨64, [⟨0, 64, .ro, .live⟩], true, .any⟩
  | .MX_CNT => ⟨64, [⟨0, 48, .ro, .live⟩], true, .any⟩
  | .MX_CNT_WRAPS => ⟨64, [⟨0, 16, .ro, .live⟩, ⟨16, 1, .w1c, .live⟩], true, .any⟩
  | .MX_CNT_CLR => ⟨32, [⟨0, 1, .wo, .live⟩], false, .any⟩
  | .VX_STATUS => ⟨32, [⟨0, 1, .ro, .live⟩, ⟨1, 4, .ro, .live⟩, ⟨5, 1, .w1c, .live⟩, ⟨6, 1, .w1c, .live⟩, ⟨7, 1, .w1c, .live⟩, ⟨8, 1, .w1c, .live⟩], true, .any⟩
  | .VX_DONE => ⟨64, [⟨0, 16, .ro, .live⟩, ⟨16, 8, .ro, .live⟩, ⟨24, 1, .ro, .live⟩, ⟨32, 16, .ro, .live⟩], true, .any⟩
  | .VX_DONE_FT => ⟨64, [⟨0, 64, .ro, .live⟩], true, .any⟩
  | .VX_CNT => ⟨64, [⟨0, 48, .ro, .live⟩], true, .any⟩
  | .VX_CNT_WRAPS => ⟨64, [⟨0, 16, .ro, .live⟩, ⟨16, 1, .w1c, .live⟩], true, .any⟩
  | .VX_CNT_CLR => ⟨32, [⟨0, 1, .wo, .live⟩], false, .any⟩
  | .GT_STATUS => ⟨32, [⟨0, 1, .ro, .live⟩, ⟨1, 4, .ro, .live⟩, ⟨5, 1, .w1c, .live⟩, ⟨6, 1, .w1c, .live⟩, ⟨7, 1, .w1c, .live⟩, ⟨8, 1, .w1c, .live⟩], true, .any⟩
  | .GT_DONE => ⟨64, [⟨0, 16, .ro, .live⟩, ⟨16, 8, .ro, .live⟩, ⟨24, 1, .ro, .live⟩, ⟨32, 16, .ro, .live⟩], true, .any⟩
  | .GT_DONE_FT => ⟨64, [⟨0, 64, .ro, .live⟩], true, .any⟩
  | .GT_CNT => ⟨64, [⟨0, 48, .ro, .live⟩], true, .any⟩
  | .GT_CNT_WRAPS => ⟨64, [⟨0, 16, .ro, .live⟩, ⟨16, 1, .w1c, .live⟩], true, .any⟩
  | .GT_CNT_CLR => ⟨32, [⟨0, 1, .wo, .live⟩], false, .any⟩
  | .GT_CFG => ⟨32, [⟨0, 10, .rw, .shadow⟩, ⟨31, 1, .ro, .live⟩], false, .any⟩
  | .SC_CORE_STATUS => ⟨32, [⟨0, 4, .ro, .live⟩, ⟨4, 1, .ro, .live⟩, ⟨16, 16, .ro, .live⟩], true, .any⟩
  | .SC_CORE_CFG => ⟨32, [⟨7, 12, .rw, .shadow⟩, ⟨19, 1, .ro, .live⟩, ⟨20, 7, .rw, .locked⟩], false, .vi0Svc⟩
  | .SC_CORE_QUANTUM => ⟨32, [⟨0, 16, .rw, .shadow⟩], false, .any⟩
  | .SC_CORE_CTL => ⟨32, [⟨0, 1, .wo, .live⟩], false, .any⟩
  | .SC_EVENT => ⟨32, [⟨0, 1, .w1c, .live⟩, ⟨4, 4, .ro, .live⟩], true, .any⟩
  | .SC_CTX_CFG => ⟨64, [⟨0, 6, .rw, .locked⟩, ⟨6, 1, .rw, .locked⟩, ⟨8, 5, .rw, .locked⟩, ⟨16, 7, .rw, .locked⟩, ⟨24, 7, .rw, .locked⟩, ⟨34, 17, .rw, .locked⟩], false, .vi0Svc⟩
  | .SC_CTX_CTL => ⟨32, [⟨0, 1, .rw1s, .live⟩, ⟨1, 1, .rw1s, .live⟩, ⟨2, 1, .wo, .live⟩, ⟨4, 4, .ro, .live⟩], false, .ctxOwner⟩
  | .SC_CTX_STATUS => ⟨64, [⟨0, 3, .ro, .live⟩, ⟨3, 1, .ro, .live⟩, ⟨4, 1, .ro, .live⟩, ⟨5, 5, .w1c, .live⟩, ⟨16, 8, .ro, .live⟩, ⟨24, 8, .ro, .live⟩, ⟨32, 19, .ro, .live⟩], true, .any⟩
  | .SC_CTX_KICK => ⟨32, [⟨0, 1, .wo, .live⟩], true, .any⟩
  | .SC_CTX_ALARM => ⟨64, [⟨0, 64, .rw, .live⟩], true, .any⟩
  | .SC_CTX_TRAP => ⟨64, [⟨0, 19, .rw, .live⟩, ⟨31, 1, .rw, .live⟩], true, .trapRegs⟩
  | .SC_CTX_TRAP_CAUSE => ⟨64, [⟨0, 8, .ro, .live⟩], true, .any⟩
  | .SC_CTX_TRAP_INFO => ⟨64, [⟨0, 64, .ro, .live⟩], true, .any⟩
  | .SC_CTX_TRAP_TAG => ⟨64, [⟨0, 32, .ro, .live⟩], true, .any⟩
  | .SC_CNT => ⟨64, [⟨0, 48, .ro, .live⟩], true, .any⟩
  | .SC_CNT_WRAPS => ⟨64, [⟨0, 16, .ro, .live⟩, ⟨16, 1, .w1c, .live⟩], true, .any⟩
  | .SC_CNT_CLR => ⟨32, [⟨0, 1, .wo, .live⟩], false, .any⟩
  | .SC_CFG_ERR => ⟨64, [⟨0, 26, .ro, .live⟩, ⟨26, 4, .ro, .live⟩, ⟨30, 4, .ro, .live⟩, ⟨34, 1, .ro, .live⟩, ⟨56, 7, .ro, .live⟩, ⟨63, 1, .w1c, .live⟩], true, .any⟩
  | .SC_CFG_ERR_FT => ⟨64, [⟨0, 64, .ro, .live⟩], true, .any⟩
  | .HQ_VI_RESET => ⟨32, [⟨0, 6, .rw, .live⟩, ⟨6, 1, .rw, .live⟩, ⟨31, 1, .rw1s, .live⟩], false, .vi0Svc⟩
  | .HQ_APERTURE => ⟨64, [⟨21, 27, .rw, .live⟩], false, .vi0Svc⟩
  | .HQ_VI_CFG => ⟨64, [⟨0, 1, .rw, .locked⟩, ⟨1, 1, .rw, .locked⟩, ⟨2, 10, .rw, .shadow⟩, ⟨12, 10, .rw, .shadow⟩, ⟨22, 1, .ro, .live⟩, ⟨24, 11, .rw, .live⟩], false, .vi0Svc⟩
  | .HQ_VI_STATUS => ⟨32, [⟨0, 1, .ro, .live⟩, ⟨1, 1, .w1c, .live⟩, ⟨2, 1, .w1c, .live⟩], true, .any⟩
  | .HQ_VI_CNT => ⟨64, [⟨0, 48, .ro, .live⟩], true, .any⟩
  | .HQ_GEN => ⟨64, [⟨0, 16, .rw, .stroke⟩, ⟨16, 16, .ro, .live⟩, ⟨32, 16, .ro, .live⟩, ⟨48, 1, .ro, .live⟩], false, .vi0Svc⟩
  | .HQ_GEN_PINS => ⟨64, [⟨0, 16, .ro, .live⟩, ⟨16, 16, .ro, .live⟩, ⟨32, 32, .ro, .live⟩], false, .vi0Svc⟩
  | .HQ_OP => ⟨64, [⟨0, 1, .rw, .live⟩, ⟨1, 4, .rw, .locked⟩, ⟨5, 4, .rw, .locked⟩, ⟨9, 9, .rw, .locked⟩, ⟨18, 24, .rw, .locked⟩], false, .vi0SvcOwner⟩
  | .HQ_OP_EST => ⟨64, [⟨0, 32, .rw, .live⟩, ⟨32, 32, .rw, .live⟩], false, .vi0SvcOwner⟩
  | .HQ_OP_STATE => ⟨64, [⟨0, 15, .ro, .live⟩, ⟨16, 16, .ro, .live⟩, ⟨32, 32, .ro, .live⟩], true, .vi0SvcOwner⟩
  | .HQ_OP_CNT => ⟨64, [⟨0, 32, .ro, .live⟩], false, .vi0SvcOwner⟩
  | .HQ_Q_CFG => ⟨64, [⟨0, 1, .rw, .live⟩, ⟨1, 5, .rw, .locked⟩, ⟨6, 1, .rw, .locked⟩, ⟨7, 1, .rw, .locked⟩, ⟨8, 2, .rw, .locked⟩, ⟨10, 1, .rw, .locked⟩, ⟨11, 11, .rw, .locked⟩, ⟨22, 8, .rw, .locked⟩, ⟨30, 10, .rw, .locked⟩], false, .vi0SvcOwner⟩
  | .HQ_Q_SQB => ⟨64, [⟨0, 64, .rw, .locked⟩], false, .vi0SvcOwner⟩
  | .HQ_Q_CQB => ⟨64, [⟨0, 64, .rw, .locked⟩], false, .vi0SvcOwner⟩
  | .HQ_Q_STATE => ⟨64, [⟨0, 16, .ro, .live⟩, ⟨16, 16, .ro, .live⟩, ⟨32, 1, .ro, .live⟩, ⟨33, 1, .ro, .live⟩, ⟨34, 3, .ro, .live⟩, ⟨37, 4, .ro, .live⟩], true, .any⟩
  | .HQ_Q_CTL => ⟨32, [⟨0, 1, .wo, .live⟩], false, .vi0SvcOwner⟩
  | .HQ_POST_HQ => ⟨64, [⟨0, 16, .wo, .live⟩, ⟨16, 8, .wo, .live⟩, ⟨32, 32, .wo, .live⟩], true, .any⟩
  | .HQ_POST => ⟨64, [⟨0, 16, .wo, .live⟩, ⟨16, 8, .wo, .live⟩, ⟨32, 32, .wo, .live⟩], true, .any⟩
  | .HL_PORT_CFG => ⟨32, [⟨0, 3, .rw, .locked⟩, ⟨3, 3, .rw, .locked⟩, ⟨6, 10, .rw, .live⟩], false, .vi0SvcShep⟩
  | .HL_PORT_STATUS => ⟨64, [⟨0, 2, .ro, .live⟩, ⟨2, 4, .ro, .live⟩, ⟨6, 12, .ro, .live⟩, ⟨18, 4, .ro, .live⟩], true, .any⟩
  | .HL_PORT_CNT => ⟨64, [⟨0, 48, .ro, .live⟩], true, .any⟩
  | .HL_DIMS => ⟨32, [⟨0, 4, .rw, .locked⟩, ⟨4, 4, .rw, .locked⟩, ⟨8, 4, .rw, .locked⟩], false, .vi0SvcShep⟩
  | .HL_BCAST => ⟨32, [⟨0, 16, .rw, .live⟩], false, .vi0SvcShep⟩
  | .HL_TIMEOUT => ⟨32, [⟨0, 16, .rw, .live⟩], false, .any⟩
  | .HL_EVENT => ⟨32, [⟨0, 1, .w1c, .live⟩, ⟨1, 1, .w1c, .live⟩, ⟨2, 1, .w1c, .live⟩, ⟨3, 1, .w1c, .live⟩], true, .any⟩
  | .HL_ROUTE => ⟨32, [⟨0, 4, .rw, .live⟩, ⟨4, 1, .rw, .live⟩, ⟨31, 1, .rw, .live⟩], false, .any⟩
  | .HD_STATUS => ⟨64, [⟨0, 2, .ro, .live⟩, ⟨2, 12, .ro, .live⟩, ⟨14, 1, .w1c, .live⟩, ⟨15, 1, .ro, .live⟩, ⟨16, 12, .ro, .live⟩, ⟨28, 1, .ro, .live⟩, ⟨32, 32, .ro, .live⟩], true, .any⟩
  | .HD_CFG => ⟨32, [⟨0, 12, .rw, .locked⟩, ⟨12, 1, .rw, .live⟩], false, .vi0SvcBmc⟩
  | .HD_CTL => ⟨32, [⟨0, 3, .rw, .live⟩, ⟨3, 12, .rw, .live⟩, ⟨16, 8, .ro, .live⟩, ⟨31, 1, .rw1s, .live⟩], false, .vi0SvcBmc⟩
  | .HD_SELF => ⟨64, [⟨0, 64, .ro, .live⟩], false, .any⟩
  | .HD_STROKE => ⟨64, [⟨0, 16, .ro, .live⟩, ⟨16, 12, .ro, .live⟩, ⟨28, 12, .ro, .live⟩, ⟨40, 12, .ro, .live⟩, ⟨52, 12, .ro, .live⟩], true, .any⟩
  | .HD_MSG_BASE => ⟨64, [⟨0, 19, .rw, .live⟩, ⟨32, 4, .rw, .live⟩], false, .any⟩
  | .HD_TABLE => ⟨64, [⟨0, 64, .rw, .locked⟩], false, .vi0SvcBmc⟩
  | .HD_TABLE_ENTRY => ⟨64, [⟨0, 12, .rw, .locked⟩, ⟨16, 8, .rw, .locked⟩, ⟨24, 1, .rw, .locked⟩, ⟨32, 32, .rw, .locked⟩], false, .vi0SvcBmc⟩
  | .PM_CTL => ⟨32, [⟨0, 1, .wo, .live⟩], false, .vi0Svc⟩
  | .PM_STATUS => ⟨64, [⟨0, 1, .ro, .live⟩, ⟨1, 1, .ro, .live⟩, ⟨2, 1, .ro, .live⟩, ⟨3, 1, .ro, .live⟩, ⟨4, 1, .ro, .live⟩, ⟨5, 1, .ro, .live⟩, ⟨8, 4, .ro, .live⟩, ⟨12, 1, .ro, .live⟩, ⟨16, 10, .ro, .live⟩], true, .any⟩
  | .PM_SPLIT => ⟨64, [⟨0, 8, .rw, .locked⟩, ⟨8, 8, .rw, .locked⟩, ⟨16, 8, .rw, .locked⟩, ⟨24, 8, .rw, .locked⟩, ⟨32, 8, .rw, .locked⟩], false, .vi0Svc⟩
  | .PM_CAP => ⟨32, [⟨0, 10, .rw, .stroke⟩], false, .vi0Svc⟩
  | .PM_POWER => ⟨32, [⟨0, 16, .ro, .live⟩, ⟨16, 16, .ro, .live⟩], true, .any⟩
  | .PM_CFG => ⟨32, [⟨0, 8, .rw, .live⟩, ⟨8, 4, .rw, .live⟩], false, .vi0Svc⟩
  | .PM_PHASE_VI => ⟨64, [⟨0, 64, .rw, .live⟩], false, .vi0Svc⟩
  | .PM_ALERT_DEST => ⟨32, [⟨0, 1, .rw, .live⟩, ⟨1, 2, .rw, .live⟩, ⟨3, 4, .rw, .live⟩, ⟨16, 10, .rw, .live⟩], false, .vi0Svc⟩
  | .PM_EVENT => ⟨32, [⟨0, 1, .w1c, .live⟩, ⟨1, 1, .w1c, .live⟩, ⟨2, 1, .w1c, .live⟩, ⟨3, 1, .w1c, .live⟩, ⟨4, 1, .w1c, .live⟩], true, .any⟩
  | .PM_GROUP => ⟨32, [⟨0, 4, .rw, .live⟩, ⟨4, 4, .rw, .live⟩, ⟨8, 4, .ro, .live⟩, ⟨12, 4, .ro, .live⟩, ⟨16, 1, .ro, .live⟩, ⟨17, 4, .ro, .live⟩], false, .vi0Svc⟩
  | .PM_EST => ⟨32, [⟨0, 16, .ro, .live⟩, ⟨16, 16, .ro, .live⟩], true, .any⟩
  | .PM_CAL => ⟨32, [⟨0, 16, .ro, .live⟩, ⟨16, 16, .ro, .live⟩], true, .any⟩
  | .PM_VF => ⟨32, [⟨0, 12, .ro, .live⟩, ⟨12, 8, .ro, .live⟩], false, .any⟩
  | .PM_PHASE => ⟨32, [⟨0, 4, .rw, .live⟩, ⟨4, 4, .rw, .live⟩, ⟨8, 4, .rw, .live⟩, ⟨12, 1, .rw, .live⟩], false, .vi0Svc⟩
  | .PM_RAIL => ⟨32, [⟨0, 12, .rw, .live⟩], false, .vi0Svc⟩
  | .PM_RAIL_WIN => ⟨32, [⟨0, 16, .ro, .live⟩, ⟨16, 4, .ro, .live⟩], true, .any⟩
  | .PM_THR_ACCUM => ⟨64, [⟨0, 64, .ro, .live⟩], true, .any⟩
  | .PM_THR_EPISODES => ⟨64, [⟨0, 64, .ro, .live⟩], true, .any⟩
  | .PM_THR_LAST_START => ⟨64, [⟨0, 64, .ro, .live⟩], true, .any⟩
  | .PM_THR_LAST_END => ⟨64, [⟨0, 64, .ro, .live⟩], true, .any⟩
  | .TH_SENSOR => ⟨32, [⟨0, 10, .ro, .live⟩, ⟨10, 1, .ro, .live⟩, ⟨11, 1, .ro, .live⟩], true, .any⟩
  | .TH_CFG => ⟨32, [⟨0, 8, .rw, .shadow⟩, ⟨8, 16, .rw, .live⟩, ⟨24, 1, .ro, .live⟩], false, .svc⟩
  | .TH_TRIP_FT => ⟨64, [⟨0, 64, .ro, .live⟩], true, .any⟩
  | .TH_TRIP => ⟨64, [⟨0, 5, .ro, .live⟩, ⟨8, 10, .ro, .live⟩, ⟨31, 1, .ro, .live⟩], true, .any⟩
  | .TH_ALERT => ⟨32, [⟨0, 1, .ro, .live⟩, ⟨1, 1, .ro, .live⟩, ⟨2, 1, .ro, .live⟩, ⟨4, 4, .ro, .live⟩], true, .any⟩
  | .TH_HU_STATUS => ⟨32, [⟨0, 13, .ro, .live⟩, ⟨13, 7, .ro, .live⟩, ⟨20, 1, .ro, .live⟩, ⟨21, 1, .ro, .live⟩, ⟨22, 1, .ro, .live⟩, ⟨24, 8, .ro, .live⟩], true, .any⟩
  | .TH_HU_CFG => ⟨32, [⟨0, 10, .rw, .live⟩], false, .svc⟩
  | .TH_EVENT => ⟨32, [⟨0, 1, .w1c, .live⟩, ⟨1, 1, .w1c, .live⟩, ⟨2, 1, .w1c, .live⟩, ⟨3, 1, .w1c, .live⟩, ⟨4, 1, .w1c, .live⟩, ⟨5, 1, .w1c, .live⟩, ⟨6, 1, .w1c, .live⟩, ⟨7, 1, .w1c, .live⟩, ⟨8, 1, .w1c, .live⟩], true, .any⟩
  | .TH_LAST_SHUTDOWN => ⟨64, [⟨0, 64, .ro, .live⟩], true, .any⟩
  | .SV_FW_STATUS => ⟨64, [⟨0, 1, .ro, .live⟩, ⟨1, 3, .ro, .live⟩, ⟨4, 3, .ro, .live⟩, ⟨16, 16, .ro, .live⟩, ⟨32, 16, .ro, .live⟩, ⟨48, 16, .ro, .live⟩], true, .any⟩
  | .SV_FW_LOAD => ⟨64, [⟨0, 48, .rw, .live⟩, ⟨48, 1, .rw, .live⟩], false, .vi0Svc⟩
  | .SV_FW_LEN => ⟨32, [⟨0, 24, .rw, .live⟩, ⟨24, 4, .ro, .live⟩, ⟨31, 1, .rw1s, .live⟩], false, .vi0Svc⟩
  | .SV_FW_DIGEST => ⟨64, [⟨0, 64, .ro, .live⟩], false, .any⟩
  | .SV_FW_FLOOR => ⟨32, [⟨0, 16, .rw, .live⟩], false, .vi0Svc⟩
  | .SV_SVC_STATUS => ⟨32, [⟨0, 16, .ro, .live⟩, ⟨16, 1, .ro, .live⟩], true, .any⟩
  | .AU_STATUS => ⟨64, [⟨0, 1, .ro, .live⟩, ⟨1, 1, .ro, .live⟩, ⟨2, 1, .w1c, .live⟩, ⟨3, 1, .w1c, .live⟩, ⟨16, 11, .ro, .live⟩, ⟨32, 32, .ro, .live⟩], true, .any⟩
  | .AU_SEQ => ⟨64, [⟨0, 64, .ro, .live⟩], false, .any⟩
  | .AU_ACKED => ⟨64, [⟨0, 64, .ro, .live⟩], false, .any⟩
  | .AU_ACK => ⟨64, [⟨0, 64, .wo, .live⟩], true, .any⟩
  | .AU_EXPORT_DEST => ⟨32, [⟨0, 1, .rw, .live⟩, ⟨1, 2, .rw, .live⟩, ⟨3, 4, .rw, .live⟩], false, .vi0SvcShep⟩
  | .AU_RD_SEQ => ⟨64, [⟨0, 64, .rw, .live⟩], true, .any⟩
  | .AU_RD_STATUS => ⟨32, [⟨0, 2, .ro, .live⟩], true, .any⟩
  | .AU_RD_DATA => ⟨64, [⟨0, 64, .ro, .live⟩], false, .any⟩
  | .LF_STATUS => ⟨32, [⟨0, 3, .ro, .live⟩, ⟨3, 1, .ro, .live⟩, ⟨4, 1, .ro, .live⟩, ⟨8, 4, .ro, .live⟩], true, .any⟩
  | .LF_REQ => ⟨32, [⟨0, 3, .rw, .live⟩, ⟨4, 4, .ro, .live⟩, ⟨31, 1, .rw1s, .live⟩], false, .vi0Bmc⟩
  | .LF_AUTH_ADDR => ⟨64, [⟨0, 48, .rw, .live⟩], false, .any⟩
  | .LF_CHALLENGE => ⟨64, [⟨0, 64, .ro, .live⟩], false, .any⟩
  | .NS_STATUS => ⟨64, [⟨0, 1, .ro, .live⟩, ⟨1, 3, .ro, .live⟩, ⟨16, 16, .ro, .live⟩], true, .any⟩
  | .NS_STATUS_FT => ⟨64, [⟨0, 64, .ro, .live⟩], true, .any⟩
  | .NS_CMD => ⟨32, [⟨0, 9, .rw, .live⟩, ⟨9, 6, .rw, .live⟩, ⟨15, 3, .rw, .live⟩, ⟨20, 4, .ro, .live⟩, ⟨31, 1, .rw1s, .live⟩], true, .any⟩
  | .NS_DATA => ⟨32, [⟨0, 32, .rw, .live⟩], false, .any⟩
  | .NS_OWNER => ⟨32, [⟨0, 6, .rw, .live⟩, ⟨6, 1, .rw, .live⟩], false, .vi0Svc⟩
  | .MB_STATUS => ⟨32, [⟨0, 16, .ro, .live⟩, ⟨16, 1, .w1c, .live⟩, ⟨17, 1, .w1c, .live⟩], true, .any⟩
  | .SV_SPARE_CMD => ⟨32, [⟨0, 3, .rw, .live⟩, ⟨4, 3, .rw, .live⟩, ⟨8, 4, .ro, .live⟩, ⟨31, 1, .rw1s, .live⟩], false, .vi0Svc⟩
  | .SV_SPARE_STATUS => ⟨64, [⟨0, 3, .ro, .live⟩, ⟨4, 4, .ro, .live⟩, ⟨8, 9, .ro, .live⟩, ⟨17, 8, .ro, .live⟩], true, .any⟩
  | .SV_SPARE_FT => ⟨64, [⟨0, 64, .ro, .live⟩], true, .any⟩
  | .SV_RETIRE => ⟨32, [⟨0, 2, .rw, .live⟩, ⟨2, 6, .rw, .live⟩, ⟨8, 2, .rw, .live⟩, ⟨10, 1, .rw, .live⟩, ⟨12, 4, .ro, .live⟩, ⟨31, 1, .rw1s, .live⟩], false, .vi0Svc⟩
  | .SV_RETIRED_STACKS => ⟨64, [⟨0, 8, .ro, .live⟩], true, .any⟩
  | .SV_RETIRED_SLICES => ⟨64, [⟨0, 64, .ro, .live⟩], true, .any⟩
  | .SV_RAS_CFG => ⟨32, [⟨0, 1, .rw, .live⟩, ⟨1, 1, .rw, .live⟩, ⟨2, 1, .rw, .live⟩, ⟨4, 4, .rw, .live⟩], false, .vi0Svc⟩
  | .SV_RAS_SUM => ⟨64, [⟨0, 16, .ro, .live⟩, ⟨16, 16, .ro, .live⟩, ⟨32, 32, .ro, .live⟩], true, .any⟩
  | .SV_RAS_EVT_FT => ⟨64, [⟨0, 64, .ro, .live⟩], true, .any⟩
  | .SV_RAS_EVT => ⟨64, [⟨0, 4, .ro, .live⟩, ⟨4, 12, .ro, .live⟩, ⟨16, 32, .ro, .live⟩, ⟨63, 1, .ro, .live⟩], true, .any⟩
  | .SV_RAS_HEAD => ⟨32, [⟨0, 4, .ro, .live⟩, ⟨16, 16, .ro, .live⟩], true, .any⟩
  | .SV_BOOT => ⟨32, [⟨0, 4, .ro, .live⟩, ⟨4, 4, .ro, .live⟩, ⟨16, 8, .ro, .live⟩], true, .any⟩
  | .SV_BOOT_FT => ⟨64, [⟨0, 64, .ro, .live⟩], true, .any⟩
  | .SV_RESET_CAUSE => ⟨32, [⟨0, 1, .ro, .live⟩, ⟨1, 1, .ro, .live⟩, ⟨2, 1, .ro, .live⟩, ⟨3, 1, .ro, .live⟩, ⟨16, 16, .ro, .live⟩], true, .any⟩
  | .SV_STRAPS => ⟨32, [⟨0, 3, .ro, .live⟩, ⟨8, 7, .ro, .live⟩], true, .any⟩

namespace Fld
/-- SV_ID.DEVICE. -/
abbrev SV_ID_DEVICE : Fld := ⟨.SV_ID, 0, 16⟩
/-- SV_ID.STEPPING. -/
abbrev SV_ID_STEPPING : Fld := ⟨.SV_ID, 16, 8⟩
/-- SV_ASSEMBLY.CODE. -/
abbrev SV_ASSEMBLY_CODE : Fld := ⟨.SV_ASSEMBLY, 0, 4⟩
/-- SV_ASSEMBLY.STACKS. -/
abbrev SV_ASSEMBLY_STACKS : Fld := ⟨.SV_ASSEMBLY, 4, 4⟩
/-- SV_ASSEMBLY.IODIES. -/
abbrev SV_ASSEMBLY_IODIES : Fld := ⟨.SV_ASSEMBLY, 8, 2⟩
/-- SV_ASSEMBLY.STACK_PRESENT. -/
abbrev SV_ASSEMBLY_STACK_PRESENT : Fld := ⟨.SV_ASSEMBLY, 16, 8⟩
/-- SV_ASSEMBLY.DOMAINS. -/
abbrev SV_ASSEMBLY_DOMAINS : Fld := ⟨.SV_ASSEMBLY, 24, 5⟩
/-- SV_CLMAP.LC. -/
abbrev SV_CLMAP_LC : Fld := ⟨.SV_CLMAP, 0, 64⟩
/-- SV_ACCESS_ERR.OFFSET. -/
abbrev SV_ACCESS_ERR_OFFSET : Fld := ⟨.SV_ACCESS_ERR, 0, 26⟩
/-- SV_ACCESS_ERR.WRITE. -/
abbrev SV_ACCESS_ERR_WRITE : Fld := ⟨.SV_ACCESS_ERR, 26, 1⟩
/-- SV_ACCESS_ERR.KIND. -/
abbrev SV_ACCESS_ERR_KIND : Fld := ⟨.SV_ACCESS_ERR, 27, 4⟩
/-- SV_ACCESS_ERR.ORIGIN. -/
abbrev SV_ACCESS_ERR_ORIGIN : Fld := ⟨.SV_ACCESS_ERR, 32, 8⟩
/-- SV_ACCESS_ERR.COUNT. -/
abbrev SV_ACCESS_ERR_COUNT : Fld := ⟨.SV_ACCESS_ERR, 40, 23⟩
/-- SV_ACCESS_ERR.VALID. -/
abbrev SV_ACCESS_ERR_VALID : Fld := ⟨.SV_ACCESS_ERR, 63, 1⟩
/-- FT_NOW.NOW. -/
abbrev FT_NOW_NOW : Fld := ⟨.FT_NOW, 0, 64⟩
/-- FT_STATUS.STATE. -/
abbrev FT_STATUS_STATE : Fld := ⟨.FT_STATUS, 0, 2⟩
/-- FT_STATUS.SOURCE. -/
abbrev FT_STATUS_SOURCE : Fld := ⟨.FT_STATUS, 2, 2⟩
/-- FT_STATUS.REF_JUMP. -/
abbrev FT_STATUS_REF_JUMP : Fld := ⟨.FT_STATUS, 4, 1⟩
/-- FT_STATUS.DEFER. -/
abbrev FT_STATUS_DEFER : Fld := ⟨.FT_STATUS, 5, 1⟩
/-- FT_STATUS.HOLD_AGE. -/
abbrev FT_STATUS_HOLD_AGE : Fld := ⟨.FT_STATUS, 8, 24⟩
/-- FT_STATUS.MASTER. -/
abbrev FT_STATUS_MASTER : Fld := ⟨.FT_STATUS, 32, 12⟩
/-- FT_SRC.MODE. -/
abbrev FT_SRC_MODE : Fld := ⟨.FT_SRC, 0, 2⟩
/-- FT_SRC.PTP_L2. -/
abbrev FT_SRC_PTP_L2 : Fld := ⟨.FT_SRC, 2, 1⟩
/-- FT_SRC.PTP_DOMAIN. -/
abbrev FT_SRC_PTP_DOMAIN : Fld := ⟨.FT_SRC, 3, 7⟩
/-- FT_SRC.SHEP_REF. -/
abbrev FT_SRC_SHEP_REF : Fld := ⟨.FT_SRC, 10, 2⟩
/-- FT_CTRL.ACCEPT_STEP. -/
abbrev FT_CTRL_ACCEPT_STEP : Fld := ⟨.FT_CTRL, 0, 1⟩
/-- FT_PPS_SEC.SEC. -/
abbrev FT_PPS_SEC_SEC : Fld := ⟨.FT_PPS_SEC, 0, 64⟩
/-- FT_UTC_OFFSET.OFFSET. -/
abbrev FT_UTC_OFFSET_OFFSET : Fld := ⟨.FT_UTC_OFFSET, 0, 16⟩
/-- FT_PORT_ASYM.ASYM. -/
abbrev FT_PORT_ASYM_ASYM : Fld := ⟨.FT_PORT_ASYM, 0, 16⟩
/-- FT_STG_TIME.TIME. -/
abbrev FT_STG_TIME_TIME : Fld := ⟨.FT_STG_TIME, 0, 64⟩
/-- FT_STG_ARG.ARG. -/
abbrev FT_STG_ARG_ARG : Fld := ⟨.FT_STG_ARG, 0, 64⟩
/-- FT_STG_CTL.ACTION. -/
abbrev FT_STG_CTL_ACTION : Fld := ⟨.FT_STG_CTL, 0, 8⟩
/-- FT_STG_CTL.SLOT. -/
abbrev FT_STG_CTL_SLOT : Fld := ⟨.FT_STG_CTL, 8, 8⟩
/-- FT_STG_CTL.LATE_OK. -/
abbrev FT_STG_CTL_LATE_OK : Fld := ⟨.FT_STG_CTL, 16, 1⟩
/-- FT_STG_CTL.REPLACE. -/
abbrev FT_STG_CTL_REPLACE : Fld := ⟨.FT_STG_CTL, 17, 1⟩
/-- FT_STG_CTL.CANCEL. -/
abbrev FT_STG_CTL_CANCEL : Fld := ⟨.FT_STG_CTL, 18, 1⟩
/-- FT_STG_CTL.COMMIT. -/
abbrev FT_STG_CTL_COMMIT : Fld := ⟨.FT_STG_CTL, 31, 1⟩
/-- FT_STG_STATUS.RESULT. -/
abbrev FT_STG_STATUS_RESULT : Fld := ⟨.FT_STG_STATUS, 0, 4⟩
/-- FT_STG_STATUS.SLOT. -/
abbrev FT_STG_STATUS_SLOT : Fld := ⟨.FT_STG_STATUS, 8, 8⟩
/-- FT_STG_STATUS.VALID. -/
abbrev FT_STG_STATUS_VALID : Fld := ⟨.FT_STG_STATUS, 31, 1⟩
/-- FT_EVENT.DEFERRED. -/
abbrev FT_EVENT_DEFERRED : Fld := ⟨.FT_EVENT, 0, 1⟩
/-- FT_EVENT.LATE_FIRE. -/
abbrev FT_EVENT_LATE_FIRE : Fld := ⟨.FT_EVENT, 1, 1⟩
/-- FT_EVENT.FAILED. -/
abbrev FT_EVENT_FAILED : Fld := ⟨.FT_EVENT, 2, 1⟩
/-- FT_EVENT.HOLDOVER_ENTER. -/
abbrev FT_EVENT_HOLDOVER_ENTER : Fld := ⟨.FT_EVENT, 3, 1⟩
/-- FT_EVENT.LOCK. -/
abbrev FT_EVENT_LOCK : Fld := ⟨.FT_EVENT, 4, 1⟩
/-- FT_EVENT.REF_SEEN_JUMP. -/
abbrev FT_EVENT_REF_SEEN_JUMP : Fld := ⟨.FT_EVENT, 5, 1⟩
/-- FT_STK_TIME.TIME. -/
abbrev FT_STK_TIME_TIME : Fld := ⟨.FT_STK_TIME, 0, 64⟩
/-- FT_STK_ARG.ARG. -/
abbrev FT_STK_ARG_ARG : Fld := ⟨.FT_STK_ARG, 0, 64⟩
/-- FT_STK_STATE.STATE. -/
abbrev FT_STK_STATE_STATE : Fld := ⟨.FT_STK_STATE, 0, 3⟩
/-- FT_STK_STATE.ACTION. -/
abbrev FT_STK_STATE_ACTION : Fld := ⟨.FT_STK_STATE, 8, 8⟩
/-- FT_STK_STATE.ORIGIN. -/
abbrev FT_STK_STATE_ORIGIN : Fld := ⟨.FT_STK_STATE, 16, 8⟩
/-- FT_STK_STATE.RESULT. -/
abbrev FT_STK_STATE_RESULT : Fld := ⟨.FT_STK_STATE, 24, 8⟩
/-- FT_STK_FIRED.FIRED. -/
abbrev FT_STK_FIRED_FIRED : Fld := ⟨.FT_STK_FIRED, 0, 64⟩
/-- FT_TRACE_CTL.EN. -/
abbrev FT_TRACE_CTL_EN : Fld := ⟨.FT_TRACE_CTL, 0, 1⟩
/-- FT_TRACE_CTL.SPACE. -/
abbrev FT_TRACE_CTL_SPACE : Fld := ⟨.FT_TRACE_CTL, 1, 1⟩
/-- FT_TRACE_CTL.SIZE. -/
abbrev FT_TRACE_CTL_SIZE : Fld := ⟨.FT_TRACE_CTL, 2, 5⟩
/-- FT_TRACE_BASE.BASE. -/
abbrev FT_TRACE_BASE_BASE : Fld := ⟨.FT_TRACE_BASE, 0, 64⟩
/-- FT_TRACE_HEAD.HEAD. -/
abbrev FT_TRACE_HEAD_HEAD : Fld := ⟨.FT_TRACE_HEAD, 0, 26⟩
/-- FT_TRACE_TAIL.TAIL. -/
abbrev FT_TRACE_TAIL_TAIL : Fld := ⟨.FT_TRACE_TAIL, 0, 26⟩
/-- FT_TRACE_STATUS.OVERWRITES. -/
abbrev FT_TRACE_STATUS_OVERWRITES : Fld := ⟨.FT_TRACE_STATUS, 0, 32⟩
/-- FT_TRACE_STATUS.LOST. -/
abbrev FT_TRACE_STATUS_LOST : Fld := ⟨.FT_TRACE_STATUS, 32, 32⟩
/-- TM_STATUS.CLEARING. -/
abbrev TM_STATUS_CLEARING : Fld := ⟨.TM_STATUS, 0, 1⟩
/-- TM_STATUS.CLEAR_DONE. -/
abbrev TM_STATUS_CLEAR_DONE : Fld := ⟨.TM_STATUS, 1, 1⟩
/-- TM_STATUS.MERGE_BUSY. -/
abbrev TM_STATUS_MERGE_BUSY : Fld := ⟨.TM_STATUS, 2, 1⟩
/-- TM_CFG.MERGE_EN. -/
abbrev TM_CFG_MERGE_EN : Fld := ⟨.TM_CFG, 0, 6⟩
/-- TMX_CNT_CTL.FREEZE. -/
abbrev TMX_CNT_CTL_FREEZE : Fld := ⟨.TMX_CNT_CTL, 0, 1⟩
/-- TMX_CNT_CTL.CLEAR. -/
abbrev TMX_CNT_CTL_CLEAR : Fld := ⟨.TMX_CNT_CTL, 1, 1⟩
/-- TMX_HOT_CFG.EN. -/
abbrev TMX_HOT_CFG_EN : Fld := ⟨.TMX_HOT_CFG, 0, 1⟩
/-- TMX_HOT_CFG.PERIOD. -/
abbrev TMX_HOT_CFG_PERIOD : Fld := ⟨.TMX_HOT_CFG, 1, 5⟩
/-- TMX_HOT_CFG.PENDING. -/
abbrev TMX_HOT_CFG_PENDING : Fld := ⟨.TMX_HOT_CFG, 31, 1⟩
/-- TMX_HOT_HEAD.NEXT. -/
abbrev TMX_HOT_HEAD_NEXT : Fld := ⟨.TMX_HOT_HEAD, 0, 3⟩
/-- TMX_HOT_HEAD.WRAPS. -/
abbrev TMX_HOT_HEAD_WRAPS : Fld := ⟨.TMX_HOT_HEAD, 16, 16⟩
/-- TMX_HOT_RING_FT.FT. -/
abbrev TMX_HOT_RING_FT_FT : Fld := ⟨.TMX_HOT_RING_FT, 0, 64⟩
/-- TMX_HOT_RING.BANK. -/
abbrev TMX_HOT_RING_BANK : Fld := ⟨.TMX_HOT_RING, 0, 6⟩
/-- TMX_HOT_RING.LOST. -/
abbrev TMX_HOT_RING_LOST : Fld := ⟨.TMX_HOT_RING, 8, 24⟩
/-- TMX_HOT_RING.PORTS. -/
abbrev TMX_HOT_RING_PORTS : Fld := ⟨.TMX_HOT_RING, 32, 9⟩
/-- TMX_HOT_RING.VALID. -/
abbrev TMX_HOT_RING_VALID : Fld := ⟨.TMX_HOT_RING, 63, 1⟩
/-- TMX_PORT_LOST.COUNT. -/
abbrev TMX_PORT_LOST_COUNT : Fld := ⟨.TMX_PORT_LOST, 0, 40⟩
/-- TMX_PORT_CONF.COUNT. -/
abbrev TMX_PORT_CONF_COUNT : Fld := ⟨.TMX_PORT_CONF, 0, 40⟩
/-- TMX_MRG_RMW.COUNT. -/
abbrev TMX_MRG_RMW_COUNT : Fld := ⟨.TMX_MRG_RMW, 0, 40⟩
/-- TMX_MRG_FWD.COUNT. -/
abbrev TMX_MRG_FWD_COUNT : Fld := ⟨.TMX_MRG_FWD, 0, 40⟩
/-- TMX_MRG_DROP.COUNT. -/
abbrev TMX_MRG_DROP_COUNT : Fld := ⟨.TMX_MRG_DROP, 0, 40⟩
/-- WN_RANGE.BASE. -/
abbrev WN_RANGE_BASE : Fld := ⟨.WN_RANGE, 0, 16⟩
/-- WN_RANGE.LIMIT. -/
abbrev WN_RANGE_LIMIT : Fld := ⟨.WN_RANGE, 16, 16⟩
/-- WN_SRC.DIE_LOCAL. -/
abbrev WN_SRC_DIE_LOCAL : Fld := ⟨.WN_SRC, 0, 8⟩
/-- WN_SRC.DIE_OTHER. -/
abbrev WN_SRC_DIE_OTHER : Fld := ⟨.WN_SRC, 8, 8⟩
/-- WN_SRC.HOST_VI. -/
abbrev WN_SRC_HOST_VI : Fld := ⟨.WN_SRC, 16, 6⟩
/-- WN_SRC.HOST_EN. -/
abbrev WN_SRC_HOST_EN : Fld := ⟨.WN_SRC, 22, 1⟩
/-- WN_SRC.HERD_LO. -/
abbrev WN_SRC_HERD_LO : Fld := ⟨.WN_SRC, 24, 12⟩
/-- WN_SRC.HERD_HI. -/
abbrev WN_SRC_HERD_HI : Fld := ⟨.WN_SRC, 36, 12⟩
/-- WN_SRC.HERD_EN. -/
abbrev WN_SRC_HERD_EN : Fld := ⟨.WN_SRC, 48, 1⟩
/-- WN_CTL.OPEN. -/
abbrev WN_CTL_OPEN : Fld := ⟨.WN_CTL, 0, 1⟩
/-- WN_CTL.RD. -/
abbrev WN_CTL_RD : Fld := ⟨.WN_CTL, 1, 1⟩
/-- WN_CTL.WR. -/
abbrev WN_CTL_WR : Fld := ⟨.WN_CTL, 2, 1⟩
/-- WN_CTL.CNT_EN. -/
abbrev WN_CTL_CNT_EN : Fld := ⟨.WN_CTL, 3, 1⟩
/-- WN_CTL.CNT_MODE. -/
abbrev WN_CTL_CNT_MODE : Fld := ⟨.WN_CTL, 4, 1⟩
/-- WN_CTL.CNT. -/
abbrev WN_CTL_CNT : Fld := ⟨.WN_CTL, 5, 8⟩
/-- WN_CTL.OWNER_VI. -/
abbrev WN_CTL_OWNER_VI : Fld := ⟨.WN_CTL, 16, 6⟩
/-- WN_CTL.INFLIGHT. -/
abbrev WN_CTL_INFLIGHT : Fld := ⟨.WN_CTL, 31, 1⟩
/-- WN_CNT.VALUE. -/
abbrev WN_CNT_VALUE : Fld := ⟨.WN_CNT, 0, 32⟩
/-- WN_CNT_SUB.AMOUNT. -/
abbrev WN_CNT_SUB_AMOUNT : Fld := ⟨.WN_CNT_SUB, 0, 32⟩
/-- WN_STATUS.CNT_UE. -/
abbrev WN_STATUS_CNT_UE : Fld := ⟨.WN_STATUS, 0, 1⟩
/-- WN_STATUS.CNT_UE_IDX. -/
abbrev WN_STATUS_CNT_UE_IDX : Fld := ⟨.WN_STATUS, 8, 8⟩
/-- WN_REFUSE_CNT.COUNT. -/
abbrev WN_REFUSE_CNT_COUNT : Fld := ⟨.WN_REFUSE_CNT, 0, 32⟩
/-- WN_REFUSE_FT.FT. -/
abbrev WN_REFUSE_FT_FT : Fld := ⟨.WN_REFUSE_FT, 0, 64⟩
/-- WN_REFUSE.SOURCE. -/
abbrev WN_REFUSE_SOURCE : Fld := ⟨.WN_REFUSE, 0, 16⟩
/-- WN_REFUSE.WRITE. -/
abbrev WN_REFUSE_WRITE : Fld := ⟨.WN_REFUSE, 16, 1⟩
/-- WN_REFUSE.REASON. -/
abbrev WN_REFUSE_REASON : Fld := ⟨.WN_REFUSE, 17, 3⟩
/-- WN_REFUSE.VALID. -/
abbrev WN_REFUSE_VALID : Fld := ⟨.WN_REFUSE, 63, 1⟩
/-- WN_REFUSE_OFF.OFF. -/
abbrev WN_REFUSE_OFF_OFF : Fld := ⟨.WN_REFUSE_OFF, 0, 64⟩
/-- WN_REFUSE_LEN.LEN. -/
abbrev WN_REFUSE_LEN_LEN : Fld := ⟨.WN_REFUSE_LEN, 0, 64⟩
/-- WN_HW_RANGE.BASE. -/
abbrev WN_HW_RANGE_BASE : Fld := ⟨.WN_HW_RANGE, 0, 22⟩
/-- WN_HW_RANGE.LIMIT. -/
abbrev WN_HW_RANGE_LIMIT : Fld := ⟨.WN_HW_RANGE, 32, 22⟩
/-- WN_HW_SRC.HERD_LO. -/
abbrev WN_HW_SRC_HERD_LO : Fld := ⟨.WN_HW_SRC, 0, 12⟩
/-- WN_HW_SRC.HERD_HI. -/
abbrev WN_HW_SRC_HERD_HI : Fld := ⟨.WN_HW_SRC, 12, 12⟩
/-- WN_HW_SRC.INFLIGHT. -/
abbrev WN_HW_SRC_INFLIGHT : Fld := ⟨.WN_HW_SRC, 31, 1⟩
/-- WN_HW_CTL.OPEN. -/
abbrev WN_HW_CTL_OPEN : Fld := ⟨.WN_HW_CTL, 0, 1⟩
/-- WN_HW_CTL.RD. -/
abbrev WN_HW_CTL_RD : Fld := ⟨.WN_HW_CTL, 1, 1⟩
/-- WN_HW_CTL.WR. -/
abbrev WN_HW_CTL_WR : Fld := ⟨.WN_HW_CTL, 2, 1⟩
/-- WN_HW_CTL.CNT_EN. -/
abbrev WN_HW_CTL_CNT_EN : Fld := ⟨.WN_HW_CTL, 3, 1⟩
/-- WN_HW_CTL.CNT_MODE. -/
abbrev WN_HW_CTL_CNT_MODE : Fld := ⟨.WN_HW_CTL, 4, 1⟩
/-- WN_HW_CTL.CNT. -/
abbrev WN_HW_CTL_CNT : Fld := ⟨.WN_HW_CTL, 5, 8⟩
/-- WN_HW_CTL.CNT_CLUSTER. -/
abbrev WN_HW_CTL_CNT_CLUSTER : Fld := ⟨.WN_HW_CTL, 13, 4⟩
/-- WN_HW_CTL.PLOT. -/
abbrev WN_HW_CTL_PLOT : Fld := ⟨.WN_HW_CTL, 17, 9⟩
/-- WN_HW_CTL.OWNER_VI. -/
abbrev WN_HW_CTL_OWNER_VI : Fld := ⟨.WN_HW_CTL, 26, 6⟩
/-- WN_HW_REFUSE_FT.FT. -/
abbrev WN_HW_REFUSE_FT_FT : Fld := ⟨.WN_HW_REFUSE_FT, 0, 64⟩
/-- WN_HW_REFUSE.SOURCE. -/
abbrev WN_HW_REFUSE_SOURCE : Fld := ⟨.WN_HW_REFUSE, 0, 16⟩
/-- WN_HW_REFUSE.WRITE. -/
abbrev WN_HW_REFUSE_WRITE : Fld := ⟨.WN_HW_REFUSE, 16, 1⟩
/-- WN_HW_REFUSE.REASON. -/
abbrev WN_HW_REFUSE_REASON : Fld := ⟨.WN_HW_REFUSE, 17, 3⟩
/-- WN_HW_REFUSE.VALID. -/
abbrev WN_HW_REFUSE_VALID : Fld := ⟨.WN_HW_REFUSE, 63, 1⟩
/-- WN_HW_REFUSE_ADDR.ADDR. -/
abbrev WN_HW_REFUSE_ADDR_ADDR : Fld := ⟨.WN_HW_REFUSE_ADDR, 0, 64⟩
/-- WN_HW_REFUSE_LEN.LEN. -/
abbrev WN_HW_REFUSE_LEN_LEN : Fld := ⟨.WN_HW_REFUSE_LEN, 0, 64⟩
/-- LK_FORCE.WORD. -/
abbrev LK_FORCE_WORD : Fld := ⟨.LK_FORCE, 0, 12⟩
/-- LK_FORCE.GO. -/
abbrev LK_FORCE_GO : Fld := ⟨.LK_FORCE, 31, 1⟩
/-- LK_EVENT.FAULTED. -/
abbrev LK_EVENT_FAULTED : Fld := ⟨.LK_EVENT, 0, 1⟩
/-- LK_EVENT.RESET_RELEASE. -/
abbrev LK_EVENT_RESET_RELEASE : Fld := ⟨.LK_EVENT, 1, 1⟩
/-- LK_EVENT.ORPHAN_GRANTS. -/
abbrev LK_EVENT_ORPHAN_GRANTS : Fld := ⟨.LK_EVENT, 16, 16⟩
/-- LK_PART.VI. -/
abbrev LK_PART_VI : Fld := ⟨.LK_PART, 0, 6⟩
/-- LK_PART.EN. -/
abbrev LK_PART_EN : Fld := ⟨.LK_PART, 6, 1⟩
/-- LK_WORD.HELD. -/
abbrev LK_WORD_HELD : Fld := ⟨.LK_WORD, 0, 1⟩
/-- LK_WORD.ORPHANED. -/
abbrev LK_WORD_ORPHANED : Fld := ⟨.LK_WORD, 1, 1⟩
/-- LK_WORD.FAULTED. -/
abbrev LK_WORD_FAULTED : Fld := ⟨.LK_WORD, 2, 1⟩
/-- LK_WORD.HERD. -/
abbrev LK_WORD_HERD : Fld := ⟨.LK_WORD, 8, 12⟩
/-- LK_WORD.VI. -/
abbrev LK_WORD_VI : Fld := ⟨.LK_WORD, 20, 6⟩
/-- LK_WORD.CORE. -/
abbrev LK_WORD_CORE : Fld := ⟨.LK_WORD, 26, 5⟩
/-- LK_WORD.CONTEXT. -/
abbrev LK_WORD_CONTEXT : Fld := ⟨.LK_WORD, 32, 4⟩
/-- IN_ECNT.COUNT. -/
abbrev IN_ECNT_COUNT : Fld := ⟨.IN_ECNT, 0, 32⟩
/-- IN_BITE.COUNT. -/
abbrev IN_BITE_COUNT : Fld := ⟨.IN_BITE, 0, 32⟩
/-- IN_ECNT_CLR.CLEAR. -/
abbrev IN_ECNT_CLR_CLEAR : Fld := ⟨.IN_ECNT_CLR, 0, 1⟩
/-- IN_UE_LOG_FT.FT. -/
abbrev IN_UE_LOG_FT_FT : Fld := ⟨.IN_UE_LOG_FT, 0, 64⟩
/-- IN_UE_LOG_ADDR.ADDR. -/
abbrev IN_UE_LOG_ADDR_ADDR : Fld := ⟨.IN_UE_LOG_ADDR, 0, 64⟩
/-- IN_UE_LOG_TAG.TAG. -/
abbrev IN_UE_LOG_TAG_TAG : Fld := ⟨.IN_UE_LOG_TAG, 0, 32⟩
/-- IN_UE_LOG_TAG.VALID. -/
abbrev IN_UE_LOG_TAG_VALID : Fld := ⟨.IN_UE_LOG_TAG, 63, 1⟩
/-- IN_UE_HEAD.NEXT. -/
abbrev IN_UE_HEAD_NEXT : Fld := ⟨.IN_UE_HEAD, 0, 4⟩
/-- IN_UE_HEAD.WRAPS. -/
abbrev IN_UE_HEAD_WRAPS : Fld := ⟨.IN_UE_HEAD, 16, 16⟩
/-- IN_SCRUB_BASE.BASE. -/
abbrev IN_SCRUB_BASE_BASE : Fld := ⟨.IN_SCRUB_BASE, 0, 24⟩
/-- IN_SCRUB_LIMIT.LIMIT. -/
abbrev IN_SCRUB_LIMIT_LIMIT : Fld := ⟨.IN_SCRUB_LIMIT, 0, 24⟩
/-- IN_SCRUB_CTL.KIND. -/
abbrev IN_SCRUB_CTL_KIND : Fld := ⟨.IN_SCRUB_CTL, 0, 2⟩
/-- IN_SCRUB_CTL.UNIT. -/
abbrev IN_SCRUB_CTL_UNIT : Fld := ⟨.IN_SCRUB_CTL, 2, 9⟩
/-- IN_SCRUB_CTL.MODE. -/
abbrev IN_SCRUB_CTL_MODE : Fld := ⟨.IN_SCRUB_CTL, 11, 1⟩
/-- IN_SCRUB_CTL.ROWLEN. -/
abbrev IN_SCRUB_CTL_ROWLEN : Fld := ⟨.IN_SCRUB_CTL, 12, 11⟩
/-- IN_SCRUB_CTL.PACE. -/
abbrev IN_SCRUB_CTL_PACE : Fld := ⟨.IN_SCRUB_CTL, 23, 8⟩
/-- IN_SCRUB_CTL.RUNNING. -/
abbrev IN_SCRUB_CTL_RUNNING : Fld := ⟨.IN_SCRUB_CTL, 31, 1⟩
/-- IN_SCRUB_CTL.DONE. -/
abbrev IN_SCRUB_CTL_DONE : Fld := ⟨.IN_SCRUB_CTL, 32, 1⟩
/-- IN_SCRUB_CTL.GO. -/
abbrev IN_SCRUB_CTL_GO : Fld := ⟨.IN_SCRUB_CTL, 33, 1⟩
/-- IN_SCRUB_CTL.STOP. -/
abbrev IN_SCRUB_CTL_STOP : Fld := ⟨.IN_SCRUB_CTL, 34, 1⟩
/-- IN_SCRUB_SUM.WORD. -/
abbrev IN_SCRUB_SUM_WORD : Fld := ⟨.IN_SCRUB_SUM, 0, 64⟩
/-- IN_DIAG.EN. -/
abbrev IN_DIAG_EN : Fld := ⟨.IN_DIAG, 0, 1⟩
/-- IN_DIAG.GO. -/
abbrev IN_DIAG_GO : Fld := ⟨.IN_DIAG, 1, 1⟩
/-- IN_DIAG.RESULT. -/
abbrev IN_DIAG_RESULT : Fld := ⟨.IN_DIAG, 2, 4⟩
/-- IN_DIAG_ADDR.KIND. -/
abbrev IN_DIAG_ADDR_KIND : Fld := ⟨.IN_DIAG_ADDR, 0, 2⟩
/-- IN_DIAG_ADDR.UNIT. -/
abbrev IN_DIAG_ADDR_UNIT : Fld := ⟨.IN_DIAG_ADDR, 2, 9⟩
/-- IN_DIAG_ADDR.ADDRESS. -/
abbrev IN_DIAG_ADDR_ADDRESS : Fld := ⟨.IN_DIAG_ADDR, 16, 32⟩
/-- IN_DIAG_CHK.CHK. -/
abbrev IN_DIAG_CHK_CHK : Fld := ⟨.IN_DIAG_CHK, 0, 32⟩
/-- IN_DIAG_DATA.DATA. -/
abbrev IN_DIAG_DATA_DATA : Fld := ⟨.IN_DIAG_DATA, 0, 32⟩
/-- IN_REPAIR.KIND. -/
abbrev IN_REPAIR_KIND : Fld := ⟨.IN_REPAIR, 0, 2⟩
/-- IN_REPAIR.UNIT. -/
abbrev IN_REPAIR_UNIT : Fld := ⟨.IN_REPAIR, 2, 9⟩
/-- IN_REPAIR.BANK. -/
abbrev IN_REPAIR_BANK : Fld := ⟨.IN_REPAIR, 11, 6⟩
/-- IN_REPAIR.HBANK. -/
abbrev IN_REPAIR_HBANK : Fld := ⟨.IN_REPAIR, 17, 6⟩
/-- IN_REPAIR.ROW. -/
abbrev IN_REPAIR_ROW : Fld := ⟨.IN_REPAIR, 23, 14⟩
/-- IN_REPAIR.SPARE. -/
abbrev IN_REPAIR_SPARE : Fld := ⟨.IN_REPAIR, 37, 4⟩
/-- IN_REPAIR.GO. -/
abbrev IN_REPAIR_GO : Fld := ⟨.IN_REPAIR, 41, 1⟩
/-- IN_REPAIR.RESULT. -/
abbrev IN_REPAIR_RESULT : Fld := ⟨.IN_REPAIR, 42, 4⟩
/-- IN_ST_STATUS.PASS. -/
abbrev IN_ST_STATUS_PASS : Fld := ⟨.IN_ST_STATUS, 0, 1⟩
/-- IN_ST_STATUS.CLUSTER_FAIL. -/
abbrev IN_ST_STATUS_CLUSTER_FAIL : Fld := ⟨.IN_ST_STATUS, 1, 18⟩
/-- IN_ST_STATUS.LC_FAIL. -/
abbrev IN_ST_STATUS_LC_FAIL : Fld := ⟨.IN_ST_STATUS, 19, 32⟩
/-- IN_ST_STATUS.STACK_FAIL. -/
abbrev IN_ST_STATUS_STACK_FAIL : Fld := ⟨.IN_ST_STATUS, 51, 4⟩
/-- PL_CTL.ENABLE. -/
abbrev PL_CTL_ENABLE : Fld := ⟨.PL_CTL, 0, 1⟩
/-- PL_CTL.LAYOUT. -/
abbrev PL_CTL_LAYOUT : Fld := ⟨.PL_CTL, 1, 1⟩
/-- PL_CTL.PROT. -/
abbrev PL_CTL_PROT : Fld := ⟨.PL_CTL, 2, 1⟩
/-- PL_CTL.TAGGED. -/
abbrev PL_CTL_TAGGED : Fld := ⟨.PL_CTL, 3, 1⟩
/-- PL_CTL.OWNER_VI. -/
abbrev PL_CTL_OWNER_VI : Fld := ⟨.PL_CTL, 4, 6⟩
/-- PL_TAG.TSET. -/
abbrev PL_TAG_TSET : Fld := ⟨.PL_TAG, 0, 8⟩
/-- PL_TAG.GEN. -/
abbrev PL_TAG_GEN : Fld := ⟨.PL_TAG, 8, 16⟩
/-- PL_STATUS.STATE. -/
abbrev PL_STATUS_STATE : Fld := ⟨.PL_STATUS, 0, 2⟩
/-- PL_STATUS.INFLIGHT. -/
abbrev PL_STATUS_INFLIGHT : Fld := ⟨.PL_STATUS, 2, 1⟩
/-- PL_STATUS.RETIRED. -/
abbrev PL_STATUS_RETIRED : Fld := ⟨.PL_STATUS, 3, 1⟩
/-- PL_STATUS.FILLED. -/
abbrev PL_STATUS_FILLED : Fld := ⟨.PL_STATUS, 4, 1⟩
/-- PL_STATUS.FILL_ROW. -/
abbrev PL_STATUS_FILL_ROW : Fld := ⟨.PL_STATUS, 16, 14⟩
/-- PL_FILL.PLOT. -/
abbrev PL_FILL_PLOT : Fld := ⟨.PL_FILL, 0, 6⟩
/-- PL_FILL.PATTERN. -/
abbrev PL_FILL_PATTERN : Fld := ⟨.PL_FILL, 6, 1⟩
/-- PL_FILL.CLASS. -/
abbrev PL_FILL_CLASS : Fld := ⟨.PL_FILL, 7, 2⟩
/-- PL_FILL.RESULT. -/
abbrev PL_FILL_RESULT : Fld := ⟨.PL_FILL, 12, 3⟩
/-- PL_FILL.GO. -/
abbrev PL_FILL_GO : Fld := ⟨.PL_FILL, 31, 1⟩
/-- PL_FILL_RANGE.BASE. -/
abbrev PL_FILL_RANGE_BASE : Fld := ⟨.PL_FILL_RANGE, 0, 22⟩
/-- PL_FILL_RANGE.LIMIT. -/
abbrev PL_FILL_RANGE_LIMIT : Fld := ⟨.PL_FILL_RANGE, 32, 22⟩
/-- PL_THERM.TEMP. -/
abbrev PL_THERM_TEMP : Fld := ⟨.PL_THERM, 0, 8⟩
/-- PL_THERM.RATE2X. -/
abbrev PL_THERM_RATE2X : Fld := ⟨.PL_THERM, 8, 1⟩
/-- PL_RFM.THRESH. -/
abbrev PL_RFM_THRESH : Fld := ⟨.PL_RFM, 0, 14⟩
/-- PL_PT_ROOT.ROOT. -/
abbrev PL_PT_ROOT_ROOT : Fld := ⟨.PL_PT_ROOT, 12, 36⟩
/-- PL_TLB_INV.VI. -/
abbrev PL_TLB_INV_VI : Fld := ⟨.PL_TLB_INV, 0, 6⟩
/-- PL_TLB_INV.ALL. -/
abbrev PL_TLB_INV_ALL : Fld := ⟨.PL_TLB_INV, 6, 1⟩
/-- PL_TLB_INV.GO. -/
abbrev PL_TLB_INV_GO : Fld := ⟨.PL_TLB_INV, 7, 1⟩
/-- PL_TLB_INV.START. -/
abbrev PL_TLB_INV_START : Fld := ⟨.PL_TLB_INV, 16, 48⟩
/-- PL_TLB_INV_CNT.COUNT. -/
abbrev PL_TLB_INV_CNT_COUNT : Fld := ⟨.PL_TLB_INV_CNT, 0, 32⟩
/-- PL_PRI_CFG.TIMEOUT. -/
abbrev PL_PRI_CFG_TIMEOUT : Fld := ⟨.PL_PRI_CFG, 0, 16⟩
/-- PL_FAULT_FT.FT. -/
abbrev PL_FAULT_FT_FT : Fld := ⟨.PL_FAULT_FT, 0, 64⟩
/-- PL_FAULT_ADDR.ADDR. -/
abbrev PL_FAULT_ADDR_ADDR : Fld := ⟨.PL_FAULT_ADDR, 0, 64⟩
/-- PL_FAULT_INFO.REASON. -/
abbrev PL_FAULT_INFO_REASON : Fld := ⟨.PL_FAULT_INFO, 0, 4⟩
/-- PL_FAULT_INFO.VI. -/
abbrev PL_FAULT_INFO_VI : Fld := ⟨.PL_FAULT_INFO, 4, 6⟩
/-- PL_FAULT_INFO.WRITE. -/
abbrev PL_FAULT_INFO_WRITE : Fld := ⟨.PL_FAULT_INFO, 10, 1⟩
/-- PL_FAULT_INFO.PHYS. -/
abbrev PL_FAULT_INFO_PHYS : Fld := ⟨.PL_FAULT_INFO, 11, 1⟩
/-- PL_FAULT_INFO.VALID. -/
abbrev PL_FAULT_INFO_VALID : Fld := ⟨.PL_FAULT_INFO, 63, 1⟩
/-- PL_FAULT_HEAD.NEXT. -/
abbrev PL_FAULT_HEAD_NEXT : Fld := ⟨.PL_FAULT_HEAD, 0, 4⟩
/-- PL_FAULT_HEAD.WRAPS. -/
abbrev PL_FAULT_HEAD_WRAPS : Fld := ⟨.PL_FAULT_HEAD, 16, 16⟩
/-- MU_READY.READY. -/
abbrev MU_READY_READY : Fld := ⟨.MU_READY, 0, 64⟩
/-- MU_THERM.LEVEL. -/
abbrev MU_THERM_LEVEL : Fld := ⟨.MU_THERM, 0, 2⟩
/-- MU_THERM.STOPS. -/
abbrev MU_THERM_STOPS : Fld := ⟨.MU_THERM, 16, 16⟩
/-- MU_HOLD.LIMIT. -/
abbrev MU_HOLD_LIMIT : Fld := ⟨.MU_HOLD, 0, 10⟩
/-- MU_HOLD.PENDING. -/
abbrev MU_HOLD_PENDING : Fld := ⟨.MU_HOLD, 31, 1⟩
/-- MU_HOLD_EXP.COUNT. -/
abbrev MU_HOLD_EXP_COUNT : Fld := ⟨.MU_HOLD_EXP, 0, 64⟩
/-- MU_BUDGET_NS.NS. -/
abbrev MU_BUDGET_NS_NS : Fld := ⟨.MU_BUDGET_NS, 0, 64⟩
/-- MU_SUSPECT.ROW. -/
abbrev MU_SUSPECT_ROW : Fld := ⟨.MU_SUSPECT, 0, 14⟩
/-- MU_SUSPECT.BANK. -/
abbrev MU_SUSPECT_BANK : Fld := ⟨.MU_SUSPECT, 14, 6⟩
/-- MU_SUSPECT.ALLBANK. -/
abbrev MU_SUSPECT_ALLBANK : Fld := ⟨.MU_SUSPECT, 20, 1⟩
/-- MU_SUSPECT.STATUS. -/
abbrev MU_SUSPECT_STATUS : Fld := ⟨.MU_SUSPECT, 21, 8⟩
/-- MU_SUSPECT.VALID. -/
abbrev MU_SUSPECT_VALID : Fld := ⟨.MU_SUSPECT, 31, 1⟩
/-- MU_CH.MODE. -/
abbrev MU_CH_MODE : Fld := ⟨.MU_CH, 0, 2⟩
/-- MU_CH.WINDOW. -/
abbrev MU_CH_WINDOW : Fld := ⟨.MU_CH, 2, 8⟩
/-- MU_CH.BANK. -/
abbrev MU_CH_BANK : Fld := ⟨.MU_CH, 10, 6⟩
/-- MU_CH.ROWS. -/
abbrev MU_CH_ROWS : Fld := ⟨.MU_CH, 16, 13⟩
/-- MU_CH.QUEUED. -/
abbrev MU_CH_QUEUED : Fld := ⟨.MU_CH, 32, 5⟩
/-- MU_CH.HELD. -/
abbrev MU_CH_HELD : Fld := ⟨.MU_CH, 37, 8⟩
/-- MU_STAT_FT.FT. -/
abbrev MU_STAT_FT_FT : Fld := ⟨.MU_STAT_FT, 0, 64⟩
/-- MU_STAT.STATUS. -/
abbrev MU_STAT_STATUS : Fld := ⟨.MU_STAT, 0, 8⟩
/-- MU_STAT.OP. -/
abbrev MU_STAT_OP : Fld := ⟨.MU_STAT, 8, 8⟩
/-- MU_STAT.PC. -/
abbrev MU_STAT_PC : Fld := ⟨.MU_STAT, 16, 6⟩
/-- MU_STAT.WINDOW. -/
abbrev MU_STAT_WINDOW : Fld := ⟨.MU_STAT, 22, 8⟩
/-- MU_STAT.TAG. -/
abbrev MU_STAT_TAG : Fld := ⟨.MU_STAT, 32, 16⟩
/-- MU_STAT.ROWS. -/
abbrev MU_STAT_ROWS : Fld := ⟨.MU_STAT, 48, 9⟩
/-- MU_STAT.VALID. -/
abbrev MU_STAT_VALID : Fld := ⟨.MU_STAT, 63, 1⟩
/-- MU_STAT_HEAD.NEXT. -/
abbrev MU_STAT_HEAD_NEXT : Fld := ⟨.MU_STAT_HEAD, 0, 5⟩
/-- MU_STAT_HEAD.WRAPS. -/
abbrev MU_STAT_HEAD_WRAPS : Fld := ⟨.MU_STAT_HEAD, 16, 16⟩
/-- MU_CMD.DESC. -/
abbrev MU_CMD_DESC : Fld := ⟨.MU_CMD, 0, 64⟩
/-- MU_CMD_GO.GO. -/
abbrev MU_CMD_GO_GO : Fld := ⟨.MU_CMD_GO, 0, 1⟩
/-- MU_CMD_GO.RESULT. -/
abbrev MU_CMD_GO_RESULT : Fld := ⟨.MU_CMD_GO, 8, 8⟩
/-- MU_WIN_CMD.WINDOW. -/
abbrev MU_WIN_CMD_WINDOW : Fld := ⟨.MU_WIN_CMD, 0, 8⟩
/-- MU_WIN_CMD.CLOSE. -/
abbrev MU_WIN_CMD_CLOSE : Fld := ⟨.MU_WIN_CMD, 8, 1⟩
/-- MU_WIN_CMD.RESULT. -/
abbrev MU_WIN_CMD_RESULT : Fld := ⟨.MU_WIN_CMD, 16, 8⟩
/-- MU_WIN_CMD.GO. -/
abbrev MU_WIN_CMD_GO : Fld := ⟨.MU_WIN_CMD, 31, 1⟩
/-- MU_WIN_CTL.STACK. -/
abbrev MU_WIN_CTL_STACK : Fld := ⟨.MU_WIN_CTL, 0, 3⟩
/-- MU_WIN_CTL.BANK. -/
abbrev MU_WIN_CTL_BANK : Fld := ⟨.MU_WIN_CTL, 3, 6⟩
/-- MU_WIN_CTL.OWNER_VI. -/
abbrev MU_WIN_CTL_OWNER_VI : Fld := ⟨.MU_WIN_CTL, 9, 6⟩
/-- MU_WIN_CTL.LIMIT. -/
abbrev MU_WIN_CTL_LIMIT : Fld := ⟨.MU_WIN_CTL, 15, 13⟩
/-- MU_WIN_CTL.STATE. -/
abbrev MU_WIN_CTL_STATE : Fld := ⟨.MU_WIN_CTL, 28, 2⟩
/-- MU_WIN_MASK.PCMASK. -/
abbrev MU_WIN_MASK_PCMASK : Fld := ⟨.MU_WIN_MASK, 0, 64⟩
/-- LC_PART.SLICES. -/
abbrev LC_PART_SLICES : Fld := ⟨.LC_PART, 0, 64⟩
/-- LC_PART_STATE.SWEEPING. -/
abbrev LC_PART_STATE_SWEEPING : Fld := ⟨.LC_PART_STATE, 0, 1⟩
/-- LC_PART_STATE.N. -/
abbrev LC_PART_STATE_N : Fld := ⟨.LC_PART_STATE, 8, 7⟩
/-- LC_OP.VI. -/
abbrev LC_OP_VI : Fld := ⟨.LC_OP, 0, 6⟩
/-- LC_OP.FLUSH. -/
abbrev LC_OP_FLUSH : Fld := ⟨.LC_OP, 6, 1⟩
/-- LC_OP.PARTITION. -/
abbrev LC_OP_PARTITION : Fld := ⟨.LC_OP, 7, 1⟩
/-- LC_OP.RESULT. -/
abbrev LC_OP_RESULT : Fld := ⟨.LC_OP, 8, 4⟩
/-- LC_OP.GO. -/
abbrev LC_OP_GO : Fld := ⟨.LC_OP, 31, 1⟩
/-- LC_OP_BASE.BASE. -/
abbrev LC_OP_BASE_BASE : Fld := ⟨.LC_OP_BASE, 0, 48⟩
/-- LC_OP_LEN.LEN. -/
abbrev LC_OP_LEN_LEN : Fld := ⟨.LC_OP_LEN, 0, 40⟩
/-- LC_SLICE_STATUS.IN_SERVICE. -/
abbrev LC_SLICE_STATUS_IN_SERVICE : Fld := ⟨.LC_SLICE_STATUS, 0, 1⟩
/-- LC_SLICE_STATUS.OWNER. -/
abbrev LC_SLICE_STATUS_OWNER : Fld := ⟨.LC_SLICE_STATUS, 1, 6⟩
/-- LC_SLICE_STATUS.OWNED. -/
abbrev LC_SLICE_STATUS_OWNED : Fld := ⟨.LC_SLICE_STATUS, 7, 1⟩
/-- LC_SLICE_STATUS.MSHR_BUSY. -/
abbrev LC_SLICE_STATUS_MSHR_BUSY : Fld := ⟨.LC_SLICE_STATUS, 8, 9⟩
/-- LC_SLICE_STATUS.INV_BUSY. -/
abbrev LC_SLICE_STATUS_INV_BUSY : Fld := ⟨.LC_SLICE_STATUS, 17, 6⟩
/-- LC_SLICE_CNT.COUNT. -/
abbrev LC_SLICE_CNT_COUNT : Fld := ⟨.LC_SLICE_CNT, 0, 48⟩
/-- LC_SLICE_CNT_WRAPS.WRAPS. -/
abbrev LC_SLICE_CNT_WRAPS_WRAPS : Fld := ⟨.LC_SLICE_CNT_WRAPS, 0, 16⟩
/-- LC_SLICE_CNT_WRAPS.OVF. -/
abbrev LC_SLICE_CNT_WRAPS_OVF : Fld := ⟨.LC_SLICE_CNT_WRAPS, 16, 1⟩
/-- LC_CNT_CTL.FREEZE. -/
abbrev LC_CNT_CTL_FREEZE : Fld := ⟨.LC_CNT_CTL, 0, 1⟩
/-- LC_CNT_CTL.CLEAR. -/
abbrev LC_CNT_CTL_CLEAR : Fld := ⟨.LC_CNT_CTL, 1, 1⟩
/-- TR_REQ.WEIGHT. -/
abbrev TR_REQ_WEIGHT : Fld := ⟨.TR_REQ, 0, 16⟩
/-- TR_REQ.CLASS_MAX. -/
abbrev TR_REQ_CLASS_MAX : Fld := ⟨.TR_REQ, 16, 2⟩
/-- TR_TROUGH.VALUE. -/
abbrev TR_TROUGH_VALUE : Fld := ⟨.TR_TROUGH, 0, 20⟩
/-- TR_TROUGH.REQ. -/
abbrev TR_TROUGH_REQ : Fld := ⟨.TR_TROUGH, 20, 1⟩
/-- TR_TROUGH.CLASS. -/
abbrev TR_TROUGH_CLASS : Fld := ⟨.TR_TROUGH, 21, 2⟩
/-- TR_TROUGH.HELD. -/
abbrev TR_TROUGH_HELD : Fld := ⟨.TR_TROUGH, 32, 7⟩
/-- TR_BEATS.COUNT. -/
abbrev TR_BEATS_COUNT : Fld := ⟨.TR_BEATS, 0, 48⟩
/-- TR_BEATS_WRAPS.WRAPS. -/
abbrev TR_BEATS_WRAPS_WRAPS : Fld := ⟨.TR_BEATS_WRAPS, 0, 16⟩
/-- TR_BEATS_WRAPS.OVF. -/
abbrev TR_BEATS_WRAPS_OVF : Fld := ⟨.TR_BEATS_WRAPS, 16, 1⟩
/-- TR_STATUS.PHASE. -/
abbrev TR_STATUS_PHASE : Fld := ⟨.TR_STATUS, 0, 12⟩
/-- TR_STATUS.PENDING. -/
abbrev TR_STATUS_PENDING : Fld := ⟨.TR_STATUS, 12, 1⟩
/-- TR_STATUS.TROUGH_ERR. -/
abbrev TR_STATUS_TROUGH_ERR : Fld := ⟨.TR_STATUS, 13, 1⟩
/-- TR_STATUS.GRANT_ERR. -/
abbrev TR_STATUS_GRANT_ERR : Fld := ⟨.TR_STATUS, 14, 1⟩
/-- TR_CNT.COUNT. -/
abbrev TR_CNT_COUNT : Fld := ⟨.TR_CNT, 0, 48⟩
/-- TR_CNT_CLR.CLEAR. -/
abbrev TR_CNT_CLR_CLEAR : Fld := ⟨.TR_CNT_CLR, 0, 1⟩
/-- TR_ABANDON_FT.FT. -/
abbrev TR_ABANDON_FT_FT : Fld := ⟨.TR_ABANDON_FT, 0, 64⟩
/-- TR_ABANDON.REQ. -/
abbrev TR_ABANDON_REQ : Fld := ⟨.TR_ABANDON, 0, 6⟩
/-- TR_ABANDON.POINT. -/
abbrev TR_ABANDON_POINT : Fld := ⟨.TR_ABANDON, 6, 6⟩
/-- TR_ABANDON.CAUSE. -/
abbrev TR_ABANDON_CAUSE : Fld := ⟨.TR_ABANDON, 12, 3⟩
/-- TR_ABANDON.BEATS. -/
abbrev TR_ABANDON_BEATS : Fld := ⟨.TR_ABANDON, 32, 24⟩
/-- TR_ABANDON.VALID. -/
abbrev TR_ABANDON_VALID : Fld := ⟨.TR_ABANDON, 63, 1⟩
/-- TR_ABANDON_HEAD.NEXT. -/
abbrev TR_ABANDON_HEAD_NEXT : Fld := ⟨.TR_ABANDON_HEAD, 0, 4⟩
/-- TR_ABANDON_HEAD.WRAPS. -/
abbrev TR_ABANDON_HEAD_WRAPS : Fld := ⟨.TR_ABANDON_HEAD, 16, 16⟩
/-- ST_CTX_CFG.VI. -/
abbrev ST_CTX_CFG_VI : Fld := ⟨.ST_CTX_CFG, 0, 6⟩
/-- ST_CTX_CFG.CLASS. -/
abbrev ST_CTX_CFG_CLASS : Fld := ⟨.ST_CTX_CFG, 6, 2⟩
/-- ST_CTX_CFG.POLICY. -/
abbrev ST_CTX_CFG_POLICY : Fld := ⟨.ST_CTX_CFG, 8, 2⟩
/-- ST_CTX_CFG.OVERLAP. -/
abbrev ST_CTX_CFG_OVERLAP : Fld := ⟨.ST_CTX_CFG, 10, 5⟩
/-- ST_CTX_CFG.HALT_SIG_EN. -/
abbrev ST_CTX_CFG_HALT_SIG_EN : Fld := ⟨.ST_CTX_CFG, 15, 1⟩
/-- ST_CTX_CFG.HALT_CNT. -/
abbrev ST_CTX_CFG_HALT_CNT : Fld := ⟨.ST_CTX_CFG, 16, 8⟩
/-- ST_CTX_CFG.CRUMB_EN. -/
abbrev ST_CTX_CFG_CRUMB_EN : Fld := ⟨.ST_CTX_CFG, 24, 1⟩
/-- ST_CTX_CFG.HALT_CLUSTER. -/
abbrev ST_CTX_CFG_HALT_CLUSTER : Fld := ⟨.ST_CTX_CFG, 25, 4⟩
/-- ST_CTX_CRUMB.ADDR. -/
abbrev ST_CTX_CRUMB_ADDR : Fld := ⟨.ST_CTX_CRUMB, 0, 48⟩
/-- ST_CTX_CRUMB.SPACE. -/
abbrev ST_CTX_CRUMB_SPACE : Fld := ⟨.ST_CTX_CRUMB, 48, 2⟩
/-- ST_CTX_STATUS.STATE. -/
abbrev ST_CTX_STATUS_STATE : Fld := ⟨.ST_CTX_STATUS, 0, 2⟩
/-- ST_CTX_STATUS.QUEUED. -/
abbrev ST_CTX_STATUS_QUEUED : Fld := ⟨.ST_CTX_STATUS, 2, 3⟩
/-- ST_CTX_STATUS.CRUMB_LOST. -/
abbrev ST_CTX_STATUS_CRUMB_LOST : Fld := ⟨.ST_CTX_STATUS, 5, 1⟩
/-- ST_CTX_STATUS.CANCELLED. -/
abbrev ST_CTX_STATUS_CANCELLED : Fld := ⟨.ST_CTX_STATUS, 6, 1⟩
/-- ST_CTX_DONE.FT. -/
abbrev ST_CTX_DONE_FT : Fld := ⟨.ST_CTX_DONE, 0, 64⟩
/-- ST_CMD_LIST.LIST. -/
abbrev ST_CMD_LIST_LIST : Fld := ⟨.ST_CMD_LIST, 0, 48⟩
/-- ST_CMD_LIST.SPACE. -/
abbrev ST_CMD_LIST_SPACE : Fld := ⟨.ST_CMD_LIST, 48, 2⟩
/-- ST_CMD.ISSUE. -/
abbrev ST_CMD_ISSUE : Fld := ⟨.ST_CMD, 0, 1⟩
/-- ST_CMD.CANCEL. -/
abbrev ST_CMD_CANCEL : Fld := ⟨.ST_CMD, 1, 1⟩
/-- ST_CMD.RESUME. -/
abbrev ST_CMD_RESUME : Fld := ⟨.ST_CMD, 2, 1⟩
/-- ST_CMD.RESULT. -/
abbrev ST_CMD_RESULT : Fld := ⟨.ST_CMD, 8, 4⟩
/-- ST_CRUMB.WORD. -/
abbrev ST_CRUMB_WORD : Fld := ⟨.ST_CRUMB, 0, 64⟩
/-- ST_CNT.COUNT. -/
abbrev ST_CNT_COUNT : Fld := ⟨.ST_CNT, 0, 48⟩
/-- ST_CNT_WRAPS.WRAPS. -/
abbrev ST_CNT_WRAPS_WRAPS : Fld := ⟨.ST_CNT_WRAPS, 0, 16⟩
/-- ST_CNT_WRAPS.OVF. -/
abbrev ST_CNT_WRAPS_OVF : Fld := ⟨.ST_CNT_WRAPS, 16, 1⟩
/-- ST_CNT_CLR.CLEAR. -/
abbrev ST_CNT_CLR_CLEAR : Fld := ⟨.ST_CNT_CLR, 0, 1⟩
/-- MX_STATUS.BUSY. -/
abbrev MX_STATUS_BUSY : Fld := ⟨.MX_STATUS, 0, 1⟩
/-- MX_STATUS.QUEUED. -/
abbrev MX_STATUS_QUEUED : Fld := ⟨.MX_STATUS, 1, 4⟩
/-- MX_STATUS.IOVF. -/
abbrev MX_STATUS_IOVF : Fld := ⟨.MX_STATUS, 5, 1⟩
/-- MX_STATUS.LOSS. -/
abbrev MX_STATUS_LOSS : Fld := ⟨.MX_STATUS, 6, 1⟩
/-- MX_STATUS.BIG. -/
abbrev MX_STATUS_BIG : Fld := ⟨.MX_STATUS, 7, 1⟩
/-- MX_STATUS.CNT. -/
abbrev MX_STATUS_CNT : Fld := ⟨.MX_STATUS, 8, 1⟩
/-- MX_DONE.TAG. -/
abbrev MX_DONE_TAG : Fld := ⟨.MX_DONE, 0, 16⟩
/-- MX_DONE.STATUS. -/
abbrev MX_DONE_STATUS : Fld := ⟨.MX_DONE, 16, 8⟩
/-- MX_DONE.POISON_OUT. -/
abbrev MX_DONE_POISON_OUT : Fld := ⟨.MX_DONE, 24, 1⟩
/-- MX_DONE.DETAIL. -/
abbrev MX_DONE_DETAIL : Fld := ⟨.MX_DONE, 32, 16⟩
/-- MX_DONE_FT.FT. -/
abbrev MX_DONE_FT_FT : Fld := ⟨.MX_DONE_FT, 0, 64⟩
/-- MX_CNT.COUNT. -/
abbrev MX_CNT_COUNT : Fld := ⟨.MX_CNT, 0, 48⟩
/-- MX_CNT_WRAPS.WRAPS. -/
abbrev MX_CNT_WRAPS_WRAPS : Fld := ⟨.MX_CNT_WRAPS, 0, 16⟩
/-- MX_CNT_WRAPS.OVF. -/
abbrev MX_CNT_WRAPS_OVF : Fld := ⟨.MX_CNT_WRAPS, 16, 1⟩
/-- MX_CNT_CLR.CLEAR. -/
abbrev MX_CNT_CLR_CLEAR : Fld := ⟨.MX_CNT_CLR, 0, 1⟩
/-- VX_STATUS.BUSY. -/
abbrev VX_STATUS_BUSY : Fld := ⟨.VX_STATUS, 0, 1⟩
/-- VX_STATUS.QUEUED. -/
abbrev VX_STATUS_QUEUED : Fld := ⟨.VX_STATUS, 1, 4⟩
/-- VX_STATUS.IOVF. -/
abbrev VX_STATUS_IOVF : Fld := ⟨.VX_STATUS, 5, 1⟩
/-- VX_STATUS.LOSS. -/
abbrev VX_STATUS_LOSS : Fld := ⟨.VX_STATUS, 6, 1⟩
/-- VX_STATUS.BIG. -/
abbrev VX_STATUS_BIG : Fld := ⟨.VX_STATUS, 7, 1⟩
/-- VX_STATUS.CNT. -/
abbrev VX_STATUS_CNT : Fld := ⟨.VX_STATUS, 8, 1⟩
/-- VX_DONE.TAG. -/
abbrev VX_DONE_TAG : Fld := ⟨.VX_DONE, 0, 16⟩
/-- VX_DONE.STATUS. -/
abbrev VX_DONE_STATUS : Fld := ⟨.VX_DONE, 16, 8⟩
/-- VX_DONE.POISON_OUT. -/
abbrev VX_DONE_POISON_OUT : Fld := ⟨.VX_DONE, 24, 1⟩
/-- VX_DONE.DETAIL. -/
abbrev VX_DONE_DETAIL : Fld := ⟨.VX_DONE, 32, 16⟩
/-- VX_DONE_FT.FT. -/
abbrev VX_DONE_FT_FT : Fld := ⟨.VX_DONE_FT, 0, 64⟩
/-- VX_CNT.COUNT. -/
abbrev VX_CNT_COUNT : Fld := ⟨.VX_CNT, 0, 48⟩
/-- VX_CNT_WRAPS.WRAPS. -/
abbrev VX_CNT_WRAPS_WRAPS : Fld := ⟨.VX_CNT_WRAPS, 0, 16⟩
/-- VX_CNT_WRAPS.OVF. -/
abbrev VX_CNT_WRAPS_OVF : Fld := ⟨.VX_CNT_WRAPS, 16, 1⟩
/-- VX_CNT_CLR.CLEAR. -/
abbrev VX_CNT_CLR_CLEAR : Fld := ⟨.VX_CNT_CLR, 0, 1⟩
/-- GT_STATUS.BUSY. -/
abbrev GT_STATUS_BUSY : Fld := ⟨.GT_STATUS, 0, 1⟩
/-- GT_STATUS.QUEUED. -/
abbrev GT_STATUS_QUEUED : Fld := ⟨.GT_STATUS, 1, 4⟩
/-- GT_STATUS.IOVF. -/
abbrev GT_STATUS_IOVF : Fld := ⟨.GT_STATUS, 5, 1⟩
/-- GT_STATUS.LOSS. -/
abbrev GT_STATUS_LOSS : Fld := ⟨.GT_STATUS, 6, 1⟩
/-- GT_STATUS.BIG. -/
abbrev GT_STATUS_BIG : Fld := ⟨.GT_STATUS, 7, 1⟩
/-- GT_STATUS.CNT. -/
abbrev GT_STATUS_CNT : Fld := ⟨.GT_STATUS, 8, 1⟩
/-- GT_DONE.TAG. -/
abbrev GT_DONE_TAG : Fld := ⟨.GT_DONE, 0, 16⟩
/-- GT_DONE.STATUS. -/
abbrev GT_DONE_STATUS : Fld := ⟨.GT_DONE, 16, 8⟩
/-- GT_DONE.POISON_OUT. -/
abbrev GT_DONE_POISON_OUT : Fld := ⟨.GT_DONE, 24, 1⟩
/-- GT_DONE.DETAIL. -/
abbrev GT_DONE_DETAIL : Fld := ⟨.GT_DONE, 32, 16⟩
/-- GT_DONE_FT.FT. -/
abbrev GT_DONE_FT_FT : Fld := ⟨.GT_DONE_FT, 0, 64⟩
/-- GT_CNT.COUNT. -/
abbrev GT_CNT_COUNT : Fld := ⟨.GT_CNT, 0, 48⟩
/-- GT_CNT_WRAPS.WRAPS. -/
abbrev GT_CNT_WRAPS_WRAPS : Fld := ⟨.GT_CNT_WRAPS, 0, 16⟩
/-- GT_CNT_WRAPS.OVF. -/
abbrev GT_CNT_WRAPS_OVF : Fld := ⟨.GT_CNT_WRAPS, 16, 1⟩
/-- GT_CNT_CLR.CLEAR. -/
abbrev GT_CNT_CLR_CLEAR : Fld := ⟨.GT_CNT_CLR, 0, 1⟩
/-- GT_CFG.MAX_OUT. -/
abbrev GT_CFG_MAX_OUT : Fld := ⟨.GT_CFG, 0, 10⟩
/-- GT_CFG.PENDING. -/
abbrev GT_CFG_PENDING : Fld := ⟨.GT_CFG, 31, 1⟩
/-- SC_CORE_STATUS.CTX. -/
abbrev SC_CORE_STATUS_CTX : Fld := ⟨.SC_CORE_STATUS, 0, 4⟩
/-- SC_CORE_STATUS.IDLE. -/
abbrev SC_CORE_STATUS_IDLE : Fld := ⟨.SC_CORE_STATUS, 4, 1⟩
/-- SC_CORE_STATUS.READY. -/
abbrev SC_CORE_STATUS_READY : Fld := ⟨.SC_CORE_STATUS, 16, 16⟩
/-- SC_CORE_CFG.VBAR. -/
abbrev SC_CORE_CFG_VBAR : Fld := ⟨.SC_CORE_CFG, 7, 12⟩
/-- SC_CORE_CFG.PENDING. -/
abbrev SC_CORE_CFG_PENDING : Fld := ⟨.SC_CORE_CFG, 19, 1⟩
/-- SC_CORE_CFG.PRIV_LIMIT. -/
abbrev SC_CORE_CFG_PRIV_LIMIT : Fld := ⟨.SC_CORE_CFG, 20, 7⟩
/-- SC_CORE_QUANTUM.SLICE. -/
abbrev SC_CORE_QUANTUM_SLICE : Fld := ⟨.SC_CORE_QUANTUM, 0, 16⟩
/-- SC_CORE_CTL.RESET. -/
abbrev SC_CORE_CTL_RESET : Fld := ⟨.SC_CORE_CTL, 0, 1⟩
/-- SC_EVENT.FAULTED. -/
abbrev SC_EVENT_FAULTED : Fld := ⟨.SC_EVENT, 0, 1⟩
/-- SC_EVENT.CTX. -/
abbrev SC_EVENT_CTX : Fld := ⟨.SC_EVENT, 4, 4⟩
/-- SC_CTX_CFG.VI. -/
abbrev SC_CTX_CFG_VI : Fld := ⟨.SC_CTX_CFG, 0, 6⟩
/-- SC_CTX_CFG.START_PRIV. -/
abbrev SC_CTX_CFG_START_PRIV : Fld := ⟨.SC_CTX_CFG, 6, 1⟩
/-- SC_CTX_CFG.INTEN. -/
abbrev SC_CTX_CFG_INTEN : Fld := ⟨.SC_CTX_CFG, 8, 5⟩
/-- SC_CTX_CFG.SEG_BASE. -/
abbrev SC_CTX_CFG_SEG_BASE : Fld := ⟨.SC_CTX_CFG, 16, 7⟩
/-- SC_CTX_CFG.SEG_LIMIT. -/
abbrev SC_CTX_CFG_SEG_LIMIT : Fld := ⟨.SC_CTX_CFG, 24, 7⟩
/-- SC_CTX_CFG.ENTRY. -/
abbrev SC_CTX_CFG_ENTRY : Fld := ⟨.SC_CTX_CFG, 34, 17⟩
/-- SC_CTX_CTL.START. -/
abbrev SC_CTX_CTL_START : Fld := ⟨.SC_CTX_CTL, 0, 1⟩
/-- SC_CTX_CTL.STOP. -/
abbrev SC_CTX_CTL_STOP : Fld := ⟨.SC_CTX_CTL, 1, 1⟩
/-- SC_CTX_CTL.RESET. -/
abbrev SC_CTX_CTL_RESET : Fld := ⟨.SC_CTX_CTL, 2, 1⟩
/-- SC_CTX_CTL.RESULT. -/
abbrev SC_CTX_CTL_RESULT : Fld := ⟨.SC_CTX_CTL, 4, 4⟩
/-- SC_CTX_STATUS.STATE. -/
abbrev SC_CTX_STATUS_STATE : Fld := ⟨.SC_CTX_STATUS, 0, 3⟩
/-- SC_CTX_STATUS.LEVEL. -/
abbrev SC_CTX_STATUS_LEVEL : Fld := ⟨.SC_CTX_STATUS, 3, 1⟩
/-- SC_CTX_STATUS.EXL. -/
abbrev SC_CTX_STATUS_EXL : Fld := ⟨.SC_CTX_STATUS, 4, 1⟩
/-- SC_CTX_STATUS.PENDING. -/
abbrev SC_CTX_STATUS_PENDING : Fld := ⟨.SC_CTX_STATUS, 5, 5⟩
/-- SC_CTX_STATUS.CAUSE. -/
abbrev SC_CTX_STATUS_CAUSE : Fld := ⟨.SC_CTX_STATUS, 16, 8⟩
/-- SC_CTX_STATUS.CAUSE2. -/
abbrev SC_CTX_STATUS_CAUSE2 : Fld := ⟨.SC_CTX_STATUS, 24, 8⟩
/-- SC_CTX_STATUS.PC. -/
abbrev SC_CTX_STATUS_PC : Fld := ⟨.SC_CTX_STATUS, 32, 19⟩
/-- SC_CTX_KICK.HOST. -/
abbrev SC_CTX_KICK_HOST : Fld := ⟨.SC_CTX_KICK, 0, 1⟩
/-- SC_CTX_ALARM.AT. -/
abbrev SC_CTX_ALARM_AT : Fld := ⟨.SC_CTX_ALARM, 0, 64⟩
/-- SC_CTX_TRAP.EPC. -/
abbrev SC_CTX_TRAP_EPC : Fld := ⟨.SC_CTX_TRAP, 0, 19⟩
/-- SC_CTX_TRAP.ELEVEL. -/
abbrev SC_CTX_TRAP_ELEVEL : Fld := ⟨.SC_CTX_TRAP, 31, 1⟩
/-- SC_CTX_TRAP_CAUSE.ECAUSE. -/
abbrev SC_CTX_TRAP_CAUSE_ECAUSE : Fld := ⟨.SC_CTX_TRAP_CAUSE, 0, 8⟩
/-- SC_CTX_TRAP_INFO.EINFO. -/
abbrev SC_CTX_TRAP_INFO_EINFO : Fld := ⟨.SC_CTX_TRAP_INFO, 0, 64⟩
/-- SC_CTX_TRAP_TAG.ETAG. -/
abbrev SC_CTX_TRAP_TAG_ETAG : Fld := ⟨.SC_CTX_TRAP_TAG, 0, 32⟩
/-- SC_CNT.COUNT. -/
abbrev SC_CNT_COUNT : Fld := ⟨.SC_CNT, 0, 48⟩
/-- SC_CNT_WRAPS.WRAPS. -/
abbrev SC_CNT_WRAPS_WRAPS : Fld := ⟨.SC_CNT_WRAPS, 0, 16⟩
/-- SC_CNT_WRAPS.OVF. -/
abbrev SC_CNT_WRAPS_OVF : Fld := ⟨.SC_CNT_WRAPS, 16, 1⟩
/-- SC_CNT_CLR.CLEAR. -/
abbrev SC_CNT_CLR_CLEAR : Fld := ⟨.SC_CNT_CLR, 0, 1⟩
/-- SC_CFG_ERR.OFFSET. -/
abbrev SC_CFG_ERR_OFFSET : Fld := ⟨.SC_CFG_ERR, 0, 26⟩
/-- SC_CFG_ERR.CODE. -/
abbrev SC_CFG_ERR_CODE : Fld := ⟨.SC_CFG_ERR, 26, 4⟩
/-- SC_CFG_ERR.CTX. -/
abbrev SC_CFG_ERR_CTX : Fld := ⟨.SC_CFG_ERR, 30, 4⟩
/-- SC_CFG_ERR.W64. -/
abbrev SC_CFG_ERR_W64 : Fld := ⟨.SC_CFG_ERR, 34, 1⟩
/-- SC_CFG_ERR.COUNT. -/
abbrev SC_CFG_ERR_COUNT : Fld := ⟨.SC_CFG_ERR, 56, 7⟩
/-- SC_CFG_ERR.VALID. -/
abbrev SC_CFG_ERR_VALID : Fld := ⟨.SC_CFG_ERR, 63, 1⟩
/-- SC_CFG_ERR_FT.FT. -/
abbrev SC_CFG_ERR_FT_FT : Fld := ⟨.SC_CFG_ERR_FT, 0, 64⟩
/-- HQ_VI_RESET.VI. -/
abbrev HQ_VI_RESET_VI : Fld := ⟨.HQ_VI_RESET, 0, 6⟩
/-- HQ_VI_RESET.FLUSH_CQ. -/
abbrev HQ_VI_RESET_FLUSH_CQ : Fld := ⟨.HQ_VI_RESET, 6, 1⟩
/-- HQ_VI_RESET.GO. -/
abbrev HQ_VI_RESET_GO : Fld := ⟨.HQ_VI_RESET, 31, 1⟩
/-- HQ_APERTURE.BASE. -/
abbrev HQ_APERTURE_BASE : Fld := ⟨.HQ_APERTURE, 21, 27⟩
/-- HQ_VI_CFG.PORT. -/
abbrev HQ_VI_CFG_PORT : Fld := ⟨.HQ_VI_CFG, 0, 1⟩
/-- HQ_VI_CFG.ATS_EN. -/
abbrev HQ_VI_CFG_ATS_EN : Fld := ⟨.HQ_VI_CFG, 1, 1⟩
/-- HQ_VI_CFG.WEIGHT_N. -/
abbrev HQ_VI_CFG_WEIGHT_N : Fld := ⟨.HQ_VI_CFG, 2, 10⟩
/-- HQ_VI_CFG.WEIGHT_B. -/
abbrev HQ_VI_CFG_WEIGHT_B : Fld := ⟨.HQ_VI_CFG, 12, 10⟩
/-- HQ_VI_CFG.PENDING. -/
abbrev HQ_VI_CFG_PENDING : Fld := ⟨.HQ_VI_CFG, 22, 1⟩
/-- HQ_VI_CFG.EVT_VECTOR. -/
abbrev HQ_VI_CFG_EVT_VECTOR : Fld := ⟨.HQ_VI_CFG, 24, 11⟩
/-- HQ_VI_STATUS.RESETTING. -/
abbrev HQ_VI_STATUS_RESETTING : Fld := ⟨.HQ_VI_STATUS, 0, 1⟩
/-- HQ_VI_STATUS.RESET_DONE. -/
abbrev HQ_VI_STATUS_RESET_DONE : Fld := ⟨.HQ_VI_STATUS, 1, 1⟩
/-- HQ_VI_STATUS.QUEUE_ERR. -/
abbrev HQ_VI_STATUS_QUEUE_ERR : Fld := ⟨.HQ_VI_STATUS, 2, 1⟩
/-- HQ_VI_CNT.COUNT. -/
abbrev HQ_VI_CNT_COUNT : Fld := ⟨.HQ_VI_CNT, 0, 48⟩
/-- HQ_GEN.ACTIVE. -/
abbrev HQ_GEN_ACTIVE : Fld := ⟨.HQ_GEN, 0, 16⟩
/-- HQ_GEN.PRIOR. -/
abbrev HQ_GEN_PRIOR : Fld := ⟨.HQ_GEN, 16, 16⟩
/-- HQ_GEN.LAST_RETIRED. -/
abbrev HQ_GEN_LAST_RETIRED : Fld := ⟨.HQ_GEN, 32, 16⟩
/-- HQ_GEN.ACTIVE_RETIRED. -/
abbrev HQ_GEN_ACTIVE_RETIRED : Fld := ⟨.HQ_GEN, 48, 1⟩
/-- HQ_GEN_PINS.ACTIVE_PINS. -/
abbrev HQ_GEN_PINS_ACTIVE_PINS : Fld := ⟨.HQ_GEN_PINS, 0, 16⟩
/-- HQ_GEN_PINS.PRIOR_PINS. -/
abbrev HQ_GEN_PINS_PRIOR_PINS : Fld := ⟨.HQ_GEN_PINS, 16, 16⟩
/-- HQ_GEN_PINS.STALE_PINS. -/
abbrev HQ_GEN_PINS_STALE_PINS : Fld := ⟨.HQ_GEN_PINS, 32, 32⟩
/-- HQ_OP.EN. -/
abbrev HQ_OP_EN : Fld := ⟨.HQ_OP, 0, 1⟩
/-- HQ_OP.CLUSTER. -/
abbrev HQ_OP_CLUSTER : Fld := ⟨.HQ_OP, 1, 4⟩
/-- HQ_OP.DEPTH. -/
abbrev HQ_OP_DEPTH : Fld := ⟨.HQ_OP, 5, 4⟩
/-- HQ_OP.PAR. -/
abbrev HQ_OP_PAR : Fld := ⟨.HQ_OP, 9, 9⟩
/-- HQ_OP.INBOX. -/
abbrev HQ_OP_INBOX : Fld := ⟨.HQ_OP, 18, 24⟩
/-- HQ_OP_EST.S_INIT. -/
abbrev HQ_OP_EST_S_INIT : Fld := ⟨.HQ_OP_EST, 0, 32⟩
/-- HQ_OP_EST.MARGIN. -/
abbrev HQ_OP_EST_MARGIN : Fld := ⟨.HQ_OP_EST, 32, 32⟩
/-- HQ_OP_STATE.INFLIGHT. -/
abbrev HQ_OP_STATE_INFLIGHT : Fld := ⟨.HQ_OP_STATE, 0, 15⟩
/-- HQ_OP_STATE.DISPATCH_ERR. -/
abbrev HQ_OP_STATE_DISPATCH_ERR : Fld := ⟨.HQ_OP_STATE, 16, 16⟩
/-- HQ_OP_STATE.S. -/
abbrev HQ_OP_STATE_S : Fld := ⟨.HQ_OP_STATE, 32, 32⟩
/-- HQ_OP_CNT.DISPATCHED. -/
abbrev HQ_OP_CNT_DISPATCHED : Fld := ⟨.HQ_OP_CNT, 0, 32⟩
/-- HQ_Q_CFG.ENABLE. -/
abbrev HQ_Q_CFG_ENABLE : Fld := ⟨.HQ_Q_CFG, 0, 1⟩
/-- HQ_Q_CFG.SIZE. -/
abbrev HQ_Q_CFG_SIZE : Fld := ⟨.HQ_Q_CFG, 1, 5⟩
/-- HQ_Q_CFG.SPACE. -/
abbrev HQ_Q_CFG_SPACE : Fld := ⟨.HQ_Q_CFG, 6, 1⟩
/-- HQ_Q_CFG.PORT. -/
abbrev HQ_Q_CFG_PORT : Fld := ⟨.HQ_Q_CFG, 7, 1⟩
/-- HQ_Q_CFG.FETCH_CLASS. -/
abbrev HQ_Q_CFG_FETCH_CLASS : Fld := ⟨.HQ_Q_CFG, 8, 2⟩
/-- HQ_Q_CFG.IRQ_EN. -/
abbrev HQ_Q_CFG_IRQ_EN : Fld := ⟨.HQ_Q_CFG, 10, 1⟩
/-- HQ_Q_CFG.VECTOR. -/
abbrev HQ_Q_CFG_VECTOR : Fld := ⟨.HQ_Q_CFG, 11, 11⟩
/-- HQ_Q_CFG.COAL_CNT. -/
abbrev HQ_Q_CFG_COAL_CNT : Fld := ⟨.HQ_Q_CFG, 22, 8⟩
/-- HQ_Q_CFG.COAL_US. -/
abbrev HQ_Q_CFG_COAL_US : Fld := ⟨.HQ_Q_CFG, 30, 10⟩
/-- HQ_Q_SQB.BASE. -/
abbrev HQ_Q_SQB_BASE : Fld := ⟨.HQ_Q_SQB, 0, 64⟩
/-- HQ_Q_CQB.BASE. -/
abbrev HQ_Q_CQB_BASE : Fld := ⟨.HQ_Q_CQB, 0, 64⟩
/-- HQ_Q_STATE.SQ_HEAD. -/
abbrev HQ_Q_STATE_SQ_HEAD : Fld := ⟨.HQ_Q_STATE, 0, 16⟩
/-- HQ_Q_STATE.CQ_TAIL. -/
abbrev HQ_Q_STATE_CQ_TAIL : Fld := ⟨.HQ_Q_STATE, 16, 16⟩
/-- HQ_Q_STATE.PHASE. -/
abbrev HQ_Q_STATE_PHASE : Fld := ⟨.HQ_Q_STATE, 32, 1⟩
/-- HQ_Q_STATE.FROZEN. -/
abbrev HQ_Q_STATE_FROZEN : Fld := ⟨.HQ_Q_STATE, 33, 1⟩
/-- HQ_Q_STATE.ERR. -/
abbrev HQ_Q_STATE_ERR : Fld := ⟨.HQ_Q_STATE, 34, 3⟩
/-- HQ_Q_STATE.STAGED. -/
abbrev HQ_Q_STATE_STAGED : Fld := ⟨.HQ_Q_STATE, 37, 4⟩
/-- HQ_Q_CTL.CANCEL. -/
abbrev HQ_Q_CTL_CANCEL : Fld := ⟨.HQ_Q_CTL, 0, 1⟩
/-- HQ_POST_HQ.SLOT. -/
abbrev HQ_POST_HQ_SLOT : Fld := ⟨.HQ_POST_HQ, 0, 16⟩
/-- HQ_POST_HQ.STATUS. -/
abbrev HQ_POST_HQ_STATUS : Fld := ⟨.HQ_POST_HQ, 16, 8⟩
/-- HQ_POST_HQ.SEQ. -/
abbrev HQ_POST_HQ_SEQ : Fld := ⟨.HQ_POST_HQ, 32, 32⟩
/-- HQ_POST.SLOT. -/
abbrev HQ_POST_SLOT : Fld := ⟨.HQ_POST, 0, 16⟩
/-- HQ_POST.STATUS. -/
abbrev HQ_POST_STATUS : Fld := ⟨.HQ_POST, 16, 8⟩
/-- HQ_POST.SEQ. -/
abbrev HQ_POST_SEQ : Fld := ⟨.HQ_POST, 32, 32⟩
/-- HL_PORT_CFG.DIR. -/
abbrev HL_PORT_CFG_DIR : Fld := ⟨.HL_PORT_CFG, 0, 3⟩
/-- HL_PORT_CFG.BACKS. -/
abbrev HL_PORT_CFG_BACKS : Fld := ⟨.HL_PORT_CFG, 3, 3⟩
/-- HL_PORT_CFG.RETRAIN. -/
abbrev HL_PORT_CFG_RETRAIN : Fld := ⟨.HL_PORT_CFG, 6, 10⟩
/-- HL_PORT_STATUS.STATE. -/
abbrev HL_PORT_STATUS_STATE : Fld := ⟨.HL_PORT_STATUS, 0, 2⟩
/-- HL_PORT_STATUS.LANES. -/
abbrev HL_PORT_STATUS_LANES : Fld := ⟨.HL_PORT_STATUS, 2, 4⟩
/-- HL_PORT_STATUS.NEIGHBOUR. -/
abbrev HL_PORT_STATUS_NEIGHBOUR : Fld := ⟨.HL_PORT_STATUS, 6, 12⟩
/-- HL_PORT_STATUS.NPORT. -/
abbrev HL_PORT_STATUS_NPORT : Fld := ⟨.HL_PORT_STATUS, 18, 4⟩
/-- HL_PORT_CNT.COUNT. -/
abbrev HL_PORT_CNT_COUNT : Fld := ⟨.HL_PORT_CNT, 0, 48⟩
/-- HL_DIMS.DX. -/
abbrev HL_DIMS_DX : Fld := ⟨.HL_DIMS, 0, 4⟩
/-- HL_DIMS.DY. -/
abbrev HL_DIMS_DY : Fld := ⟨.HL_DIMS, 4, 4⟩
/-- HL_DIMS.DZ. -/
abbrev HL_DIMS_DZ : Fld := ⟨.HL_DIMS, 8, 4⟩
/-- HL_BCAST.PORTS. -/
abbrev HL_BCAST_PORTS : Fld := ⟨.HL_BCAST, 0, 16⟩
/-- HL_TIMEOUT.MS. -/
abbrev HL_TIMEOUT_MS : Fld := ⟨.HL_TIMEOUT, 0, 16⟩
/-- HL_EVENT.PORT_DOWN. -/
abbrev HL_EVENT_PORT_DOWN : Fld := ⟨.HL_EVENT, 0, 1⟩
/-- HL_EVENT.SPARE_TAKEN. -/
abbrev HL_EVENT_SPARE_TAKEN : Fld := ⟨.HL_EVENT, 1, 1⟩
/-- HL_EVENT.LANE_LOST. -/
abbrev HL_EVENT_LANE_LOST : Fld := ⟨.HL_EVENT, 2, 1⟩
/-- HL_EVENT.DETOUR. -/
abbrev HL_EVENT_DETOUR : Fld := ⟨.HL_EVENT, 3, 1⟩
/-- HL_ROUTE.PORT. -/
abbrev HL_ROUTE_PORT : Fld := ⟨.HL_ROUTE, 0, 4⟩
/-- HL_ROUTE.DETOUR. -/
abbrev HL_ROUTE_DETOUR : Fld := ⟨.HL_ROUTE, 4, 1⟩
/-- HL_ROUTE.VALID. -/
abbrev HL_ROUTE_VALID : Fld := ⟨.HL_ROUTE, 31, 1⟩
/-- HD_STATUS.ROLE. -/
abbrev HD_STATUS_ROLE : Fld := ⟨.HD_STATUS, 0, 2⟩
/-- HD_STATUS.HERD_ID. -/
abbrev HD_STATUS_HERD_ID : Fld := ⟨.HD_STATUS, 2, 12⟩
/-- HD_STATUS.REJECTED. -/
abbrev HD_STATUS_REJECTED : Fld := ⟨.HD_STATUS, 14, 1⟩
/-- HD_STATUS.SILENT. -/
abbrev HD_STATUS_SILENT : Fld := ⟨.HD_STATUS, 15, 1⟩
/-- HD_STATUS.SHEPHERD. -/
abbrev HD_STATUS_SHEPHERD : Fld := ⟨.HD_STATUS, 16, 12⟩
/-- HD_STATUS.NO_STANDBY. -/
abbrev HD_STATUS_NO_STANDBY : Fld := ⟨.HD_STATUS, 28, 1⟩
/-- HD_STATUS.EPOCH. -/
abbrev HD_STATUS_EPOCH : Fld := ⟨.HD_STATUS, 32, 32⟩
/-- HD_CFG.COORD. -/
abbrev HD_CFG_COORD : Fld := ⟨.HD_CFG, 0, 12⟩
/-- HD_CFG.ELIGIBLE. -/
abbrev HD_CFG_ELIGIBLE : Fld := ⟨.HD_CFG, 12, 1⟩
/-- HD_CTL.ACTION. -/
abbrev HD_CTL_ACTION : Fld := ⟨.HD_CTL, 0, 3⟩
/-- HD_CTL.TARGET. -/
abbrev HD_CTL_TARGET : Fld := ⟨.HD_CTL, 3, 12⟩
/-- HD_CTL.RESULT. -/
abbrev HD_CTL_RESULT : Fld := ⟨.HD_CTL, 16, 8⟩
/-- HD_CTL.GO. -/
abbrev HD_CTL_GO : Fld := ⟨.HD_CTL, 31, 1⟩
/-- HD_SELF.SERIAL. -/
abbrev HD_SELF_SERIAL : Fld := ⟨.HD_SELF, 0, 64⟩
/-- HD_STROKE.TAG. -/
abbrev HD_STROKE_TAG : Fld := ⟨.HD_STROKE, 0, 16⟩
/-- HD_STROKE.OK. -/
abbrev HD_STROKE_OK : Fld := ⟨.HD_STROKE, 16, 12⟩
/-- HD_STROKE.REFUSED. -/
abbrev HD_STROKE_REFUSED : Fld := ⟨.HD_STROKE, 28, 12⟩
/-- HD_STROKE.MISSING. -/
abbrev HD_STROKE_MISSING : Fld := ⟨.HD_STROKE, 40, 12⟩
/-- HD_STROKE.FIRST. -/
abbrev HD_STROKE_FIRST : Fld := ⟨.HD_STROKE, 52, 12⟩
/-- HD_MSG_BASE.ADDR. -/
abbrev HD_MSG_BASE_ADDR : Fld := ⟨.HD_MSG_BASE, 0, 19⟩
/-- HD_MSG_BASE.PTR. -/
abbrev HD_MSG_BASE_PTR : Fld := ⟨.HD_MSG_BASE, 32, 4⟩
/-- HD_TABLE.SERIAL. -/
abbrev HD_TABLE_SERIAL : Fld := ⟨.HD_TABLE, 0, 64⟩
/-- HD_TABLE_ENTRY.HERD. -/
abbrev HD_TABLE_ENTRY_HERD : Fld := ⟨.HD_TABLE_ENTRY, 0, 12⟩
/-- HD_TABLE_ENTRY.STATE. -/
abbrev HD_TABLE_ENTRY_STATE : Fld := ⟨.HD_TABLE_ENTRY, 16, 8⟩
/-- HD_TABLE_ENTRY.ELIGIBLE. -/
abbrev HD_TABLE_ENTRY_ELIGIBLE : Fld := ⟨.HD_TABLE_ENTRY, 24, 1⟩
/-- HD_TABLE_ENTRY.EPOCH. -/
abbrev HD_TABLE_ENTRY_EPOCH : Fld := ⟨.HD_TABLE_ENTRY, 32, 32⟩
/-- PM_CTL.START. -/
abbrev PM_CTL_START : Fld := ⟨.PM_CTL, 0, 1⟩
/-- PM_STATUS.RUNNING. -/
abbrev PM_STATUS_RUNNING : Fld := ⟨.PM_STATUS, 0, 1⟩
/-- PM_STATUS.MODE. -/
abbrev PM_STATUS_MODE : Fld := ⟨.PM_STATUS, 1, 1⟩
/-- PM_STATUS.SPLIT_BAD. -/
abbrev PM_STATUS_SPLIT_BAD : Fld := ⟨.PM_STATUS, 2, 1⟩
/-- PM_STATUS.CAL_STALE. -/
abbrev PM_STATUS_CAL_STALE : Fld := ⟨.PM_STATUS, 3, 1⟩
/-- PM_STATUS.CAL_LOST. -/
abbrev PM_STATUS_CAL_LOST : Fld := ⟨.PM_STATUS, 4, 1⟩
/-- PM_STATUS.OX_BROKEN. -/
abbrev PM_STATUS_OX_BROKEN : Fld := ⟨.PM_STATUS, 5, 1⟩
/-- PM_STATUS.PHASE. -/
abbrev PM_STATUS_PHASE : Fld := ⟨.PM_STATUS, 8, 4⟩
/-- PM_STATUS.PHASE_VALID. -/
abbrev PM_STATUS_PHASE_VALID : Fld := ⟨.PM_STATUS, 12, 1⟩
/-- PM_STATUS.ACTIVE. -/
abbrev PM_STATUS_ACTIVE : Fld := ⟨.PM_STATUS, 16, 10⟩
/-- PM_SPLIT.MX. -/
abbrev PM_SPLIT_MX : Fld := ⟨.PM_SPLIT, 0, 8⟩
/-- PM_SPLIT.TM. -/
abbrev PM_SPLIT_TM : Fld := ⟨.PM_SPLIT, 8, 8⟩
/-- PM_SPLIT.VX. -/
abbrev PM_SPLIT_VX : Fld := ⟨.PM_SPLIT, 16, 8⟩
/-- PM_SPLIT.MEM. -/
abbrev PM_SPLIT_MEM : Fld := ⟨.PM_SPLIT, 24, 8⟩
/-- PM_SPLIT.IO. -/
abbrev PM_SPLIT_IO : Fld := ⟨.PM_SPLIT, 32, 8⟩
/-- PM_CAP.WATTS. -/
abbrev PM_CAP_WATTS : Fld := ⟨.PM_CAP, 0, 10⟩
/-- PM_POWER.EST. -/
abbrev PM_POWER_EST : Fld := ⟨.PM_POWER, 0, 16⟩
/-- PM_POWER.MEAS. -/
abbrev PM_POWER_MEAS : Fld := ⟨.PM_POWER, 16, 16⟩
/-- PM_CFG.BOOST_TJ. -/
abbrev PM_CFG_BOOST_TJ : Fld := ⟨.PM_CFG, 0, 8⟩
/-- PM_CFG.HYST. -/
abbrev PM_CFG_HYST : Fld := ⟨.PM_CFG, 8, 4⟩
/-- PM_PHASE_VI.VIS. -/
abbrev PM_PHASE_VI_VIS : Fld := ⟨.PM_PHASE_VI, 0, 64⟩
/-- PM_ALERT_DEST.EN. -/
abbrev PM_ALERT_DEST_EN : Fld := ⟨.PM_ALERT_DEST, 0, 1⟩
/-- PM_ALERT_DEST.CORE. -/
abbrev PM_ALERT_DEST_CORE : Fld := ⟨.PM_ALERT_DEST, 1, 2⟩
/-- PM_ALERT_DEST.CONTEXT. -/
abbrev PM_ALERT_DEST_CONTEXT : Fld := ⟨.PM_ALERT_DEST, 3, 4⟩
/-- PM_ALERT_DEST.MASK. -/
abbrev PM_ALERT_DEST_MASK : Fld := ⟨.PM_ALERT_DEST, 16, 10⟩
/-- PM_EVENT.ALERT_SENT. -/
abbrev PM_EVENT_ALERT_SENT : Fld := ⟨.PM_EVENT, 0, 1⟩
/-- PM_EVENT.ALERT_DROPPED. -/
abbrev PM_EVENT_ALERT_DROPPED : Fld := ⟨.PM_EVENT, 1, 1⟩
/-- PM_EVENT.REG_TIMEOUT. -/
abbrev PM_EVENT_REG_TIMEOUT : Fld := ⟨.PM_EVENT, 2, 1⟩
/-- PM_EVENT.VF_BAD. -/
abbrev PM_EVENT_VF_BAD : Fld := ⟨.PM_EVENT, 3, 1⟩
/-- PM_EVENT.CAL_FAIL. -/
abbrev PM_EVENT_CAL_FAIL : Fld := ⟨.PM_EVENT, 4, 1⟩
/-- PM_GROUP.DEFAULT_OP. -/
abbrev PM_GROUP_DEFAULT_OP : Fld := ⟨.PM_GROUP, 0, 4⟩
/-- PM_GROUP.MAXOP. -/
abbrev PM_GROUP_MAXOP : Fld := ⟨.PM_GROUP, 4, 4⟩
/-- PM_GROUP.CUR_OP. -/
abbrev PM_GROUP_CUR_OP : Fld := ⟨.PM_GROUP, 8, 4⟩
/-- PM_GROUP.TARGET_OP. -/
abbrev PM_GROUP_TARGET_OP : Fld := ⟨.PM_GROUP, 12, 4⟩
/-- PM_GROUP.STEPPING. -/
abbrev PM_GROUP_STEPPING : Fld := ⟨.PM_GROUP, 16, 1⟩
/-- PM_GROUP.GATE. -/
abbrev PM_GROUP_GATE : Fld := ⟨.PM_GROUP, 17, 4⟩
/-- PM_EST.EST. -/
abbrev PM_EST_EST : Fld := ⟨.PM_EST, 0, 16⟩
/-- PM_EST.SHARE. -/
abbrev PM_EST_SHARE : Fld := ⟨.PM_EST, 16, 16⟩
/-- PM_CAL.GAIN. -/
abbrev PM_CAL_GAIN : Fld := ⟨.PM_CAL, 0, 16⟩
/-- PM_CAL.ERR. -/
abbrev PM_CAL_ERR : Fld := ⟨.PM_CAL, 16, 16⟩
/-- PM_VF.FREQ. -/
abbrev PM_VF_FREQ : Fld := ⟨.PM_VF, 0, 12⟩
/-- PM_VF.VFUSE. -/
abbrev PM_VF_VFUSE : Fld := ⟨.PM_VF, 12, 8⟩
/-- PM_PHASE.MXOP. -/
abbrev PM_PHASE_MXOP : Fld := ⟨.PM_PHASE, 0, 4⟩
/-- PM_PHASE.TMOP. -/
abbrev PM_PHASE_TMOP : Fld := ⟨.PM_PHASE, 4, 4⟩
/-- PM_PHASE.VXOP. -/
abbrev PM_PHASE_VXOP : Fld := ⟨.PM_PHASE, 8, 4⟩
/-- PM_PHASE.VALID. -/
abbrev PM_PHASE_VALID : Fld := ⟨.PM_PHASE, 12, 1⟩
/-- PM_RAIL.ILIMIT. -/
abbrev PM_RAIL_ILIMIT : Fld := ⟨.PM_RAIL, 0, 12⟩
/-- PM_RAIL_WIN.I_WIN. -/
abbrev PM_RAIL_WIN_I_WIN : Fld := ⟨.PM_RAIL_WIN, 0, 16⟩
/-- PM_RAIL_WIN.DUTY. -/
abbrev PM_RAIL_WIN_DUTY : Fld := ⟨.PM_RAIL_WIN, 16, 4⟩
/-- PM_THR_ACCUM.ACCUM. -/
abbrev PM_THR_ACCUM_ACCUM : Fld := ⟨.PM_THR_ACCUM, 0, 64⟩
/-- PM_THR_EPISODES.EPISODES. -/
abbrev PM_THR_EPISODES_EPISODES : Fld := ⟨.PM_THR_EPISODES, 0, 64⟩
/-- PM_THR_LAST_START.LAST_START. -/
abbrev PM_THR_LAST_START_LAST_START : Fld := ⟨.PM_THR_LAST_START, 0, 64⟩
/-- PM_THR_LAST_END.LAST_END. -/
abbrev PM_THR_LAST_END_LAST_END : Fld := ⟨.PM_THR_LAST_END, 0, 64⟩
/-- TH_SENSOR.TEMP. -/
abbrev TH_SENSOR_TEMP : Fld := ⟨.TH_SENSOR, 0, 10⟩
/-- TH_SENSOR.VALID. -/
abbrev TH_SENSOR_VALID : Fld := ⟨.TH_SENSOR, 10, 1⟩
/-- TH_SENSOR.BAD. -/
abbrev TH_SENSOR_BAD : Fld := ⟨.TH_SENSOR, 11, 1⟩
/-- TH_CFG.SOFT_TJ. -/
abbrev TH_CFG_SOFT_TJ : Fld := ⟨.TH_CFG, 0, 8⟩
/-- TH_CFG.COOL_S. -/
abbrev TH_CFG_COOL_S : Fld := ⟨.TH_CFG, 8, 16⟩
/-- TH_CFG.PENDING. -/
abbrev TH_CFG_PENDING : Fld := ⟨.TH_CFG, 24, 1⟩
/-- TH_TRIP_FT.FT. -/
abbrev TH_TRIP_FT_FT : Fld := ⟨.TH_TRIP_FT, 0, 64⟩
/-- TH_TRIP.SENSOR. -/
abbrev TH_TRIP_SENSOR : Fld := ⟨.TH_TRIP, 0, 5⟩
/-- TH_TRIP.TEMP. -/
abbrev TH_TRIP_TEMP : Fld := ⟨.TH_TRIP, 8, 10⟩
/-- TH_TRIP.VALID. -/
abbrev TH_TRIP_VALID : Fld := ⟨.TH_TRIP, 31, 1⟩
/-- TH_ALERT.REG. -/
abbrev TH_ALERT_REG : Fld := ⟨.TH_ALERT, 0, 1⟩
/-- TH_ALERT.EXT. -/
abbrev TH_ALERT_EXT : Fld := ⟨.TH_ALERT, 1, 1⟩
/-- TH_ALERT.HOLD. -/
abbrev TH_ALERT_HOLD : Fld := ⟨.TH_ALERT, 2, 1⟩
/-- TH_ALERT.RAIL. -/
abbrev TH_ALERT_RAIL : Fld := ⟨.TH_ALERT, 4, 4⟩
/-- TH_HU_STATUS.VOLT. -/
abbrev TH_HU_STATUS_VOLT : Fld := ⟨.TH_HU_STATUS, 0, 13⟩
/-- TH_HU_STATUS.SOC. -/
abbrev TH_HU_STATUS_SOC : Fld := ⟨.TH_HU_STATUS, 13, 7⟩
/-- TH_HU_STATUS.READY. -/
abbrev TH_HU_STATUS_READY : Fld := ⟨.TH_HU_STATUS, 20, 1⟩
/-- TH_HU_STATUS.GAUGE_DISAGREE. -/
abbrev TH_HU_STATUS_GAUGE_DISAGREE : Fld := ⟨.TH_HU_STATUS, 21, 1⟩
/-- TH_HU_STATUS.CHARGING. -/
abbrev TH_HU_STATUS_CHARGING : Fld := ⟨.TH_HU_STATUS, 22, 1⟩
/-- TH_HU_STATUS.REZEROS. -/
abbrev TH_HU_STATUS_REZEROS : Fld := ⟨.TH_HU_STATUS, 24, 8⟩
/-- TH_HU_CFG.READY_V. -/
abbrev TH_HU_CFG_READY_V : Fld := ⟨.TH_HU_CFG, 0, 10⟩
/-- TH_EVENT.TRIP. -/
abbrev TH_EVENT_TRIP : Fld := ⟨.TH_EVENT, 0, 1⟩
/-- TH_EVENT.SOFT_ENTER. -/
abbrev TH_EVENT_SOFT_ENTER : Fld := ⟨.TH_EVENT, 1, 1⟩
/-- TH_EVENT.ALERT. -/
abbrev TH_EVENT_ALERT : Fld := ⟨.TH_EVENT, 2, 1⟩
/-- TH_EVENT.SENSOR_BAD. -/
abbrev TH_EVENT_SENSOR_BAD : Fld := ⟨.TH_EVENT, 3, 1⟩
/-- TH_EVENT.HU_FAULT. -/
abbrev TH_EVENT_HU_FAULT : Fld := ⟨.TH_EVENT, 4, 1⟩
/-- TH_EVENT.GAUGE_DISAGREE. -/
abbrev TH_EVENT_GAUGE_DISAGREE : Fld := ⟨.TH_EVENT, 5, 1⟩
/-- TH_EVENT.POWER_LOSS. -/
abbrev TH_EVENT_POWER_LOSS : Fld := ⟨.TH_EVENT, 6, 1⟩
/-- TH_EVENT.UNCLEAN_LOSS. -/
abbrev TH_EVENT_UNCLEAN_LOSS : Fld := ⟨.TH_EVENT, 7, 1⟩
/-- TH_EVENT.RAIL_STUCK. -/
abbrev TH_EVENT_RAIL_STUCK : Fld := ⟨.TH_EVENT, 8, 1⟩
/-- TH_LAST_SHUTDOWN.WORD. -/
abbrev TH_LAST_SHUTDOWN_WORD : Fld := ⟨.TH_LAST_SHUTDOWN, 0, 64⟩
/-- SV_FW_STATUS.RUN. -/
abbrev SV_FW_STATUS_RUN : Fld := ⟨.SV_FW_STATUS, 0, 1⟩
/-- SV_FW_STATUS.STATE_A. -/
abbrev SV_FW_STATUS_STATE_A : Fld := ⟨.SV_FW_STATUS, 1, 3⟩
/-- SV_FW_STATUS.STATE_B. -/
abbrev SV_FW_STATUS_STATE_B : Fld := ⟨.SV_FW_STATUS, 4, 3⟩
/-- SV_FW_STATUS.VER_A. -/
abbrev SV_FW_STATUS_VER_A : Fld := ⟨.SV_FW_STATUS, 16, 16⟩
/-- SV_FW_STATUS.VER_B. -/
abbrev SV_FW_STATUS_VER_B : Fld := ⟨.SV_FW_STATUS, 32, 16⟩
/-- SV_FW_STATUS.RUN_VER. -/
abbrev SV_FW_STATUS_RUN_VER : Fld := ⟨.SV_FW_STATUS, 48, 16⟩
/-- SV_FW_LOAD.ADDR. -/
abbrev SV_FW_LOAD_ADDR : Fld := ⟨.SV_FW_LOAD, 0, 48⟩
/-- SV_FW_LOAD.IMAGE. -/
abbrev SV_FW_LOAD_IMAGE : Fld := ⟨.SV_FW_LOAD, 48, 1⟩
/-- SV_FW_LEN.LEN. -/
abbrev SV_FW_LEN_LEN : Fld := ⟨.SV_FW_LEN, 0, 24⟩
/-- SV_FW_LEN.RESULT. -/
abbrev SV_FW_LEN_RESULT : Fld := ⟨.SV_FW_LEN, 24, 4⟩
/-- SV_FW_LEN.GO. -/
abbrev SV_FW_LEN_GO : Fld := ⟨.SV_FW_LEN, 31, 1⟩
/-- SV_FW_DIGEST.WORD. -/
abbrev SV_FW_DIGEST_WORD : Fld := ⟨.SV_FW_DIGEST, 0, 64⟩
/-- SV_FW_FLOOR.FLOOR. -/
abbrev SV_FW_FLOOR_FLOOR : Fld := ⟨.SV_FW_FLOOR, 0, 16⟩
/-- SV_SVC_STATUS.RESTARTS. -/
abbrev SV_SVC_STATUS_RESTARTS : Fld := ⟨.SV_SVC_STATUS, 0, 16⟩
/-- SV_SVC_STATUS.HANDOVER. -/
abbrev SV_SVC_STATUS_HANDOVER : Fld := ⟨.SV_SVC_STATUS, 16, 1⟩
/-- AU_STATUS.NEAR_FULL. -/
abbrev AU_STATUS_NEAR_FULL : Fld := ⟨.AU_STATUS, 0, 1⟩
/-- AU_STATUS.FULL. -/
abbrev AU_STATUS_FULL : Fld := ⟨.AU_STATUS, 1, 1⟩
/-- AU_STATUS.MIRROR_BEHIND. -/
abbrev AU_STATUS_MIRROR_BEHIND : Fld := ⟨.AU_STATUS, 2, 1⟩
/-- AU_STATUS.NOR_ERR. -/
abbrev AU_STATUS_NOR_ERR : Fld := ⟨.AU_STATUS, 3, 1⟩
/-- AU_STATUS.UNMIRRORED. -/
abbrev AU_STATUS_UNMIRRORED : Fld := ⟨.AU_STATUS, 16, 11⟩
/-- AU_STATUS.DROPPED. -/
abbrev AU_STATUS_DROPPED : Fld := ⟨.AU_STATUS, 32, 32⟩
/-- AU_SEQ.SEQ. -/
abbrev AU_SEQ_SEQ : Fld := ⟨.AU_SEQ, 0, 64⟩
/-- AU_ACKED.SEQ. -/
abbrev AU_ACKED_SEQ : Fld := ⟨.AU_ACKED, 0, 64⟩
/-- AU_ACK.SEQ. -/
abbrev AU_ACK_SEQ : Fld := ⟨.AU_ACK, 0, 64⟩
/-- AU_EXPORT_DEST.EN. -/
abbrev AU_EXPORT_DEST_EN : Fld := ⟨.AU_EXPORT_DEST, 0, 1⟩
/-- AU_EXPORT_DEST.CORE. -/
abbrev AU_EXPORT_DEST_CORE : Fld := ⟨.AU_EXPORT_DEST, 1, 2⟩
/-- AU_EXPORT_DEST.CONTEXT. -/
abbrev AU_EXPORT_DEST_CONTEXT : Fld := ⟨.AU_EXPORT_DEST, 3, 4⟩
/-- AU_RD_SEQ.SEQ. -/
abbrev AU_RD_SEQ_SEQ : Fld := ⟨.AU_RD_SEQ, 0, 64⟩
/-- AU_RD_STATUS.STATE. -/
abbrev AU_RD_STATUS_STATE : Fld := ⟨.AU_RD_STATUS, 0, 2⟩
/-- AU_RD_DATA.WORD. -/
abbrev AU_RD_DATA_WORD : Fld := ⟨.AU_RD_DATA, 0, 64⟩
/-- LF_STATUS.STATE. -/
abbrev LF_STATUS_STATE : Fld := ⟨.LF_STATUS, 0, 3⟩
/-- LF_STATUS.FUSE_BAD. -/
abbrev LF_STATUS_FUSE_BAD : Fld := ⟨.LF_STATUS, 3, 1⟩
/-- LF_STATUS.DEBUG_OPEN. -/
abbrev LF_STATUS_DEBUG_OPEN : Fld := ⟨.LF_STATUS, 4, 1⟩
/-- LF_STATUS.UNLOCK_FAILS. -/
abbrev LF_STATUS_UNLOCK_FAILS : Fld := ⟨.LF_STATUS, 8, 4⟩
/-- LF_REQ.TARGET. -/
abbrev LF_REQ_TARGET : Fld := ⟨.LF_REQ, 0, 3⟩
/-- LF_REQ.RESULT. -/
abbrev LF_REQ_RESULT : Fld := ⟨.LF_REQ, 4, 4⟩
/-- LF_REQ.GO. -/
abbrev LF_REQ_GO : Fld := ⟨.LF_REQ, 31, 1⟩
/-- LF_AUTH_ADDR.ADDR. -/
abbrev LF_AUTH_ADDR_ADDR : Fld := ⟨.LF_AUTH_ADDR, 0, 48⟩
/-- LF_CHALLENGE.WORD. -/
abbrev LF_CHALLENGE_WORD : Fld := ⟨.LF_CHALLENGE, 0, 64⟩
/-- NS_STATUS.WIPING. -/
abbrev NS_STATUS_WIPING : Fld := ⟨.NS_STATUS, 0, 1⟩
/-- NS_STATUS.LAST_CAUSE. -/
abbrev NS_STATUS_LAST_CAUSE : Fld := ⟨.NS_STATUS, 1, 3⟩
/-- NS_STATUS.WIPES. -/
abbrev NS_STATUS_WIPES : Fld := ⟨.NS_STATUS, 16, 16⟩
/-- NS_STATUS_FT.FT. -/
abbrev NS_STATUS_FT_FT : Fld := ⟨.NS_STATUS_FT, 0, 64⟩
/-- NS_CMD.SLOT. -/
abbrev NS_CMD_SLOT : Fld := ⟨.NS_CMD, 0, 9⟩
/-- NS_CMD.OFFSET. -/
abbrev NS_CMD_OFFSET : Fld := ⟨.NS_CMD, 9, 6⟩
/-- NS_CMD.OP. -/
abbrev NS_CMD_OP : Fld := ⟨.NS_CMD, 15, 3⟩
/-- NS_CMD.RESULT. -/
abbrev NS_CMD_RESULT : Fld := ⟨.NS_CMD, 20, 4⟩
/-- NS_CMD.GO. -/
abbrev NS_CMD_GO : Fld := ⟨.NS_CMD, 31, 1⟩
/-- NS_DATA.DATA. -/
abbrev NS_DATA_DATA : Fld := ⟨.NS_DATA, 0, 32⟩
/-- NS_OWNER.VI. -/
abbrev NS_OWNER_VI : Fld := ⟨.NS_OWNER, 0, 6⟩
/-- NS_OWNER.EN. -/
abbrev NS_OWNER_EN : Fld := ⟨.NS_OWNER, 6, 1⟩
/-- MB_STATUS.COLLISIONS. -/
abbrev MB_STATUS_COLLISIONS : Fld := ⟨.MB_STATUS, 0, 16⟩
/-- MB_STATUS.DEV_DB. -/
abbrev MB_STATUS_DEV_DB : Fld := ⟨.MB_STATUS, 16, 1⟩
/-- MB_STATUS.BMC_DB. -/
abbrev MB_STATUS_BMC_DB : Fld := ⟨.MB_STATUS, 17, 1⟩
/-- SV_SPARE_CMD.LOGICAL. -/
abbrev SV_SPARE_CMD_LOGICAL : Fld := ⟨.SV_SPARE_CMD, 0, 3⟩
/-- SV_SPARE_CMD.ACTION. -/
abbrev SV_SPARE_CMD_ACTION : Fld := ⟨.SV_SPARE_CMD, 4, 3⟩
/-- SV_SPARE_CMD.RESULT. -/
abbrev SV_SPARE_CMD_RESULT : Fld := ⟨.SV_SPARE_CMD, 8, 4⟩
/-- SV_SPARE_CMD.GO. -/
abbrev SV_SPARE_CMD_GO : Fld := ⟨.SV_SPARE_CMD, 31, 1⟩
/-- SV_SPARE_STATUS.STATE. -/
abbrev SV_SPARE_STATUS_STATE : Fld := ⟨.SV_SPARE_STATUS, 0, 3⟩
/-- SV_SPARE_STATUS.SPARE. -/
abbrev SV_SPARE_STATUS_SPARE : Fld := ⟨.SV_SPARE_STATUS, 4, 4⟩
/-- SV_SPARE_STATUS.RETIRED. -/
abbrev SV_SPARE_STATUS_RETIRED : Fld := ⟨.SV_SPARE_STATUS, 8, 9⟩
/-- SV_SPARE_STATUS.LOST. -/
abbrev SV_SPARE_STATUS_LOST : Fld := ⟨.SV_SPARE_STATUS, 17, 8⟩
/-- SV_SPARE_FT.FT. -/
abbrev SV_SPARE_FT_FT : Fld := ⟨.SV_SPARE_FT, 0, 64⟩
/-- SV_RETIRE.KIND. -/
abbrev SV_RETIRE_KIND : Fld := ⟨.SV_RETIRE, 0, 2⟩
/-- SV_RETIRE.UNIT. -/
abbrev SV_RETIRE_UNIT : Fld := ⟨.SV_RETIRE, 2, 6⟩
/-- SV_RETIRE.ACTION. -/
abbrev SV_RETIRE_ACTION : Fld := ⟨.SV_RETIRE, 8, 2⟩
/-- SV_RETIRE.PERSIST. -/
abbrev SV_RETIRE_PERSIST : Fld := ⟨.SV_RETIRE, 10, 1⟩
/-- SV_RETIRE.RESULT. -/
abbrev SV_RETIRE_RESULT : Fld := ⟨.SV_RETIRE, 12, 4⟩
/-- SV_RETIRE.GO. -/
abbrev SV_RETIRE_GO : Fld := ⟨.SV_RETIRE, 31, 1⟩
/-- SV_RETIRED_STACKS.STACKS. -/
abbrev SV_RETIRED_STACKS_STACKS : Fld := ⟨.SV_RETIRED_STACKS, 0, 8⟩
/-- SV_RETIRED_SLICES.SLICES. -/
abbrev SV_RETIRED_SLICES_SLICES : Fld := ⟨.SV_RETIRED_SLICES, 0, 64⟩
/-- SV_RAS_CFG.AUTO_TM. -/
abbrev SV_RAS_CFG_AUTO_TM : Fld := ⟨.SV_RAS_CFG, 0, 1⟩
/-- SV_RAS_CFG.AUTO_LC. -/
abbrev SV_RAS_CFG_AUTO_LC : Fld := ⟨.SV_RAS_CFG, 1, 1⟩
/-- SV_RAS_CFG.AUTO_HBM. -/
abbrev SV_RAS_CFG_AUTO_HBM : Fld := ⟨.SV_RAS_CFG, 2, 1⟩
/-- SV_RAS_CFG.PASSES. -/
abbrev SV_RAS_CFG_PASSES : Fld := ⟨.SV_RAS_CFG, 4, 4⟩
/-- SV_RAS_SUM.REPAIRS. -/
abbrev SV_RAS_SUM_REPAIRS : Fld := ⟨.SV_RAS_SUM, 0, 16⟩
/-- SV_RAS_SUM.SPENT. -/
abbrev SV_RAS_SUM_SPENT : Fld := ⟨.SV_RAS_SUM, 16, 16⟩
/-- SV_RAS_SUM.UE. -/
abbrev SV_RAS_SUM_UE : Fld := ⟨.SV_RAS_SUM, 32, 32⟩
/-- SV_RAS_EVT_FT.FT. -/
abbrev SV_RAS_EVT_FT_FT : Fld := ⟨.SV_RAS_EVT_FT, 0, 64⟩
/-- SV_RAS_EVT.KIND. -/
abbrev SV_RAS_EVT_KIND : Fld := ⟨.SV_RAS_EVT, 0, 4⟩
/-- SV_RAS_EVT.UNIT. -/
abbrev SV_RAS_EVT_UNIT : Fld := ⟨.SV_RAS_EVT, 4, 12⟩
/-- SV_RAS_EVT.DETAIL. -/
abbrev SV_RAS_EVT_DETAIL : Fld := ⟨.SV_RAS_EVT, 16, 32⟩
/-- SV_RAS_EVT.VALID. -/
abbrev SV_RAS_EVT_VALID : Fld := ⟨.SV_RAS_EVT, 63, 1⟩
/-- SV_RAS_HEAD.NEXT. -/
abbrev SV_RAS_HEAD_NEXT : Fld := ⟨.SV_RAS_HEAD, 0, 4⟩
/-- SV_RAS_HEAD.WRAPS. -/
abbrev SV_RAS_HEAD_WRAPS : Fld := ⟨.SV_RAS_HEAD, 16, 16⟩
/-- SV_BOOT.STAGE. -/
abbrev SV_BOOT_STAGE : Fld := ⟨.SV_BOOT, 0, 4⟩
/-- SV_BOOT.RESULT. -/
abbrev SV_BOOT_RESULT : Fld := ⟨.SV_BOOT, 4, 4⟩
/-- SV_BOOT.ATTEMPTS. -/
abbrev SV_BOOT_ATTEMPTS : Fld := ⟨.SV_BOOT, 16, 8⟩
/-- SV_BOOT_FT.FT. -/
abbrev SV_BOOT_FT_FT : Fld := ⟨.SV_BOOT_FT, 0, 64⟩
/-- SV_RESET_CAUSE.SVC_POWER_ON. -/
abbrev SV_RESET_CAUSE_SVC_POWER_ON : Fld := ⟨.SV_RESET_CAUSE, 0, 1⟩
/-- SV_RESET_CAUSE.SYS_RST. -/
abbrev SV_RESET_CAUSE_SYS_RST : Fld := ⟨.SV_RESET_CAUSE, 1, 1⟩
/-- SV_RESET_CAUSE.PWR_EN_CYCLE. -/
abbrev SV_RESET_CAUSE_PWR_EN_CYCLE : Fld := ⟨.SV_RESET_CAUSE, 2, 1⟩
/-- SV_RESET_CAUSE.AFTER_TRIP. -/
abbrev SV_RESET_CAUSE_AFTER_TRIP : Fld := ⟨.SV_RESET_CAUSE, 3, 1⟩
/-- SV_RESET_CAUSE.SHORT. -/
abbrev SV_RESET_CAUSE_SHORT : Fld := ⟨.SV_RESET_CAUSE, 16, 16⟩
/-- SV_STRAPS.ADDR_SEL. -/
abbrev SV_STRAPS_ADDR_SEL : Fld := ⟨.SV_STRAPS, 0, 3⟩
/-- SV_STRAPS.SMB_ADDR. -/
abbrev SV_STRAPS_SMB_ADDR : Fld := ⟨.SV_STRAPS, 8, 7⟩
end Fld

/-- PM_VF.FREQ in MHz of group `i` (0 MX, 1 TM, 2 VX) at operating point `j` (R501). -/
def vfFreq (i j : Nat) : Nat :=
  match i with
  | 0 => [600, 700, 800, 900, 1000, 1100, 1200, 1300, 1350, 1400, 1450, 1525, 1600, 1650, 1725, 1800].getD j 0
  | _ => [800, 850, 900, 950, 1000, 1050, 1100, 1150, 1200, 1300, 1400, 1500, 1600, 1600, 1600, 1600].getD j 0

/-- PM_VF.VFUSE: fused, a DESIGN CHOICE of log entry 1 that meets R503; TM and VX points 13 to 15 equal point 12 (R501). -/
def vfFuse (i j : Nat) : Nat := if i = 0 then 120 + j else 120 + min j 12

/-- The reset values that are not 0, by register: a register's number and its value at the two indexes. -/
def resetTable : List (Nat × (Nat → Nat → Nat)) :=
  [(RegId.SV_ID.ctorIdx, fun _ _ => 0x5D1A),
   (RegId.SV_ASSEMBLY.ctorIdx, fun _ _ => 0x1FFF0285),
   (RegId.SV_CLMAP.ctorIdx, fun _ _ => 0x7654321076543210),
   (RegId.FT_SRC.ctorIdx, fun _ _ => 0x3),
   (RegId.FT_STG_CTL.ctorIdx, fun _ _ => 0xFF00),
   (RegId.FT_TRACE_CTL.ctorIdx, fun _ _ => 0x30),
   (RegId.TM_STATUS.ctorIdx, fun _ _ => 0x1),
   (RegId.TM_CFG.ctorIdx, fun _ _ => 0x3F),
   (RegId.TMX_HOT_CFG.ctorIdx, fun _ _ => 0x20),
   (RegId.LK_WORD.ctorIdx, fun _ _ => 0x2),
   (RegId.IN_SCRUB_CTL.ctorIdx, fun _ _ => 0x8000000),
   (RegId.PL_CTL.ctorIdx, fun _ _ => 0x4),
   (RegId.PL_FILL.ctorIdx, fun _ _ => 0x80),
   (RegId.PL_RFM.ctorIdx, fun _ _ => 0x800),
   (RegId.PL_PRI_CFG.ctorIdx, fun _ _ => 0x2710),
   (RegId.MU_READY.ctorIdx, fun _ _ => 0xFFFFFFFFFFFFFFFF),
   (RegId.MU_HOLD.ctorIdx, fun _ _ => 0x14),
   (RegId.MU_WIN_CTL.ctorIdx, fun _ _ => 0x200000),
   (RegId.TR_REQ.ctorIdx, fun _ _ => 0x21000),
   (RegId.ST_CTX_CFG.ctorIdx, fun _ _ => 0x140),
   (RegId.GT_CFG.ctorIdx, fun _ _ => 0x200),
   (RegId.SC_CORE_STATUS.ctorIdx, fun _ _ => 0x10),
   (RegId.SC_CORE_QUANTUM.ctorIdx, fun _ _ => 0x40),
   (RegId.HQ_APERTURE.ctorIdx, fun _ _ => 0x40000000),
   (RegId.HQ_VI_CFG.ctorIdx, fun _ _ => 0x4040),
   (RegId.HQ_OP.ctorIdx, fun _ _ => 0x280),
   (RegId.HQ_Q_CFG.ctorIdx, fun _ _ => 0x108),
   (RegId.HQ_Q_STATE.ctorIdx, fun _ _ => 0x100000000),
   (RegId.HL_PORT_CFG.ctorIdx, fun i _ => i % 8 + 64 * 64),
   (RegId.HL_BCAST.ctorIdx, fun _ _ => 0xFFFF),
   (RegId.HL_TIMEOUT.ctorIdx, fun _ _ => 0xA),
   (RegId.HD_CFG.ctorIdx, fun _ _ => 0x1000),
   (RegId.HD_SELF.ctorIdx, fun _ _ => 0x1),
   (RegId.PM_SPLIT.ctorIdx, fun _ _ => 0x80E0E162A),
   (RegId.PM_CAP.ctorIdx, fun _ _ => 0x12C),
   (RegId.PM_CFG.ctorIdx, fun _ _ => 0x35F),
   (RegId.PM_PHASE_VI.ctorIdx, fun _ _ => 0x1),
   (RegId.PM_ALERT_DEST.ctorIdx, fun _ _ => 0x2800000),
   (RegId.PM_GROUP.ctorIdx, fun _ _ => 0xFC),
   (RegId.PM_CAL.ctorIdx, fun _ _ => 0x4000),
   (RegId.PM_VF.ctorIdx, fun i j => vfFreq i j + vfFuse i j * 4096),
   (RegId.PM_PHASE.ctorIdx, fun _ _ => 0xCCC),
   (RegId.PM_RAIL.ctorIdx, fun _ _ => 0xFFF),
   (RegId.PM_RAIL_WIN.ctorIdx, fun _ _ => 0x80000),
   (RegId.TH_CFG.ctorIdx, fun _ _ => 0x3C64),
   (RegId.TH_ALERT.ctorIdx, fun _ _ => 0xF0),
   (RegId.TH_HU_CFG.ctorIdx, fun _ _ => 0x168),
   (RegId.SV_SPARE_STATUS.ctorIdx, fun _ _ => 0x81),
   (RegId.SV_RETIRE.ctorIdx, fun _ _ => 0x400),
   (RegId.SV_RAS_CFG.ctorIdx, fun _ _ => 0x27),
   (RegId.SV_RESET_CAUSE.ctorIdx, fun _ _ => 0x1),
   (RegId.SV_STRAPS.ctorIdx, fun _ _ => 0x5800)]

/-- The number under which a register is stored: its constructor's index, then the two indexes in 20 bits each. -/
def regKey (id : RegId) (i j : Nat) : Nat := id.ctorIdx * 2 ^ 40 + (i % 2 ^ 20) * 2 ^ 20 + j % 2 ^ 20

/-- What a register reads as that nothing has written since reset. -/
def resetVal (k : Nat) : W64 :=
  match resetTable.find? (fun e => e.1 == k >>> 40) with
  | some (_, f) => BitVec.ofNat 64 (f ((k >>> 20) % 2 ^ 20) (k % 2 ^ 20))
  | none => 0

/-- Where the registers lie in BAR0 (R17) (part 0). -/
def places0 : List Place :=
  [⟨.SV_ID, 0x0, .svc, [], 0, 0⟩,
   ⟨.SV_ASSEMBLY, 0x8, .svc, [], 0, 0⟩,
   ⟨.SV_CLMAP, 0x10, .svc, [], 0, 0⟩,
   ⟨.SV_ACCESS_ERR, 0x20, .svc, [], 0, 0⟩,
   ⟨.FT_NOW, 0x100000, .svc, [], 0, 0⟩,
   ⟨.FT_STATUS, 0x100008, .svc, [], 0, 0⟩,
   ⟨.FT_SRC, 0x100010, .svc, [], 0, 0⟩,
   ⟨.FT_CTRL, 0x100018, .svc, [], 0, 0⟩,
   ⟨.FT_PPS_SEC, 0x100020, .svc, [], 0, 0⟩,
   ⟨.FT_UTC_OFFSET, 0x100028, .svc, [], 0, 0⟩,
   ⟨.FT_PORT_ASYM, 0x100040, .svc, [(16, 0x8)], 1, 0⟩,
   ⟨.FT_STG_TIME, 0x100100, .svc, [], 0, 0⟩,
   ⟨.FT_STG_ARG, 0x100108, .svc, [], 0, 0⟩,
   ⟨.FT_STG_CTL, 0x100110, .svc, [], 0, 0⟩,
   ⟨.FT_STG_STATUS, 0x100118, .svc, [], 0, 0⟩,
   ⟨.FT_EVENT, 0x100120, .svc, [], 0, 0⟩,
   ⟨.FT_STK_TIME, 0x101000, .svc, [(256, 0x20)], 1, 0⟩,
   ⟨.FT_STK_ARG, 0x101008, .svc, [(256, 0x20)], 1, 0⟩,
   ⟨.FT_STK_STATE, 0x101010, .svc, [(256, 0x20)], 1, 0⟩,
   ⟨.FT_STK_FIRED, 0x101018, .svc, [(256, 0x20)], 1, 0⟩,
   ⟨.FT_TRACE_CTL, 0x104000, .svc, [(18, 0x40)], 1, 0⟩,
   ⟨.FT_TRACE_BASE, 0x104008, .svc, [(18, 0x40)], 1, 0⟩,
   ⟨.FT_TRACE_HEAD, 0x104010, .svc, [(18, 0x40)], 1, 0⟩,
   ⟨.FT_TRACE_TAIL, 0x104018, .svc, [(18, 0x40)], 1, 0⟩,
   ⟨.FT_TRACE_STATUS, 0x104020, .svc, [(18, 0x40)], 1, 0⟩,
   ⟨.TM_STATUS, 0x1000000, .cluster, [(18, 0x200000)], 1, 0⟩,
   ⟨.TM_CFG, 0x1000008, .cluster, [(18, 0x200000)], 1, 0⟩,
   ⟨.TMX_CNT_CTL, 0x1001000, .cluster, [(18, 0x200000)], 1, 0⟩,
   ⟨.TMX_HOT_CFG, 0x1001008, .cluster, [(18, 0x200000)], 1, 0⟩,
   ⟨.TMX_HOT_HEAD, 0x1001010, .cluster, [(18, 0x200000)], 1, 0⟩,
   ⟨.TMX_HOT_RING_FT, 0x1001100, .cluster, [(18, 0x200000), (8, 0x10)], 1, 0⟩,
   ⟨.TMX_HOT_RING, 0x1001108, .cluster, [(18, 0x200000), (8, 0x10)], 1, 0⟩,
   ⟨.TMX_PORT_LOST, 0x1001200, .cluster, [(18, 0x200000), (9, 0x10)], 1, 0⟩,
   ⟨.TMX_PORT_CONF, 0x1001208, .cluster, [(18, 0x200000), (9, 0x10)], 1, 0⟩,
   ⟨.TMX_MRG_RMW, 0x1001300, .cluster, [(18, 0x200000)], 1, 0⟩,
   ⟨.TMX_MRG_FWD, 0x1001308, .cluster, [(18, 0x200000)], 1, 0⟩,
   ⟨.TMX_MRG_DROP, 0x1001310, .cluster, [(18, 0x200000)], 1, 0⟩,
   ⟨.WN_RANGE, 0x1002000, .cluster, [(18, 0x200000), (64, 0x20)], 1, 0⟩,
   ⟨.WN_SRC, 0x1002008, .cluster, [(18, 0x200000), (64, 0x20)], 1, 0⟩,
   ⟨.WN_CTL, 0x1002010, .cluster, [(18, 0x200000), (64, 0x20)], 1, 0⟩,
   ⟨.WN_CNT, 0x1002800, .cluster, [(18, 0x200000), (256, 0x4)], 1, 0⟩,
   ⟨.WN_CNT_SUB, 0x1002C00, .cluster, [(18, 0x200000), (256, 0x4)], 1, 0⟩,
   ⟨.WN_STATUS, 0x1003000, .cluster, [(18, 0x200000)], 1, 0⟩,
   ⟨.WN_REFUSE_CNT, 0x1003008, .cluster, [(18, 0x200000)], 1, 0⟩,
   ⟨.WN_REFUSE_FT, 0x1003100, .cluster, [(18, 0x200000), (16, 0x20)], 1, 0⟩,
   ⟨.WN_REFUSE, 0x1003108, .cluster, [(18, 0x200000), (16, 0x20)], 1, 0⟩,
   ⟨.WN_REFUSE_OFF, 0x1003110, .cluster, [(18, 0x200000), (16, 0x20)], 1, 0⟩,
   ⟨.WN_REFUSE_LEN, 0x1003118, .cluster, [(18, 0x200000), (16, 0x20)], 1, 0⟩,
   ⟨.WN_HW_RANGE, 0x808000, .hl, [(256, 0x20)], 1, 0⟩,
   ⟨.WN_HW_SRC, 0x808008, .hl, [(256, 0x20)], 1, 0⟩]

/-- Where the registers lie in BAR0 (R17) (part 1). -/
def places1 : List Place :=
  [⟨.WN_HW_CTL, 0x808010, .hl, [(256, 0x20)], 1, 0⟩,
   ⟨.WN_HW_REFUSE_FT, 0x80A000, .hl, [(16, 0x20)], 1, 0⟩,
   ⟨.WN_HW_REFUSE, 0x80A008, .hl, [(16, 0x20)], 1, 0⟩,
   ⟨.WN_HW_REFUSE_ADDR, 0x80A010, .hl, [(16, 0x20)], 1, 0⟩,
   ⟨.WN_HW_REFUSE_LEN, 0x80A018, .hl, [(16, 0x20)], 1, 0⟩,
   ⟨.LK_FORCE, 0x3440000, .spine, [(2, 0x100000)], 1, 0⟩,
   ⟨.LK_EVENT, 0x3440008, .spine, [(2, 0x100000)], 1, 0⟩,
   ⟨.LK_PART, 0x3440100, .spine, [(2, 0x100000), (64, 0x4)], 1, 0⟩,
   ⟨.LK_WORD, 0x3450000, .spine, [(2, 0x100000), (4096, 0x8)], 1, 0⟩,
   ⟨.IN_ECNT, 0x34C0000, .spine, [(2, 0x100000), (6, 0x40), (6, 0x8)], 1, 0⟩,
   ⟨.IN_BITE, 0x34C0200, .spine, [(2, 0x100000), (5, 0x8)], 1, 0⟩,
   ⟨.IN_ECNT_CLR, 0x34C0300, .spine, [(2, 0x100000)], 1, 0⟩,
   ⟨.IN_UE_LOG_FT, 0x34C0400, .spine, [(2, 0x100000), (16, 0x20)], 1, 0⟩,
   ⟨.IN_UE_LOG_ADDR, 0x34C0408, .spine, [(2, 0x100000), (16, 0x20)], 1, 0⟩,
   ⟨.IN_UE_LOG_TAG, 0x34C0410, .spine, [(2, 0x100000), (16, 0x20)], 1, 0⟩,
   ⟨.IN_UE_HEAD, 0x34C0600, .spine, [(2, 0x100000)], 1, 0⟩,
   ⟨.IN_SCRUB_BASE, 0x34C1000, .spine, [(2, 0x100000), (16, 0x40)], 1, 0⟩,
   ⟨.IN_SCRUB_LIMIT, 0x34C1008, .spine, [(2, 0x100000), (16, 0x40)], 1, 0⟩,
   ⟨.IN_SCRUB_CTL, 0x34C1010, .spine, [(2, 0x100000), (16, 0x40)], 1, 0⟩,
   ⟨.IN_SCRUB_SUM, 0x34C2000, .spine, [(2, 0x100000), (16, 0x100), (24, 0x8)], 1, 0⟩,
   ⟨.IN_DIAG, 0x34C3000, .spine, [(2, 0x100000)], 1, 0⟩,
   ⟨.IN_DIAG_ADDR, 0x34C3008, .spine, [(2, 0x100000)], 1, 0⟩,
   ⟨.IN_DIAG_CHK, 0x34C3010, .spine, [(2, 0x100000)], 1, 0⟩,
   ⟨.IN_DIAG_DATA, 0x34C3020, .spine, [(2, 0x100000), (8, 0x4)], 1, 0⟩,
   ⟨.IN_REPAIR, 0x34C3100, .spine, [(2, 0x100000)], 1, 0⟩,
   ⟨.IN_ST_STATUS, 0x34C3200, .spine, [(2, 0x100000)], 1, 0⟩,
   ⟨.PL_CTL, 0x3800000, .stack, [(8, 0x40000), (48, 0x10)], 1, 0⟩,
   ⟨.PL_TAG, 0x3800008, .stack, [(8, 0x40000), (48, 0x10)], 1, 0⟩,
   ⟨.PL_STATUS, 0x3800400, .stack, [(8, 0x40000), (48, 0x8)], 1, 0⟩,
   ⟨.PL_FILL, 0x3800800, .stack, [(8, 0x40000)], 1, 0⟩,
   ⟨.PL_FILL_RANGE, 0x3800808, .stack, [(8, 0x40000)], 1, 0⟩,
   ⟨.PL_THERM, 0x3800900, .stack, [(8, 0x40000)], 1, 0⟩,
   ⟨.PL_RFM, 0x3800908, .stack, [(8, 0x40000)], 1, 0⟩,
   ⟨.PL_PT_ROOT, 0x3801000, .stack0, [(64, 0x8)], 1, 0⟩,
   ⟨.PL_TLB_INV, 0x3801400, .stack0, [], 0, 0⟩,
   ⟨.PL_TLB_INV_CNT, 0x3801408, .stack0, [], 0, 0⟩,
   ⟨.PL_PRI_CFG, 0x3801410, .stack0, [], 0, 0⟩,
   ⟨.PL_FAULT_FT, 0x3801500, .stack0, [(16, 0x20)], 1, 0⟩,
   ⟨.PL_FAULT_ADDR, 0x3801508, .stack0, [(16, 0x20)], 1, 0⟩,
   ⟨.PL_FAULT_INFO, 0x3801510, .stack0, [(16, 0x20)], 1, 0⟩,
   ⟨.PL_FAULT_HEAD, 0x3801700, .stack0, [], 0, 0⟩,
   ⟨.MU_READY, 0x3802000, .stack, [(8, 0x40000)], 1, 0⟩,
   ⟨.MU_THERM, 0x3802010, .stack, [(8, 0x40000)], 1, 0⟩,
   ⟨.MU_HOLD, 0x3802018, .stack, [(8, 0x40000)], 1, 0⟩,
   ⟨.MU_HOLD_EXP, 0x3802020, .stack, [(8, 0x40000)], 1, 0⟩,
   ⟨.MU_BUDGET_NS, 0x3802028, .stack, [(8, 0x40000)], 1, 0⟩,
   ⟨.MU_SUSPECT, 0x3802100, .stack, [(8, 0x40000), (64, 0x8)], 1, 0⟩,
   ⟨.MU_CH, 0x3802400, .stack, [(8, 0x40000), (64, 0x10)], 1, 0⟩,
   ⟨.MU_STAT_FT, 0x3802800, .stack, [(8, 0x40000), (32, 0x10)], 1, 0⟩,
   ⟨.MU_STAT, 0x3802808, .stack, [(8, 0x40000), (32, 0x10)], 1, 0⟩]

/-- Where the registers lie in BAR0 (R17) (part 2). -/
def places2 : List Place :=
  [⟨.MU_STAT_HEAD, 0x3802A00, .stack, [(8, 0x40000)], 1, 0⟩,
   ⟨.MU_CMD, 0x3807100, .stack0, [(4, 0x8)], 1, 0⟩,
   ⟨.MU_CMD_GO, 0x3807120, .stack0, [], 0, 0⟩,
   ⟨.MU_WIN_CMD, 0x3807000, .stack0, [], 0, 0⟩,
   ⟨.MU_WIN_CTL, 0x3808000, .stack0, [(256, 0x20)], 1, 0⟩,
   ⟨.MU_WIN_MASK, 0x3808008, .stack0, [(256, 0x20)], 1, 0⟩,
   ⟨.LC_PART, 0x3400000, .spine0, [(64, 0x8)], 1, 0⟩,
   ⟨.LC_PART_STATE, 0x3400200, .spine0, [(64, 0x8)], 1, 0⟩,
   ⟨.LC_OP, 0x3400400, .spine0, [], 0, 0⟩,
   ⟨.LC_OP_BASE, 0x3400408, .spine0, [], 0, 0⟩,
   ⟨.LC_OP_LEN, 0x3400410, .spine0, [], 0, 0⟩,
   ⟨.LC_SLICE_STATUS, 0x3401000, .spine, [(2, 0x100000), (32, 0x40)], 1, 0⟩,
   ⟨.LC_SLICE_CNT, 0x3404000, .spine, [(2, 0x100000), (32, 0x80), (7, 0x10)], 1, 0⟩,
   ⟨.LC_SLICE_CNT_WRAPS, 0x3404008, .spine, [(2, 0x100000), (32, 0x80), (7, 0x10)], 1, 0⟩,
   ⟨.LC_CNT_CTL, 0x3400800, .spine, [(2, 0x100000)], 1, 0⟩,
   ⟨.TR_REQ, 0x3480000, .spine, [(2, 0x100000), (13, 0x4000), (48, 0x8)], 2, 0⟩,
   ⟨.TR_TROUGH, 0x3480400, .spine, [(2, 0x100000), (13, 0x4000), (48, 0x8)], 2, 0⟩,
   ⟨.TR_BEATS, 0x3480800, .spine, [(2, 0x100000), (13, 0x4000), (48, 0x10)], 2, 0⟩,
   ⟨.TR_BEATS_WRAPS, 0x3480808, .spine, [(2, 0x100000), (13, 0x4000), (48, 0x10)], 2, 0⟩,
   ⟨.TR_STATUS, 0x3481000, .spine, [(2, 0x100000), (13, 0x4000)], 2, 0⟩,
   ⟨.TR_CNT, 0x3481100, .spine, [(2, 0x100000), (13, 0x4000), (4, 0x8)], 2, 0⟩,
   ⟨.TR_CNT_CLR, 0x3481140, .spine, [(2, 0x100000), (13, 0x4000)], 2, 0⟩,
   ⟨.TR_ABANDON_FT, 0x3481200, .spine, [(2, 0x100000), (13, 0x4000), (16, 0x20)], 2, 0⟩,
   ⟨.TR_ABANDON, 0x3481208, .spine, [(2, 0x100000), (13, 0x4000), (16, 0x20)], 2, 0⟩,
   ⟨.TR_ABANDON_HEAD, 0x3481400, .spine, [(2, 0x100000), (13, 0x4000)], 2, 0⟩,
   ⟨.ST_CTX_CFG, 0x1004000, .cluster, [(18, 0x200000), (16, 0x20)], 1, 0⟩,
   ⟨.ST_CTX_CRUMB, 0x1004008, .cluster, [(18, 0x200000), (16, 0x20)], 1, 0⟩,
   ⟨.ST_CTX_STATUS, 0x1004010, .cluster, [(18, 0x200000), (16, 0x20)], 1, 0⟩,
   ⟨.ST_CTX_DONE, 0x1004018, .cluster, [(18, 0x200000), (16, 0x20)], 1, 0⟩,
   ⟨.ST_CMD_LIST, 0x1004400, .cluster, [(18, 0x200000), (16, 0x10)], 1, 0⟩,
   ⟨.ST_CMD, 0x1004408, .cluster, [(18, 0x200000), (16, 0x10)], 1, 0⟩,
   ⟨.ST_CRUMB, 0x1004800, .cluster, [(18, 0x200000), (16, 0x40), (8, 0x8)], 1, 0⟩,
   ⟨.ST_CNT, 0x1004C00, .cluster, [(18, 0x200000), (6, 0x10)], 1, 0⟩,
   ⟨.ST_CNT_WRAPS, 0x1004C08, .cluster, [(18, 0x200000), (6, 0x10)], 1, 0⟩,
   ⟨.ST_CNT_CLR, 0x1004C80, .cluster, [(18, 0x200000)], 1, 0⟩,
   ⟨.MX_STATUS, 0x1006000, .cluster, [(18, 0x200000)], 1, 0⟩,
   ⟨.MX_DONE, 0x1006008, .cluster, [(18, 0x200000)], 1, 0⟩,
   ⟨.MX_DONE_FT, 0x1006010, .cluster, [(18, 0x200000)], 1, 0⟩,
   ⟨.MX_CNT, 0x1006100, .cluster, [(18, 0x200000), (4, 0x10)], 1, 0⟩,
   ⟨.MX_CNT_WRAPS, 0x1006108, .cluster, [(18, 0x200000), (4, 0x10)], 1, 0⟩,
   ⟨.MX_CNT_CLR, 0x1006180, .cluster, [(18, 0x200000)], 1, 0⟩,
   ⟨.VX_STATUS, 0x1006400, .cluster, [(18, 0x200000)], 1, 0⟩,
   ⟨.VX_DONE, 0x1006408, .cluster, [(18, 0x200000)], 1, 0⟩,
   ⟨.VX_DONE_FT, 0x1006410, .cluster, [(18, 0x200000)], 1, 0⟩,
   ⟨.VX_CNT, 0x1006500, .cluster, [(18, 0x200000), (4, 0x10)], 1, 0⟩,
   ⟨.VX_CNT_WRAPS, 0x1006508, .cluster, [(18, 0x200000), (4, 0x10)], 1, 0⟩,
   ⟨.VX_CNT_CLR, 0x1006580, .cluster, [(18, 0x200000)], 1, 0⟩,
   ⟨.GT_STATUS, 0x1006800, .cluster, [(18, 0x200000)], 1, 0⟩,
   ⟨.GT_DONE, 0x1006808, .cluster, [(18, 0x200000)], 1, 0⟩,
   ⟨.GT_DONE_FT, 0x1006810, .cluster, [(18, 0x200000)], 1, 0⟩]

/-- Where the registers lie in BAR0 (R17) (part 3). -/
def places3 : List Place :=
  [⟨.GT_CNT, 0x1006900, .cluster, [(18, 0x200000), (7, 0x10)], 1, 0⟩,
   ⟨.GT_CNT_WRAPS, 0x1006908, .cluster, [(18, 0x200000), (7, 0x10)], 1, 0⟩,
   ⟨.GT_CNT_CLR, 0x1006980, .cluster, [(18, 0x200000)], 1, 0⟩,
   ⟨.GT_CFG, 0x1006820, .cluster, [(18, 0x200000)], 1, 0⟩,
   ⟨.SC_CORE_STATUS, 0x1008000, .cluster, [(18, 0x200000)], 1, 0⟩,
   ⟨.SC_CORE_STATUS, 0x820000, .hl, [(4, 0x10000)], 1, 18⟩,
   ⟨.SC_CORE_CFG, 0x1008008, .cluster, [(18, 0x200000)], 1, 0⟩,
   ⟨.SC_CORE_CFG, 0x820008, .hl, [(4, 0x10000)], 1, 18⟩,
   ⟨.SC_CORE_QUANTUM, 0x1008010, .cluster, [(18, 0x200000)], 1, 0⟩,
   ⟨.SC_CORE_QUANTUM, 0x820010, .hl, [(4, 0x10000)], 1, 18⟩,
   ⟨.SC_CORE_CTL, 0x1008018, .cluster, [(18, 0x200000)], 1, 0⟩,
   ⟨.SC_CORE_CTL, 0x820018, .hl, [(4, 0x10000)], 1, 18⟩,
   ⟨.SC_EVENT, 0x1008020, .cluster, [(18, 0x200000)], 1, 0⟩,
   ⟨.SC_EVENT, 0x820020, .hl, [(4, 0x10000)], 1, 18⟩,
   ⟨.SC_CTX_CFG, 0x1008100, .cluster, [(18, 0x200000), (16, 0x20)], 1, 0⟩,
   ⟨.SC_CTX_CFG, 0x820100, .hl, [(4, 0x10000), (16, 0x20)], 1, 18⟩,
   ⟨.SC_CTX_CTL, 0x1008108, .cluster, [(18, 0x200000), (16, 0x20)], 1, 0⟩,
   ⟨.SC_CTX_CTL, 0x820108, .hl, [(4, 0x10000), (16, 0x20)], 1, 18⟩,
   ⟨.SC_CTX_STATUS, 0x1008110, .cluster, [(18, 0x200000), (16, 0x20)], 1, 0⟩,
   ⟨.SC_CTX_STATUS, 0x820110, .hl, [(4, 0x10000), (16, 0x20)], 1, 18⟩,
   ⟨.SC_CTX_KICK, 0x1008118, .cluster, [(18, 0x200000), (16, 0x20)], 1, 0⟩,
   ⟨.SC_CTX_KICK, 0x820118, .hl, [(4, 0x10000), (16, 0x20)], 1, 18⟩,
   ⟨.SC_CTX_ALARM, 0x1008800, .cluster, [(18, 0x200000), (16, 0x8)], 1, 0⟩,
   ⟨.SC_CTX_ALARM, 0x820800, .hl, [(4, 0x10000), (16, 0x8)], 1, 18⟩,
   ⟨.SC_CTX_TRAP, 0x1008A00, .cluster, [(18, 0x200000), (16, 0x20)], 1, 0⟩,
   ⟨.SC_CTX_TRAP, 0x820A00, .hl, [(4, 0x10000), (16, 0x20)], 1, 18⟩,
   ⟨.SC_CTX_TRAP_CAUSE, 0x1008A08, .cluster, [(18, 0x200000), (16, 0x20)], 1, 0⟩,
   ⟨.SC_CTX_TRAP_CAUSE, 0x820A08, .hl, [(4, 0x10000), (16, 0x20)], 1, 18⟩,
   ⟨.SC_CTX_TRAP_INFO, 0x1008A10, .cluster, [(18, 0x200000), (16, 0x20)], 1, 0⟩,
   ⟨.SC_CTX_TRAP_INFO, 0x820A10, .hl, [(4, 0x10000), (16, 0x20)], 1, 18⟩,
   ⟨.SC_CTX_TRAP_TAG, 0x1008A18, .cluster, [(18, 0x200000), (16, 0x20)], 1, 0⟩,
   ⟨.SC_CTX_TRAP_TAG, 0x820A18, .hl, [(4, 0x10000), (16, 0x20)], 1, 18⟩,
   ⟨.SC_CNT, 0x1008C00, .cluster, [(18, 0x200000), (7, 0x10)], 1, 0⟩,
   ⟨.SC_CNT, 0x820C00, .hl, [(4, 0x10000), (7, 0x10)], 1, 18⟩,
   ⟨.SC_CNT_WRAPS, 0x1008C08, .cluster, [(18, 0x200000), (7, 0x10)], 1, 0⟩,
   ⟨.SC_CNT_WRAPS, 0x820C08, .hl, [(4, 0x10000), (7, 0x10)], 1, 18⟩,
   ⟨.SC_CNT_CLR, 0x1008C80, .cluster, [(18, 0x200000)], 1, 0⟩,
   ⟨.SC_CNT_CLR, 0x820C80, .hl, [(4, 0x10000)], 1, 18⟩,
   ⟨.SC_CFG_ERR, 0x1008028, .cluster, [(18, 0x200000)], 1, 0⟩,
   ⟨.SC_CFG_ERR, 0x820028, .hl, [(4, 0x10000)], 1, 18⟩,
   ⟨.SC_CFG_ERR_FT, 0x1008030, .cluster, [(18, 0x200000)], 1, 0⟩,
   ⟨.SC_CFG_ERR_FT, 0x820030, .hl, [(4, 0x10000)], 1, 18⟩,
   ⟨.ST_CTX_CFG, 0x700000, .ioe, [(2, 0x10000), (32, 0x20)], 1, 18⟩,
   ⟨.ST_CTX_CRUMB, 0x700008, .ioe, [(2, 0x10000), (32, 0x20)], 1, 18⟩,
   ⟨.ST_CTX_STATUS, 0x700010, .ioe, [(2, 0x10000), (32, 0x20)], 1, 18⟩,
   ⟨.ST_CTX_DONE, 0x700018, .ioe, [(2, 0x10000), (32, 0x20)], 1, 18⟩,
   ⟨.ST_CMD_LIST, 0x700400, .ioe, [(2, 0x10000), (32, 0x10)], 1, 18⟩,
   ⟨.ST_CMD, 0x700408, .ioe, [(2, 0x10000), (32, 0x10)], 1, 18⟩,
   ⟨.ST_CRUMB, 0x702000, .ioe, [(2, 0x10000), (32, 0x40), (8, 0x8)], 1, 18⟩,
   ⟨.ST_CNT, 0x703000, .ioe, [(2, 0x10000), (6, 0x10)], 1, 18⟩]

/-- Where the registers lie in BAR0 (R17) (part 4). -/
def places4 : List Place :=
  [⟨.ST_CNT_WRAPS, 0x703008, .ioe, [(2, 0x10000), (6, 0x10)], 1, 18⟩,
   ⟨.ST_CNT_CLR, 0x703080, .ioe, [(2, 0x10000)], 1, 18⟩,
   ⟨.HQ_VI_RESET, 0x400000, .hq, [], 0, 0⟩,
   ⟨.HQ_APERTURE, 0x400008, .hq, [], 0, 0⟩,
   ⟨.HQ_VI_CFG, 0x401000, .hq, [(64, 0x40)], 1, 0⟩,
   ⟨.HQ_VI_STATUS, 0x401008, .hq, [(64, 0x40)], 1, 0⟩,
   ⟨.HQ_VI_CNT, 0x401010, .hq, [(64, 0x40), (6, 0x8)], 1, 0⟩,
   ⟨.HQ_GEN, 0x410000, .hq, [(256, 0x10)], 1, 0⟩,
   ⟨.HQ_GEN_PINS, 0x410008, .hq, [(256, 0x10)], 1, 0⟩,
   ⟨.HQ_OP, 0x420000, .hq, [(64, 0x800), (64, 0x20)], 1, 0⟩,
   ⟨.HQ_OP_EST, 0x420008, .hq, [(64, 0x800), (64, 0x20)], 1, 0⟩,
   ⟨.HQ_OP_STATE, 0x420010, .hq, [(64, 0x800), (64, 0x20)], 1, 0⟩,
   ⟨.HQ_OP_CNT, 0x420018, .hq, [(64, 0x800), (64, 0x20)], 1, 0⟩,
   ⟨.HQ_Q_CFG, 0x500000, .hq, [(65536, 0x20)], 1, 0⟩,
   ⟨.HQ_Q_SQB, 0x500008, .hq, [(65536, 0x20)], 1, 0⟩,
   ⟨.HQ_Q_CQB, 0x500010, .hq, [(65536, 0x20)], 1, 0⟩,
   ⟨.HQ_Q_STATE, 0x500018, .hq, [(65536, 0x20)], 1, 0⟩,
   ⟨.HQ_Q_CTL, 0x780000, .hq, [(65536, 0x8)], 1, 0⟩,
   ⟨.HQ_POST_HQ, 0x400018, .hq, [], 0, 0⟩,
   ⟨.HQ_POST, 0x100A000, .cluster, [(18, 0x200000)], 1, 0⟩,
   ⟨.HL_PORT_CFG, 0x800000, .hl, [(16, 0x100)], 1, 0⟩,
   ⟨.HL_PORT_STATUS, 0x800008, .hl, [(16, 0x100)], 1, 0⟩,
   ⟨.HL_PORT_CNT, 0x800010, .hl, [(16, 0x100), (7, 0x8)], 1, 0⟩,
   ⟨.HL_DIMS, 0x801000, .hl, [], 0, 0⟩,
   ⟨.HL_BCAST, 0x801008, .hl, [], 0, 0⟩,
   ⟨.HL_TIMEOUT, 0x801010, .hl, [], 0, 0⟩,
   ⟨.HL_EVENT, 0x801018, .hl, [], 0, 0⟩,
   ⟨.HL_ROUTE, 0x804000, .hl, [(4096, 0x4)], 1, 0⟩,
   ⟨.HD_STATUS, 0x80C000, .hl, [], 0, 0⟩,
   ⟨.HD_CFG, 0x80C008, .hl, [], 0, 0⟩,
   ⟨.HD_CTL, 0x80C010, .hl, [], 0, 0⟩,
   ⟨.HD_SELF, 0x80C018, .hl, [], 0, 0⟩,
   ⟨.HD_STROKE, 0x80C020, .hl, [], 0, 0⟩,
   ⟨.HD_MSG_BASE, 0x80C100, .hl, [(2, 0x80), (16, 0x8)], 1, 0⟩,
   ⟨.HD_TABLE, 0x810000, .hl, [(4096, 0x10)], 1, 0⟩,
   ⟨.HD_TABLE_ENTRY, 0x810008, .hl, [(4096, 0x10)], 1, 0⟩,
   ⟨.PM_CTL, 0x200000, .svc, [], 0, 0⟩,
   ⟨.PM_STATUS, 0x200008, .svc, [], 0, 0⟩,
   ⟨.PM_SPLIT, 0x200010, .svc, [], 0, 0⟩,
   ⟨.PM_CAP, 0x200018, .svc, [], 0, 0⟩,
   ⟨.PM_POWER, 0x200020, .svc, [], 0, 0⟩,
   ⟨.PM_CFG, 0x200028, .svc, [], 0, 0⟩,
   ⟨.PM_PHASE_VI, 0x200030, .svc, [], 0, 0⟩,
   ⟨.PM_ALERT_DEST, 0x200038, .svc, [], 0, 0⟩,
   ⟨.PM_EVENT, 0x200040, .svc, [], 0, 0⟩,
   ⟨.PM_GROUP, 0x200100, .svc, [(5, 0x40)], 1, 0⟩,
   ⟨.PM_EST, 0x200108, .svc, [(5, 0x40)], 1, 0⟩,
   ⟨.PM_CAL, 0x200110, .svc, [(5, 0x40)], 1, 0⟩,
   ⟨.PM_VF, 0x200400, .svc, [(3, 0x40), (16, 0x4)], 1, 0⟩,
   ⟨.PM_PHASE, 0x200600, .svc, [(16, 0x10)], 1, 0⟩]

/-- Where the registers lie in BAR0 (R17) (part 5). -/
def places5 : List Place :=
  [⟨.PM_RAIL, 0x200800, .svc, [(9, 0x20)], 1, 0⟩,
   ⟨.PM_RAIL_WIN, 0x200808, .svc, [(9, 0x20)], 1, 0⟩,
   ⟨.PM_THR_ACCUM, 0x201000, .svc, [(10, 0x20)], 1, 0⟩,
   ⟨.PM_THR_EPISODES, 0x201008, .svc, [(10, 0x20)], 1, 0⟩,
   ⟨.PM_THR_LAST_START, 0x201010, .svc, [(10, 0x20)], 1, 0⟩,
   ⟨.PM_THR_LAST_END, 0x201018, .svc, [(10, 0x20)], 1, 0⟩,
   ⟨.TH_SENSOR, 0x202000, .svc, [(30, 0x8)], 1, 0⟩,
   ⟨.TH_CFG, 0x202100, .svc, [], 0, 0⟩,
   ⟨.TH_TRIP_FT, 0x202110, .svc, [], 0, 0⟩,
   ⟨.TH_TRIP, 0x202118, .svc, [], 0, 0⟩,
   ⟨.TH_ALERT, 0x202120, .svc, [], 0, 0⟩,
   ⟨.TH_HU_STATUS, 0x202130, .svc, [], 0, 0⟩,
   ⟨.TH_HU_CFG, 0x202138, .svc, [], 0, 0⟩,
   ⟨.TH_EVENT, 0x202140, .svc, [], 0, 0⟩,
   ⟨.TH_LAST_SHUTDOWN, 0x202200, .svc, [(8, 0x8)], 1, 0⟩,
   ⟨.SV_FW_STATUS, 0x40, .svc, [], 0, 0⟩,
   ⟨.SV_FW_LOAD, 0x48, .svc, [], 0, 0⟩,
   ⟨.SV_FW_LEN, 0x50, .svc, [], 0, 0⟩,
   ⟨.SV_FW_DIGEST, 0x80, .svc, [(2, 0x40), (6, 0x8)], 1, 0⟩,
   ⟨.SV_FW_FLOOR, 0x100, .svc, [], 0, 0⟩,
   ⟨.SV_SVC_STATUS, 0x108, .svc, [], 0, 0⟩,
   ⟨.AU_STATUS, 0x300000, .svc, [], 0, 0⟩,
   ⟨.AU_SEQ, 0x300008, .svc, [], 0, 0⟩,
   ⟨.AU_ACKED, 0x300010, .svc, [], 0, 0⟩,
   ⟨.AU_ACK, 0x300018, .svc, [], 0, 0⟩,
   ⟨.AU_EXPORT_DEST, 0x300020, .svc, [], 0, 0⟩,
   ⟨.AU_RD_SEQ, 0x300040, .svc, [], 0, 0⟩,
   ⟨.AU_RD_STATUS, 0x300048, .svc, [], 0, 0⟩,
   ⟨.AU_RD_DATA, 0x300080, .svc, [(8, 0x8)], 1, 0⟩,
   ⟨.LF_STATUS, 0x301000, .svc, [], 0, 0⟩,
   ⟨.LF_REQ, 0x301010, .svc, [], 0, 0⟩,
   ⟨.LF_AUTH_ADDR, 0x301018, .svc, [], 0, 0⟩,
   ⟨.LF_CHALLENGE, 0x301040, .svc, [(4, 0x8)], 1, 0⟩,
   ⟨.NS_STATUS, 0x302000, .svc, [], 0, 0⟩,
   ⟨.NS_STATUS_FT, 0x302008, .svc, [], 0, 0⟩,
   ⟨.NS_CMD, 0x302010, .svc, [], 0, 0⟩,
   ⟨.NS_DATA, 0x302040, .svc, [(16, 0x4)], 1, 0⟩,
   ⟨.NS_OWNER, 0x302800, .svc, [(512, 0x4)], 1, 0⟩,
   ⟨.MB_STATUS, 0x303000, .svc, [], 0, 0⟩,
   ⟨.SV_SPARE_CMD, 0x200, .svc, [(2, 0x20)], 1, 0⟩,
   ⟨.SV_SPARE_STATUS, 0x208, .svc, [(2, 0x20)], 1, 0⟩,
   ⟨.SV_SPARE_FT, 0x210, .svc, [(2, 0x20)], 1, 0⟩,
   ⟨.SV_RETIRE, 0x240, .svc, [], 0, 0⟩,
   ⟨.SV_RETIRED_STACKS, 0x248, .svc, [], 0, 0⟩,
   ⟨.SV_RETIRED_SLICES, 0x250, .svc, [], 0, 0⟩,
   ⟨.SV_RAS_CFG, 0x260, .svc, [], 0, 0⟩,
   ⟨.SV_RAS_SUM, 0x280, .svc, [(4, 0x8)], 1, 0⟩,
   ⟨.SV_RAS_EVT_FT, 0x300, .svc, [(16, 0x10)], 1, 0⟩,
   ⟨.SV_RAS_EVT, 0x308, .svc, [(16, 0x10)], 1, 0⟩,
   ⟨.SV_RAS_HEAD, 0x400, .svc, [], 0, 0⟩]

/-- Where the registers lie in BAR0 (R17) (part 6). -/
def places6 : List Place :=
  [⟨.SV_BOOT, 0x500, .svc, [], 0, 0⟩,
   ⟨.SV_BOOT_FT, 0x508, .svc, [], 0, 0⟩,
   ⟨.SV_RESET_CAUSE, 0x510, .svc, [], 0, 0⟩,
   ⟨.SV_STRAPS, 0x518, .svc, [], 0, 0⟩]

/-- Where the registers lie in BAR0 (R17). -/
def places : List Place :=
  places0 ++ places1 ++ places2 ++ places3 ++ places4 ++ places5 ++ places6

/-- The indexes an offset spells under a list of (count, stride) pairs, and what is left of the offset. -/
def unstride : List (Nat × Nat) → Nat → Option (List Nat × Nat)
  | [], o => some ([], o)
  | (n, st) :: t, o =>
    if o / st < n then
      match unstride t (o % st) with
      | some (l, r) => some (o / st :: l, r)
      | none => none
    else none

/-- A list of indexes as one number, row by row, in the counts of their pairs. -/
def flatIx : List (Nat × Nat) → List Nat → Nat
  | (n, _) :: ds, x :: xs => flatIxFrom ds xs (x % n)
  | _, _ => 0
where flatIxFrom : List (Nat × Nat) → List Nat → Nat → Nat
  | (n, _) :: ds, x :: xs, a => flatIxFrom ds xs (a * n + x)
  | _, _, a => a

/-- A register's place as an address: the register, its two indexes, the byte inside it and its power domain. -/
structure RegRef where
  id : RegId
  i : Nat
  j : Nat
  byte : Nat
  dom : BlockDom
deriving DecidableEq, Repr

/-- The register of place `p` at an offset, if the offset lies in it. -/
def Place.at (p : Place) (off : Nat) : Option RegRef :=
  if off < p.base then none
  else match unstride p.dims (off - p.base) with
    | some (ix, r) =>
      if r < p.id.info.width / 8 then
        some ⟨p.id, flatIx (p.dims.take p.lead) (ix.take p.lead) + p.add, flatIx (p.dims.drop p.lead) (ix.drop p.lead), r, p.dom⟩
      else none
    | none => none

/-- The register at a BAR0 offset (R17), if one lies there. -/
def regAt (off : Nat) : Option RegRef := places.findSome? (fun p => p.at off)

end Sys2Proof.Machine
end

