-- ==== Sys2Proof/Machine/Sparse.lean ====
section
/-! DEFINITION. The canonical sparse store: a list of (key, value) pairs whose keys strictly rise and which lists no
entry equal to what an unlisted key reads as. Every memory and the register file of the model are such lists. -/
namespace Sys2Proof.Machine

/-- A sparse store from numeric keys to values. -/
abbrev Sparse (α : Type) := List (Nat × α)

/-- What key `k` reads as; `d` is what an unlisted key reads as. -/
def sget {α : Type} (d : Nat → α) : Sparse α → Nat → α
  | [], k => d k
  | (k', v) :: t, k => if k' = k then v else sget d t k

/-- The store with every entry of key `k` removed. -/
def serase {α : Type} : Sparse α → Nat → Sparse α
  | [], _ => []
  | (k', v) :: t, k => if k' = k then serase t k else (k', v) :: serase t k

/-- The store with entry `(k, v)` put before the first larger key. -/
def sinsert {α : Type} : Sparse α → Nat → α → Sparse α
  | [], k, v => [(k, v)]
  | (k', v') :: t, k, v => if k < k' then (k, v) :: (k', v') :: t else (k', v') :: sinsert t k v

/-- The store with `k` reading as `v`, in canonical form: a value equal to the unlisted one is not listed. -/
def sset {α : Type} [DecidableEq α] (d : Nat → α) (m : Sparse α) (k : Nat) (v : α) : Sparse α :=
  if v = d k then serase m k else sinsert (serase m k) k v

/-- Several writes, the first one first. -/
def ssetAll {α : Type} [DecidableEq α] (d : Nat → α) (m : Sparse α) : List (Nat × α) → Sparse α
  | [] => m
  | (k, v) :: t => ssetAll d (sset d m k v) t

/-- The store without the keys for which `p` holds, which then read as unlisted ones. -/
def sdrop {α : Type} (p : Nat → Bool) (m : Sparse α) : Sparse α := m.filter (fun e => !(p e.1))

/-- The canonical form, as a check: keys strictly rise from `lo` and no entry has the unlisted value. -/
def swfFrom {α : Type} [DecidableEq α] (d : Nat → α) : Nat → Sparse α → Bool
  | _, [] => true
  | lo, (k, v) :: t => decide (lo ≤ k) && decide (v ≠ d k) && swfFrom d (k + 1) t

/-- The canonical form of a store. -/
def swf {α : Type} [DecidableEq α] (d : Nat → α) (m : Sparse α) : Bool := swfFrom d 0 m

end Sys2Proof.Machine
end

