-- ==== Sys2Proof/Machine/State.lean ====
section
/-! DEFINITION. The state of the block as plain data, the reasons a command can stop, and the state after reset.
A register the spec gives is held in `State.regs` under its own name; the other fields hold what the spec gives the
machine beside its registers. -/
namespace Sys2Proof.Machine

open Sys2Proof

/-- The reasons a command can stop the block with a fault: none. Every failure the spec describes (a register access
that cannot be carried out, a refused access, a trap) is an effect the block goes on from. -/
inductive Fault where
  /-- Raised by no command; stated so that the type is inhabited. Safe: no step answers it. -/
  | unreachable
deriving DecidableEq, Repr

/-- The reasons a command is refused. -/
inductive Refusal where
  /-- Raised by the dispatcher for a command that has no meaning yet. Safe: the model stops where the block goes on. -/
  | notModelled (mnemonic : String)
deriving DecidableEq, Repr

/-- What leaves the module: the model's record, newest first, of what the outside can see (log entry 8). -/
inductive Out where
  /-- A memory write of `len` bytes on the PCIe port of I/O die `port`; it is a poisoned TLP when a word is poisoned. -/
  | hostWrite (port addr len : Nat) (data : List PW)
  /-- A memory read sent on the PCIe port of I/O die `port` for `len` bytes, with the unit that asked. -/
  | hostRead (port addr len unit : Nat)
  /-- A read completion to the host. -/
  | cpl (port : Nat) (data : List PW)
  /-- A completion with Unsupported Request (R421). -/
  | unsupported (port : Nat)
  /-- An MSI-X message on the PCIe port of an I/O die: a vector of a VI (R435). -/
  | msix (port vi vector : Nat)
  /-- The 12 HEADER words of a frame's header in a port's control channel (R464). -/
  | header (port : Nat) (pieces : List Nat)
  /-- A Herdlink frame sent on a port. -/
  | frame (port : Nat) (f : Frame)
  /-- A CREDIT word sent on a port (R471). -/
  | credit (port vc sub : Nat) (header : Bool) (count : Nat)
  /-- A LINK word sent on a port: bad cell or good cell, and its number (R472). -/
  | link (port : Nat) (bad : Bool) (cell : Nat)
  /-- The PPS_OUT pulse of a whole second (R28). -/
  | ppsOut (second : Nat)
  /-- A PRI page request (R178). -/
  | pageReq (port vi page : Nat) (write : Bool)
  /-- A translation request over ATS (R425). -/
  | atsReq (port vi page : Nat)
  /-- SR-IOV's VF Enable of a port's PF is cleared (R450). -/
  | vfDisable (port : Nat)
  /-- An ATS invalidation completion (R425). -/
  | atsDone (port tag : Nat)
  /-- An MCTP response: completion code and payload bytes (R576, R577). -/
  | mctp (code : Nat) (payload : List Byte)
  /-- Bytes shifted out on the SPI mailbox (R574). -/
  | spi (bytes : List Byte)
  /-- The challenge of LF_CHALLENGE, read over JTAG (R573). -/
  | jtag (bytes : List Byte)
  /-- A request that went to another member or unit outside was refused back to its sender: family and code (R476). -/
  | refuse (dest family code tag : Nat)
deriving DecidableEq, Repr

/-- The link-delay record of one Herdlink port (R33, R57); times in quarter nanoseconds. `t3` is the stamp of the DELAY_REQ that
awaits its answer. -/
structure PortTime where
  t1 : Int
  t2 : Int
  t3 : Option Int
  exch : List Int
  stable : Nat
  dropped : Bool
deriving DecidableEq, Repr

/-- Fleet-time state beside the FT registers (R24 to R34). `herdOff` is by how much FT_NOW led the shepherd's time at the last time
message, in quarter nanoseconds (R32); `late` holds the armed slots that fire as FIRED_LATE, each with the FT_NOW of the edge it
fires on (R39, R53); `trace` holds the records of trace units that wait for the unit's record before them to be written (R48). -/
structure FtState where
  everLocked : Bool
  stepped : Bool
  lockRun : Nat
  holdStart : Nat
  herdAge : Nat
  refLead : Int
  steer : Int
  herdOff : Option Int
  filt : Int
  lastRef : Nat
  ppsSec : Nat
  ppsOutSec : Nat
  ptpDelay : Option Int
  ports : Sparse PortTime
  late : List (Nat × Nat)
  trace : List (Nat × List Byte)
deriving DecidableEq, Repr

/-- One audit entry (R565). -/
structure AuditEntry where
  seq : Nat
  ft : Nat
  kind : Nat
  origin : Nat
  port : Nat
  herd : Nat
  vi : Nat
  core : Nat
  cred : Nat
  object : Nat
  old : W64
  new : W64
  code : Nat
  chain : W64
deriving DecidableEq, Repr

/-- The audit log beside the AU registers (R565 to R569): the entries in service SRAM or NOR, newest first, the
number of the last one mirrored to NOR and of the first one NOR still holds, the last one pushed to the shepherd, and
the last entry of each frame pushed that is not acknowledged (R567). -/
structure AuditState where
  entries : List AuditEntry
  mirrored : Nat
  norFrom : Nat
  pushed : Nat
  flight : List Nat
deriving DecidableEq, Repr

/-- Reset of the fleet-time state. -/
def FtState.reset : FtState := ⟨false, false, 0, 0, 0, 0, 0, none, 0, 0, 0, 0, none, [], [], []⟩

/-- The record of a port before any exchange. -/
def PortTime.reset : PortTime := ⟨0, 0, none, [], 0, false⟩

/-- The empty audit log. -/
def AuditState.reset : AuditState := ⟨[], 0, 1, 0, []⟩

/-- A bank request of an issue (R63): bank, row, the cycles it has lost to other ports (R70), and whether it has not
been presented yet. -/
structure BankReq where
  bank : Nat
  row : Nat
  age : Nat
  fresh : Bool
deriving DecidableEq, Repr

/-- A word a granted read has taken from its bank: address, stored word, and merge-buffer bytes laid over it (R74). -/
structure TmGot where
  addr : Nat
  raw : W40
  overMask : Nat
  excess : Nat
deriving DecidableEq, Repr

/-- An issue of a crossbar port whose words have not all returned or committed (R63, R66): the words that go to the banks, the
requests that wait, the narrow words that have not entered the merge buffer (R74), and what its granted reads took. `acc` names the
FAB access it is a line of, 0 for none. -/
structure TmIssue where
  c : Nat
  port : Nat
  write : Bool
  words : List TmWord
  waiting : List BankReq
  narrow : List TmWord
  got : List TmGot
  acc : Nat
deriving DecidableEq, Repr

/-- A merge-buffer entry (R72): cluster, port, the 64-B line, the bytes present and their values; whether a cause of R73 has named the
whole entry; and the cycles its flush has lost to other ports, and whether it has not been presented yet (R73: a flush is a bank
access as any other). -/
structure MergeEntry where
  c : Nat
  port : Nat
  line : Nat
  mask : Nat
  data : Nat
  whole : Bool
  age : Nat
  fresh : Bool
deriving DecidableEq, Repr

/-- A 64-B flit of an access on its way to a cluster's FAB port (R79, R80): the access, its class (0 BULK, 1 NORMAL, 2 URGENT), and
the words of its line. -/
structure FabLine where
  c : Nat
  acc : Nat
  cls : Nat
  write : Bool
  words : List TmWord
deriving DecidableEq, Repr

/-- What the last read of a port returned (R66). -/
structure PortReturn where
  c : Nat
  port : Nat
  words : List PW
deriving DecidableEq, Repr

/-- The hot-bank sampler's running count of one bank: lost cycles and the ports that lost (R83). -/
structure HotBank where
  lost : Nat
  ports : Nat
deriving DecidableEq, Repr

/-- A FAB access in flight (R96, R100): its window, the counter and increment it posts, the VI behind it, how many of its lines have
not committed or returned, and the words that have returned. -/
structure FabAcc where
  id : Nat
  c : Nat
  window : Nat
  write : Bool
  source : Nat
  vi : Nat
  off : Nat
  len : Nat
  cntEn : Bool
  cnt : Nat
  inc : Nat
  left : Nat
  got : List PW
deriving DecidableEq, Repr

/-- A FAB access held at the spine while the cluster clears or blanks (R84, R101). -/
structure FabHeld where
  c : Nat
  cls : Nat
  source : Nat
  vi : Nat
  write : Bool
  off : Nat
  len : Nat
  data : List PW
  msgs : Nat
  /-- Whether it posts its arrival: not once its VI has been reset (R449). -/
  post : Bool
deriving DecidableEq, Repr

/-- R111: an owner record of a lock. -/
structure LockOwner where
  herd : Nat
  vi : Nat
  core : Nat
  ctx : Nat
deriving DecidableEq, Repr

/-- An operation that waits at the lock units (R112, R118): the lock number, the place of its source in the round (0 to 7 the clusters
of the unit's die, 8 to 15 of the other, 16 to 19 the herd cores, 20 Herdlink), the owner it acts for, whether it is an UNLOCK, the
error that the word's code meets (R120), and the core, context and register that wait for its result. -/
structure LockReq where
  num : Nat
  src : Nat
  owner : LockOwner
  unlock : Bool
  err : Nat
  who : Option (Nat × Nat × Nat)
deriving DecidableEq, Repr

/-- Tensor memory, steer memory and crossbar state. Words are keyed by (cluster, bank, row, word); steer memory by
(core, word). An unlisted word is blank. `cycBanks` and `cycLost` are the (cluster, bank) that have had their access in the running
TMCK cycle and the (cluster, port) that lost in it (R82); `blanks` the (cluster, window) whose blank writes of R101 are to come;
`cntErr` the error that a counter's stored word holds, 1 DATA, 2 CHECK, 3 uncorrectable (R124), keyed by cluster × 256 + counter;
`cntHeld` the counters whose waiters are held until software writes them (R121); `hwZero` the herd windows that a VI reset has closed
and whose counters are to be zeroed (R108); `lockQ` the operations at the lock units, and `lockPtr` the source that a spine's unit
served last (R118). -/
structure TmState where
  words : Sparse W40
  steer : Sparse W40
  rowMap : Sparse Nat
  issues : List TmIssue
  merge : List MergeEntry
  returns : List PortReturn
  hot : Sparse HotBank
  cycBanks : List (Nat × Nat)
  cycLost : List (Nat × Nat)
  fab : List FabAcc
  fabQ : List FabLine
  fabHeld : List FabHeld
  blanks : List (Nat × Nat)
  nextFab : Nat
  hold : Nat
  refuseNext : Sparse Nat
  cntErr : Sparse Nat
  cntHeld : List (Nat × Nat)
  hwZero : List Nat
  lockQ : List LockReq
  lockPtr : Sparse Nat
deriving DecidableEq, Repr

/-- Reset of tensor memory: nothing is stored. -/
def TmState.reset : TmState := ⟨[], [], [], [], [], [], [], [], [], [], [], [], [], 1, 0, [], [], [], [], [], []⟩

/-- An event that a scrub pass records: the device physical address and the class, 1 DATA, 2 CHECK, 3 UE, 4 CHECKWORD
(R146). -/
structure ScrubHit where
  addr : Nat
  cls : Nat
deriving DecidableEq, Repr

/-- A scrub pass in progress (R143 to R146): spine, slot, next byte of the range, start, counts, and the events. -/
structure ScrubRun where
  die : Nat
  slot : Nat
  pos : Nat
  start : Nat
  data : Nat
  check : Nat
  ue : Nat
  blank : Nat
  poison : Nat
  crc : Nat
  skipped : Nat
  hits : List ScrubHit
deriving DecidableEq, Repr

/-- An entry of the soft-fuse table (R151, R589, R592): 0 TM or steer row, 1 LC line, 2 HBM row, 3 cluster, 4 stack,
5 slice; the unit, where in it, the spare and the fleet time. -/
structure SoftFuse where
  kind : Nat
  unit : Nat
  bank : Nat
  hbank : Nat
  row : Nat
  spare : Nat
  ft : Nat
deriving DecidableEq, Repr

/-- Availability state beside the registers: scrub passes, the factory's fuse map of spare rows and lines (R150), the soft-fuse table,
the uncorrectable errors counted against each spare (R160; keyed by kind, unit, bank and spare), how many consecutive summaries reported
each row, the UE log entries already acted on, HBM repairs that wait for their channel (R153), and by die
the logical cluster being copied to its spare, plus one (R586). -/
structure RasState where
  runs : List ScrubRun
  factory : List SoftFuse
  fuses : List SoftFuse
  spareUe : Sparse Nat
  hist : List (Nat × Nat)
  handled : List (Nat × Nat)
  deferred : List SoftFuse
  moving : Sparse Nat
deriving DecidableEq, Repr

/-- No pass, no entry. -/
def RasState.reset : RasState := ⟨[], [], [], [], [], [], [], []⟩

/-- One sector access at a stack's controller: where it lies, what it writes (eight words and a byte mask), when it
arrived, and whether its channel holds it (R202). `group` numbers the access it is part of; `own` says that the step of the
requester itself makes it, and not HBM_ACCESS; `inc` is the increment that a herd write posts (R107), and `la` and `phys` the address
that PL_FAULT gives it (R180). -/
structure SectorAcc where
  group : Nat
  plot : Nat
  pc : Nat
  row : Nat
  sector : Nat
  write : Bool
  mask : Nat
  data : List PW
  vi : Nat
  req : PlotReq
  arrived : Nat
  held : Bool
  own : Bool
  inc : Nat
  la : Nat
  phys : Bool
deriving DecidableEq, Repr

/-- A sector a read returned (R609): the access it belongs to and its words. -/
structure SectorRet where
  group : Nat
  req : PlotReq
  words : List PW
deriving DecidableEq, Repr

/-- A cached translation (R179): the VI, the page's first DVA, its size, its physical or host address, permissions. -/
structure TlbEntry where
  vi : Nat
  base : Nat
  size : Nat
  pa : Nat
  host : Bool
  r : Bool
  w : Bool
deriving DecidableEq, Repr

/-- An access waiting for a PRI page (R178). -/
structure PageWait where
  vi : Nat
  page : Nat
  addr : Nat
  write : Bool
  len : Nat
  data : List PW
  pin : Option (Nat × Nat)
  req : PlotReq
  since : Nat
  sent : Bool
deriving DecidableEq, Repr

/-- A bank held by a refresh or a refresh management command until a fleet time (R181, R182, R187). -/
structure BankHold where
  stack : Nat
  pc : Nat
  bank : Nat
  stop : Nat
deriving DecidableEq, Repr

/-- A TLB invalidation in progress (R179): the VI, all addresses or a page range. -/
structure TlbInv where
  vi : Nat
  all : Bool
  start : Nat
  count : Nat
deriving DecidableEq, Repr

/-- The memory stacks: sectors keyed by (stack, pseudo-channel, bank, row, sector); an unlisted sector of plot p reads as
the pattern of the last whole-plot fill, blank (bit p of `bgBlank` set) or zero. `bad` are the sectors that the on-die ECC reports as
uncorrectable (R138); `fills` the plots being filled, each with the row the fill has reached (R169), and `rangeFill` the stacks with a
range fill, each with the next sector it writes (R171); `priFail` the accesses whose page request was denied or timed out: the VI, the
page, the requester and the reason of R180. -/
structure HbmState where
  sectors : Sparse W288
  bgBlank : Nat
  accs : List SectorAcc
  rets : List SectorRet
  nextGroup : Nat
  tlb : List TlbEntry
  waits : List PageWait
  invs : List TlbInv
  acts : Sparse Nat
  holds : List BankHold
  fills : List (Nat × Nat)
  rangeFill : List (Nat × Nat)
  bad : List Nat
  priFail : List (Nat × Nat × PlotReq × Nat)
deriving DecidableEq, Repr

/-- Reset of the stacks: no data. -/
def HbmState.reset : HbmState := ⟨[], 0, [], [], 1, [], [], [], [], [], [], [], [], []⟩

/-- A mule command in a channel's queue (R192): the 32-B descriptor and who issued it, with the core where one did; whether it has begun, the
row steps it has done, and its status once it has ended (R199). -/
structure MuleCmd where
  desc : BitVec 256
  vi : Nat
  svc : Bool
  core : Option Nat
  begun : Bool
  done : Option Nat
  rows : Nat
deriving DecidableEq, Repr

/-- Mule state: queues, activations used in the period, and the fleet time, plus one, since which a command waits for its allowance, keyed by
channel (stack × 64 + pc); the source that the bus of a stack served last (R195); the number of the running budget period (R208); and the
WINOPEN and WINCLOSE commands that wait for a stroke of their edge (R212). -/
structure MuleState where
  queues : List (Nat × MuleCmd)
  used : Sparse Nat
  since : Sparse Nat
  bus : Sparse Nat
  period : Nat
  winq : List (BitVec 256)
deriving DecidableEq, Repr

/-- No mule command queued. -/
def MuleState.reset : MuleState := ⟨[], [], [], [], 0, []⟩

/-- A line of the lookup cache (R223, R229): where it is, its tag as stored under the word code (R246), its valid sectors, its reference
bit and its 32 stored words. -/
structure LcLine where
  slice : Nat
  set : Nat
  way : Nat
  tagWord : W40
  valid : Nat
  ref : Bool
  data : List W40
deriving DecidableEq, Repr

/-- A lookup of bytes of one line (R221): the access, its class, whether it is ALLOC and SHARED (R220), its pin (R225), the sectors it
still waits for, the address that PL_FAULT gives it (R180), and whether its requester's own step makes it. -/
structure LcWaiter where
  req : PlotReq
  cluster : Nat
  vi : Nat
  cls : Nat
  alloc : Bool
  shared : Bool
  addr : Nat
  len : Nat
  pin : Option (Nat × Nat)
  need : Nat
  la : Nat
  phys : Bool
  own : Bool
deriving DecidableEq, Repr

/-- A miss register (R227): its line, the way it holds, pending sectors, those that may not be installed, the numbers of the LCFLUSH
operations that marked it (R236; 0 a VI reset), and its waiters. -/
structure LcReg where
  slice : Nat
  line : Nat
  way : Nat
  plot : Nat
  pend : Nat
  noInst : Nat
  marks : List Nat
  waiters : List LcWaiter
deriving DecidableEq, Repr

/-- A lookup that waits at a slice (R226), or that was refused with RETRY, to be presented again (R228). -/
structure LcLook where
  slice : Nat
  waiter : LcWaiter
deriving DecidableEq, Repr

/-- How a lookup comes back (R225, R230, R248): sectors, a refusal with a reason of R180, or an expiry at a channel (R203). -/
inductive LcEnd where
  | sectors
  | refused (reason : Nat)
  | expired (pc : Nat)
deriving DecidableEq, Repr

/-- One spine transfer from the cache (R230, R231): the die of a multicast copy, none for a delivery to one requester; the lookups it
serves; the sectors with their words, how it ends, and whether an uncorrectable error was detected in them on the way (R283). -/
structure LcRet where
  die : Option Nat
  takers : List LcWaiter
  sectors : List (Nat × List PW)
  outcome : LcEnd
  ue : Bool
deriving DecidableEq, Repr

/-- An LCFLUSH or LCINVAL in progress (R237): a number of its own, its VI, kind, scope, and the core,
context and register that wait for its answer, if any do. -/
structure LcOp where
  id : Nat
  vi : Nat
  flush : Bool
  part : Bool
  base : Nat
  len : Nat
  who : Option (Nat × Nat × Nat)
  result : Nat
deriving DecidableEq, Repr

/-- The lookup cache beside its registers: lines, miss registers, lookups that wait at their slices, retries, deliveries, operations with
the number of the next one, and the set and way each spare frame serves (slice × 16 + spare; 0 for none, else 1 + set × 16 + way). -/
structure LcState where
  lines : List LcLine
  regs : List LcReg
  queue : List LcLook
  retries : List LcLook
  rets : List LcRet
  ops : List LcOp
  nextOp : Nat
  spares : Sparse Nat
deriving DecidableEq, Repr

/-- An empty lookup cache. -/
def LcState.reset : LcState := ⟨[], [], [], [], [], [], 1, []⟩

/-- A transfer at an arbitration point (R251, R252): a number of its own, arbiter, point, requester, the class asked for, the beats of the
transfer and those it has moved, whether it holds the point, whose it is and for which VI, and the cause it is given up for, 0 none
(R261). -/
structure TrReq where
  id : Nat
  arb : Nat
  point : Nat
  req : Nat
  cls : Nat
  beats : Nat
  moved : Nat
  holder : Bool
  owner : TrOwner
  vi : Nat
  drop : Nat
deriving DecidableEq, Repr

/-- The trough arbiters beside the TR registers: the transfers, oldest first, the number of the next one, and for each arbiter the fleet
time at which its feed window, or its count, started (R253, R268); for each stream engine the context served last (R269); and for each
point, 64 to an arbiter, its cycles by 16 while its arbiter gates (R509). -/
structure TrState where
  reqs : List TrReq
  next : Nat
  start : Sparse Nat
  served : Sparse Nat
  cyc : Sparse Nat
deriving DecidableEq, Repr

/-- No transfer. -/
def TrState.reset : TrState := ⟨[], 1, [], [], []⟩

/-- An address of a stream: its space (0 VIRT, 1 LOCAL, 2 PHYS, 3 HERD), the herd ID of space HERD, and the address
(R272, R274). -/
structure StAddr where
  space : Nat
  herd : Nat
  addr : Nat
deriving DecidableEq, Repr

/-- A decoded list entry (R272): its type (0 DATA, 1 EXT, 2 LINK, 3 END) and fields; a DATA block has one row. -/
structure StBlk where
  kind : Nat
  src : StAddr
  dst : StAddr
  len : Nat
  rows : Nat
  srcStep : Int
  dstStep : Int
  nomerge : Bool
  lc : Bool
  sigEn : Bool
  order : Bool
  layer : Bool
  sigCluster : Nat
  sigCnt : Nat
  tag : Nat
deriving DecidableEq, Repr

/-- A fault of a stream (R282): kind and detail code, the block offset it lies at, its address, and the poison tag. -/
structure StFault where
  kind : Nat
  detail : Nat
  off : Nat
  place : StAddr
  tag : Nat
deriving DecidableEq, Repr

/-- A read-ahead entry (R276): a number of its own, its index and address in the list, the slots it takes, the block, the
byte offset the block starts at after a resume (R288), a fault held until it is first (R284), the merged transfer it is
part of and its offset in it (R277), source words read before, how far a herd transfer has come (0 not issued, 1
reading, 2 writing), whether its transfer has been presented at the arbiters (R252), the bytes it has written, counted from its offset 0, and
the admitted accesses it writes through, each with its cluster and number (R275). -/
structure StEntry where
  seq : Nat
  index : Nat
  place : StAddr
  slots : Nat
  blk : StBlk
  start : Nat
  fault : Option StFault
  group : Nat
  gOff : Nat
  words : List (Nat × PW)
  stage : Nat
  opened : Bool
  moved : Nat
  wins : List (Nat × Nat)
deriving DecidableEq, Repr

/-- A stream context beside its registers: lists issued, the running one first, each with address and space; unretired
entries; where the next entry is read, its index, the list it is read from (0 running, 1 the next) and whether reading
has met that list's END; the offset a resume restarts at; the number of the next breadcrumb and entry; the words of the next entry that
another member has sent, by part, or its refusal (R274); and the lists that a running cancel ends (R291). -/
structure StCtx where
  lists : List (Nat × Nat)
  entries : List StEntry
  next : StAddr
  nextIx : Nat
  reading : Nat
  ended : Bool
  resumeOff : Nat
  crumbs : Nat
  nextSeq : Nat
  fetched : List (Nat × List PW)
  fetchFault : Option (Nat × Nat)
  cancelled : Nat
deriving DecidableEq, Repr

/-- An idle stream context. -/
def StCtx.reset : StCtx := ⟨[], [], ⟨0, 0, 0⟩, 0, 0, false, 0, 0, 0, [], none, 0⟩

/-- How an engine operation ended (R303): status, detail, and whether an output is poisoned. -/
structure EngDone where
  status : Nat
  detail : Nat
  poisonOut : Bool
deriving DecidableEq, Repr

/-- A descriptor in an engine's queue (R301): the VI it runs for, and how it ended once its results are written. -/
structure EngOp where
  desc : BitVec 256
  vi : Nat
  done : Option EngDone
deriving DecidableEq, Repr

/-- A gathered row that has arrived (R322): its position in the index list, its words, and whether it is skipped. -/
structure GtRow where
  pos : Nat
  words : List PW
  skip : Bool
deriving DecidableEq, Repr

/-- A gather operation that runs (R318 to R323): its cluster, table descriptor, offsets, indices and weights as read, the
positions looked up (R321), the rows that have arrived, the bags not yet written, and the pages read of rows that are not there whole:
position, address, words, and whether their CRC is checked. -/
structure GtRun where
  c : Nat
  tab : Nat
  offs : List PW
  idx : List PW
  wgt : List PW
  want : List Nat
  rows : List GtRow
  left : List Nat
  poisonOut : Bool
  parts : List (Nat × Nat × List PW × Bool)
deriving DecidableEq, Repr

/-- A long accumulator (R305): the value modulo 2^320, the six flags (INF_P, INF_N, NAN, BIG, LOSS, CNT from bit 0), the
saturating count, and the tag of its poison, if it is poisoned. -/
structure LongAcc where
  val : Nat
  flags : Nat
  cnt : Nat
  poison : Option W32
deriving DecidableEq, Repr

/-- A cleared accumulator. -/
def LongAcc.zero : LongAcc := ⟨0, 0, 0, none⟩

/-- Engine state: queues keyed by cluster × 3 + engine (0 MX, 1 VX, 2 GT), the vector accumulators keyed by (cluster × 64 +
lane) × 4 + index, the VI after whose operation they stand (plus one), running gathers, and the multiply-accumulates short
of a thousand that MX_CNT has not counted. -/
structure EngState where
  queues : List (Nat × EngOp)
  acc : Sparse LongAcc
  accVi : Sparse Nat
  runs : List GtRun
  macRem : Sparse Nat
deriving DecidableEq, Repr

/-- No operation queued, every accumulator clear. -/
def EngState.reset : EngState := ⟨[], [], [], [], []⟩

/-- A g register (R343): 64 bits and poison; a poisoned one holds its tag. -/
structure SlG where
  data : W64
  poison : Bool
deriving DecidableEq, Repr

/-- A d register: 256 bits and poison. -/
structure SlD where
  data : BitVec 256
  poison : Bool
deriving DecidableEq, Repr

/-- A predicate: its bit, its poison and the tag it keeps (R381). -/
structure SlP where
  val : Bool
  poison : Bool
  tag : W32
deriving DecidableEq, Repr

/-- A VIRT or PHYS access in flight (R356): the VI it is made for, load or store, 32-B form, space, address, bytes,
extension, register, and the words of a store. -/
structure SlAccess where
  vi : Nat
  store : Bool
  wide : Bool
  phys : Bool
  addr : Nat
  size : Nat
  signed : Bool
  rd : Nat
  data : List PW
deriving DecidableEq, Repr

/-- What a WAITING context waits for (R398, R399, R400, R356). -/
inductive SlWaitKind where
  | cnt (cluster idx target : Nat)
  | mu (stack mask : Nat)
  | ft (target : Nat)
  | access (a : SlAccess)
deriving DecidableEq, Repr

/-- A context's wait: `met` once its condition has come true, `discard` for an access whose context was reset. -/
structure SlWait where
  core : Nat
  ctx : Nat
  kind : SlWaitKind
  met : Bool
  discard : Bool
deriving DecidableEq, Repr

/-- An answer a unit owes a context (R355): the register, the result code, and whether the unit has answered. -/
structure SlAnswer where
  core : Nat
  ctx : Nat
  rd : Nat
  code : Nat
  ready : Bool
deriving DecidableEq, Repr

/-- Steer and herd cores beside the SC registers: registers keyed by (core × 16 + context, number), program counters,
waits and answers. An unlisted register is poisoned with kind UNINIT and origin 0 (R338). -/
structure ScState where
  g : Sparse SlG
  d : Sparse SlD
  p : Sparse SlP
  pcs : Sparse Nat
  waits : List SlWait
  answers : List SlAnswer
deriving DecidableEq, Repr

/-- Every context as its reset leaves it. -/
def ScState.reset : ScState := ⟨[], [], [], [], [], []⟩

/-- A queue pair beside its registers (R426, R428, R429, R435): the doorbell's SQ_TAIL and CQ_HEAD, the pending bit, the
next SQ index to fetch, and the completions written since the last interrupt with the fleet time of the first. -/
structure HqQueue where
  sqTail : Nat
  cqHead : Nat
  pend : Bool
  next : Nat
  coal : Nat
  coalFt : Nat
deriving DecidableEq, Repr

/-- A queue that has just been enabled. -/
def HqQueue.reset : HqQueue := ⟨0, 0, false, 0, 0, 0⟩

/-- A ring read that has been sent, and its words once they have come (R430). -/
structure HqRead where
  queue : Nat
  index : Nat
  data : Option (List PW)
deriving DecidableEq, Repr

/-- A staged submission entry (R427, R430). The list of them stands in the order of staging. -/
structure HqStaged where
  queue : Nat
  index : Nat
  desc : BitVec 512
deriving DecidableEq, Repr

/-- A request slot in use (R432, R439, R444): its number with the I/O die in bit 14, the queue, VI and operator, SEQ,
DEADLINE, the fleet time of admission, R, the table set it pins with the number of swaps made before, and whether its
outcome is known. -/
structure HqSlot where
  slot : Nat
  queue : Nat
  vi : Nat
  op : Nat
  seq : Nat
  deadline : Nat
  admitAt : Nat
  r : Nat
  pin : Option (Nat × Nat)
  done : Bool
deriving DecidableEq, Repr

/-- A completion that waits to be written (R434). -/
structure HqComp where
  queue : Nat
  id : Nat
  indexed : Bool
  status : Nat
  slot : Option Nat
deriving DecidableEq, Repr

/-- A VI reset in progress (R449, R450). -/
structure ViReset where
  vi : Nat
  flush : Bool
  flr : Bool
deriving DecidableEq, Repr

/-- A BAR2 access that has arrived and waits, with the device physical address it was mapped to on arrival (R424). -/
structure Bar2Acc where
  port : Nat
  off : Nat
  write : Bool
  len : Nat
  addr : Nat
deriving DecidableEq, Repr

/-- Queue engine and scheduler beside the HQ registers. `turn` holds, for each die and class, the VI being served and what
is left of its round (R436); `lastQ` the queue served last, plus one, for each die, class and VI; `opCount` the requests
admitted since an operator was enabled (R431); `swaps` the GENSWAPs of a table set (R443); `flushLost` counts per VI the
completions that a reset could not write (R449); `ats` the cached host translations: die, VI, 4 KiB page (R425). -/
structure HqState where
  queues : Sparse HqQueue
  reads : List HqRead
  staged : List HqStaged
  slots : List HqSlot
  comps : List HqComp
  turn : Sparse (Nat × Nat)
  lastQ : Sparse Nat
  opCount : Sparse Nat
  swaps : Sparse Nat
  resets : List ViReset
  flushLost : Sparse Nat
  ats : List (Nat × Nat × Nat)
  bar2 : List Bar2Acc
deriving DecidableEq, Repr

/-- No queue enabled. -/
def HqState.reset : HqState := ⟨[], [], [], [], [], [], [], [], [], [], [], [], []⟩

/-- Who waits for the reply of a remote transaction (R476, R481). -/
inductive TxnOwner where
  /-- A steer or herd core's context, the register its LOCK or UNLOCK writes, and the address operand. -/
  | core (core ctx rd addr : Nat)
  /-- A stream context: engine, context, the entry's number, and the place of the words it reads. -/
  | stream (engine ctx seq off : Nat)
  /-- A stream context's list entry: engine, context, and which 32 bytes of it. -/
  | entry (engine ctx part : Nat)
  /-- The service firmware. -/
  | service
deriving DecidableEq, Repr

/-- A remote transaction that awaits a reply (R481). -/
structure Txn where
  tag : Nat
  type : Nat
  dest : Nat
  port : Nat
  owner : TxnOwner
  deadline : Nat
deriving DecidableEq, Repr

/-- The state of a role swap (R487, R493). -/
inductive SwapState where
  | idle
  | handoverSent
  | requested
deriving DecidableEq, Repr

/-- One member's pending stroke result (R489). -/
structure StrokeWait where
  member : Nat
  tag : Nat
  deadline : Nat
deriving DecidableEq, Repr

/-- One spare port's takeover or a port's link-level bookkeeping (R472): the next cell expected, the last cell sent, and
the replays since `replayFrom`. -/
structure LinkState where
  rxCell : Nat
  txCell : Nat
  acked : Nat
  replays : Nat
  replayFrom : Nat
deriving DecidableEq, Repr

/-- The link bookkeeping of a port that has just trained. -/
def LinkState.reset : LinkState := ⟨0, 0, 0, 0, 0⟩

/-- A frame that waits at an egress port for credit (R471), its requester there (R250), and the port and sub-channel it came by, if it is
passed on: its buffer there is free once it has left. -/
structure Egress where
  port : Nat
  frame : Frame
  req : Nat
  arrival : Option (Nat × Nat)
deriving DecidableEq, Repr

/-- Herd state beside the HL and HD registers; `beats` holds the sequence numbers of the shepherd's last 20 heartbeats, the newest first (R485),
and `nextJoin` the fleet time from which the next JOIN may go out (R482). -/
structure HerdState where
  credits : Sparse Nat
  egress : List Egress
  txns : List Txn
  nextTag : Nat
  bcastSeq : Nat
  seen : List (Nat × Nat)
  missed : Sparse Nat
  beats : List Nat
  nextJoin : Nat
  lastBeat : Nat
  lastEpoch : Nat
  standby : Nat
  tableVer : Nat
  swap : SwapState
  swapBy : Nat
  strokeWaits : List StrokeWait
  lost : List Nat
  links : Sparse LinkState
deriving DecidableEq, Repr

/-- R471: an unlisted credit pool is full: 512 beats (even keys) or 64 headers (odd keys). -/
def creditDefault (k : Nat) : Nat := if k % 2 = 0 then 512 else 64

/-- Reset of the herd state. -/
def HerdState.reset : HerdState := ⟨[], [], [], 0, 0, [], [], [], 0, 0, 0, 0xFFF, 0, .idle, 0, [], [], []⟩

/-- A power group beside its registers (R504 to R509, R529, R530): the step in progress (true is upward) and whether the
first of its two changes has ended; whether a step was in progress in this window; whether the share holds it below its
wanted point; the fleet time up to which it makes no upward step; the highest point PM start left it; a discarded
estimate; and the sum of the window estimates of the calibration period, in µJ. -/
structure PmGroup where
  step : Option Bool
  half : Bool
  busy : Bool
  capHeld : Bool
  noUpTill : Nat
  vfMax : Nat
  parity : Bool
  sum : Rat
deriving DecidableEq, Repr

/-- A group at rest. -/
def PmGroup.reset : PmGroup := ⟨none, false, false, false, 0, 15, false, 0⟩

/-- Power manager, heat and alerts beside the PM and TH registers: the groups; the Ox points (R516); the share scale and
whether the last period exceeded the cap (R510, R521); the loss factor and the periods skipped in a row (R511, R512); the
window's CAP_BELOW_FLOOR finding (R521); soft throttling (R533); the stacks' thermal gates (R534); the last CAPSET's
firing edge and the cap before it (R525); when the holds of REG_ALERT_N (0) and EXT_ALERT_N (1) end (R537); the end stamp
that an ended throttle episode replaced (R520); the first 16 bytes of the record a running save will write; and the
shutdown record in NOR with the last audit entry before it (R542). -/
structure PmState where
  groups : Sparse PmGroup
  ox : List Nat
  scale : Rat
  excess : Bool
  loss : Rat
  skips : Nat
  floor : Bool
  soft : Bool
  gates : Sparse Nat
  capEdge : Option (Nat × Nat)
  holds : List (Nat × Nat)
  prevEnd : Sparse Nat
  saveRec : List Byte
  shutdown : Option (List Byte)
  shutSeq : Nat
deriving DecidableEq, Repr

/-- The power manager before its start. -/
def PmState.reset : PmState := ⟨[], [12, 12, 12], 1, false, 1, 0, false, false, [], none, [], [], [], none, 0⟩

/-- An image load in progress (R570): the region, whether it comes by MCTP chunks, the source address and the length. -/
structure FwLoad where
  image : Nat
  mctp : Bool
  addr : Nat
  len : Nat
deriving DecidableEq, Repr

/-- A stroke action that fired while the service firmware did not run (R554): the action, its slot, its argument and the firing time. -/
structure FwAct where
  action : Nat
  slot : Nat
  arg : Nat
  fired : Nat
deriving DecidableEq, Repr

/-- The service domain beside its registers: the two life-cycle fuse copies and the state whose permissions hold (R557,
R558); the current nonce and when it was made (R558); the Nest's 64-B units, its non-empty and its corrupt slots (R560,
R582); a wipe in progress, with true where it erases the owner-key record, and whether debug access opens at its end (R561,
R573); the owner-key record in NOR (R561); the measurements in slot 1 since the last wipe; the two image regions, the image
last activated and the one loaded into the idle bank (R570 to R572); a load in progress; the mailbox words (R574); the
MCTP endpoint ID (R623); while the service firmware does not run, the fleet time at which it does again, and whether a handover to
another image is why; and what waits for it: stroke actions, with slot, argument and firing time, and debug-unlock tokens, with whether
one came over JTAG (R554, R571, R580). -/
structure SvcState where
  fuse1 : Nat
  fuse2 : Nat
  perm : Nat
  nonce : Option (List Byte × Nat)
  nest : Sparse (BitVec 512)
  full : List Nat
  corrupt : List Nat
  wipe : Option Bool
  openAfter : Bool
  ownerRec : Option (Nat × BitVec 512)
  meas : Nat
  imgA : List Byte
  imgB : List Byte
  last : Nat
  bank : Option Nat
  load : Option FwLoad
  mbx : Sparse W32
  eid : Nat
  down : Nat
  handover : Bool
  held : List FwAct
  unlocks : List (Bool × List Byte)
deriving DecidableEq, Repr

/-- The service domain at power-on: the fuses of a module in MANUFACTURE, no image staged, no owner key (log entry 1). -/
def SvcState.reset : SvcState := ⟨0, 0, 0, none, [], [], [], none, false, none, 0, [0], [], 0, none, none, [], 0, 0, false, [], []⟩

/-- The module's signals that carry a level between commands (R620): true is asserted. `mbxBusy` is MBX_BUSY_N low. -/
structure Pins where
  p54 : Bool
  pwrEn : Bool
  perst0 : Bool
  perst1 : Bool
  tamper : Bool
  regAlert : Bool
  extAlert : Bool
  pwrGood : Bool
  thermtrip : Bool
  smbAlert : Bool
  mbxBusy : Bool
deriving DecidableEq, Repr

/-- Power and clocks: the SVC domain, the main rails and their clocks, the power domains as bit masks (R1, R61, R115,
R183), the trip latch (R535), a cold reset it holds (R536, R627), and a save in progress (R542). -/
structure PowerState where
  svcOn : Bool
  rails : Bool
  clocks : Bool
  clusters : Nat
  spines : Nat
  stackBits : Nat
  tripped : Bool
  tripFt : Nat
  coldHeld : Bool
  saving : Bool
  tapReset : Bool
  links : Nat
  thrActive : Nat
deriving DecidableEq, Repr

/-- The signals at SVC power-on: the input is up and nothing else is asserted. -/
def Pins.reset : Pins := ⟨true, false, true, true, false, false, false, false, false, false, false⟩

/-- Power at SVC power-on: only the SVC domain is on. -/
def PowerState.reset : PowerState := ⟨true, false, false, 0, 0, 0, false, 0, false, false, true, 0, 0⟩

/-- The state of the block. -/
structure State where
  /-- every register, as last written; an unlisted one reads its reset value -/
  regs : Sparse W64
  /-- the SHADOW values in force (R12); an unlisted one is the reset value -/
  applied : Sparse W64
  /-- the SHADOW registers whose last value has not taken effect (R12) -/
  shadowPend : List Nat
  /-- the commands that wait, first in first out -/
  pending : List Instr
  /-- what left the module, newest first -/
  out : List Out
  /-- the model's own counter: the argument of the next free value (DESIGN CHOICE, log entry 3) -/
  freeIdx : Nat
  /-- fleet-time state beside the FT registers (R24-R34) -/
  ft : FtState
  /-- the audit log (R565-R569) -/
  audit : AuditState
  /-- tensor and steer memory, crossbar, merge buffers, FAB accesses (R58-R94, R96-R101, R126, R341) -/
  tm : TmState
  /-- scrub passes, soft-fuse table, automatic repair (R143-R158, R593) -/
  ras : RasState
  /-- memory stacks, controllers, translations (R162-R191) -/
  hbm : HbmState
  /-- mule queues and activity budgets (R192-R208) -/
  mule : MuleState
  /-- the lookup cache: lines, miss registers, retries, operations (R220-R248) -/
  lc : LcState
  /-- the transfers at the trough arbiters, and their holders (R251, R257) -/
  tr : TrState
  /-- stream contexts, keyed by engine × 32 + context; engines 0-17 are the clusters', 18 and 19 the I/O dies' (R269-R300) -/
  st : Sparse StCtx
  /-- matrix, vector and gather engines (R301-R334) -/
  eng : EngState
  /-- contexts of the steer and herd cores (R335-R416) -/
  sc : ScState
  /-- host queues, request slots, VI resets (R426-R461) -/
  hq : HqState
  /-- herd state beside the HL and HD registers (R471-R499) -/
  herd : HerdState
  /-- power manager, heat, alerts, shutdown record (R500-R552) -/
  pm : PmState
  /-- life cycle, Nest, firmware images, mailbox (R553-R583) -/
  svc : SvcState
  /-- levels of the module's signals (R620) -/
  pins : Pins
  /-- power domains, clocks, trip latch (R1, R535, R626) -/
  power : PowerState
deriving DecidableEq, Repr

/-- The module right after the SVC domain powers on, boot stage 0 (R626, R628). -/
def State.reset : State where
  regs := []
  applied := []
  shadowPend := []
  pending := []
  out := []
  freeIdx := 0
  ft := FtState.reset
  audit := AuditState.reset
  tm := TmState.reset
  ras := RasState.reset
  hbm := HbmState.reset
  mule := MuleState.reset
  lc := LcState.reset
  tr := TrState.reset
  st := []
  eng := EngState.reset
  sc := ScState.reset
  hq := HqState.reset
  herd := HerdState.reset
  pm := PmState.reset
  svc := SvcState.reset
  pins := Pins.reset
  power := PowerState.reset

/-- The state with `regs` replaced. -/
def State.withRegs (s : State) (x : Sparse W64) : State := { s with regs := x }
/-- The state with `applied` replaced. -/
def State.withApplied (s : State) (x : Sparse W64) : State := { s with applied := x }
/-- The state with `shadowPend` replaced. -/
def State.withShadowPend (s : State) (x : List Nat) : State := { s with shadowPend := x }
/-- The state with `pending` replaced. -/
def State.withPending (s : State) (x : List Instr) : State := { s with pending := x }
/-- The state with `out` replaced. -/
def State.withOut (s : State) (x : List Out) : State := { s with out := x }
/-- The state with `freeIdx` replaced. -/
def State.withFreeIdx (s : State) (x : Nat) : State := { s with freeIdx := x }
/-- The state with `ft` replaced. -/
def State.withFt (s : State) (x : FtState) : State := { s with ft := x }
/-- The state with `audit` replaced. -/
def State.withAudit (s : State) (x : AuditState) : State := { s with audit := x }
/-- The state with `tm` replaced. -/
def State.withTm (s : State) (x : TmState) : State := { s with tm := x }
/-- The state with `ras` replaced. -/
def State.withRas (s : State) (x : RasState) : State := { s with ras := x }
/-- The state with `hbm` replaced. -/
def State.withHbm (s : State) (x : HbmState) : State := { s with hbm := x }
/-- The state with `mule` replaced. -/
def State.withMule (s : State) (x : MuleState) : State := { s with mule := x }
/-- The state with `lc` replaced. -/
def State.withLc (s : State) (x : LcState) : State := { s with lc := x }
/-- The state with `tr` replaced. -/
def State.withTr (s : State) (x : TrState) : State := { s with tr := x }
/-- The state with `st` replaced. -/
def State.withSt (s : State) (x : Sparse StCtx) : State := { s with st := x }
/-- The state with `eng` replaced. -/
def State.withEng (s : State) (x : EngState) : State := { s with eng := x }
/-- The state with `sc` replaced. -/
def State.withSc (s : State) (x : ScState) : State := { s with sc := x }
/-- The state with `hq` replaced. -/
def State.withHq (s : State) (x : HqState) : State := { s with hq := x }
/-- The state with `herd` replaced. -/
def State.withHerd (s : State) (x : HerdState) : State := { s with herd := x }
/-- The state with `pm` replaced. -/
def State.withPm (s : State) (x : PmState) : State := { s with pm := x }
/-- The state with `svc` replaced. -/
def State.withSvc (s : State) (x : SvcState) : State := { s with svc := x }
/-- The state with `pins` replaced. -/
def State.withPins (s : State) (x : Pins) : State := { s with pins := x }
/-- The state with `power` replaced. -/
def State.withPower (s : State) (x : PowerState) : State := { s with power := x }

end Sys2Proof.Machine
end

