-- ==== Sys2Proof/Machine/Ops.lean ====
section
/-! DEFINITION. The named operations over registers, events, counters, logs, outputs and free values. -/
namespace Sys2Proof.Machine

open Sys2Proof

/-- A register as last written. -/
def State.reg (s : State) (id : RegId) (i j : Nat) : W64 := sget resetVal s.regs (regKey id i j)

/-- The state with a register holding `v`. -/
def State.setReg (s : State) (id : RegId) (i j : Nat) (v : W64) : State :=
  s.withRegs (sset resetVal s.regs (regKey id i j) v)

/-- A field of a register, as a number. -/
def State.fld (s : State) (f : Fld) (i j : Nat) : Nat := getBits (s.reg f.id i j) f.lo f.w

/-- The state with a field of a register holding `x`. -/
def State.setFld (s : State) (f : Fld) (i j x : Nat) : State :=
  s.setReg f.id i j (setBits (s.reg f.id i j) f.lo f.w x)

/-- A one-bit field. -/
def State.flag (s : State) (f : Fld) (i j : Nat) : Bool := s.fld f i j == 1

/-- The state with a one-bit field holding `b`. -/
def State.setFlag (s : State) (f : Fld) (i j : Nat) (b : Bool) : State := s.setFld f i j (b2n b)

/-- The value in force of a SHADOW field (R12). -/
def State.inForce (s : State) (f : Fld) (i j : Nat) : Nat :=
  getBits (sget resetVal s.applied (regKey f.id i j)) f.lo f.w

/-- R12: the last value written to a SHADOW register takes effect, and it no longer waits. -/
def State.applyShadow (s : State) (id : RegId) (i j : Nat) : State :=
  (s.withApplied (sset resetVal s.applied (regKey id i j) (s.reg id i j))).withShadowPend
    (s.shadowPend.filter (fun k => k != regKey id i j))

/-- R12: a SHADOW register waits for its boundary. -/
def State.shadowWait (s : State) (id : RegId) (i j : Nat) : State :=
  s.withShadowPend (regKey id i j :: s.shadowPend.filter (fun k => k != regKey id i j))

/-- Whether a SHADOW register waits for its boundary: the PENDING indication of R12. -/
def State.isPending (s : State) (id : RegId) (i j : Nat) : Bool := s.shadowPend.contains (regKey id i j)

/-- Every register whose key satisfies `p` at its reset value again, in force too. -/
def State.resetRegs (s : State) (p : Nat → Bool) : State :=
  ((s.withRegs (sdrop p s.regs)).withApplied (sdrop p s.applied)).withShadowPend
    (s.shadowPend.filter (fun k => !(p k)))

/-- The register number inside a key. -/
def keyId (k : Nat) : Nat := k >>> 40
/-- The first index inside a key. -/
def keyI (k : Nat) : Nat := (k >>> 20) % 2 ^ 20
/-- The second index inside a key. -/
def keyJ (k : Nat) : Nat := k % 2 ^ 20

/-- Keys of the registers `ids` at first index `i`. -/
def keyAt (ids : List RegId) (i k : Nat) : Bool := (ids.any (fun r => r.ctorIdx == keyId k)) && keyI k == i

/-- Fleet time (R24). -/
def State.now (s : State) : Nat := s.fld .FT_NOW_NOW 0 0

/-- What leaves the module. -/
def State.emit (s : State) (o : Out) : State := s.withOut (o :: s.out)

/-- Several outputs, the first one sent first. -/
def State.emitAll (s : State) : List Out → State
  | [] => s
  | o :: t => (s.emit o).emitAll t

/-- The next free value, below `2 ^ w`, and the state that has used it (log entry 3). -/
def State.free (s : State) (w : Nat) : Nat × State :=
  (Config.freeNat s.freeIdx % 2 ^ w, s.withFreeIdx (s.freeIdx + 1))

/-- A counter field that saturates. -/
def State.satInc (s : State) (f : Fld) (i j n : Nat) : State := s.setFld f i j (satAdd f.w (s.fld f i j) n)

/-- A counter field that wraps to 0. -/
def State.wrapInc (s : State) (f : Fld) (i j n : Nat) : State := s.setFld f i j (s.fld f i j + n)

/-- R598: a counter with a WRAPS tally and an OVF bit; in the cycle of a wrap it goes on from 0, advances WRAPS, which
saturates, and sets OVF. -/
def State.cntInc (s : State) (cnt wraps ovf : Fld) (i j n : Nat) : State :=
  let x := s.fld cnt i j + n
  let s1 := s.setFld cnt i j x
  if x < 2 ^ cnt.w then s1 else (s1.satInc wraps i j 1).setFlag ovf i j true

/-- The slot a ring log of `n` slots writes next, and the state with its head moved on. An entry that is overwritten is
counted in WRAPS, which saturates (R83, R159, R598); `full` says that the slot held an entry. -/
def State.ringNext (s : State) (next wraps : Fld) (i n : Nat) (full : Nat → Bool) : Nat × State :=
  let k := s.fld next i 0
  let s1 := s.setFld next i 0 ((k + 1) % n)
  (k, if full k then s1.satInc wraps i 0 1 else s1)

/-- `f` done to the state for each element of a list, the first first. -/
def State.each {α : Type} (s : State) (l : List α) (f : α → State → State) : State :=
  l.foldl (fun t a => f a t) s

/-- The module's role: 0 ALONE, 1 WORKER, 2 STANDBY, 3 SHEPHERD (R482). -/
def State.role (s : State) : Nat := s.fld .HD_STATUS_ROLE 0 0

/-- The module's herd ID. -/
def State.herdId (s : State) : Nat := s.fld .HD_STATUS_HERD_ID 0 0

/-- The stacks this assembly has (R1, R2). -/
def State.stackPresent (s : State) (k : Nat) : Bool := nbit (s.fld .SV_ASSEMBLY_STACK_PRESENT 0 0) k

/-- The physical cluster behind a logical cluster (R4). -/
def State.physCluster (s : State) (l : Nat) : Nat :=
  nfield (s.reg .SV_CLMAP 0 0).toNat (4 * (l % 16)) 4 + (if l % 16 < 8 then 0 else 9)

/-- The logical cluster a physical cluster serves, if any (R4). -/
def State.logCluster (s : State) (c : Nat) : Option Nat := (List.range 16).find? (fun l => s.physCluster l == c)

end Sys2Proof.Machine
end

