-- ==== Sys2Proof/Machine/Frames.lean ====
section
/-! DEFINITION. Herdlink frames: directions, routes, ports, credits, and sending a frame (R466 to R475). -/
namespace Sys2Proof.Machine

open Sys2Proof

/-- A port carries frames while its state is UP or DEGRADED (R465). -/
def State.portUp (s : State) (p : Nat) : Bool := decide (2 ≤ s.fld .HL_PORT_STATUS_STATE p 0)

/-- A port that is up and serves a direction of the torus; a spare carries only LINK and CREDIT words (R466). -/
def State.torusUp (s : State) (p : Nat) : Bool := s.portUp p && decide (s.fld .HL_PORT_CFG_DIR p 0 < 6)

/-- Coordinate `d` (0 X, 1 Y, 2 Z) of a herd ID (R5). -/
def coordOf (h d : Nat) : Nat := nfield h (8 - 4 * d) 4

/-- The ring size of dimension `d` (HL_DIMS, R474). -/
def State.dimSize (s : State) (d : Nat) : Nat :=
  (match d with
   | 0 => s.fld .HL_DIMS_DX 0 0
   | 1 => s.fld .HL_DIMS_DY 0 0
   | _ => s.fld .HL_DIMS_DZ 0 0) + 1

/-- R474: the direction a frame for `dest` takes in dimension `d`: 2·d for positive, 2·d + 1 for negative. -/
def State.dimDir (s : State) (dest d : Nat) : Option Nat :=
  let n := s.dimSize d
  let delta := (coordOf dest d + n - coordOf s.herdId d % n) % n
  if delta = 0 then none else if 2 * delta ≤ n then some (2 * d) else some (2 * d + 1)

/-- R474: dimension order X, then Y, then Z; `none` when the frame is for this module. -/
def State.routeDir (s : State) (dest : Nat) : Option Nat :=
  match s.dimDir dest 0 with
  | some x => some x
  | none => match s.dimDir dest 1 with
    | some y => some y
    | none => s.dimDir dest 2

/-- The ports that serve direction `dir`: DIR names it (R466). -/
def State.portsOf (s : State) (dir : Nat) : List Nat :=
  (List.range (8 * s.fld .SV_ASSEMBLY_IODIES 0 0)).filter (fun p => s.fld .HL_PORT_CFG_DIR p 0 == dir)

/-- R467: the up port that a frame of this source, destination and channel takes in a direction: the one on die
(SRC XOR DEST XOR VC) bit 0, or the other while that one is DOWN. -/
def State.portFor (s : State) (dir src dest vc : Nat) : Option Nat :=
  let ps := (s.portsOf dir).filter s.portUp
  let die := (src ^^^ dest ^^^ vc) % 2
  match ps.find? (fun p => p / 8 == die) with
  | some p => some p
  | none => ps.head?

/-- R475: the direction of the local detour from dimension `d`: positive in the next dimension, in order and wrapping,
whose size exceeds 1 and whose port is up. -/
def State.detourPort (s : State) (d src dest vc : Nat) : Option Nat :=
  [(d + 1) % 3, (d + 2) % 3, d % 3].findSome? (fun e =>
    if s.dimSize e ≤ 1 then none else s.portFor (2 * e) src dest vc)

/-- R474: the sub-channel of a frame's next hop in dimension `d`, given the port it arrived on. A frame that arrived
over the wrap link of the same dimension is on sub-channel 1 from then on; one that turns is on 0. -/
def State.nextSub (s : State) (arrival : Option Nat) (d : Nat) (f : Frame) : Nat :=
  if f.detours ≠ 0 then 1
  else match arrival with
    | none => 0
    | some p =>
      let dir := s.fld .HL_PORT_CFG_DIR p 0
      if dir / 2 = d then
        let c := coordOf s.herdId d
        if (dir % 2 = 1 ∧ c = 0) ∨ (dir % 2 = 0 ∧ c + 1 = s.dimSize d) then 1 else f.sub
      else 0

/-- Where a frame goes next. -/
inductive Route where
  | here
  | port (p : Nat) (f : Frame) (detoured : Bool)
  | unreachable
deriving DecidableEq, Repr

/-- R475: a detour: marked by one more DETOURS and sub-channel 1; a third one is not made. -/
def detour (p : Option Nat) (f : Frame) : Route :=
  match p with
  | none => .unreachable
  | some q => if f.detours ≥ 2 then .unreachable else .port q { f with detours := f.detours + 1, sub := 1 } true

/-- R474, R475: the next hop of a frame that arrived on `arrival` or was made here. -/
def State.route (s : State) (arrival : Option Nat) (f : Frame) : Route :=
  if f.dest = s.herdId then .here
  else
    let d := match s.routeDir f.dest with | some dir => dir / 2 | none => 0
    if s.flag .HL_ROUTE_VALID f.dest 0 then
      let p := s.fld .HL_ROUTE_PORT f.dest 0
      if s.portUp p then
        if s.flag .HL_ROUTE_DETOUR f.dest 0 then detour (some p) f
        else .port p { f with sub := s.nextSub arrival (s.fld .HL_PORT_CFG_DIR p 0 / 2) f } false
      else detour (s.detourPort d f.src f.dest f.vc) f
    else
      match s.routeDir f.dest with
      | none => .unreachable
      | some dir =>
        match s.portFor dir f.src f.dest f.vc with
        | some p => .port p { f with sub := s.nextSub arrival d f } false
        | none => detour (s.detourPort d f.src f.dest f.vc) f

/-- R470: the most payload a frame of a type carries; none for a reserved type. -/
def frameLimit (type : Nat) : Option Nat :=
  if type = 1 ∨ type = 4 then some 4096
  else if type = 9 then some 248
  else if [2, 3, 5, 6, 7, 8, 0x10, 0x11, 0x12].contains type ∨ (0x18 ≤ type ∧ type ≤ 0x27) then some 0
  else none

/-- R469, R470: a frame that is discarded as BAD_FRAME: of a reserved channel or type, or with a payload beyond its type's limit. -/
def badFrame (f : Frame) : Bool :=
  decide (4 < f.vc) || match frameLimit f.type with
    | some n => decide (n < f.len)
    | none => true

/-- The 32-B beats of a frame's payload. -/
def frameBeats (f : Frame) : Nat := (f.len + 31) / 32

/-- The number of a credit pool: port, channel, sub-channel, and header (1) or beat (0) (R471). -/
def creditKey (p vc sub : Nat) (header : Bool) : Nat := ((p * 8 + vc) * 2 + sub) * 2 + b2n header

/-- The credits left in a pool. -/
def State.credits (s : State) (p vc sub : Nat) (h : Bool) : Nat := sget creditDefault s.herd.credits (creditKey p vc sub h)

/-- The state with a credit pool holding `n`. -/
def State.setCredits (s : State) (p vc sub : Nat) (h : Bool) (n : Nat) : State :=
  s.withHerd { s.herd with credits := sset creditDefault s.herd.credits (creditKey p vc sub h) n }

/-- Whether the next hop holds credit for the whole frame, header and every beat (R471). -/
def State.hasCredit (s : State) (p : Nat) (f : Frame) : Bool :=
  decide (1 ≤ s.credits p f.vc f.sub true ∧ frameBeats f ≤ s.credits p f.vc f.sub false)

/-- R468: the CRC-16 of a header: one byte, the highest bit first, polynomial 0x1021. -/
def crc16Byte (c : Nat) (b : Byte) : Nat :=
  (List.range 8).foldl (fun (x : Nat) _ => if nbit x 15 then (2 * x % 65536) ^^^ 0x1021 else 2 * x) (c ^^^ (b.toNat * 256))

/-- R468: the 24 bytes of a frame's header. -/
def headerBytes (f : Frame) : List Byte :=
  let h := bytesOf 1 f.type ++ bytesOf 1 (f.vc % 8 + 8 * (f.sub % 2) + 16 * (f.detours % 4))
    ++ bytesOf 2 (f.dest % 4096 + 4096 * b2n f.bcast + 8192 * b2n f.linkLocal) ++ bytesOf 2 (f.src % 4096) ++ bytesOf 2 f.len
    ++ bytesOf 8 f.addr ++ bytesOf 4 f.tag ++ bytesOf 2 f.arg
  h ++ bytesOf 2 (h.foldl crc16Byte 0xFFFF)

/-- The 16-bit words of a byte string. -/
def halves : List Byte → List Nat
  | a :: b :: t => (a.toNat + 256 * b.toNat) :: halves t
  | _ => []

/-- R464: a header as 12 HEADER words; bit 15 of the first one marks the start. -/
def headerPieces (f : Frame) : List Nat :=
  match halves (headerBytes f) with
  | a :: t => (a + 32768) :: t
  | [] => []

/-- R464: a frame goes out: the words of its header, and then its data beats. -/
def State.emitFrame (s : State) (p : Nat) (f : Frame) : State := (s.emit (.header p (headerPieces f))).emit (.frame p f)

/-- A frame leaves on a port: its credit is used and FRAMES_OUT counts it. -/
def State.putFrame (s : State) (p : Nat) (f : Frame) : State :=
  let s1 := s.setCredits p f.vc f.sub true (s.credits p f.vc f.sub true - 1)
  let s2 := s1.setCredits p f.vc f.sub false (s1.credits p f.vc f.sub false - frameBeats f)
  (s2.emitFrame p f).wrapInc .HL_PORT_CNT_COUNT p 3 1

/-- Whether a frame of the same channel and sub-channel waits at a port already. -/
def State.egressBlocked (s : State) (p : Nat) (f : Frame) : Bool :=
  s.herd.egress.any (fun (e : Egress) => e.port == p && e.frame.vc == f.vc && e.frame.sub == f.sub)

/-- R471, R473: a control frame leaves at once; any other frame of Herdlink or the service firmware, which is no requester of the port's
arbiter (R250), leaves when the next hop has credit for all of it, and waits at the port until then. -/
def State.offerFrame (s : State) (p : Nat) (f : Frame) : State :=
  if f.vc = 0 then (s.emitFrame p f).wrapInc .HL_PORT_CNT_COUNT p 3 1
  else if s.hasCredit p f && !s.egressBlocked p f then s.putFrame p f
  else s.withHerd { s.herd with egress := s.herd.egress ++ [⟨p, f, 48, none⟩] }

/-- A frame of this module's own is routed and sent; `none` when no route exists. -/
def State.sendFrame (s : State) (f : Frame) : Option State :=
  match s.route none f with
  | .here => none
  | .unreachable => none
  | .port p g det => some (if det then (s.offerFrame p g).setFlag .HL_EVENT_DETOUR 0 0 true else s.offerFrame p g)

/-- A frame of this module's own that the sender does not wait for: lost where no route exists. -/
def State.sendOrDrop (s : State) (f : Frame) : State := (s.sendFrame f).getD s

/-- A control frame without payload from this module (R470). -/
def State.ctlFrame (s : State) (type dest addr tag arg : Nat) : Frame :=
  { type := type, vc := 0, sub := 0, detours := 0, dest := dest, bcast := false, linkLocal := false, src := s.herdId,
    len := 0, addr := addr, tag := tag, arg := arg, payload := [] }

/-- A broadcast control frame, sent on every port HL_BCAST names that is up (R488); the sequence number is its TAG. -/
def State.broadcast (s : State) (type addr arg : Nat) : State :=
  let q := s.herd.bcastSeq
  let s0 := s.withHerd { s.herd with bcastSeq := (q + 1) % 2 ^ 32, seen := (s.fld .HD_STATUS_EPOCH 0 0, q) :: s.herd.seen }
  let f := { s.ctlFrame type 0 addr q arg with bcast := true }
  s0.each ((List.range 16).filter (fun p => nbit (s.fld .HL_BCAST_PORTS 0 0) p && s.torusUp p))
    (fun p t => t.offerFrame p f)

/-- R481: when a transaction sent now times out; an HL_TIMEOUT of 0 acts as 1. -/
def State.replyDue (s : State) : Nat := s.now + max 1 (s.fld .HL_TIMEOUT_MS 0 0) * 1000000

/-- The port that a frame of this module's own leaves on; 16 where no route exists. -/
def State.portOf (s : State) (f : Frame) : Nat :=
  match s.route none f with
  | .port p _ _ => p
  | _ => 16

/-- The words of a byte string, little-endian, the last one padded with zero bytes. -/
def wordsOf : List Byte → List PW
  | a :: b :: c :: d :: t => ⟨BitVec.ofNat 32 (ofBytes [a, b, c, d]), false⟩ :: wordsOf t
  | [] => []
  | l => [⟨BitVec.ofNat 32 (ofBytes l), false⟩]

/-- A MSG frame of this module to a herd core's context of another member (R480). -/
def State.msgFrame (s : State) (dest core ctx : Nat) (payload : List Byte) : Frame :=
  { type := 0x09, vc := 2, sub := 0, detours := 0, dest := dest, bcast := false, linkLocal := false, src := s.herdId,
    len := payload.length, addr := core % 4 + 4 * (ctx % 16), tag := 0, arg := 0, payload := wordsOf payload }

/-- Fleet time of the current cycle, as bytes for a message. -/
def State.shepherdId (s : State) : Nat := s.fld .HD_STATUS_SHEPHERD 0 0

end Sys2Proof.Machine
end

