-- ==== Sys2Proof/Machine/Audit.lean ====
section
/-! DEFINITION. The audit log: entries, their chain, the full and near-full limits (R565 to R568), and the capture of
failed register accesses (R22, R23). -/
namespace Sys2Proof.Machine

open Sys2Proof

/-- R565 byte 16: the kinds of audit entry. -/
inductive AuditKind where
  | change | refusal | event
deriving DecidableEq, Repr

/-- The code of an audit kind. -/
def AuditKind.code : AuditKind → Nat
  | .change => 0
  | .refusal => 1
  | .event => 2

/-- R565 byte 23: the core behind an access. -/
def accCore (a : Acc) : Nat :=
  match a.origin with
  | .steer c => c
  | .herdCore n => 24 + n
  | .serviceFw => 0x3F
  | _ => 0

/-- The module's own changes, made by the service firmware (R565 port 5, internal). -/
def accService (s : State) : Acc := ⟨.serviceFw, 5, 0, 0, true, s.herdId⟩

/-- The origin SHEPHERD, arriving over Herdlink. -/
def accShepherd (src : Nat) : Acc := ⟨.shepherd, 2, 0, 0, true, src⟩

/-- The origin BMC, arriving over SMBus/MCTP. -/
def accBmc (s : State) : Acc := ⟨.bmc, 3, 0, 0, true, s.herdId⟩

/-- The host PF, VI0, on a PCIe port. -/
def accVi0 (port : Nat) (s : State) : Acc := ⟨.vi 0, port, 0, 0, true, s.herdId⟩

/-- Bytes 0 to 55 of an audit entry (R565). -/
def AuditEntry.bytes (e : AuditEntry) : List Byte :=
  bytesOf 8 e.seq ++ bytesOf 8 e.ft ++ bytesOf 4 (e.kind + 256 * e.origin + 65536 * e.port) ++ bytesOf 2 e.herd
    ++ bytesOf 2 (e.vi + 256 * e.core) ++ bytesOf 4 e.cred ++ bytesOf 4 e.object ++ bytesOf 8 e.old.toNat
    ++ bytesOf 8 e.new.toNat ++ bytesOf 8 e.code

/-- The whole entry, 64 B. -/
def AuditEntry.all (e : AuditEntry) : List Byte := e.bytes ++ bytesOf 8 e.chain.toNat

/-- The chain of the newest entry, 0 before the first. -/
def lastChain : List AuditEntry → W64
  | [] => 0
  | e :: _ => e.chain

/-- R565 byte 56: the first 8 bytes of SHA-384 over the previous chain and bytes 0 to 55. -/
def chainOf (prev : W64) (e : AuditEntry) : W64 :=
  BitVec.ofNat 64 (Config.sha384 (bytesOf 8 prev.toNat ++ e.bytes)).toNat

/-- The entries not yet acknowledged (R568). -/
def State.unexported (s : State) : Nat := s.fld .AU_SEQ_SEQ 0 0 - s.fld .AU_ACKED_SEQ 0 0

/-- The entries not yet in NOR (R566). -/
def State.unmirrored (s : State) : Nat := s.fld .AU_SEQ_SEQ 0 0 - s.audit.mirrored

/-- The audit log refuses: it is FULL, or 1,024 entries are unmirrored (R566, R568). -/
def State.logRefuses (s : State) : Bool := s.flag .AU_STATUS_FULL 0 0 || decide (1024 ≤ s.unmirrored)

/-- The first entry that NOR still holds once entry `q` is in it: the ring has 1,024 sectors of 1,024 entries, one of them
kept erased (R565, R566). -/
def norFirst (q : Nat) : Nat := (((q - 1) / 1024 + 1) - 1023) * 1024 + 1

/-- Every entry up to `q` is in NOR. -/
def AuditState.mirrorTo (a : AuditState) (q : Nat) : AuditState :=
  { a with mirrored := max a.mirrored q, norFrom := max a.norFrom (norFirst (max a.mirrored q)) }

/-- One entry is written: its number is one more than the last. While the hold-up store is not ready, it is in NOR before
its change is accepted; at most 1,024 entries are ever unmirrored (R541). -/
def State.auditWrite (s : State) (kind : AuditKind) (a : Acc) (cred obj : Nat) (old new : W64) (code : Nat) : State :=
  let q := s.fld .AU_SEQ_SEQ 0 0 + 1
  let e0 : AuditEntry :=
    { seq := q, ft := s.now, kind := kind.code, origin := a.origin.code, port := a.port, herd := a.herd, vi := a.vi,
      core := accCore a, cred := cred, object := obj, old := old, new := new, code := code, chain := 0 }
  let e := { e0 with chain := chainOf (lastChain s.audit.entries) e0 }
  let au : AuditState := { s.audit with entries := e :: s.audit.entries }
  (s.withAudit (au.mirrorTo (if s.flag .TH_HU_STATUS_READY 0 0 then q - 1024 else q))).setFld .AU_SEQ_SEQ 0 0 q

/-- R568: at 942,797 unexported entries NEAR_FULL is set, an EVENT is logged, SMB_ALERT_N is asserted and a 0x04 MSG
goes to the shepherd; at 1,047,552 FULL is set. -/
def State.auditLimits (s : State) : State :=
  let s1 :=
    if 942797 ≤ s.unexported ∧ s.flag .AU_STATUS_NEAR_FULL 0 0 = false then
      let t := (s.setFlag .AU_STATUS_NEAR_FULL 0 0 true).auditWrite .event (accService s) 0 (7 <<< 26) 0 0 5
      let t := t.withPins { t.pins with smbAlert := true }
      t.sendOrDrop (t.msgFrame t.shepherdId (t.fld .AU_EXPORT_DEST_CORE 0 0) (t.fld .AU_EXPORT_DEST_CONTEXT 0 0) [4])
    else s
  if 1047552 ≤ s1.unexported then s1.setFlag .AU_STATUS_FULL 0 0 true else s1

/-- R568: an entry the Uloaby makes: written, or counted in DROPPED while the log is FULL. -/
def State.auditLog (s : State) (kind : AuditKind) (a : Acc) (cred obj : Nat) (old new : W64) (code : Nat) : State :=
  if s.flag .AU_STATUS_FULL 0 0 then s.satInc .AU_STATUS_DROPPED 0 0 1
  else (s.auditWrite kind a cred obj old new code).auditLimits

/-- R22: a BAR0 access that cannot be carried out is captured: the first since the last clear keeps its offset, kind
and origin, and every one is counted. -/
def State.accessErr (s : State) (a : Acc) (off kind : Nat) (write : Bool) : State :=
  let s1 :=
    if s.flag .SV_ACCESS_ERR_VALID 0 0 then s
    else
      ((((s.setFld .SV_ACCESS_ERR_OFFSET 0 0 off).setFlag .SV_ACCESS_ERR_WRITE 0 0 write).setFld
        .SV_ACCESS_ERR_KIND 0 0 kind).setFld .SV_ACCESS_ERR_ORIGIN 0 0 a.origin.code).setFlag .SV_ACCESS_ERR_VALID 0 0 true
  s1.satInc .SV_ACCESS_ERR_COUNT 0 0 1

/-- The object of an audit entry about a register (R565). -/
def regObject (off : Nat) (wide : Bool) : Nat := off % 2 ^ 26 + b2n wide * 2 ^ 30

/-- R22, R23: a write is refused with kind LOCKED, STROKE, NOT_PERMITTED or LOG_FULL: captured, and audited as a refusal
except while the log is full. -/
def State.refuseWrite (s : State) (w : Wr) (off kind : Nat) (old : W64) : State :=
  let s1 := s.accessErr w.acc off kind true
  if s1.flag .AU_STATUS_FULL 0 0 then s1
  else s1.auditLog .refusal w.acc 0 (regObject off w.wide) old w.value kind

/-- R16: an accepted audited write is recorded. -/
def State.auditChange (s : State) (w : Wr) (off : Nat) (old new : W64) : State :=
  s.auditLog .change w.acc 0 (regObject off w.wide) old new 0

/-- An EVENT entry of the module's own (R565): event code and index. -/
def State.auditEvent (s : State) (ev ix : Nat) : State :=
  s.auditLog .event (accService s) 0 (ix % 2 ^ 26 + 7 * 2 ^ 26) 0 0 ev

end Sys2Proof.Machine
end

