-- ==== Sys2Proof/Machine/FleetTime.lean ====
section
/-! DEFINITION. Fleet time: reference samples, lock, holdover, time messages, link delays (R24 to R34, R57), and the
commit of strokes (R35 to R40, R50, R51, R55). Times written `q` count quarter nanoseconds. -/
namespace Sys2Proof.Machine

open Sys2Proof

/-- One millisecond in quarter nanoseconds: the largest correction that is slewed (R31). -/
def msQ : Int := 4000000

/-- The module's own holdover duration in milliseconds (R32). -/
def State.ownHoldover (s : State) : Nat :=
  if s.fld .FT_STATUS_STATE 0 0 = 2 then (s.now - s.ft.holdStart) / 1000000 else 0

/-- FT_STATUS.HOLD_AGE: the greater of the module's own holdover duration and the herd holdover age it last received,
in milliseconds, saturating at 0xFF_FFFF (R32). -/
def State.holdAge (s : State) : Nat :=
  min (max s.ownHoldover s.ft.herdAge) 0xFFFFFF

/-- The module falls to HOLDOVER (R29). SOURCE, which R29 does not time, shows the reference of the last sample followed and none in
HOLDOVER (log entry 143). -/
def State.enterHoldover (s : State) : State :=
  let s1 := ((s.setFld .FT_STATUS_STATE 0 0 2).setFld .FT_STATUS_SOURCE 0 0 0).setFlag .FT_EVENT_HOLDOVER_ENTER 0 0 true
  s1.withFt { s1.ft with holdStart := s.now, lockRun := 0 }

/-- The module reaches LOCKED (R29). -/
def State.enterLocked (s : State) : State :=
  let s1 := (s.setFld .FT_STATUS_STATE 0 0 1).setFlag .FT_EVENT_LOCK 0 0 true
  s1.withFt { s1.ft with everLocked := true }

/-- R31: a reference that disagrees by more than 1 ms is not followed. `lead` is how far it is ahead, in ns. -/
def State.refJump (s : State) (lead : Int) : State :=
  let s1 := (s.setFlag .FT_STATUS_REF_JUMP 0 0 true).setFlag .FT_EVENT_REF_SEEN_JUMP 0 0 true
  let s2 := if s1.fld .FT_STATUS_STATE 0 0 = 1 then s1.enterHoldover else s1
  s2.withFt { s2.ft with refLead := lead, lockRun := 0 }

/-- R30: the initial step sets FT_NOW to the reference, rounded down to a multiple of 4; a sample that would move it
backward does not make the step. -/
def State.initialStep (s : State) (ref : Int) : State :=
  let r := (ref / 4).toNat / 4 * 4
  if r < s.now then s
  else
    let s1 := s.setFld .FT_NOW_NOW 0 0 r
    s1.withFt { s1.ft with stepped := true, lastRef := r, herdOff := s1.ft.herdOff.map (fun _ => 4 * (r : Int) - ref) }

/-- A usable reference sample after the initial step: `off` is local time minus reference, `judged` the offset the
lock rule looks at, `limit` its bound and `need` how many in a row reach LOCKED (R29, R31). -/
def State.followRef (s : State) (source : Nat) (off judged limit : Int) (need : Nat) : State :=
  if off > msQ ∨ off < -msQ then s.refJump (-off / 4)
  else
    let run := if judged < limit ∧ -limit < judged then s.ft.lockRun + 1 else 0
    let s1 := (s.setFld .FT_STATUS_SOURCE 0 0 source).withFt
      { s.ft with steer := off, lastRef := s.now, refLead := 0, lockRun := run }
    if need ≤ run ∧ s1.fld .FT_STATUS_STATE 0 0 ≠ 1 then s1.enterLocked else s1

/-- A reference sample: the initial step while it has not been made, and following after it (R30, R31). -/
def State.refSample (s : State) (source : Nat) (ref off judged limit : Int) (need : Nat) : State :=
  if s.ft.stepped then s.followRef source off judged limit need
  else if s.fld .FT_STATUS_STATE 0 0 = 0 then s.initialStep ref
  else s.followRef source off judged limit need

/-- PTP_SYNC (R26, R30): a Sync of the set transport and domain, sent at `t1` and stamped at `frac` quarter nanoseconds
past FT_NOW; it is used once the path delay has been measured, and is accepted for R29 before that too. -/
def execPtpSync (l2 : Bool) (domain t1 frac utc : Nat) (s : State) : Host.Outcome State Fault Refusal :=
  .next <|
    if s.fld .FT_SRC_MODE 0 0 = 1 ∧ s.flag .FT_SRC_PTP_L2 0 0 = l2 ∧ s.fld .FT_SRC_PTP_DOMAIN 0 0 = domain then
      let s1 := s.setFld .FT_UTC_OFFSET_OFFSET 0 0 utc
      match s1.ft.ptpDelay with
      | none => s1.withFt { s1.ft with lastRef := s1.now }
      | some d =>
        let t2 : Int := 4 * s1.now + frac
        let off := t2 - t1 - d
        let f := Config.ptpFilter s1.ft.filt off
        let s2 := s1.withFt { s1.ft with filt := f }
        s2.refSample 1 (t1 + d) off f 1000 8
    else s

/-- PTP_DELAY_RESP (R26, R30): one Delay_Req and Delay_Resp exchange measures the path delay end to end. -/
def execPtpDelayResp (t1 t2 t3 t4 : Nat) (s : State) : Host.Outcome State Fault Refusal :=
  .next <|
    if s.fld .FT_SRC_MODE 0 0 = 1 then
      s.withFt { s.ft with ptpDelay := some ((((t2 : Int) - t1) + ((t4 : Int) - t3)) / 2) }
    else s

/-- How far an edge at FT_NOW + `frac`/4 ns lies from the nearest whole second, in quarter nanoseconds. -/
def State.offSecond (s : State) (frac : Nat) : Nat :=
  let x := (4 * s.now + frac) % 4000000000
  min x (4000000000 - x)

/-- PPS_PULSE (R27, R30): the rising edge marks the second FT_PPS_SEC names. A pulse of a second already counted is used for
frequency only: it is no sample and no part of a run towards lock, but it is not missing where it lies within ±1 µs of a whole
second (R29; DEDUCED, log entry 143). A pulse outside its ±1 µs window does not count as a pulse of R29. -/
def execPpsPulse (frac : Nat) (s : State) : Host.Outcome State Fault Refusal :=
  .next <|
    let sec := s.fld .FT_PPS_SEC_SEC 0 0
    if s.fld .FT_SRC_MODE 0 0 ≠ 2 then s
    else if s.ft.ppsSec < sec then
      let ref : Int := 4000000000 * sec
      let off := (4 * s.now + frac : Int) - ref
      let s1 := s.withFt { s.ft with ppsSec := sec }
      let s2 := s1.refSample 2 ref off off 80 8
      if s.ft.stepped ∧ (off > 4000 ∨ off < -4000) then s2.withFt { s2.ft with lastRef := s.ft.lastRef, lockRun := 0 }
      else s2
    else if s.offSecond frac ≤ 4000 then s.withFt { s.ft with lastRef := s.now }
    else s

/-- PPS_OUT_PULSE (R28): the pulse of a whole second of FT_NOW, once for each second. -/
def execPpsOutPulse (s : State) : Host.Outcome State Fault Refusal :=
  .next <|
    let sec := s.now / 1000000000
    if s.now % 1000000000 = 0 ∧ s.ft.ppsOutSec < sec then
      (s.emit (.ppsOut sec)).withFt { s.ft with ppsOutSec := sec }
    else s

/-- The delay record of a port. -/
def State.portTime (s : State) (p : Nat) : PortTime := sget (fun _ => PortTime.reset) s.ft.ports p

/-- The state with the delay record of a port replaced. -/
def State.setPortTime (s : State) (p : Nat) (t : PortTime) : State :=
  s.withFt { s.ft with ports := sset (fun _ => PortTime.reset) s.ft.ports p t }

/-- The delay used: the average of the last 16 exchanges (R33). -/
def PortTime.delay (t : PortTime) : Int := if t.exch.length = 0 then 0 else t.exch.sum / (t.exch.length : Int)

/-- The port time is taken from: the first in dimension order towards the master whose exchanges are stable (R57). -/
def State.timePort (s : State) (master : Nat) : Option Nat :=
  let dirs := [s.dimDir master 0, s.dimDir master 1, s.dimDir master 2].filterMap id
  (dirs.flatMap s.portsOf).find? (fun p => s.portUp p && !(s.portTime p).dropped)

/-- R33: the second exchange of a measurement: a DELAY_REQ leaves on the port, stamped t3 at a moment within the FTCK cycle that
is free (log entry 144); it replaces one that has no answer. -/
def State.sendDelayReq (s : State) (p : Nat) : State :=
  let (x, s1) := s.free 4
  let pt := s1.portTime p
  (s1.setPortTime p { pt with t3 := some (4 * s1.now + x) }).offerFrame p { s1.ctlFrame 0x11 0 0 0 0 with linkLocal := true }

/-- TIME (R32, R33, R57): a time message on a port, stamped at `frac` past FT_NOW; one that fails its check is discarded. It is the
first exchange of a measurement of the port's delay, and starts the second. Time is taken from it where the port is the one R57
names; MASTER and the herd holdover age are taken from it also where R31 refuses its offset (DESIGN CHOICE, log entry 143). -/
def execTime (p addr tag arg : Nat) (ok : Bool) (frac : Nat) (s : State) : Host.Outcome State Fault Refusal :=
  .next <|
    if ok = false then s
    else
      let t1 : Int := 4 * addr + tag % 4
      let t2 : Int := 4 * s.now + frac
      let pt := s.portTime p
      let s1 := (s.setPortTime p { pt with t1 := t1, t2 := t2 }).sendDelayReq p
      if s1.fld .FT_SRC_MODE 0 0 = 3 ∧ s.timePort (arg % 4096) = some p ∧ pt.exch.length ≠ 0 then
        let off := t2 - t1 - pt.delay
        let s2 := (s1.setFld .FT_STATUS_MASTER 0 0 arg).withFt { s1.ft with herdAge := nfield tag 8 24, herdOff := some off }
        s2.refSample 3 (t1 + pt.delay) off off 80 16
      else s1

/-- The time this module sends, in quarter nanoseconds (R32): on the shepherd its own fleet time; elsewhere the shepherd's fleet
time as the last time message gave it, none before one. -/
def State.timeToSend (s : State) : Option Nat :=
  if s.role = 3 then some (4 * s.now) else s.ft.herdOff.map (fun off => ((4 * s.now : Int) - off).toNat)

/-- The herd holdover age this module sends: the shepherd's own holdover duration, and what it last received elsewhere (R32). -/
def State.ageToSend (s : State) : Nat := if s.role = 3 then min s.ownHoldover 0xFFFFFF else s.ft.herdAge

/-- TIME_SEND (R32): a time message on every torus port that is up; a module that has none to forward sends none. -/
def execTimeSend (s : State) : Host.Outcome State Fault Refusal :=
  .next <|
    match s.timeToSend with
    | none => s
    | some t =>
    let m := if s.role = 3 then s.herdId else s.fld .FT_STATUS_MASTER 0 0
    let f := { s.ctlFrame 0x10 0 (t / 4) (t % 4 + 256 * s.ageToSend) m with linkLocal := true }
    s.each ((List.range 16).filter (fun p => s.portUp p && decide (s.fld .HL_PORT_CFG_DIR p 0 < 6)))
      (fun p u => u.offerFrame p f)

/-- DELAY_REQ (R33): answered with the stamp t4 of its arrival. -/
def execDelayReq (p frac : Nat) (s : State) : Host.Outcome State Fault Refusal :=
  .next <|
    let t4 := 4 * s.now + frac
    s.offerFrame p { s.ctlFrame 0x12 0 (t4 / 4) (t4 % 4) 0 with linkLocal := true }

/-- DELAY_RESP (R33, R57): completes the exchange whose request awaits its answer on the port, if one does; the correction of FT_PORT_ASYM takes
effect here. A delay that moved by more than 50 ns drops the port until 16 stable exchanges have been made. -/
def execDelayResp (p addr tag : Nat) (s : State) : Host.Outcome State Fault Refusal :=
  .next <|
    match (s.portTime p).t3 with
    | none => s
    | some t3 =>
    let s1 := s.applyShadow .FT_PORT_ASYM p 0
    let pt := s1.portTime p
    let t4 : Int := 4 * addr + tag % 4
    let d := ((t4 - pt.t1) - (t3 - pt.t2)) / 2 + sextNat 16 (s1.inForce .FT_PORT_ASYM_ASYM p 0)
    let moved := match pt.exch.head? with
      | some e => decide (d - e > 200 ∨ e - d > 200)
      | none => false
    let stable := if moved then 0 else pt.stable + 1
    s1.setPortTime p { pt with
      t3 := none
      exch := (d :: pt.exch).take 16
      stable := stable
      dropped := if moved then true else if pt.dropped then decide (stable < 16) else false }

/-- HOLDOVER_ENTER (R29): the loss limit of the reference in use has passed and a locked module falls to HOLDOVER. -/
def execHoldoverEnter (s : State) : Host.Outcome State Fault Refusal :=
  .next <|
    let limit := match s.fld .FT_SRC_MODE 0 0 with
      | 1 => 3000000000
      | 2 => 2000001000
      | 3 => 50000
      | _ => 0
    if s.fld .FT_STATUS_STATE 0 0 = 1 ∧ limit ≤ s.now - s.ft.lastRef then s.enterHoldover else s

/-- R25: a role change sets FT_SRC.MODE from the role; the module keeps FT_NOW and its state, and a shepherd without a
reference is in HOLDOVER if it has ever locked. What was known of the old reference is forgotten: the lead of a refused one (R31),
and the time and the age that the old shepherd's messages gave (R32). -/
def State.ftModeChange (s : State) : State :=
  if s.role = 3 then
    let r := s.fld .FT_SRC_SHEP_REF 0 0
    let m := if r = 3 then 0 else r
    let s1 := (s.setFld .FT_SRC_MODE 0 0 m).setFld .FT_STATUS_MASTER 0 0 s.herdId
    let s2 := s1.withFt { s1.ft with lastRef := s.now, lockRun := 0, refLead := 0, herdOff := none, herdAge := 0 }
    if m = 0 ∧ s2.fld .FT_STATUS_STATE 0 0 = 1 then s2.enterHoldover else s2
  else if s.fld .FT_SRC_MODE 0 0 = 3 then s
  else
    let s1 := s.setFld .FT_SRC_MODE 0 0 3
    s1.withFt { s1.ft with lastRef := s.now, lockRun := 0, refLead := 0, herdOff := none }

/-- The members of the herd table: the entries in state MEMBER (R485). -/
def State.members (s : State) : List Nat :=
  s.regs.filterMap (fun e =>
    if keyId e.1 = RegId.HD_TABLE_ENTRY.ctorIdx ∧ getBits e.2 16 8 = 1 then some (keyI e.1) else none)

/-- R36: the herd-wide actions. -/
def herdWide (action : Nat) : Bool := action == 1 || action == 2 || action == 4 || action == 0xA

/-- R36: the argument is in the range the action table gives. -/
def strokeArgOk (action arg : Nat) : Bool :=
  match action with
  | 0x01 => decide (arg < 2 ^ 24)
  | 0x02 => decide (arg < 2 ^ 24)
  | 0x03 => decide (arg < 16)
  | 0x04 => decide (arg < 2 ^ 12)
  | 0x05 => decide (arg = 0)
  | 0x06 => decide (300 ≤ arg ∧ arg ≤ 1000)
  | 0x07 => decide (arg < 256)
  | 0x08 => decide (arg < 256)
  | 0x09 => decide (arg < 256)
  | 0x0A => decide (arg < 2 ^ 32 ∧ nfield arg 1 15 = 0)
  | _ => decide (arg < 2 ^ 32)

/-- R38: who may commit an action. -/
def State.mayCommit (s : State) (a : Acc) (action : Nat) : Bool :=
  if herdWide action then
    match a.origin with
    | .shepherd => true
    | .vi 0 => s.role == 3
    | _ => false
  else
    match a.origin with
    | .serviceFw => true
    | .shepherd => true
    | .vi 0 => true
    | .steer _ => a.priv
    | _ => false

/-- A free slot: EMPTY, FIRED, FIRED_LATE, CANCELLED or FAILED (R37). -/
def State.slotFree (s : State) (i : Nat) : Bool :=
  let st := s.fld .FT_STK_STATE_STATE i 0
  !(st == 1 || st == 4)

/-- A stroke's staging: time, argument and the control fields of FT_STG_CTL. -/
structure StrokeReq where
  time : Nat
  arg : Nat
  action : Nat
  slot : Nat
  lateOk : Bool
  replace : Bool
  cancel : Bool
deriving DecidableEq, Repr

/-- The slot a request uses: the one it names, or the lowest free one for 0xFF (R37). -/
def State.strokeSlot (s : State) (r : StrokeReq) : Option Nat :=
  if r.slot % 256 = 0xFF then (List.range 256).find? s.slotFree else some (r.slot % 256)

/-- The FT_NOW of the edge that an armed slot fires on: the first that is at or after its time, or the later one that R39 or R53
gives it (R41). -/
def State.strokeEdge (s : State) (i : Nat) : Nat :=
  match s.ft.late.find? (fun e => e.1 == i) with
  | some e => e.2
  | none => s.fld .FT_STK_TIME_TIME i 0

/-- R41: an armed slot whose firing edge has come. -/
def State.strokeDue (s : State) (i : Nat) : Bool :=
  s.fld .FT_STK_STATE_STATE i 0 == 1 && decide (s.strokeEdge i ≤ s.now)

/-- R51: a slot that has fired for a CANCEL or REPLACE: its state says so, or its firing edge has come. -/
def State.strokeGone (s : State) (i : Nat) : Bool :=
  s.fld .FT_STK_STATE_STATE i 0 == 2 || s.fld .FT_STK_STATE_STATE i 0 == 3 || s.strokeDue i

/-- R37, R39, R40, R50, R51: the result of a commit, and the slot it uses. Where the rules leave a CANCEL open the model chooses
(log entry 145): with REPLACE it is a CANCEL; SLOT 0xFF is slot 255; and it is for the origins that may commit the action the slot
holds, as its own action is ignored, while a REPLACE is judged by its own action alone. -/
def State.strokeResult (s : State) (a : Acc) (r : StrokeReq) : Nat × Nat :=
  if r.cancel then
    let st := s.fld .FT_STK_STATE_STATE (r.slot % 256) 0
    if s.logRefuses then (8, r.slot % 256)
    else if s.strokeGone (r.slot % 256) then (7, r.slot % 256)
    else if st = 1 ∨ st = 4 then
      (if s.mayCommit a (s.fld .FT_STK_STATE_ACTION (r.slot % 256) 0) then 0 else 6, r.slot % 256)
    else (9, r.slot % 256)
  else if r.action = 0 ∨ 0x0B < r.action then (3, r.slot % 256)
  else if s.mayCommit a r.action = false then (6, r.slot % 256)
  else if s.logRefuses then (8, r.slot % 256)
  else if strokeArgOk r.action r.arg = false then (4, r.slot % 256)
  else if r.time ≤ s.now ∧ r.lateOk = false then (1, r.slot % 256)
  else match s.strokeSlot r with
    | none => (5, 0xFF)
    | some i =>
      let st := s.fld .FT_STK_STATE_STATE i 0
      if r.replace ∧ r.slot % 256 ≠ 0xFF ∧ s.strokeGone i then (7, i)
      else if r.replace = false ∧ (st = 1 ∨ st = 4) then (2, i)
      else (0, i)

/-- A stroke is installed in a slot as ARMED; one whose time has passed fires on the next FTCK edge as FIRED_LATE (R39), also where
its time is FT_NOW itself, which R50 counts as past (log entry 145). -/
def State.armSlot (s : State) (i : Nat) (a : Acc) (r : StrokeReq) : State :=
  let s1 := (s.setFld .FT_STK_TIME_TIME i 0 r.time).setFld .FT_STK_ARG_ARG i 0 r.arg
  let s2 := s1.setReg .FT_STK_STATE i 0 0
  let s3 := (s2.setFld .FT_STK_STATE_STATE i 0 1).setFld .FT_STK_STATE_ACTION i 0 r.action
  let s4 := (s3.setFld .FT_STK_STATE_ORIGIN i 0 a.origin.code).setFld .FT_STK_FIRED_FIRED i 0 0
  let l := s4.ft.late.filter (fun k => k.1 != i)
  s4.withFt { s4.ft with late := if r.time ≤ s4.now then (i, s4.now + 4) :: l else l }

/-- The control bits of a STROKE frame's ARG (R470). -/
def StrokeReq.frameArg (r : StrokeReq) : Nat :=
  r.action % 32 + 32 * b2n r.lateOk + 64 * b2n r.replace + 128 * b2n r.cancel + 256 * (r.slot % 256)

/-- R38, R489: the shepherd sends a herd-wide stroke to every other member, one STROKE frame each, and awaits a result
from each for 1 ms. -/
def State.distribute (s : State) (r : StrokeReq) : State :=
  let ms := s.members.filter (fun h => h != s.herdId)
  let s0 := (s.setReg .HD_STROKE 0 0 0).setFld .HD_STROKE_TAG 0 0 r.arg
  let s1 := s0.withHerd { s0.herd with
    strokeWaits := s0.herd.strokeWaits ++ ms.map (fun h => ⟨h, r.arg % 2 ^ 32, s.now + 1000000⟩) }
  s1.each ms (fun h t => t.sendOrDrop (t.ctlFrame 0x23 h r.time (r.arg % 2 ^ 32) r.frameArg))

/-- R571: a committed FWACTIVATE starts the verification of the staged image it names: STAGED becomes VERIFYING. -/
def State.fwVerifyStart (s : State) (r : StrokeReq) : State :=
  if r.action ≠ 0xA ∨ r.cancel then s
  else
    let f : Fld := if r.arg % 2 = 0 then .SV_FW_STATUS_STATE_A else .SV_FW_STATUS_STATE_B
    if s.fld f 0 0 = 2 then s.setFld f 0 0 3 else s

/-- R35: a commit is checked and installed in one step; the result code and the slot are given back. A commit is
audited as a configuration write. -/
def State.commitStroke (s : State) (a : Acc) (r : StrokeReq) : Nat × Nat × State :=
  let (res, i) := s.strokeResult a r
  if res = 0 then
    let old := s.reg .FT_STK_STATE i 0
    let s1 := if r.cancel then s.setFld .FT_STK_STATE_STATE i 0 5 else (s.armSlot i a r).fwVerifyStart r
    let s2 := s1.auditLog .change a 0 (i + 1 * 2 ^ 26) old (s1.reg .FT_STK_STATE i 0) 0
    let wide := herdWide (if r.cancel then s.fld .FT_STK_STATE_ACTION i 0 else r.action)
    match a.origin with
    | .vi 0 => (0, i, if wide && s.role == 3 then s2.distribute r else s2)
    | _ => (0, i, s2)
  else if res = 6 then
    (res, i, if s.flag .AU_STATUS_FULL 0 0 then s else s.auditLog .refusal a 0 (i + 1 * 2 ^ 26) 0 (BitVec.ofNat 64 r.arg) 8)
  else (res, i, s)

/-- The stroke that an origin's staging registers hold (R35). -/
def State.staged (s : State) (o : Nat) : StrokeReq :=
  { time := s.fld .FT_STG_TIME_TIME o 0, arg := s.fld .FT_STG_ARG_ARG o 0, action := s.fld .FT_STG_CTL_ACTION o 0,
    slot := s.fld .FT_STG_CTL_SLOT o 0, lateOk := s.flag .FT_STG_CTL_LATE_OK o 0,
    replace := s.flag .FT_STG_CTL_REPLACE o 0, cancel := s.flag .FT_STG_CTL_CANCEL o 0 }

/-- R35: setting COMMIT checks and installs the origin's staged stroke; FT_STG_STATUS holds the result and the slot, and
COMMIT clears. -/
def State.stageCommit (s : State) (a : Acc) : State :=
  let o := a.origin.code
  let (res, i, s1) := s.commitStroke a (s.staged o)
  let s2 := (s1.setFld .FT_STG_STATUS_RESULT o 0 res).setFld .FT_STG_STATUS_SLOT o 0 i
  (s2.setFlag .FT_STG_STATUS_VALID o 0 true).setFlag .FT_STG_CTL_COMMIT o 0 false

/-- R24: an FTCK edge: fleet time advances by 4 ns while the SVC domain is powered. This is what a step does while no
command waits (DESIGN CHOICE, log entry 9). While a stroke whose edge has come has not fired, the edge is not over (R41). -/
def State.tick (s : State) : State :=
  if s.power.svcOn ∧ (List.range 256).all (fun i => !(s.strokeDue i)) then s.setFld .FT_NOW_NOW 0 0 (s.now + 4) else s

end Sys2Proof.Machine
end

