-- ==== Sys2Proof/Machine/Codes.lean ====
section
/-! DEFINITION. The word code (R123 to R127), poison tags (R128, R129), the HBM sector code (R135 to R138) and the row
check word (R139). -/
namespace Sys2Proof.Machine

open Sys2Proof

/-- R123: the column masks of d0 to d31 and of the poison bit. -/
def colMasks : List Nat :=
  [0x0B, 0x0D, 0x0E, 0x13, 0x15, 0x16, 0x19, 0x1A, 0x1C, 0x23, 0x25, 0x26, 0x29, 0x2A, 0x2C, 0x31, 0x32, 0x34, 0x38,
   0x43, 0x45, 0x46, 0x49, 0x4A, 0x4C, 0x51, 0x52, 0x54, 0x58, 0x61, 0x62, 0x64, 0x68]

/-- The XOR of the masks whose bit of `v` is set, the first mask standing for bit 0. -/
def xorMasks : List Nat → Nat → Nat
  | [], _ => 0
  | m :: ms, v => (if v % 2 = 1 then m else 0) ^^^ xorMasks ms (v / 2)

/-- R123: the check bits of 32 data bits and the poison bit. -/
def checkBits (data : W32) (poison : Bool) : Nat := xorMasks colMasks (data.toNat + 2 ^ 32 * b2n poison)

/-- R123: the stored word. -/
def rawWord (data : W32) (poison : Bool) (check : Nat) : W40 :=
  BitVec.ofNat 40 (data.toNat + 2 ^ 32 * b2n poison + 2 ^ 33 * (check % 128))

/-- A data word under the word code. -/
def encodeWord (p : PW) : W40 := rawWord p.data p.poison (checkBits p.data p.poison)

/-- R126: the blank encoding. -/
def blankWord : W40 := 0xD100000000

/-- The class of a decode (R124). -/
inductive DecClass where
  | ok | check | data | ue
deriving DecidableEq, Repr

/-- A decoded word. -/
structure Decoded where
  word : PW
  cls : DecClass
deriving DecidableEq, Repr

/-- R124: a word is decoded from its syndrome; an uncorrectable one returns its stored data with class UE. -/
def decodeWord (w : W40) : Decoded :=
  let data : W32 := BitVec.ofNat 32 w.toNat
  let poison := w.getLsbD 32
  let syn := (w.toNat >>> 33) ^^^ checkBits data poison
  if syn = 0 then ⟨⟨data, poison⟩, .ok⟩
  else if [1, 2, 4, 8, 16, 32, 64].contains syn then ⟨⟨data, poison⟩, .check⟩
  else match colMasks.findIdx? (fun m => m == syn) with
    | some k => if k = 32 then ⟨⟨data, !poison⟩, .data⟩ else ⟨⟨data ^^^ BitVec.ofNat 32 (2 ^ k), poison⟩, .data⟩
    | none => ⟨⟨data, poison⟩, .ue⟩

/-- R128: the poison kinds. -/
inductive PoisonKind where
  | uninit | ueTm | ueHbm | ueLc | link | checkword | channelBusy | engine | mule
deriving DecidableEq, Repr

/-- The code of a poison kind. -/
def PoisonKind.code : PoisonKind → Nat
  | .uninit => 0 | .ueTm => 1 | .ueHbm => 2 | .ueLc => 3 | .link => 4 | .checkword => 5 | .channelBusy => 6
  | .engine => 7 | .mule => 8

/-- R128: a poison tag. -/
def poisonTag (k : PoisonKind) (origin : Nat) : W32 := BitVec.ofNat 32 (k.code * 2 ^ 28 + origin % 2 ^ 28)

/-- A poisoned word carrying a tag. -/
def poisoned (k : PoisonKind) (origin : Nat) : PW := ⟨poisonTag k origin, true⟩

/-- The origin of a UE_TM tag (R129). -/
def originTm (c bank row word : Nat) : Nat := c * 2 ^ 23 + bank * 2 ^ 17 + (row % 4096) * 2 ^ 5 + word * 2

/-- The origin of a steer-memory error: bank 0x3F, the 64-B line and the word in it (R129). -/
def originSteer (c wordIx : Nat) : Nat := c * 2 ^ 23 + 0x3F * 2 ^ 17 + (wordIx / 16) * 16 + wordIx % 16

/-- The origin of a UE_HBM tag (R129). -/
def originHbm (plot pc row : Nat) : Nat := plot * 2 ^ 19 + pc * 2 ^ 13 + row % 8192

/-- The origin of a UE_LC tag (R129). -/
def originLc (slice set way sector : Nat) : Nat := slice * 2 ^ 22 + set * 2 ^ 13 + way * 2 ^ 9 + sector * 2 ^ 7

/-- The origin of a LINK tag (R129): source 0 PCIe with a VI, or 1 Herdlink with a sender. -/
def originLink (herdlink : Bool) (sender vi port : Nat) : Nat :=
  b2n herdlink * 2 ^ 27 + sender * 2 ^ 15 + vi * 2 ^ 9 + port * 2 ^ 4

/-- The origin of an ENGINE tag (R129); cluster 0x1F stands for an I/O-die stream engine. -/
def originEngine (cluster eng code : Nat) : Nat := cluster * 2 ^ 23 + eng * 2 ^ 20 + code % 2 ^ 20

/-- The origin of a CHANNEL_BUSY tag (R129). -/
def originBusy (stack pc : Nat) : Nat := stack * 2 ^ 25 + pc * 2 ^ 19

/-- The origin of a MULE tag (R129). -/
def originMule (stack pc status : Nat) : Nat := stack * 2 ^ 25 + pc * 2 ^ 19 + status * 2 ^ 11

/-- The origin of a CHECKWORD tag (R129). -/
def originCheck (cluster table row : Nat) : Nat := cluster * 2 ^ 23 + (table % 2 ^ 12) * 2 ^ 11 + min row 0x7FF

/-! ## GF(2^8) and the sector code -/

/-- R135: multiplication by α = 0x02 modulo x^8 + x^4 + x^3 + x^2 + 1. -/
def gfDouble (a : Nat) : Nat := if a * 2 < 256 then a * 2 else (a * 2) ^^^ 0x11D

/-- Multiplication in GF(2^8), by the bits of `b` (`n` of them). -/
def gfMulN : Nat → Nat → Nat → Nat
  | 0, _, _ => 0
  | n + 1, a, b => (if b % 2 = 1 then a else 0) ^^^ gfMulN n (gfDouble a) (b / 2)

/-- Multiplication in GF(2^8). -/
def gfMul (a b : Nat) : Nat := gfMulN 8 a b

/-- α to the power `n`. -/
def gfPow : Nat → Nat
  | 0 => 1
  | n + 1 => gfDouble (gfPow n)

/-- R135: the generator (x+1)(x+α)(x+α²)(x+α³), its coefficients of x³, x², x and 1. -/
def rsGen : List Nat :=
  let mulRoot := fun (p : List Nat) (r : Nat) => List.zipWith (· ^^^ ·) (p ++ [0]) (0 :: p.map (gfMul r))
  ((mulRoot (mulRoot (mulRoot (mulRoot [1] 1) 2) 4) 8)).drop 1

/-- One step of the division by the generator: the remainder with one more data symbol. -/
def rsStep (rem : List Nat) (d : Nat) : List Nat :=
  match rem with
  | r0 :: rest =>
    let f := r0 ^^^ d
    List.zipWith (· ^^^ ·) (rest ++ [0]) (rsGen.map (gfMul f))
  | [] => []

/-- R135: the four check bytes C0 to C3 of 32 data bytes. -/
def rsCheck (data : List Nat) : List Nat := data.foldl rsStep [0, 0, 0, 0]

/-- Byte `k` of a number, the lowest first. -/
def byteAt (x k : Nat) : Nat := (x >>> (8 * k)) % 256

/-- The first `n` bytes of a number. -/
def bytesN (n x : Nat) : List Nat := (List.range n).map (byteAt x)

/-- The number that bytes spell, the lowest first. -/
def natOfBytes : List Nat → Nat
  | [] => 0
  | b :: t => b + 256 * natOfBytes t

/-- A syndrome S_i of the 36 symbols, by Horner's rule at α^i. -/
def rsSyndrome (sym : List Nat) (i : Nat) : Nat := sym.foldl (fun acc d => gfMul acc (gfPow i) ^^^ d) 0

/-- The result of a sector decode: no error, one corrected symbol (its index), or uncorrectable. -/
inductive RsResult where
  | clean
  | fixed (index : Nat) (sym : List Nat)
  | bad
deriving DecidableEq, Repr

/-- R135: the decoder corrects any error confined to one symbol. -/
def rsDecode (sym : List Nat) : RsResult :=
  let s0 := rsSyndrome sym 0
  let s1 := rsSyndrome sym 1
  let s2 := rsSyndrome sym 2
  let s3 := rsSyndrome sym 3
  if s0 = 0 ∧ s1 = 0 ∧ s2 = 0 ∧ s3 = 0 then .clean
  else
    match (List.range 36).find? (fun k =>
      let x := gfPow (35 - k)
      s1 == gfMul s0 x && s2 == gfMul s1 x && s3 == gfMul s2 x && s0 != 0) with
    | some k => .fixed k (sym.set k (sym.getD k 0 ^^^ s0))
    | none => .bad

/-- R136: the marker of a poisoned sector, on C0 to C3. -/
def rsMarker : List Nat := [0xA5, 0x3C, 0x96, 0x0F]

/-- A sector of 32 data bytes and 4 check bytes as stored. -/
def sectorOf (data check : List Nat) : W288 := BitVec.ofNat 288 (natOfBytes (data ++ check))

/-- The 36 symbols of a stored sector. -/
def sectorSyms (s : W288) : List Nat := bytesN 36 s.toNat

/-- The bytes of eight data words. -/
def wordsBytes (ws : List PW) : List Nat := ws.flatMap (fun w => bytesN 4 w.data.toNat)

/-- A PROT sector of eight words (R135, R136, R137): with any poisoned word the whole sector is stored poisoned with the
tag of the lowest-addressed one. -/
def encodeSector (ws : List PW) : W288 :=
  match ws.find? (fun w => w.poison) with
  | none => let d := wordsBytes ws; sectorOf d (rsCheck d)
  | some w =>
    let d := bytesN 4 w.data.toNat ++ List.replicate 28 0
    sectorOf d (List.zipWith (· ^^^ ·) (rsCheck d) rsMarker)

/-- A blank PROT sector: poisoned with the tag of kind UNINIT (R126, R136). -/
def blankSector : W288 := encodeSector (List.replicate 8 ⟨0, true⟩)

/-- The words of a list of bytes. -/
def dataWords : Nat → List Nat → List PW
  | 0, _ => []
  | n + 1, l => ⟨BitVec.ofNat 32 (natOfBytes (l.take 4)), false⟩ :: dataWords n (l.drop 4)

/-- A decoded sector: its eight words and the class. -/
structure SectorDec where
  words : List PW
  cls : DecClass
deriving DecidableEq, Repr

/-- The class of a corrected symbol (R138). -/
def symClass (k : Nat) : DecClass := if k < 32 then .data else .check

/-- R136, R138: a PROT sector is decoded as written and with the marker removed; a poisoned one reads as its tag in all
eight words; class UE where neither decodes. -/
def decodeSector (s : W288) : SectorDec :=
  let sym := sectorSyms s
  let unm := sym.take 32 ++ List.zipWith (· ^^^ ·) (sym.drop 32) rsMarker
  let tagged := fun (l : List Nat) => List.replicate 8 (⟨BitVec.ofNat 32 (natOfBytes (l.take 4)), true⟩ : PW)
  match rsDecode sym with
  | .clean => ⟨dataWords 8 (sym.take 32), .ok⟩
  | .fixed k l => ⟨dataWords 8 (l.take 32), symClass k⟩
  | .bad =>
    match rsDecode unm with
    | .clean => ⟨tagged unm, .ok⟩
    | .fixed k l => ⟨tagged l, symClass k⟩
    | .bad => ⟨dataWords 8 (sym.take 32), .ue⟩

/-- A RAW sector: 32 data bytes (R134: a poisoned word stores its tag as plain data). -/
def rawSector (ws : List PW) : W288 := sectorOf (wordsBytes ws) [0, 0, 0, 0]

/-! ## CRC-32C -/

/-- One bit of the reflected CRC with polynomial 0x1EDC_6F41. -/
def crcBit (c : Nat) : Nat := if c % 2 = 1 then (c / 2) ^^^ 0x82F63B78 else c / 2

/-- One byte of the CRC. -/
def crcByte (c b : Nat) : Nat := crcBit (crcBit (crcBit (crcBit (crcBit (crcBit (crcBit (crcBit (c ^^^ b))))))))

/-- R139: CRC-32C of a byte string. -/
def crc32c (bs : List Nat) : Nat := (bs.foldl crcByte 0xFFFFFFFF) ^^^ 0xFFFFFFFF

/-- R139, R140: whether the trailer of a row matches bytes 0 to n - 5. -/
def rowCrcOk (row : List Nat) : Bool :=
  let n := row.length
  crc32c (row.take (n - 4)) == natOfBytes (row.drop (n - 4))

/-! ## The start-up self-test (R148) -/

/-- P1 to P7: the words injected into a word checker, each with what it is to return (its data as stored where it is uncorrectable).
The table states no data for P4 to P7, which are made here on the word 0. -/
def wordPatterns : List (W40 × Decoded) :=
  let z : PW := ⟨0, false⟩
  let flip := fun (bits : List Nat) => encodeWord z ^^^ BitVec.ofNat 40 ((bits.map (fun b => 2 ^ b)).sum)
  let ue := fun (w : W40) => (w, (⟨⟨BitVec.ofNat 32 w.toNat, w.getLsbD 32⟩, .ue⟩ : Decoded))
  [(encodeWord z, ⟨z, .ok⟩), (blankWord, ⟨⟨0, true⟩, .ok⟩), (encodeWord ⟨0xFFFFFFFF, false⟩, ⟨⟨0xFFFFFFFF, false⟩, .ok⟩)]
    ++ (List.range 33).map (fun k => (flip [k], ⟨z, .data⟩))
    ++ (List.range 7).map (fun k => (flip [33 + k], ⟨z, .check⟩))
    ++ (List.range 39).map (fun k => ue (flip [k, k + 1]))
    ++ [ue (flip [33, 34, 35]), ue (flip [37, 38, 39])]

/-- P8 to P10: the sectors injected into a sector checker, each with the class it is to find and whether it is to return poison. -/
def sectorPatterns : List (W288 × DecClass × Bool) :=
  let z := encodeSector (List.replicate 8 ⟨0, false⟩)
  let hit := fun (w : W288) (l : List (Nat × Nat)) =>
    l.foldl (fun (acc : W288) e => acc ^^^ BitVec.ofNat 288 (e.2 * 2 ^ (8 * e.1))) w
  (List.range 36).flatMap (fun k => [(hit z [(k, 0x01)], symClass k, false), (hit z [(k, 0xFF)], symClass k, false)])
    ++ [(hit z [(0, 1), (35, 1)], .ue, false), (hit z [(17, 1), (18, 1)], .ue, false), (blankSector, .ok, true),
      (hit blankSector [(9, 0x40)], .data, true)]

/-- Whether a word checker gives every result expected (P1 to P7). -/
def wordCheckerOk (dec : W40 → Decoded) : Bool := wordPatterns.all (fun p => dec p.1 == p.2)

/-- Whether a sector checker gives every result expected (P8 to P10). -/
def sectorCheckerOk (dec : W288 → SectorDec) : Bool :=
  sectorPatterns.all (fun p => (dec p.1).cls == p.2.1 && (dec p.1).words.all (fun w => w.poison == p.2.2))

/-- Whether a CRC-32C unit gives every result expected (P11, P12: a 64-B row with one bit of its trailer flipped). -/
def crcCheckerOk (crc : List Nat → Nat) : Bool :=
  let row := List.replicate 60 0
  crc [0x31, 0x32, 0x33, 0x34, 0x35, 0x36, 0x37, 0x38, 0x39] == 0xE3069283 && crc row != (crc32c row ^^^ 1)

end Sys2Proof.Machine
end

