-- ==== Sys2Proof/Machine/TensorMem.lean ====
section
/-! DEFINITION. Tensor memory: addressing, stored words, reads and writes through a port, merge buffers, bank
arbitration (R58 to R94), and the error counters and log every word store shares (R124, R141, R159). -/
namespace Sys2Proof.Machine

open Sys2Proof

/-- The die, and so the spine, of a physical cluster (R4). -/
def dieOf (c : Nat) : Nat := c / 9

/-- Whether a cluster domain is on. -/
def State.clusterOn (s : State) (c : Nat) : Bool := nbit s.power.clusters c
/-- Whether a spine domain is on. -/
def State.spineOn (s : State) (d : Nat) : Bool := nbit s.power.spines d
/-- Whether a stack-base domain is on. -/
def State.stackOn (s : State) (k : Nat) : Bool := nbit s.power.stackBits k && s.stackPresent k

/-! ## Error counters and the UE log -/

/-- IN_ECNT: an event of a source is counted; an uncorrectable one of TM, steer memory, the LC or HBM also in SV_RAS_SUM. -/
def State.ecc (s : State) (d src ev n : Nat) : State :=
  let s1 := s.satInc .IN_ECNT_COUNT d (src * 6 + ev) n
  if ev = 2 ∧ src < 4 then s1.satInc .SV_RAS_SUM_UE src 0 n else s1

/-- R141: every uncorrectable event writes an entry to IN_UE_LOG. -/
def State.ueLog (s : State) (d addr : Nat) (tag : W32) : State :=
  let (k, s1) := s.ringNext .IN_UE_HEAD_NEXT .IN_UE_HEAD_WRAPS d 16 (fun k => s.flag .IN_UE_LOG_TAG_VALID d k)
  let s2 := (s1.setFld .IN_UE_LOG_FT_FT d k s.now).setFld .IN_UE_LOG_ADDR_ADDR d k addr
  (s2.setFld .IN_UE_LOG_TAG_TAG d k tag.toNat).setFlag .IN_UE_LOG_TAG_VALID d k true

/-- A decoded word as its reader gets it, with the error counted and logged (R124, R125). -/
def State.tallyWord (s : State) (d src addr : Nat) (k : PoisonKind) (origin : Nat) (w : W40) : PW × State :=
  let r := decodeWord w
  match r.cls with
  | .ok => (r.word, s)
  | .data => (r.word, s.ecc d src 0 1)
  | .check => (r.word, s.ecc d src 1 1)
  | .ue => (poisoned k origin, (s.ecc d src 2 1).ueLog d addr (poisonTag k origin))

/-- R132: poison bites at a point: 0 address or length, 1 branch or predicate, 2 SETCFG, 3 host memory, 4 status. -/
def State.bite (s : State) (d point : Nat) : State := s.satInc .IN_BITE_COUNT d point 1

/-! ## Addressing -/

/-- R58: the bank of a cluster offset. -/
def tmBank (a : Nat) : Nat := nfield a 6 6 ^^^ nfield a 12 6
/-- R58: the row of a cluster offset. -/
def tmRow (a : Nat) : Nat := nfield a 12 12
/-- R58: the word in the row. -/
def tmWordIx (a : Nat) : Nat := nfield a 2 4
/-- R58: the cluster offset of a bank, row and word. -/
def tmOffset (bank row word : Nat) : Nat := row * 4096 + (bank ^^^ (row % 64)) * 64 + word * 4

/-- The key of a stored word; spare row `k` of a bank is row 4,096 + k (R60). -/
def tmKey (c bank row word : Nat) : Nat := ((c * 64 + bank) * 8192 + row) * 16 + word

/-- R60, R150: the row that serves a row: itself, or the spare that replaced it. -/
def State.mappedRow (s : State) (c bank row : Nat) : Nat :=
  let m := sget (fun _ => 0) s.tm.rowMap ((c * 64 + bank) * 8192 + row)
  if m = 0 then row else 4095 + m

/-- The stored word at a cluster offset. -/
def State.tmRaw (s : State) (c a : Nat) : W40 :=
  sget (fun _ => blankWord) s.tm.words (tmKey c (tmBank a) (s.mappedRow c (tmBank a) (tmRow a)) (tmWordIx a))

/-- The state with the stored word at a cluster offset replaced. -/
def State.setTmRaw (s : State) (c a : Nat) (w : W40) : State :=
  s.withTm { s.tm with
    words := sset (fun _ => blankWord) s.tm.words (tmKey c (tmBank a) (s.mappedRow c (tmBank a) (tmRow a)) (tmWordIx a)) w }

/-- R59: the device physical address of a cluster offset; a cluster that no logical cluster names has none, and 0 is
recorded for it. -/
def State.tmDpa (s : State) (c a : Nat) : Nat :=
  match s.logCluster c with
  | some l => 0x40000000 + l * 0x1000000 + a % 2 ^ 24
  | none => 0

/-- The origin of a UE_TM tag at a cluster offset. -/
def tmOrigin (c a : Nat) : Nat := originTm c (tmBank a) (tmRow a) (tmWordIx a)

/-- The key of a spare: kind (0 TM, 1 LC), unit, bank and spare. -/
def spareKey (kind unit bank spare : Nat) : Nat := ((kind * 64 + unit) * 64 + bank) * 16 + spare

/-- R160: an uncorrectable error in a spare is counted against it. -/
def State.strikeSpare (s : State) (key : Nat) : State :=
  s.withRas { s.ras with spareUe := sset (fun _ => 0) s.ras.spareUe key (sget (fun _ => 0) s.ras.spareUe key + 1) }

/-- A word of a bank decoded for its reader, with its error counted, logged, and counted against the spare row that serves the address
(R91, R92, R124, R160). -/
def State.tallyTm (s : State) (c a : Nat) (raw : W40) : PW × State :=
  let m := s.mappedRow c (tmBank a) (tmRow a)
  let (p, s1) := s.tallyWord (dieOf c) 0 (s.tmDpa c (a / 4 * 4)) .ueTm (tmOrigin c a) raw
  (p, if (decodeWord raw).cls = .ue ∧ 4096 ≤ m then s1.strikeSpare (spareKey 0 c (tmBank a) (m - 4096)) else s1)

/-- A bank read of one word: decoded, with its error counted (R124, R92). -/
def State.tmFetch (s : State) (c a : Nat) : PW × State := s.tallyTm c a (s.tmRaw c a)

/-- A full-word bank write. -/
def State.tmStore (s : State) (c a : Nat) (p : PW) : State := s.setTmRaw c a (encodeWord p)

/-- `old` with the bytes of `new` that `mask` selects. -/
def mergeBytes (mask old new : Nat) : Nat :=
  natOfBytes ((List.range 4).map (fun k => if nbit mask k then byteAt new k else byteAt old k))

/-- R73, R76, R93: a partial word in one read-modify-write cycle. A poisoned word keeps its poison and the bytes are
discarded; an uncorrectable one is written back poisoned. -/
def State.tmRmw (s : State) (c a mask data : Nat) : State :=
  let r := decodeWord (s.tmRaw c a)
  if r.cls = .ue then
    let (p, s1) := s.tmFetch c a
    (s1.tmStore c a p).wrapInc .TMX_MRG_DROP_COUNT c 0 1
  else
    let (p, s1) := s.tmFetch c a
    if p.poison then s1.wrapInc .TMX_MRG_DROP_COUNT c 0 1
    else s1.tmStore c a ⟨BitVec.ofNat 32 (mergeBytes mask p.data.toNat data), false⟩

/-! ## Merge buffers -/

/-- R62, R77: the merge-buffer index of a port, which is also its MERGE_EN bit; `none` for a port that only reads. -/
def mergeBit (port : Nat) : Option Nat :=
  match port with
  | 0 => some 0 | 1 => some 1 | 2 => some 2 | 3 => some 3 | 4 => some 4 | 8 => some 5 | _ => none

/-- The line of a cluster offset. -/
def lineOf (a : Nat) : Nat := a / 64

/-- The part of an entry's 64-bit byte mask that belongs to word `k`. -/
def MergeEntry.wordMask (e : MergeEntry) (k : Nat) : Nat := nfield e.mask (4 * k) 4
/-- The bytes of an entry's word `k`. -/
def MergeEntry.wordData (e : MergeEntry) (k : Nat) : Nat := nfield e.data (32 * k) 32
/-- The bank an entry's line lies in. -/
def MergeEntry.bank (e : MergeEntry) : Nat := tmBank (e.line * 64)
/-- R73: an entry asks for its flush: a cause has named the whole entry, or one of its words is complete. -/
def MergeEntry.due (e : MergeEntry) : Bool := e.whole || (List.range 16).any (fun k => e.wordMask k == 15)

/-- Whether a word of a write is stored whole. -/
def tmFull (w : TmWord) : Bool := w.mask == 15 || w.data.poison

/-- Whether a port's narrow writes merge (R77). -/
def State.merges (s : State) (c port : Nat) : Bool :=
  match mergeBit port with
  | some b => nbit (s.fld .TM_CFG_MERGE_EN c 0) b
  | none => false

/-- The entry that holds a line, if one does: a write waits until another port's entry has left its line, so there is never a
second (R74). -/
def State.lineEntry (s : State) (c line : Nat) : Option MergeEntry :=
  s.tm.merge.find? (fun e => e.c == c && e.line == line)

/-- Whether another port's entry holds a line. -/
def State.lineHeld (s : State) (c port line : Nat) : Bool :=
  s.tm.merge.any (fun e => e.c == c && e.line == line && e.port != port)

/-- `port`'s entry on a line, if it holds one. -/
def State.ownEntry (s : State) (c port line : Nat) : Option MergeEntry :=
  s.tm.merge.find? (fun e => e.c == c && e.port == port && e.line == line)

/-- The entry of a port on a line changed by `f`. -/
def State.mapEntry (s : State) (c port line : Nat) (f : MergeEntry → MergeEntry) : State :=
  s.withTm { s.tm with merge := s.tm.merge.map (fun e => if e.c == c && e.port == port && e.line == line then f e else e) }

/-- R73: a cause of the table names every entry for which `p` holds, and they ask for their flush. -/
def State.markFlush (s : State) (p : MergeEntry → Bool) : State :=
  s.withTm { s.tm with merge := s.tm.merge.map (fun e => if p e then { e with whole := true } else e) }

/-- R72: a write merged into an entry; later bytes overwrite earlier ones. -/
def MergeEntry.merge (e : MergeEntry) (w : TmWord) : MergeEntry :=
  let k := tmWordIx w.addr
  { e with
    mask := e.mask - e.wordMask k * 2 ^ (4 * k) + (e.wordMask k ||| w.mask) * 2 ^ (4 * k)
    data := e.data - e.wordData k * 2 ^ (32 * k) + mergeBytes w.mask (e.wordData k) w.data.data.toNat * 2 ^ (32 * k) }

/-- An entry without the words that `p` picks. -/
def MergeEntry.without (e : MergeEntry) (p : Nat → Bool) : MergeEntry :=
  { e with
    mask := (List.range 16).foldl (fun acc k => if p k then acc else acc + e.wordMask k * 2 ^ (4 * k)) 0
    age := 0
    fresh := true }

/-- R72, R74: a narrow write of a port enters the merge buffer, where it can: not while another port's entry holds its line, which
that write makes flush, and not while all 8 entries are taken, which makes the oldest flush. -/
def State.enterWord (s : State) (c port : Nat) (w : TmWord) : Bool × State :=
  match s.lineEntry c (lineOf w.addr) with
  | some e =>
    if e.port = port then (true, s.mapEntry c port e.line (fun x => x.merge w))
    else (false, s.markFlush (fun x => x == e))
  | none =>
    let mine := s.tm.merge.filter (fun e => e.c == c && e.port == port)
    if mine.length < 8 then
      (true, s.withTm { s.tm with merge := s.tm.merge ++ [(⟨c, port, lineOf w.addr, 0, 0, false, 0, true⟩ : MergeEntry).merge w] })
    else (false, s.markFlush (fun x => mine.head? == some x))

/-- The narrow words of an issue enter the merge buffer in order, up to the first that has to wait; those that are left. -/
def State.enterWords : State → Nat → Nat → List TmWord → List TmWord × State
  | s, _, _, [] => ([], s)
  | s, c, port, w :: t =>
    match s.enterWord c port w with
    | (true, s1) => s1.enterWords c port t
    | (false, s1) => (w :: t, s1)

/-- R73, R76: an entry is flushed at the grant of its bank: full words are written, and where the whole entry flushes its partial
words merge in the same read-modify-write cycle. -/
def State.flushEntry (s : State) (e : MergeEntry) : State :=
  let out := fun k => decide (e.wordMask k ≠ 0) && (e.whole || e.wordMask k == 15)
  let rest := e.without out
  let s0 := s.withTm { s.tm with merge :=
    if rest.mask = 0 then s.tm.merge.filter (fun x => x != e) else s.tm.merge.map (fun x => if x == e then rest else x) }
  let s1 := if (List.range 16).any (fun k => out k && e.wordMask k != 15) then s0.wrapInc .TMX_MRG_RMW_COUNT e.c 0 1 else s0
  s1.each ((List.range 16).filter out) (fun k t =>
    if e.wordMask k = 15 then t.tmStore e.c (e.line * 64 + 4 * k) ⟨BitVec.ofNat 32 (e.wordData k), false⟩
    else t.tmRmw e.c (e.line * 64 + 4 * k) (e.wordMask k) (e.wordData k))

/-- A word of a write at the grant of its bank (R67); a narrow one that MERGE_EN leaves unmerged is its own read-modify-write (R77). -/
def State.bankWrite (s : State) (c : Nat) (w : TmWord) : State :=
  if tmFull w then s.tmStore c w.addr w.data
  else (s.tmRmw c w.addr w.mask w.data.data.toNat).wrapInc .TMX_MRG_RMW_COUNT c 0 1

/-- The bytes that merge buffers hold of the word at an offset: mask and data (R74). -/
def State.overlayOf (s : State) (c a : Nat) : Nat × Nat :=
  match s.lineEntry c (lineOf a) with
  | some e => (e.wordMask (tmWordIx a), e.wordData (tmWordIx a))
  | none => (0, 0)

/-- A returned word with merge-buffer bytes laid over it; they do not clear poison (R74). -/
def overlay (p : PW) (mask data : Nat) : PW :=
  if p.poison then p else ⟨BitVec.ofNat 32 (mergeBytes mask p.data.toNat data), false⟩

/-- The words a byte range covers, with the bytes of each; `data` starts with the word that holds the first byte. -/
def maskedWords (off len : Nat) (data : List PW) : List TmWord :=
  let first := off / 4
  let n := if len = 0 then 0 else (off + len - 1) / 4 + 1 - first
  (List.range n).map (fun k =>
    let a := (first + k) * 4
    let m := (List.range 4).foldl (fun acc b => if off ≤ a + b ∧ a + b < off + len then acc + 2 ^ b else acc) 0
    ⟨a, m, data.getD k ⟨0, false⟩⟩)

/-! ## Issues and bank cycles -/

/-- A list of words cut at each change of line (R79: 64-B flits). -/
def splitLines : List TmWord → List (List TmWord)
  | [] => []
  | w :: t =>
    match splitLines t with
    | [] => [[w]]
    | g :: gs =>
      match g.head? with
      | some x => if lineOf x.addr = lineOf w.addr then (w :: g) :: gs else [w] :: g :: gs
      | none => [w] :: gs

/-- Whether a port's run or gather touches the row of a request. -/
def inRow (r : BankReq) (a : Nat) : Bool := tmBank a == r.bank && tmRow a == r.row

/-- The line a request reaches. -/
def BankReq.line (r : BankReq) : Nat := tmOffset r.bank r.row 0 / 64

/-- R63: one request for each distinct pair of bank and row, in ascending address order. -/
def bankReqs (ws : List TmWord) : List BankReq :=
  (ws.map (fun w => (tmBank w.addr, tmRow w.addr))).eraseDups.map (fun (b, r) => ⟨b, r, 0, true⟩)

/-- Insertion by address, for the granting order of R65. -/
def insertWord (w : TmWord) : List TmWord → List TmWord
  | [] => [w]
  | x :: t => if w.addr < x.addr then w :: x :: t else x :: insertWord w t

/-- The words of an issue in ascending address order, equal addresses in their order. -/
def sortWords (ws : List TmWord) : List TmWord := ws.foldl (fun acc w => insertWord w acc) []

/-- R68: a write of a word that an earlier position of the same issue names: the later data stand. Bytes laid over a poisoned word
are discarded (R76). -/
def combineWord (old new : TmWord) : TmWord :=
  if tmFull new then new
  else if old.data.poison then old
  else ⟨old.addr, old.mask ||| new.mask, ⟨BitVec.ofNat 32 (mergeBytes new.mask old.data.data.toNat new.data.data.toNat), false⟩⟩

/-- R68: the words of a write, each address once. -/
def combineWords (ws : List TmWord) : List TmWord :=
  ws.foldl (fun acc w =>
    if acc.any (fun x => x.addr == w.addr) then acc.map (fun x => if x.addr == w.addr then combineWord x w else x)
    else acc ++ [w]) []

/-- R62: which ports read and which write. -/
def portReads (p : Nat) : Bool := p == 1 || p == 2 || (decide (5 ≤ p) && decide (p ≤ 8))

/-- R62: the ports that write. -/
def portWrites (p : Nat) : Bool := (mergeBit p).isSome

/-- Whether an issue still has a request to be granted or a narrow word to place. -/
def TmIssue.busy (i : TmIssue) : Bool := i.waiting.length != 0 || i.narrow.length != 0

/-- A port's issue that is not granted whole; R64 lets it have one. -/
def State.busyIssue (s : State) (c port : Nat) : Option TmIssue :=
  s.tm.issues.find? (fun i => i.c == c && i.port == port && i.busy)

/-- R64: whether a port may not issue yet. -/
def State.portBusy (s : State) (c port : Nat) : Bool := (s.busyIssue c port).isSome

/-- A port's unfinished issue changed by `f`. -/
def State.mapIssue (s : State) (c port : Nat) (f : TmIssue → TmIssue) : State :=
  s.withTm { s.tm with issues := s.tm.issues.map (fun i => if i.c == c && i.port == port && i.busy then f i else i) }

/-- Whether the banks of a cluster grant: the domain is on and no clear runs (R61, R84). -/
def State.tmReady (s : State) (c : Nat) : Bool := s.clusterOn c && !s.flag .TM_STATUS_CLEARING c 0

/-- R63, R72, R74: a write is turned into bank requests: a whole word on a line of the port's own entry merges into the entry (a
poisoned one takes the place of its bytes there), narrow words enter the merge buffer, and the rest go to the banks. -/
def State.addWrite (s : State) (c port : Nat) (ws : List TmWord) (acc : Nat) : State :=
  let l := combineWords ws
  let own := fun (w : TmWord) => (s.ownEntry c port (lineOf w.addr)).isSome && tmFull w
  let s1 := s.each (l.filter (fun w => own w && !w.data.poison)) (fun w t => t.mapEntry c port (lineOf w.addr) (fun e => e.merge w))
  let s2 := s1.each (l.filter (fun w => own w && w.data.poison)) (fun w t =>
    t.mapEntry c port (lineOf w.addr) (fun e => e.without (fun k => k == tmWordIx w.addr)))
  let narrow := l.filter (fun w => !tmFull w && s.merges c port)
  let full := l.filter (fun w => !(own w && !w.data.poison) && !(!tmFull w && s.merges c port))
  let (left, s3) := s2.enterWords c port narrow
  s3.withTm { s3.tm with
    merge := s3.tm.merge.filter (fun e => e.mask != 0)
    issues := s3.tm.issues ++ [⟨c, port, true, full, bankReqs (sortWords full), left, [], acc⟩] }

/-- R63: an issue of a port. -/
def State.addIssue (s : State) (c port : Nat) (write : Bool) (ws : List TmWord) (acc : Nat) : State :=
  if write then s.addWrite c port ws acc
  else s.withTm { s.tm with issues := s.tm.issues ++ [⟨c, port, false, ws, bankReqs (sortWords ws), [], [], acc⟩] }

/-- R80: the flit that a cluster's FAB takes next: the first of class URGENT, else the first to arrive. -/
def State.nextFlit (s : State) (c : Nat) : Option FabLine :=
  match s.tm.fabQ.find? (fun l => l.c == c && l.cls == 2) with
  | some l => some l
  | none => s.tm.fabQ.find? (fun l => l.c == c)

/-- FAB issues the flits that wait for it, as R64 allows: one at a time until one has to wait. -/
def State.pumpFab : State → Nat → Nat → State
  | s, _, 0 => s
  | s, c, n + 1 =>
    if s.portBusy c 2 then s
    else match s.nextFlit c with
      | none => s
      | some l => ((s.withTm { s.tm with fabQ := s.tm.fabQ.erase l }).addIssue c 2 l.write l.words l.acc).pumpFab c n

/-- The narrow words that wait enter the merge buffer where they can, and FAB takes its next flit. -/
def State.pump (s : State) (c : Nat) : State :=
  let s1 := s.each (List.range 9) (fun p t =>
    match t.busyIssue c p with
    | none => t
    | some i =>
      if i.narrow = [] then t
      else
        let (left, u) := t.enterWords c p i.narrow
        u.mapIssue c p (fun x => { x with narrow := left }))
  s1.pumpFab c s1.tm.fabQ.length

/-- R63: what one issue may be: a gather of up to 16 words, or a run of up to 64 B, which covers 17 words where it starts inside one. -/
def issueOk (ws : List TmWord) : Bool :=
  decide (ws.length ≤ 16) ||
    (ws.length == 17 && ws.zipIdx.all (fun e => e.1.addr == (ws.headD ⟨0, 0, ⟨0, false⟩⟩).addr + 4 * e.2) &&
      decide ((ws.map (fun w => ((List.range 4).filter (nbit w.mask)).length)).sum ≤ 64))

/-- PORT_ISSUE (R63, R64, R84): a port of the cluster's own units issues a run or a gather, all reads or all writes; not while a
request of its current issue waits, and not while the clear runs. FAB issues what comes from outside only (R78). -/
def execPortIssue (c port : Nat) (write : Bool) (ws : List TmWord) (s : State) : Host.Outcome State Fault Refusal :=
  .next <|
    if s.tmReady c ∧ s.portBusy c port = false ∧ issueOk ws ∧ port ≠ 2 ∧ (if write then portWrites port else portReads port) then
      s.addIssue c port write ws 0
    else s

/-- What asks for a bank in one of its cycles: the request of an issue, or the flush of an entry (R73). -/
inductive BankAsk where
  | issue (i : TmIssue) (r : BankReq)
  | flush (e : MergeEntry)
deriving DecidableEq, Repr

/-- The port an asker stands at. -/
def BankAsk.port : BankAsk → Nat
  | .issue i _ => i.port
  | .flush e => e.port

/-- The cycles an asker has lost to other ports (R70). -/
def BankAsk.age : BankAsk → Nat
  | .issue _ r => r.age
  | .flush e => e.age

/-- R70: a request competes as OLD in the second cycle after its eighth loss. -/
def BankAsk.isOld (a : BankAsk) : Bool := decide (9 ≤ a.age)

/-- The request that an issue presents at a bank: the first in ascending address order (R65). -/
def TmIssue.presented (i : TmIssue) (bank : Nat) : Option BankReq := i.waiting.find? (fun r => r.bank == bank)

/-- R74: the entries of other ports on the lines that writes reach at a bank have to flush first. -/
def State.reachBank (s : State) (c bank : Nat) : State :=
  s.each (List.range 9) (fun p t =>
    match t.busyIssue c p with
    | none => t
    | some i =>
      match i.presented bank with
      | some r => if i.write then t.markFlush (fun e => e.c == c && e.line == r.line && e.port != p) else t
      | none => t)

/-- What a port asks of a bank: the flush of its oldest entry that is due, else the request of its issue, unless that is a write that
waits for another port's flush (R73, R74). A port asks once at a bank, so its own flush goes first (log entry 149). -/
def State.portAsk (s : State) (c bank p : Nat) : Option BankAsk :=
  match s.tm.merge.find? (fun e => e.c == c && e.port == p && e.due && e.bank == bank) with
  | some e => some (.flush e)
  | none =>
    match s.busyIssue c p with
    | none => none
    | some i =>
      match i.presented bank with
      | none => none
      | some r => if i.write && s.lineHeld c p r.line then none else some (.issue i r)

/-- What asks for a bank, in the order of port priority (R62, R69). -/
def State.asks (s : State) (c bank : Nat) : List BankAsk := (List.range 9).filterMap (s.portAsk c bank)

/-- R69: an OLD request outranks the others; among equals the port of higher priority wins. -/
def pickGrant (l : List BankAsk) : Option BankAsk :=
  match l.find? BankAsk.isOld with
  | some a => some a
  | none => l.head?

/-- The words of an issue that a request reaches. -/
def TmIssue.rowWords (i : TmIssue) (r : BankReq) : List TmWord := i.words.filter (fun w => inRow r w.addr)

/-- R67, R74: what a granted read takes from its row. -/
def State.takeRow (s : State) (c : Nat) (ws : List TmWord) : List TmGot :=
  ws.map (fun w => let o := s.overlayOf c w.addr; ⟨w.addr, s.tmRaw c w.addr, o.1, o.2⟩)

/-- The granted asker: a flush or a write reaches the bank; a read takes its row with the buffered bytes laid over it, and every
entry on its line flushes (R67, R73, R74). -/
def State.grantAsk (s : State) (c : Nat) : BankAsk → State
  | .flush e => s.flushEntry e
  | .issue i r =>
    let ws := i.rowWords r
    let s0 := s.mapIssue c i.port (fun x => { x with waiting := x.waiting.filter (fun y => y != r) })
    if i.write then s0.each ws (fun w t => t.bankWrite c w)
    else
      let got := s.takeRow c ws
      let s1 := s.mapIssue c i.port (fun x => { x with waiting := x.waiting.filter (fun y => y != r), got := x.got ++ got })
      let s2 := if got.any (fun g => g.overMask != 0) then s1.wrapInc .TMX_MRG_FWD_COUNT c 0 1 else s1
      s2.markFlush (fun e => e.c == c && e.line == r.line)

/-- The hot-bank sampler counts a lost cycle of a port at a bank (R83). -/
def State.hotLoss (s : State) (c bank port : Nat) : State :=
  let k := c * 64 + bank
  let h := sget (fun _ => HotBank.mk 0 0) s.tm.hot k
  s.withTm { s.tm with hot := sset (fun _ => HotBank.mk 0 0) s.tm.hot k ⟨h.lost + 1, h.ports ||| 2 ^ port⟩ }

/-- R82: a cycle that a port lost is counted, once however many banks it lost at, unless the counters are frozen. -/
def State.countLost (s : State) (c port : Nat) : State :=
  if s.tm.cycLost.contains (c, port) then s
  else
    let s1 := s.withTm { s.tm with cycLost := (c, port) :: s.tm.cycLost }
    if s1.flag .TMX_CNT_CTL_FREEZE c 0 then s1 else s1.wrapInc .TMX_PORT_LOST_COUNT c port 1

/-- R82: `n` requests not granted when first presented, unless the counters are frozen. -/
def State.countConf (s : State) (c port n : Nat) : State :=
  if s.flag .TMX_CNT_CTL_FREEZE c 0 then s else s.wrapInc .TMX_PORT_CONF_COUNT c port n

/-- An asker that is not granted: it loses the cycle to another port and ages (R70, R82). -/
def State.loseCycle (s : State) (c bank : Nat) (a : BankAsk) : State :=
  let s1 := match a with
    | .flush e => s.mapEntry c e.port e.line (fun x => { x with age := x.age + 1 })
    | .issue i r => s.mapIssue c i.port (fun x => { x with
        waiting := x.waiting.map (fun y => if y == r then { y with age := y.age + 1 } else y) })
  (s1.countLost c a.port).hotLoss c bank a.port

/-- R65, R82: what a port presented at a bank for the first time and was not granted counts as conflicted, self-conflicts included;
a write that waits for another port's flush is not presented. -/
def State.settleBank (s : State) (c bank : Nat) : State :=
  s.each (List.range 9) (fun p t =>
    let es := t.tm.merge.filter (fun e => e.c == c && e.port == p && e.due && e.bank == bank && e.fresh)
    let rs : List BankReq := match t.busyIssue c p with
      | none => []
      | some i => i.waiting.filter (fun r => r.bank == bank && r.fresh && !(i.write && t.lineHeld c p r.line))
    let t1 := if es.length + rs.length = 0 then t else t.countConf c p (es.length + rs.length)
    let t2 := t1.withTm { t1.tm with merge := t1.tm.merge.map (fun e => if es.contains e then { e with fresh := false } else e) }
    t2.mapIssue c p (fun x => { x with waiting := x.waiting.map (fun r => if rs.contains r then { r with fresh := false } else r) }))

/-- One TMCK cycle of a bank (R69, R70): one asker is granted and the others lose the cycle. -/
def State.bankCycle (s : State) (c bank : Nat) : State :=
  let s0 := s.reachBank c bank
  let l := s0.asks c bank
  match pickGrant l with
  | none => s0
  | some a =>
    let s1 := s0.each (l.filter (fun b => b != a)) (fun b t => t.loseCycle c bank b)
    ((s1.grantAsk c a).settleBank c bank).pump c

/-- A new TMCK cycle of a cluster begins: no bank has had its access in it and no port has lost in it. -/
def State.newCycle (s : State) (c : Nat) : State :=
  s.withTm { s.tm with
    cycBanks := s.tm.cycBanks.filter (fun x => x.1 != c)
    cycLost := s.tm.cycLost.filter (fun x => x.1 != c) }

/-- BANK_GRANT (R69, R84): a bank's access of one TMCK cycle. A second one at the bank belongs to the next cycle (log entry 149). The
bank grants nothing while its cluster clears. -/
def execBankGrant (c bank : Nat) (s : State) : Host.Outcome State Fault Refusal :=
  .next <|
    if s.tmReady c = false then s
    else
      let s0 := if s.tm.cycBanks.contains (c, bank) then s.newCycle c else s
      (s0.withTm { s0.tm with cycBanks := (c, bank) :: s0.tm.cycBanks }).bankCycle c bank

/-- The banks of a cluster at which something asks or waits. -/
def State.askedBanks (s : State) (c : Nat) : List Nat :=
  ((s.tm.issues.filter (fun i => i.c == c)).flatMap (fun i => i.waiting.map BankReq.bank)
    ++ (s.tm.merge.filter (fun e => e.c == c && e.due)).map MergeEntry.bank).eraseDups

/-- One TMCK cycle of a cluster: every bank grants one asker. -/
def State.tmCycle (s : State) (c : Nat) : State :=
  let s0 := s.newCycle c
  s0.each (s0.askedBanks c) (fun b t => t.bankCycle c b)

/-- TMCK cycles of a cluster until `p` holds. R71 bounds the wait of a request, so that the cycles given here are enough. -/
def State.tmUntil (p : State → Bool) (c : Nat) : Nat → State → State
  | 0, s => s
  | n + 1, s => if p s then s else ((s.tmCycle c).pump c).tmUntil p c n

/-- The most cycles an operation done in one step is given at the banks: 512 for each of its issues. -/
def tmFuel : Nat := 512

/-- A unit's own port waits until its earlier issue is granted. -/
def State.portFree (s : State) (c port : Nat) : State := s.tmUntil (fun t => !t.portBusy c port) c tmFuel

/-- The words a finished read returns, decoded and counted in address order of its issue (R66, R91, R92). -/
def State.returnWords (s : State) (c : Nat) : List TmGot → List PW × State
  | [] => ([], s)
  | g :: t =>
    let (p, s1) := s.tallyTm c g.addr g.raw
    let (l, s2) := s1.returnWords c t
    ((if g.overMask = 0 then p else overlay p g.overMask g.excess) :: l, s2)

/-- What an issue took, in the order of its words. -/
def TmIssue.taken (i : TmIssue) : List TmGot := i.words.filterMap (fun w => i.got.find? (fun g => g.addr == w.addr))

/-- One issue of a unit's port, from its start until it has returned or committed. -/
def State.portIssue1 (s : State) (c port : Nat) (write : Bool) (ws : List TmWord) : List PW × State :=
  let s1 := ((s.portFree c port).addIssue c port write ws 0).portFree c port
  match (s1.tm.issues.filter (fun i => i.c == c && i.port == port)).getLast? with
  | none => ([], s1)
  | some i => (s1.withTm { s1.tm with issues := s1.tm.issues.erase i }).returnWords c (if write then [] else i.taken)

/-- A unit writes words through its port, line by line (R63, R67). -/
def State.tmWriteAll (s : State) (c port : Nat) (ws : List TmWord) : State :=
  s.each (splitLines ws) (fun l t => (t.portIssue1 c port true l).2)

/-- A unit reads the words of several lines through its port. -/
def State.readLines : State → Nat → Nat → List (List TmWord) → List PW × State
  | s, _, _, [] => ([], s)
  | s, c, port, l :: t =>
    let (a, s1) := s.portIssue1 c port false l
    let (b, s2) := s1.readLines c port t
    (a ++ b, s2)

/-- `n` consecutive words read through a port, from the word at `a`. -/
def State.tmReadN (s : State) (c port a n : Nat) : List PW × State :=
  s.readLines c port (splitLines ((List.range n).map (fun k => ⟨a + 4 * k, 15, ⟨0, false⟩⟩)))

/-- R73, R88: a fence: every entry of the ports it covers is flushed, and their issues are granted, before it completes. -/
def State.fencePorts (s : State) (c : Nat) (ports : List Nat) : State :=
  (s.markFlush (fun e => e.c == c && ports.contains e.port)).tmUntil
    (fun t => !(t.tm.merge.any (fun e => e.c == c && ports.contains e.port)) && ports.all (fun p => !t.portBusy c p)) c (8 * tmFuel)

/-- R73: the entries for which `p` holds are flushed. -/
def State.flushIf (s : State) (c : Nat) (p : MergeEntry → Bool) : State :=
  (s.markFlush (fun e => e.c == c && p e)).tmUntil (fun t => !(t.tm.merge.any (fun e => e.c == c && p e))) c (8 * tmFuel)

/-- R73: a scrub, repair, migration or blank-write access to a row takes FAB's place at its bank: it is granted there under R69 and
R70. It follows what FAB has put to the banks (log entry 149). -/
def State.placeAccess (s : State) (c bank row : Nat) : State :=
  let s1 := s.portFree c 2
  let i : TmIssue := ⟨c, 2, false, [], [⟨bank, row, 0, true⟩], [], [], 0⟩
  let s2 := (s1.withTm { s1.tm with issues := s1.tm.issues ++ [i] }).portFree c 2
  s2.withTm { s2.tm with issues := s2.tm.issues.filter (fun x => !(x.c == c && x.port == 2 && x.acc == 0)) }

/-- READ_RETURN (R66): a port's oldest read whose requests are all granted returns its words; those of a FAB access go to it, which
is complete with its last line (R100). -/
def execReadReturn (c port : Nat) (s : State) : Host.Outcome State Fault Refusal :=
  .next <|
    match s.tm.issues.find? (fun i => i.c == c && i.port == port && !i.write && !i.busy) with
    | none => s
    | some i =>
      let (l, s1) := (s.withTm { s.tm with issues := s.tm.issues.erase i }).returnWords c i.taken
      let fab := s1.tm.fab.map (fun a => if a.id == i.acc then { a with left := a.left - 1, got := a.got ++ l } else a)
      s1.withTm { s1.tm with
        returns := ⟨c, port, l⟩ :: s1.tm.returns.filter (fun r => !(r.c == c && r.port == port))
        fab := fab.filter (fun a => !(a.id == i.acc && a.left == 0)) }

/-- MERGE_TIMEOUT (R73, R87): the entry of a port on a line has stood for 64 TMCK cycles and asks for its flush; an entry that is
gone does nothing, and one that another cause has named flushes once. -/
def execMergeTimeout (c port line : Nat) (s : State) : Host.Outcome State Fault Refusal :=
  .next (s.markFlush (fun e => e.c == c && e.port == port && e.line == line))

/-- R82, R89: the 18 port counters of a cluster at zero. -/
def State.clearPortCounters (s : State) (c : Nat) : State :=
  s.each (List.range 9) (fun p t => (t.setFld .TMX_PORT_LOST_COUNT c p 0).setFld .TMX_PORT_CONF_COUNT c p 0)

/-- The bank of a cluster with the most lost cycles, the lowest of equals (R83). -/
def State.hottest (s : State) (c : Nat) : Nat × HotBank :=
  (List.range 64).foldl (fun (best : Nat × HotBank) b =>
    let h := sget (fun _ => HotBank.mk 0 0) s.tm.hot (c * 64 + b)
    if best.2.lost < h.lost then (b, h) else best) (0, sget (fun _ => HotBank.mk 0 0) s.tm.hot (c * 64))

/-- HOT_PERIOD_END (R83): at the end of a sample period the enabled sampler writes one ring entry; TMX_HOT_CFG's last
value takes effect here, and the VALID marks of an earlier enabling go when it is enabled. -/
def execHotPeriodEnd (c : Nat) (s : State) : Host.Outcome State Fault Refusal :=
  .next <|
    if s.clusterOn c = false then s
    else
      let was := s.inForce .TMX_HOT_CFG_EN c 0
      let s1 :=
        if was = 1 then
          let (b, h) := s.hottest c
          let (k, t) := s.ringNext .TMX_HOT_HEAD_NEXT .TMX_HOT_HEAD_WRAPS c 8 (fun k => s.flag .TMX_HOT_RING_VALID c k)
          let t := (t.setFld .TMX_HOT_RING_FT_FT c k s.now).setFld .TMX_HOT_RING_BANK c k b
          let t := (t.setFld .TMX_HOT_RING_LOST c k (min h.lost 0xFFFFFF)).setFld .TMX_HOT_RING_PORTS c k h.ports
          t.setFlag .TMX_HOT_RING_VALID c k true
        else s
      let s2 := s1.withTm { s1.tm with hot := sdrop (fun k => k / 64 == c) s1.tm.hot }
      let s3 := s2.applyShadow .TMX_HOT_CFG c 0
      if was = 0 ∧ s3.inForce .TMX_HOT_CFG_EN c 0 = 1 then
        s3.each (List.range 8) (fun k t => t.setFlag .TMX_HOT_RING_VALID c k false)
      else s3

end Sys2Proof.Machine
end

