-- ==== Sys2Proof/Machine/Windows.lean ====
section
/-! DEFINITION. Windows, arrival counters, herd windows and locks (R95 to R122). -/
namespace Sys2Proof.Machine

open Sys2Proof

/-! ## Admission -/

/-- R95: whether a window's range covers every byte of an access. -/
def State.wnCovers (s : State) (c w off len : Nat) : Bool :=
  let b := s.fld .WN_RANGE_BASE c w
  let l := s.fld .WN_RANGE_LIMIT c w
  decide (b ≤ l ∧ b * 256 ≤ off ∧ off + len ≤ l * 256 + 256)

/-- Whether a window's range touches an access. -/
def State.wnTouches (s : State) (c w off len : Nat) : Bool :=
  let b := s.fld .WN_RANGE_BASE c w
  let l := s.fld .WN_RANGE_LIMIT c w
  decide (b ≤ l ∧ b * 256 < off + len ∧ off < l * 256 + 256)

/-- R97: whether a window's source set includes a source code. -/
def State.wnSource (s : State) (c w src : Nat) : Bool :=
  if src < 0x1000 then
    if src / 8 = dieOf c then nbit (s.fld .WN_SRC_DIE_LOCAL c w) (src % 8)
    else nbit (s.fld .WN_SRC_DIE_OTHER c w) (src % 8)
  else if src < 0x2000 then s.flag .WN_SRC_HOST_EN c w && s.fld .WN_SRC_HOST_VI c w == src - 0x1000
  else
    let h := src - 0x2000
    s.flag .WN_SRC_HERD_EN c w && decide (s.fld .WN_SRC_HERD_LO c w ≤ h ∧ h ≤ s.fld .WN_SRC_HERD_HI c w)

/-- Whether a window permits a direction. -/
def State.wnDir (s : State) (c w : Nat) (write : Bool) : Bool :=
  if write then s.flag .WN_CTL_WR c w else s.flag .WN_CTL_RD c w

/-- R96: the admitting window: the lowest that is open, covers every byte, includes the source and permits the
direction. -/
def State.admitWindow (s : State) (c src : Nat) (write : Bool) (off len : Nat) : Option Nat :=
  (List.range 64).find? (fun w =>
    s.flag .WN_CTL_OPEN c w && s.wnCovers c w off len && s.wnSource c w src && s.wnDir c w write)

/-- REASON of a refusal: 3 NO_DIRECTION, 2 NO_SOURCE, 4 STRADDLE, 1 NO_WINDOW, by how far some open window got (DEDUCED,
log entry 14). -/
def State.wnReason (s : State) (c src off len : Nat) : Nat :=
  let open_ := (List.range 64).filter (fun w => s.flag .WN_CTL_OPEN c w)
  let cov := open_.filter (fun w => s.wnCovers c w off len)
  if cov.any (fun w => s.wnSource c w src) then 3
  else if cov.length ≠ 0 then 2
  else if open_.any (fun w => s.wnTouches c w off len) then 4
  else 1

/-- R98, R122: a refusal is counted and written to the ring of 16, whose oldest entry it overwrites. -/
def State.wnRefuse (s : State) (c src : Nat) (write : Bool) (off len reason : Nat) : State :=
  let k := sget (fun _ => 0) s.tm.refuseNext c
  let s0 := (s.withTm { s.tm with refuseNext := sset (fun _ => 0) s.tm.refuseNext c ((k + 1) % 16) }).satInc
    .WN_REFUSE_CNT_COUNT c 0 1
  let s1 := (s0.setFld .WN_REFUSE_FT_FT c k s.now).setFld .WN_REFUSE_SOURCE c k src
  let s2 := (s1.setFlag .WN_REFUSE_WRITE c k write).setFld .WN_REFUSE_REASON c k reason
  ((s2.setFlag .WN_REFUSE_VALID c k true).setFld .WN_REFUSE_OFF_OFF c k off).setFld .WN_REFUSE_LEN_LEN c k len

/-- The 64-B lines a byte range touches, whole or in part. -/
def linesTouched (off len : Nat) : Nat := if len = 0 then 0 else (off + len - 1) / 64 + 1 - off / 64

/-- R103: the increment of a write of `msgs` messages. -/
def incOf (mode msgs off len : Nat) : Nat := if mode = 0 then msgs else linesTouched off len

/-! ## Arrival counters -/

/-- An upset of a counter's stored word, which its next read finds (R124): 1 DATA, 2 CHECK, 3 uncorrectable. -/
def State.cntUpset (s : State) (c idx cls : Nat) : State :=
  s.withTm { s.tm with cntErr := sset (fun _ => 0) s.tm.cntErr (c * 256 + idx) (cls % 4) }

/-- A read of a counter's word (R120, R121, R124): a corrected error is counted; an uncorrectable one sets the counter to 0 and
CNT_UE with its index, is logged, and leaves the counter's waiters waiting. The answer says whether it was uncorrectable. -/
def State.cntMeet (s : State) (c idx : Nat) : Bool × State :=
  let d := dieOf c
  let s1 := s.cntUpset c idx 0
  match sget (fun _ => 0) s.tm.cntErr (c * 256 + idx) with
  | 0 => (false, s)
  | 1 => (false, s1.ecc d 4 0 1)
  | 2 => (false, s1.ecc d 4 1 1)
  | _ =>
    let s2 := ((s1.setFld .WN_CNT_VALUE c idx 0).setFlag .WN_STATUS_CNT_UE c 0 true).setFld .WN_STATUS_CNT_UE_IDX c 0 idx
    let s3 := s2.withTm { s2.tm with cntHeld := (c, idx) :: s2.tm.cntHeld.filter (fun x => x != (c, idx)) }
    (true, (s3.ecc d 4 2 1).ueLog d 0 (poisonTag .ueTm (c * 2 ^ 23)))

/-- R103, R117: an increment is posted to a counter; one whose word is uncorrectable loses its value instead (R121). -/
def State.postCount (s : State) (c idx inc : Nat) : State :=
  match s.cntMeet c idx with
  | (true, t) => t
  | (false, t) => t.setFld .WN_CNT_VALUE c idx (t.fld .WN_CNT_VALUE c idx + inc)

/-- R104, R121: software writes a counter, and its waiters are held no more. -/
def State.cntWritten (s : State) (c idx : Nat) : State :=
  (s.cntUpset c idx 0).withTm { (s.cntUpset c idx 0).tm with
    cntHeld := (s.cntUpset c idx 0).tm.cntHeld.filter (fun x => x != (c, idx)) }

/-- Whether a VI is under reset (R101, R449). -/
def State.viResetting (s : State) (v : Nat) : Bool := s.flag .HQ_VI_STATUS_RESETTING v 0

/-- R101, R102: an admitted write's increment, unless its window does not count or its source VI is under reset. -/
def State.postAcc (s : State) (a : FabAcc) : State :=
  if a.cntEn && a.write && !s.viResetting a.vi then s.postCount a.c a.cnt a.inc else s

/-- The record of an access that a window admits (R96, R100: its counter is the one enabled at admission). -/
def State.fabRecord (s : State) (c w src vi : Nat) (write : Bool) (off len msgs : Nat) : FabAcc :=
  { id := s.tm.nextFab, c := c, window := w, write := write, source := src, vi := vi, off := off, len := len,
    cntEn := s.flag .WN_CTL_CNT_EN c w, cnt := s.fld .WN_CTL_CNT c w,
    inc := incOf (s.fld .WN_CTL_CNT_MODE c w) msgs off len,
    left := (splitLines (maskedWords off len [])).length, got := [] }

/-- WN_CTL.INFLIGHT: an admitted access of the window is not complete (R100). -/
def State.wnInflight (s : State) (c w : Nat) : Bool := s.tm.fab.any (fun a => a.c == c && a.window == w)

/-- The outcome of a FAB access made in one step. -/
inductive FabOut where
  | done (data : List PW)
  | refused (reason : Nat)
  | held
deriving DecidableEq, Repr

/-- Whether requests for a cluster are held at the spine: it clears, a migration copies it, or blank writes of a closed window run,
which they do once its last access is complete (R84, R101, R586). -/
def State.fabHolds (s : State) (c : Nat) : Bool :=
  s.flag .TM_STATUS_CLEARING c 0 || nbit s.tm.hold c || s.tm.blanks.any (fun b => b.1 == c && !s.wnInflight c b.2)

/-- R79, R80, R96: an admitted access is cut into flits, which wait for FAB in its class behind those of that class. -/
def State.fabEnter (s : State) (a : FabAcc) (cls : Nat) (data : List PW) : State :=
  let lines := (splitLines (maskedWords a.off a.len data)).map (fun ws => (⟨a.c, a.id, cls, a.write, ws⟩ : FabLine))
  let s1 := s.withTm { s.tm with fab := s.tm.fab ++ [a], nextFab := s.tm.nextFab + 1, fabQ := s.tm.fabQ ++ lines }
  s1.pump a.c

/-- Whether every flit of an access has been granted at the banks. -/
def State.fabGranted (s : State) (id : Nat) : Bool :=
  s.tm.fabQ.all (fun l => l.acc != id) && s.tm.issues.all (fun i => i.acc != id || !i.busy)

/-- An access that ends is in flight no more, and its issues are over. -/
def State.fabDrop (s : State) (id : Nat) : State :=
  s.withTm { s.tm with
    fab := s.tm.fab.filter (fun a => a.id != id)
    issues := s.tm.issues.filter (fun i => i.acc != id) }

/-- Whether an entry of FAB holds a line of an access (R81). -/
def fabEntry (a : FabAcc) (e : MergeEntry) : Bool :=
  e.c == a.c && e.port == 2 && decide (a.len ≠ 0 ∧ a.off / 64 ≤ e.line ∧ e.line ≤ (a.off + a.len - 1) / 64)

/-- A FAB write made in one step by another unit in a class: admitted by one window and committed, or refused whole. The end of the
message fences FAB's entries for it, and `post` posts the arrival (R81, R96, R98). -/
def State.fabWrite (s : State) (c cls src vi off len msgs : Nat) (data : List PW) (post : Bool) : FabOut × State :=
  if s.clusterOn c = false then (.refused 1, s)
  else if s.fabHolds c then (.held, s)
  else match s.admitWindow c src true off len with
    | none => let r := s.wnReason c src off len; (.refused r, s.wnRefuse c src true off len r)
    | some w =>
      let a := s.fabRecord c w src vi true off len msgs
      let s1 := (s.fabEnter a cls data).tmUntil (fun t => t.fabGranted a.id) c ((len / 64 + 2) * tmFuel)
      let s2 := s1.flushIf c (fabEntry a)
      (.done [], (if post then s2.postAcc a else s2).fabDrop a.id)

/-- A FAB read made in one step by another unit: the words that hold the range, or a refusal. -/
def State.fabRead (s : State) (c cls src off len : Nat) : FabOut × State :=
  if s.clusterOn c = false then (.refused 1, s)
  else if s.fabHolds c then (.held, s)
  else match s.admitWindow c src false off len with
    | none => let r := s.wnReason c src off len; (.refused r, s.wnRefuse c src false off len r)
    | some w =>
      let a := s.fabRecord c w src 64 false off len 0
      let s1 := (s.fabEnter a cls []).tmUntil (fun t => t.fabGranted a.id) c ((len / 64 + 2) * tmFuel)
      let (l, s2) := s1.returnWords c ((s1.tm.issues.filter (fun i => i.acc == a.id)).flatMap TmIssue.taken)
      (.done l, s2.fabDrop a.id)

/-! ## The FAB port's own commands -/

/-- R96, R98, R100: an access of a class at FAB: admitted by the lowest matching window, its flits waiting for the banks, or refused
whole. -/
def State.fabArrive (s : State) (c cls src vi : Nat) (write : Bool) (off len : Nat) (data : List PW) (msgs : Nat) : State :=
  if s.clusterOn c = false then s
  else if s.fabHolds c then
    s.withTm { s.tm with fabHeld := s.tm.fabHeld ++ [⟨c, cls, src, vi, write, off, len, data, msgs, true⟩] }
  else match s.admitWindow c src write off len with
    | none => s.wnRefuse c src write off len (s.wnReason c src off len)
    | some w => s.fabEnter (s.fabRecord c w src vi write off len msgs) cls data

/-- FAB_ACCESS (R80, R96, R98, R116): an access of class `cls` (0 BULK, 1 NORMAL, 2 URGENT) from outside the cluster reaches FAB. An
access of no byte has no effect. -/
def execFabAccess (c cls src vi : Nat) (write : Bool) (off len : Nat) (data : List PW) (msgs : Nat) (s : State) :
    Host.Outcome State Fault Refusal :=
  .next (if len = 0 then s else s.fabArrive c cls src vi write off len data msgs)

/-- R81, R100, R103: the accesses of a cluster whose last word has committed, FAB's entries for them included: each posts its arrival
and is in flight no more. -/
def State.fabFinish (s : State) (c : Nat) : State :=
  s.each (s.tm.fab.filter (fun a => a.c == c && a.write && a.left == 0 && !s.tm.merge.any (fabEntry a)))
    (fun a t => (t.postAcc a).fabDrop a.id)

/-- WRITE_COMMIT (R66, R81, R103): a port's oldest write whose requests are all granted commits. Once the last line of a FAB write has
committed, FAB's entries for it flush, and when they have it posts its arrival. `upset` names counters of the cluster whose words an
error has struck (R121, R124). -/
def execWriteCommit (c port : Nat) (upset : List (Nat × Nat)) (s : State) : Host.Outcome State Fault Refusal :=
  .next <|
    let s0 := s.each upset (fun u t => t.cntUpset c u.1 u.2)
    let s1 := match s0.tm.issues.find? (fun i => i.c == c && i.port == port && i.write && !i.busy) with
      | none => s0
      | some i =>
        let fab := s0.tm.fab.map (fun a => if a.id == i.acc then { a with left := a.left - 1 } else a)
        let t := s0.withTm { s0.tm with issues := s0.tm.issues.erase i, fab := fab }
        t.markFlush (fun e => fab.any (fun a => a.id == i.acc && a.left == 0 && fabEntry a e))
    if port = 2 then s1.fabFinish c else s1

/-- R449: writes already issued land without posting their arrivals. -/
def State.fabMute (s : State) (mine : FabAcc → Bool) : State :=
  s.withTm { s.tm with fab := s.tm.fab.map (fun a => if mine a then { a with cntEn := false } else a) }

/-- The accesses held at the spine for a cluster are served in arrival order (R84). -/
def State.serveHeld (s : State) (c : Nat) : State :=
  let l := s.tm.fabHeld.filter (fun h => h.c == c)
  let s1 := s.withTm { s.tm with fabHeld := s.tm.fabHeld.filter (fun h => h.c != c) }
  s1.each l (fun h t =>
    let u := t.fabArrive h.c h.cls h.source h.vi h.write h.off h.len h.data h.msgs
    if h.post then u else u.fabMute (fun a => decide (t.tm.nextFab ≤ a.id)))

/-! ## Closing a window on a reset of its owner -/

/-- The cluster offset of a stored word's key, through the spare map. -/
def State.tmKeyOffset (s : State) (k : Nat) : Nat × Nat :=
  let word := k % 16
  let row := (k / 16) % 8192
  let bank := (k / 131072) % 64
  let c := k / 8388608
  let r :=
    if row < 4096 then row
    else match s.tm.rowMap.find? (fun e => e.1 / 8192 == c * 64 + bank && e.2 == row - 4095) with
      | some e => e.1 % 8192
      | none => row
  (c, tmOffset bank r word)

/-- R101: bytes `lo` to `hi` of a cluster's tensor memory, whole lines, written blank: each write takes FAB's place at its bank,
after the flush of an entry on its line (R74). -/
def State.tmBlank (s : State) (c lo hi : Nat) : State :=
  s.each ((List.range (hi / 64 + 1 - lo / 64)).map (fun k => lo / 64 + k)) (fun line t =>
    let u := (t.flushIf c (fun e => e.line == line)).placeAccess c (tmBank (line * 64)) (tmRow (line * 64))
    u.each (List.range 16) (fun k v => v.setTmRaw c (line * 64 + 4 * k) blankWord))

/-- R101 step 1: the windows of every cluster whose owner is `v` are closed and wait for their blank writes. -/
def State.closeViWindows (s : State) (v : Nat) : State :=
  s.each ((List.range 18).filter s.clusterOn) (fun c t =>
    t.each ((List.range 64).filter (fun w => t.fld .WN_CTL_OWNER_VI c w == v)) (fun w u =>
      let u1 := u.setFlag .WN_CTL_OPEN c w false
      u1.withTm { u1.tm with blanks := u1.tm.blanks ++ [(c, w)] }))

/-- WINDOW_BLANK (R101): once INFLIGHT is 0, the range of a window closed by a VI reset is written blank and the counter
it names is set to 0; what the spine held for the cluster while the writes ran is served. -/
def execWindowBlank (c w : Nat) (s : State) : Host.Outcome State Fault Refusal :=
  .next <|
    if s.tm.blanks.contains (c, w) && !s.wnInflight c w && s.tmReady c then
      let b := s.fld .WN_RANGE_BASE c w
      let l := s.fld .WN_RANGE_LIMIT c w
      let s1 := if b ≤ l then s.tmBlank c (b * 256) (l * 256 + 255) else s
      let s2 := (s1.setFld .WN_CNT_VALUE c (s.fld .WN_CTL_CNT c w) 0).cntUpset c (s.fld .WN_CTL_CNT c w) 0
      let s3 := s2.withTm { s2.tm with blanks := s2.tm.blanks.filter (fun x => x != (c, w)) }
      if s3.fabHolds c then s3 else s3.serveHeld c
    else s

/-! ## Herd windows -/

/-- R106: whether a herd window covers a range of a plot. -/
def State.hwCovers (s : State) (h plot off len : Nat) : Bool :=
  let b := s.fld .WN_HW_RANGE_BASE h 0
  let l := s.fld .WN_HW_RANGE_LIMIT h 0
  s.fld .WN_HW_CTL_PLOT h 0 == plot && decide (b ≤ l ∧ b * 256 ≤ off ∧ off + len ≤ l * 256 + 256)

/-- Whether a herd window touches a range of a plot. -/
def State.hwTouches (s : State) (h plot off len : Nat) : Bool :=
  let b := s.fld .WN_HW_RANGE_BASE h 0
  let l := s.fld .WN_HW_RANGE_LIMIT h 0
  s.fld .WN_HW_CTL_PLOT h 0 == plot && decide (b ≤ l ∧ b * 256 < off + len ∧ off < l * 256 + 256)

/-- Whether a herd window is open to a herd ID. -/
def State.hwSource (s : State) (h src : Nat) : Bool :=
  decide (s.fld .WN_HW_SRC_HERD_LO h 0 ≤ src ∧ src ≤ s.fld .WN_HW_SRC_HERD_HI h 0)

/-- R106: the admitting herd window, the lowest that matches. -/
def State.admitHerd (s : State) (src plot : Nat) (write : Bool) (off len : Nat) : Option Nat :=
  (List.range 256).find? (fun h =>
    s.flag .WN_HW_CTL_OPEN h 0 && s.hwCovers h plot off len && s.hwSource h src &&
      (if write then s.flag .WN_HW_CTL_WR h 0 else s.flag .WN_HW_CTL_RD h 0))

/-- REASON of a herd-window refusal, as for a window. -/
def State.hwReason (s : State) (src plot off len : Nat) : Nat :=
  let open_ := (List.range 256).filter (fun h => s.flag .WN_HW_CTL_OPEN h 0)
  let cov := open_.filter (fun h => s.hwCovers h plot off len)
  if cov.any (fun h => s.hwSource h src) then 3
  else if cov.length ≠ 0 then 2
  else if open_.any (fun h => s.hwTouches h plot off len) then 4
  else 1

/-- R106: a herd-window refusal is written to WN_HW_REFUSE. -/
def State.hwRefuse (s : State) (src : Nat) (write : Bool) (dpa len reason : Nat) : State :=
  let k := sget (fun _ => 0) s.tm.refuseNext 18
  let s0 := s.withTm { s.tm with refuseNext := sset (fun _ => 0) s.tm.refuseNext 18 ((k + 1) % 16) }
  let s1 := (s0.setFld .WN_HW_REFUSE_FT_FT k 0 s.now).setFld .WN_HW_REFUSE_SOURCE k 0 (0x2000 + src)
  let s2 := (s1.setFlag .WN_HW_REFUSE_WRITE k 0 write).setFld .WN_HW_REFUSE_REASON k 0 reason
  ((s2.setFlag .WN_HW_REFUSE_VALID k 0 true).setFld .WN_HW_REFUSE_ADDR_ADDR k 0 dpa).setFld .WN_HW_REFUSE_LEN_LEN k 0 len

/-- R103, R477: what a write of another member with increment `inc` adds in a counting mode: in mode MSG the value of its increment
field, in mode LINE the 64-B lines it touches. -/
def herdInc (mode inc off len : Nat) : Nat := if inc = 0 then 0 else incOf mode inc off len

/-- R477: an increment is posted to the counter of the window that admitted a write of another module. -/
def State.incWindow (s : State) (c w inc : Nat) : State :=
  if inc ≠ 0 ∧ s.flag .WN_CTL_CNT_EN c w then s.postCount c (s.fld .WN_CTL_CNT c w) inc else s

/-- R107: an increment is posted to the counter of the logical cluster that a herd window names. -/
def State.incHerdWindow (s : State) (h inc : Nat) : State :=
  if inc ≠ 0 ∧ s.flag .WN_HW_CTL_CNT_EN h 0 then
    s.postCount (s.physCluster (s.fld .WN_HW_CTL_CNT_CLUSTER h 0)) (s.fld .WN_HW_CTL_CNT h 0) inc
  else s

/-- WN_HW_SRC.INFLIGHT (R106): an access that the herd window admitted is not complete. -/
def State.hwInflight (s : State) (h : Nat) : Bool :=
  s.hbm.accs.any (fun (a : SectorAcc) => match a.req with | .herd _ _ w _ => w == h | _ => false)

/-- R101, R108: the counters that closed herd windows of a VI under reset name are set to 0 once no access is in flight. -/
def State.zeroHerd (s : State) : State :=
  let l := s.tm.hwZero.filter (fun h => !s.hwInflight h)
  let s1 := s.withTm { s.tm with hwZero := s.tm.hwZero.filter s.hwInflight }
  s1.each l (fun h t =>
    let c := t.physCluster (t.fld .WN_HW_CTL_CNT_CLUSTER h 0)
    let k := t.fld .WN_HW_CTL_CNT h 0
    (t.setFld .WN_CNT_VALUE c k 0).cntUpset c k 0)

/-- R108: a VI reset closes the herd windows the VI owns, and their counters go to 0 when no access is in flight; the plot range is
not blanked. -/
def State.closeViHerdWindows (s : State) (v : Nat) : State :=
  let l := (List.range 256).filter (fun h => s.fld .WN_HW_CTL_OWNER_VI h 0 == v)
  let s1 := s.each l (fun h t => t.setFlag .WN_HW_CTL_OPEN h 0 false)
  (s1.withTm { s1.tm with hwZero := s1.tm.hwZero ++ l }).zeroHerd

/-! ## Locks -/

/-- R112: the results of a lock operation. -/
inductive LockResult where
  | acquired | acquiredOrphaned | busy | alreadyOwner | released | notOwner | faulted | noLock
deriving DecidableEq, Repr

/-- The code of a lock result. -/
def LockResult.code : LockResult → Nat
  | .acquired => 0 | .acquiredOrphaned => 1 | .busy => 2 | .alreadyOwner => 3 | .released => 4 | .notOwner => 5
  | .faulted => 6 | .noLock => 7

/-- The owner record a word holds. -/
def State.lockOwner (s : State) (d w : Nat) : LockOwner :=
  ⟨s.fld .LK_WORD_HERD d w, s.fld .LK_WORD_VI d w, s.fld .LK_WORD_CORE d w, s.fld .LK_WORD_CONTEXT d w⟩

/-- A lock word with its fields. -/
def lockWord (held orphaned faulted : Bool) (o : LockOwner) : W64 :=
  BitVec.ofNat 64 (b2n held + 2 * b2n orphaned + 4 * b2n faulted + (o.herd % 4096) * 2 ^ 8 + (o.vi % 64) * 2 ^ 20
    + (o.core % 32) * 2 ^ 26 + (o.ctx % 16) * 2 ^ 32)

/-- A free word. -/
def freeLock (orphaned : Bool) : W64 := lockWord false orphaned false ⟨0, 0, 0, 0⟩

/-- R110: whether an operation's VI may use a word's partition. -/
def State.lockAllowed (s : State) (d w vi : Nat) : Bool :=
  s.flag .LK_PART_EN d (w / 64) && (s.fld .LK_PART_VI d (w / 64) == vi || vi == 0)

/-- R109 to R112, R120: LOCK or UNLOCK of lock number `n` by an owner. `err` is the error that the word's code meets: 1 DATA or 2
CHECK, corrected and counted, 3 uncorrectable. -/
def State.lockOp (s : State) (n : Nat) (o : LockOwner) (unlock : Bool) (err : Nat) : LockResult × State :=
  let d := n / 4096 % 2
  let w := n % 4096
  if s.spineOn d = false ∨ s.lockAllowed d w o.vi = false then (.noLock, s)
  else if err = 3 then
    let s1 := (s.setFlag .LK_WORD_FAULTED d w true).setFlag .LK_EVENT_FAULTED d 0 true
    (.faulted, (s1.ecc d 4 2 1).ueLog d 0 0)
  else
    let s0 := if err = 0 then s else s.ecc d 4 (err - 1) 1
    if s.flag .LK_WORD_FAULTED d w then (.faulted, s0)
    else if unlock then
      if s.flag .LK_WORD_HELD d w ∧ s.lockOwner d w = o then (.released, s0.setReg .LK_WORD d w (freeLock false))
      else (.notOwner, s0)
    else if s.flag .LK_WORD_HELD d w then
      if s.lockOwner d w = o then (.alreadyOwner, s0) else (.busy, s0)
    else if s.flag .LK_WORD_ORPHANED d w then
      (.acquiredOrphaned, (s0.setReg .LK_WORD d w (lockWord true false false o)).satInc .LK_EVENT_ORPHAN_GRANTS d 0 1)
    else (.acquired, s0.setReg .LK_WORD d w (lockWord true false false o))

/-- R118: the place of a core in the lock unit's round: the clusters of its die, those of the other, the herd cores, Herdlink. -/
def State.lockSource (s : State) (n core : Nat) : Nat :=
  if 18 ≤ core then 16 + (core - 18) % 4
  else (if dieOf core = n / 4096 % 2 then 0 else 8) + ((s.logCluster core).getD 0) % 8

/-- R118: of the operations that wait at a word, the one served next: round-robin over the sources from the one served last, those of
one source in their order. -/
def State.lockNext (s : State) (n : Nat) : Option LockReq :=
  let last := sget (fun _ => 20) s.tm.lockPtr (n / 4096 % 2)
  let l := s.tm.lockQ.filter (fun q => q.num == n)
  ((List.range 21).map (fun k => (last + 1 + k) % 21)).findSome? (fun x => l.find? (fun q => q.src == x))

/-- One operation is served, and the unit's pointer advances past its source (R112, R118); its result waits for the core that asked. -/
def State.lockServe (s : State) (q : LockReq) : LockResult × State :=
  let s1 := s.withTm { s.tm with
    lockQ := s.tm.lockQ.erase q
    lockPtr := sset (fun _ => 20) s.tm.lockPtr (q.num / 4096 % 2) q.src }
  let (r, s2) := s1.lockOp q.num q.owner q.unlock q.err
  match q.who with
  | none => (r, s2)
  | some (core, x, rd) =>
    (r, s2.withSc { s2.sc with answers := s2.sc.answers.map (fun (a : SlAnswer) =>
      if a.core == core && a.ctx == x && a.rd == rd && !a.ready then { a with code := r.code, ready := true } else a) })

/-- The operations that wait at a word are served in turn up to the one asked for. -/
def State.lockUntil : Nat → State → LockReq → LockResult × State
  | 0, s, _ => (.noLock, s)
  | k + 1, s, q =>
    match s.lockNext q.num with
    | none => (.noLock, s)
    | some x =>
      let (r, t) := s.lockServe x
      if x = q then (r, t) else lockUntil k t q

/-- R112: an operation that waits for its answer has it. -/
def State.lockAnswer (s : State) (core x rd : Nat) : State :=
  match s.tm.lockQ.find? (fun q => q.who == some (core, x, rd)) with
  | none => s
  | some q => (State.lockUntil s.tm.lockQ.length s q).2

/-- R118, R119: the operations that satisfy `p` are withdrawn with their issuer. -/
def State.lockDrop (s : State) (p : LockReq → Bool) : State :=
  s.withTm { s.tm with lockQ := s.tm.lockQ.filter (fun q => !p q) }

/-- The held words, as (spine, word), whose owner satisfies `p`. -/
def State.heldLocks (s : State) (p : LockOwner → Bool) : List (Nat × Nat) :=
  s.regs.filterMap (fun e =>
    if keyId e.1 = RegId.LK_WORD.ctorIdx ∧ getBit e.2 0 ∧ p (s.lockOwner (keyI e.1) (keyJ e.1)) then
      some (keyI e.1, keyJ e.1)
    else none)

/-- R113: on a reset of an owner, every word held within its scope is released with ORPHANED set; a word that is FAULTED stays so
until it is forced (R120). The release is logged as an EVENT. -/
def State.releaseLocks (s : State) (p : LockOwner → Bool) : State :=
  let l := s.heldLocks p
  let s1 := s.each l (fun (d, w) t => (t.setReg .LK_WORD d w (lockWord false true (t.flag .LK_WORD_FAULTED d w) ⟨0, 0, 0, 0⟩)).setFlag
    .LK_EVENT_RESET_RELEASE d 0 true)
  match l with
  | [] => s1
  | (d, w) :: _ => s1.auditEvent 7 (d * 4096 + w)

/-- R114: a word is force-released: free with ORPHANED set and FAULTED clear, and the force is audited. -/
def State.forceLock (s : State) (a : Acc) (n : Nat) : State :=
  let d := n / 4096 % 2
  let w := n % 4096
  let old := s.reg .LK_WORD d w
  (s.setReg .LK_WORD d w (freeLock true)).auditLog .change a 0 (regObject (0x3450000 + d * 0x100000 + 8 * w) true) old
    (freeLock true) 0

/-- R114: LK_FORCE.GO forces the named word and clears when done; the audit entry of the write is the force's. -/
def State.lkForceGo (s : State) (d : Nat) : State :=
  (s.setReg .LK_WORD d (s.fld .LK_FORCE_WORD d 0) (freeLock true)).setFlag .LK_FORCE_GO d 0 false

/-- R115: every lock word of a spine free with ORPHANED set. -/
def State.wakeLocks (s : State) (d : Nat) : State := s.resetRegs (keyAt [.LK_WORD] d)

end Sys2Proof.Machine
end

