-- ==== Sys2Proof/Machine/Troughs.lean ====
section
/-! DEFINITION. Trough arbiters: feed windows, decisions, preemption, abandoned transfers, parity errors (R249 to R268). -/
namespace Sys2Proof.Machine

open Sys2Proof

/-- The classes (R251). -/
def clsUrgent : Nat := 2

/-- Arbiter `13 d + a`: the front of stack 4d + a, Herdlink port 8d + a - 4, or PCIe path d. -/
def arbLocal (arb : Nat) : Nat := arb % 13

/-- The number of arbitration points of an arbiter (R249). -/
def arbPoints (arb : Nat) : Nat := if arbLocal arb < 4 then 64 else 1

/-- R250: the requesters that may present a request. -/
def arbRequester (arb req : Nat) : Bool :=
  if arbLocal arb < 4 then decide (req < 44) else if arbLocal arb < 12 then decide (req < 45) else decide (req < 36)

/-- Whether an arbiter is powered (R268): its stack's domain, or its I/O die. -/
def State.arbOn (s : State) (arb : Nat) : Bool :=
  if arbLocal arb < 4 then s.stackOn (4 * (arb / 13) + arbLocal arb)
  else s.power.rails && decide (arb / 13 < s.fld .SV_ASSEMBLY_IODIES 0 0)

/-- A trough's value (R253). -/
def State.trough (s : State) (arb req : Nat) : Int := sextNat 20 (s.fld .TR_TROUGH_VALUE arb req)

/-- The state with a trough's value replaced; it never falls below -524,288 (R253). -/
def State.setTrough (s : State) (arb req : Nat) (v : Int) : State :=
  s.setFld .TR_TROUGH_VALUE arb req (wrapInt 20 (max v (-524288)))

/-- The state with the transfers replaced. -/
def State.setTrReqs (s : State) (l : List TrReq) : State := s.withTr { s.tr with reqs := l }

/-- R251: the class a transfer is presented in: one above CLASS_MAX is presented as CLASS_MAX; 3 acts as 2. -/
def State.capClass (s : State) (arb req cls : Nat) : Nat := min (min cls 2) (min 2 (s.inForce .TR_REQ_CLASS_MAX arb req))

/-- The class of a transfer as CLASS_MAX in force has it. -/
def State.trCls (s : State) (r : TrReq) : Nat := s.capClass r.arb r.req r.cls

/-- R251: the transfer that a requester presents at a point: the one it holds the point for, else the one of highest class, the oldest
of these. -/
def State.trBest (s : State) (l : List TrReq) (req : Nat) : Option TrReq :=
  let mine := l.filter (fun (r : TrReq) => r.req == req)
  match mine.find? (fun (r : TrReq) => r.holder) with
  | some h => some h
  | none => mine.foldl (fun (best : Option TrReq) (r : TrReq) =>
      match best with
      | none => some r
      | some b => if s.trCls b < s.trCls r then some r else some b) none

/-- The requests presented at a point, one of each requester. -/
def State.trAt (s : State) (arb point : Nat) : List TrReq :=
  let l := s.tr.reqs.filter (fun (r : TrReq) => r.arb == arb && r.point == point)
  l.filter (fun (r : TrReq) => s.trBest l r.req == some r)

/-- R251, R252: a transfer of a requester becomes ready at a point; one of no beats raises the class of the requester's transfers there
that are not granted (R227). -/
def State.trPresent (s : State) (arb point req cls beats : Nat) (owner : TrOwner) (vi : Nat) : State :=
  if arbRequester arb req = false then s
  else if beats = 0 then
    s.setTrReqs (s.tr.reqs.map (fun (r : TrReq) =>
      if r.arb = arb ∧ r.point = point ∧ r.req = req ∧ r.holder = false then { r with cls := max r.cls cls } else r))
  else s.withTr { s.tr with
    reqs := s.tr.reqs ++ [⟨s.tr.next, arb, point, req, cls, beats, 0, false, owner, vi, 0⟩], next := s.tr.next + 1 }

/-- R256: among requests of one class, the fullest trough wins, and the lowest index among equals. -/
def State.fullest (s : State) (l : List TrReq) : Option TrReq :=
  l.foldl (fun (best : Option TrReq) (r : TrReq) =>
    match best with
    | none => some r
    | some b =>
      if s.trough b.arb b.req < s.trough r.arb r.req ∨
          (s.trough b.arb b.req = s.trough r.arb r.req ∧ r.req < b.req) then some r else some b) none

/-- R256: the winner of a free point: the fullest trough of the highest class that waits. -/
def State.trWinner (s : State) (l : List TrReq) : Option TrReq :=
  match s.fullest (l.filter (fun (r : TrReq) => s.trCls r == 2)) with
  | some r => some r
  | none => match s.fullest (l.filter (fun (r : TrReq) => s.trCls r == 1)) with
    | some r => some r
    | none => s.fullest (l.filter (fun (r : TrReq) => s.trCls r == 0))

/-- R254: the beat that a decision grants is charged to its requester's trough and counted. -/
def State.trCharge (s : State) (arb req : Nat) : State :=
  (s.setTrough arb req (s.trough arb req - 1)).cntInc .TR_BEATS_COUNT .TR_BEATS_WRAPS_WRAPS .TR_BEATS_WRAPS_OVF arb req 1

/-- R256: a free point is granted to the winner of those that wait, whose first beat is charged. -/
def State.trDecide (s : State) (arb point : Nat) : State :=
  match s.trWinner (s.trAt arb point) with
  | some w => (s.setTrReqs (s.tr.reqs.replace w { w with holder := true })).trCharge arb w.req
  | none => s

/-- R261: an ABANDONED entry. -/
def State.trAbandonLog (s : State) (r : TrReq) : State :=
  let (k, s1) := s.ringNext .TR_ABANDON_HEAD_NEXT .TR_ABANDON_HEAD_WRAPS r.arb 16
    (fun k => s.flag .TR_ABANDON_VALID r.arb k)
  let s2 := (s1.setFld .TR_ABANDON_FT_FT r.arb k s.now).setReg .TR_ABANDON r.arb k 0
  let s3 := ((s2.setFld .TR_ABANDON_REQ r.arb k r.req).setFld .TR_ABANDON_POINT r.arb k r.point).setFld
    .TR_ABANDON_CAUSE r.arb k r.drop
  ((s3.setFld .TR_ABANDON_BEATS r.arb k (min r.moved 0xFFFFFF)).setFlag .TR_ABANDON_VALID r.arb k true).wrapInc
    .TR_CNT_COUNT r.arb 3 1

/-- R261: a transfer that has been given up drops its request: one that held the point is logged, with its beats. -/
def State.trDrop (s : State) (r : TrReq) : State :=
  let s1 := s.setTrReqs (s.tr.reqs.erase r)
  if r.holder then s1.trAbandonLog r else s1

/-- R259, R263: a holder is preempted: its beats stay charged and are counted, and it competes again from its first beat. One that has
been given up is logged instead and does not restart. -/
def State.trPreempt (s : State) (h : TrReq) : State :=
  if h.drop ≠ 0 then s.trDrop h
  else
    let s1 := (s.wrapInc .TR_CNT_COUNT h.arb 0 1).wrapInc .TR_CNT_COUNT h.arb 1 h.moved
    s1.setTrReqs (s1.tr.reqs.replace h { h with moved := 0, holder := false })

/-- R202, R249: whether a point can take a beat now: a channel's controller holds fewer than 256 accesses for it; a port is not DOWN;
a path's link is up. -/
def State.trTakes (s : State) (arb point : Nat) : Bool :=
  if arbLocal arb < 4 then
    decide ((s.hbm.accs.filter (fun (a : SectorAcc) =>
      a.held && a.plot / 48 == 4 * (arb / 13) + arbLocal arb && a.pc == point)).length < 256)
  else if arbLocal arb < 12 then 2 ≤ s.fld .HL_PORT_STATUS_STATE (8 * (arb / 13) + arbLocal arb - 4) 0
  else nbit s.power.links (arb / 13)

/-- Whether an alert forces OP0 (R537, R538). -/
def State.alertForced (s : State) : Bool := s.flag .TH_ALERT_HOLD 0 0

/-- A stack's thermal gate in sixteenths (R534). -/
def State.stackGate (s : State) (k : Nat) : Nat := sget (fun _ => 0) s.pm.gates k

/-- The sixteenths of a stack front's cycles that are gated now: the greatest of its thermal gate, the MEM gate, the MEM
rails' missing eighths and an alert's 12 (R509, R513, R534, R537). -/
def State.frontGate (s : State) (k : Nat) : Nat :=
  max (max (s.stackGate k) (s.fld .PM_GROUP_GATE 3 0))
    (max (2 * (8 - min (s.fld .PM_RAIL_WIN_DUTY 6 0) (s.fld .PM_RAIL_WIN_DUTY 7 0))) (if s.alertForced then 12 else 0))

/-- The sixteenths of a point's cycles that are gated now at an arbiter: at a Herdlink egress port or a PCIe path the greatest of the IO
gate, the missing eighths of VDD_IO and an alert's 12 (R509, R513, R537). -/
def State.trGate (s : State) (arb : Nat) : Nat :=
  if arbLocal arb < 4 then s.frontGate (4 * (arb / 13) + arbLocal arb)
  else max (max (s.fld .PM_GROUP_GATE 4 0) (2 * (8 - s.fld .PM_RAIL_WIN_DUTY 8 0))) (if s.alertForced then 12 else 0)

/-- Whether cycle `k` is gated where `n` sixteenths are, spread evenly (R509; which cycles of 16 they are: DESIGN CHOICE, log entry
159). -/
def gatedCycle (n k : Nat) : Bool := (k + 1) * n / 16 != k * n / 16

/-- R509: whether the next cycle of a point is gated: a point with an URGENT holder never is, nor one that has no holder and so no beat to
take. -/
def State.trGated (s : State) (arb point : Nat) : Bool :=
  (s.trAt arb point).any (fun (r : TrReq) => r.holder && s.trCls r != 2) &&
    gatedCycle (s.trGate arb) (sget (fun _ => 0) s.tr.cyc (64 * arb + point))

/-- The cycles of a point of an arbiter that gates are counted, by 16. -/
def State.trCount (s : State) (arb point : Nat) : State :=
  if s.trGate arb = 0 then s
  else
    let k := sget (fun _ => 0) s.tr.cyc (64 * arb + point)
    s.withTr { s.tr with cyc := sset (fun _ => 0) s.tr.cyc (64 * arb + point) ((k + 1) % 16) }

/-- One cycle of a point (R254 to R259, R262): the holder moves a beat, which with its last one ends its transfer; then the decision for the
next cycle is made of the requests presented before this one: an URGENT request preempts a holder that is not URGENT and has not
ended, the holder otherwise keeps its grant, and a free point goes to the winner. A holder that has been given up moves nothing and
holds its point until it drops or an URGENT request takes it (R261). -/
def State.trCycle (s : State) (arb point : Nat) : State :=
  let l := s.trAt arb point
  match l.find? (fun (r : TrReq) => r.holder) with
  | none => s.trDecide arb point
  | some h =>
    let urgent := s.trCls h != 2 && l.any (fun (r : TrReq) => !r.holder && s.trCls r == 2)
    if h.drop ≠ 0 then (if urgent then (s.trPreempt h).trDecide arb point else s)
    else
      let h1 : TrReq := { h with moved := h.moved + 1 }
      if h1.moved = h1.beats then (s.setTrReqs (s.tr.reqs.erase h)).trDecide arb point
      else
        let s1 := s.setTrReqs (s.tr.reqs.replace h h1)
        if urgent then (s1.trPreempt h1).trDecide arb point else s1.trCharge arb h.req

/-- A transfer that ARBITER_GRANT presents: requester, class, beats, whose it is and for which VI. -/
abbrev TrAsk := Nat × Nat × Nat × TrOwner × Nat

/-- ARBITER_GRANT (R249 to R259): one cycle of a point, in which requests are presented for later decisions. A cycle in which the point
cannot take a beat, a gated one among them (R509), moves nothing, charges nothing and leaves the grant where it is. -/
def execArbiterGrant (arb point : Nat) (reqs : List TrAsk) (s : State) : Host.Outcome State Fault Refusal :=
  .next <|
    if s.arbOn arb = false ∨ arbPoints arb ≤ point then s
    else ((if s.trTakes arb point && !s.trGated arb point then s.trCycle arb point else s).trCount arb point).each reqs
      (fun (req, cls, beats, owner, vi) t => t.trPresent arb point req cls beats owner vi)

/-- Cycles of a point, but for gated ones, until a transfer has moved `want` beats or is no more; a holder that has been given up drops its request first (it
does within 16 cycles, R261). -/
def State.trRun : Nat → Nat → Nat → Nat → Nat → State → State
  | 0, _, _, _, _, s => s
  | fuel + 1, arb, point, id, want, s =>
    match s.tr.reqs.find? (fun (r : TrReq) => r.id == id) with
    | none => s
    | some r =>
      if want ≤ r.moved then s
      else match (s.trAt arb point).find? (fun (q : TrReq) => q.holder && q.drop != 0) with
        | some h => trRun fuel arb point id want (s.trDrop h)
        | none => trRun fuel arb point id want (s.trCycle arb point)

/-- R249 to R257: one beat of a requester's access moves through a point, as a beat of the transfer of its owner that is open there, or
as a transfer of its own. A fill's one beat was presented with its lookup (R227), and a block's beats with its transfer (R252): they may
have moved before. -/
def State.trMove (s : State) (arb point req cls : Nat) (owner : TrOwner) (vi : Nat) : State :=
  if arbRequester arb req = false ∨ s.arbOn arb = false then s
  else
    let mine := fun (r : TrReq) => r.arb == arb && r.point == point && r.req == req && r.owner == owner && r.vi == vi && r.drop == 0
    let known : Bool := match owner with | .fill _ _ _ => true | .stream _ _ => true | _ => false
    let s1 := if s.tr.reqs.any mine || known then s else s.trPresent arb point req cls 1 owner vi
    match s1.tr.reqs.find? mine with
    | none => s1
    | some r =>
      let fuel := s1.tr.reqs.foldl (fun (n : Nat) (q : TrReq) => n + 2 * q.beats + 2) 4
      s1.trRun fuel arb point r.id (r.moved + 1)

/-- R252, R257: a transfer of `n` beats is presented and granted to its last beat, past what else waits at its point. -/
def State.trWhole (s : State) (arb point req cls n : Nat) (owner : TrOwner) (vi : Nat) : State :=
  if n = 0 ∨ arbRequester arb req = false ∨ s.arbOn arb = false then s
  else
    let s1 := s.trPresent arb point req cls n owner vi
    s1.trRun (s1.tr.reqs.foldl (fun (k : Nat) (q : TrReq) => k + 2 * q.beats + 2) 4) arb point s.tr.next n

/-- `n` beats at once, which no other request delays: charged and counted. -/
def State.trBulk (s : State) (arb req n : Nat) : State :=
  if n = 0 ∨ s.arbOn arb = false then s
  else (s.setTrough arb req (s.trough arb req - n)).cntInc .TR_BEATS_COUNT .TR_BEATS_WRAPS_WRAPS .TR_BEATS_WRAPS_OVF arb req n

/-- R261: the transfers that a reset, a cancel or a halt gives up: one that holds its point moves no more and drops within 16 cycles;
one that waits is withdrawn. -/
def State.trGiveUp (s : State) (mine : TrReq → Bool) (cause : Nat) : State :=
  s.setTrReqs ((s.tr.reqs.filter (fun (r : TrReq) => r.holder || !mine r)).map (fun (r : TrReq) =>
    if mine r ∧ r.drop = 0 then { r with drop := cause } else r))

/-- TRANSFER_ABANDON (R261, R258): the holder of a point that has been given up drops REQ without END; its beats stay and its entry
is logged. `empty` says that the point gave one empty grant cycle after the drop, or after a waiting request was withdrawn. -/
def execTransferAbandon (arb point : Nat) (empty : Bool) (s : State) : Host.Outcome State Fault Refusal :=
  .next <|
    if s.arbOn arb = false ∨ arbPoints arb ≤ point then s
    else
      let s1 := match (s.trAt arb point).find? (fun (r : TrReq) => r.holder && r.drop != 0) with
        | some h => s.trDrop h
        | none => s
      if empty then s1.wrapInc .TR_CNT_COUNT arb 2 1 else s1

/-- FEED_WINDOW (R253, R264, R265): every trough is refilled by the weight in force for the window and capped. `first` names the points
whose cycle is the first one of the window: what it charges is applied before the refill, and the sum is saturated then. -/
def execFeedWindow (arb : Nat) (first : List Nat) (s : State) : Host.Outcome State Fault Refusal :=
  .next <|
    if s.arbOn arb = false then s
    else
      let s1 := s.each first (fun p t => if p < arbPoints arb ∧ t.trTakes arb p then t.trCycle arb p else t)
      (s1.each (List.range 48) (fun i t =>
        let t1 := t.applyShadow .TR_REQ arb i
        let w : Int := t1.inForce .TR_REQ_WEIGHT arb i
        let charged : Int := (s1.fld .TR_BEATS_COUNT arb i + 2 ^ 48 - s.fld .TR_BEATS_COUNT arb i) % 2 ^ 48
        t1.setTrough arb i (min (s.trough arb i - charged + w) (4 * w)))).withTr
        { s1.tr with start := sset (fun _ => 0) s1.tr.start arb s1.now }

/-- ARBITER_PARITY_ERROR (R267): in a trough (`grant` false, requester `ix`), it is set to its weight; in the grant state
of point `ix`, the point is released as if its holder had been preempted. -/
def execArbiterParityError (arb : Nat) (grant : Bool) (ix : Nat) (s : State) : Host.Outcome State Fault Refusal :=
  .next <|
    if s.arbOn arb = false then s
    else if grant then
      let s1 := match (s.trAt arb ix).find? (fun (r : TrReq) => r.holder) with
        | some h => s.trPreempt h
        | none => s
      s1.setFlag .TR_STATUS_GRANT_ERR arb 0 true
    else
      (s.setTrough arb ix (s.inForce .TR_REQ_WEIGHT arb ix)).setFlag .TR_STATUS_TROUGH_ERR arb 0 true

/-- Writing TR_CNT_CLR: every TR_CNT and TR_BEATS register of an arbiter at zero. -/
def State.trClearCounters (s : State) (arb : Nat) : State :=
  s.resetRegs (keyAt [.TR_CNT, .TR_BEATS, .TR_BEATS_WRAPS] arb)

/-- R268: an arbiter whose domain goes off: nothing is presented, and every register is at its reset value. -/
def State.trReset (s : State) (arb : Nat) : State :=
  (s.setTrReqs (s.tr.reqs.filter (fun (r : TrReq) => r.arb != arb))).resetRegs
    (keyAt [.TR_REQ, .TR_TROUGH, .TR_BEATS, .TR_BEATS_WRAPS, .TR_STATUS, .TR_CNT, .TR_ABANDON_FT, .TR_ABANDON,
      .TR_ABANDON_HEAD] arb)

/-- R253, R268: the feed-window count of an arbiter starts at 0. -/
def State.trStart (s : State) (arb : Nat) : State :=
  s.withTr { s.tr with start := sset (fun _ => 0) s.tr.start arb s.now }

/-- TR_STATUS.PHASE: the cycles into the feed window: 0 where it has just started, else a value the model leaves free (log entry 17). -/
def State.trPhase (s : State) (arb : Nat) : Nat :=
  let n := s.now - sget (fun _ => 0) s.tr.start arb
  if n = 0 then 0 else Config.trPhase arb n % 4096

/-- The arbiter of a stack's front. -/
def frontArb (k : Nat) : Nat := (k / 4) * 13 + k % 4
/-- The arbiter of a Herdlink egress port. -/
def portArb (p : Nat) : Nat := (p / 8) * 13 + 4 + p % 8
/-- The arbiter of a PCIe DMA path. -/
def pathArb (e : Nat) : Nat := e * 13 + 12

end Sys2Proof.Machine
end

