-- ==== Sys2Proof/Machine/Plots.lean ====
section
/-! DEFINITION. Memory stacks and plots: placement, layouts, sectors, attributes and fills, translation, access checks,
the controllers, refresh (R162 to R191, R134 to R138, R203, R609). -/
namespace Sys2Proof.Machine

open Sys2Proof

/-! ## Placement and layout -/

/-- Bytes in a plot. -/
def plotSize : Nat := 0x30000000
/-- The device physical address of plot 0 (R162). -/
def plotBase : Nat := 0x1000000000
/-- R162: the device physical address of a plot offset. -/
def plotDpa (p o : Nat) : Nat := plotBase + p * plotSize + o

/-- What a device physical address names (R59, R162). -/
inductive DpaTarget where
  | tm (l off : Nat)
  | plot (p off : Nat)
  | unmapped
deriving DecidableEq, Repr

/-- R59, R162: device physical space holds only tensor memory and the plots; a plot of an absent stack is unmapped. -/
def State.dpaTarget (s : State) (a : Nat) : DpaTarget :=
  if 0x40000000 ≤ a ∧ a < 0x50000000 then .tm ((a - 0x40000000) / 0x1000000) ((a - 0x40000000) % 0x1000000)
  else if plotBase ≤ a ∧ (a - plotBase) / plotSize < 384 ∧ s.stackPresent ((a - plotBase) / plotSize / 48) then
    .plot ((a - plotBase) / plotSize) ((a - plotBase) % plotSize)
  else .unmapped

/-- The stack and bank of a plot (R163). -/
def plotStack (p : Nat) : Nat := p / 48
/-- The bank of a plot. -/
def plotBank (p : Nat) : Nat := p % 48

/-- A place in a bank: pseudo-channel, row, byte in the row. -/
structure HbmLoc where
  pc : Nat
  row : Nat
  byte : Nat
deriving DecidableEq, Repr

/-- R165: the fold of a row number. -/
def foldRow (r : Nat) : Nat := nfield r 0 6 ^^^ nfield r 6 6 ^^^ nfield r 12 2

/-- R164: BANKLIN. -/
def bankLin (o : Nat) : HbmLoc := ⟨o / 12582912, (o % 12582912) / 1024, o % 1024⟩

/-- R165: STRIPED. -/
def striped (o : Nat) : HbmLoc :=
  let g := o / 256
  let q := g / 64
  let r := q / 4
  ⟨(g % 64) ^^^ foldRow r, r, (q % 4) * 256 + o % 256⟩

/-- The inverse of BANKLIN. -/
def bankLinInv (l : HbmLoc) : Nat := l.pc * 12582912 + l.row * 1024 + l.byte

/-- The inverse of STRIPED. -/
def stripedInv (l : HbmLoc) : Nat :=
  (((4 * l.row + l.byte / 256) * 64) + (l.pc ^^^ foldRow l.row)) * 256 + l.byte % 256

/-- A plot attribute of PL_CTL. -/
def State.plCtl (s : State) (f : Fld) (p : Nat) : Nat := s.fld f (plotStack p) (plotBank p)

/-- R164, R165: where a plot offset lies. -/
def State.plotLoc (s : State) (p o : Nat) : HbmLoc := if s.plCtl .PL_CTL_LAYOUT p = 1 then bankLin o else striped o

/-- The plot offset of a place. -/
def State.plotInv (s : State) (p : Nat) (l : HbmLoc) : Nat :=
  if s.plCtl .PL_CTL_LAYOUT p = 1 then bankLinInv l else stripedInv l

/-- The key of a sector. -/
def sectorKey (stack pc bank row sector : Nat) : Nat := ((((stack * 64 + pc) * 48 + bank) * 12288) + row) * 32 + sector

/-- The plot a sector's key lies in. -/
def keyPlot (k : Nat) : Nat :=
  let bank := (k / 393216) % 48
  let stack := k / 393216 / 48 / 64
  stack * 48 + bank

/-- What an unlisted sector reads as: the pattern of its plot's last whole fill (R169). -/
def hbmDefault (bg : Nat) (k : Nat) : W288 := if nbit bg (keyPlot k) then blankSector else 0

/-- A stored sector. -/
def State.sectorRaw (s : State) (stack pc bank row sector : Nat) : W288 :=
  sget (hbmDefault s.hbm.bgBlank) s.hbm.sectors (sectorKey stack pc bank row sector)

/-- The state with a stored sector replaced. -/
def State.setSectorRaw (s : State) (stack pc bank row sector : Nat) (w : W288) : State :=
  s.withHbm { s.hbm with
    sectors := sset (hbmDefault s.hbm.bgBlank) s.hbm.sectors (sectorKey stack pc bank row sector) w
    bad := s.hbm.bad.filter (fun k => k != sectorKey stack pc bank row sector) }

/-! ## Sectors -/

/-- The spine that counts a stack's errors (R143: spine d reaches stacks 4d to 4d + 3). -/
def stackDie (k : Nat) : Nat := k / 4

/-- R218: the status that makes a row read as poison, if the channel's suspect register covers it. -/
def State.suspect (s : State) (stack pc bank row : Nat) : Option Nat :=
  if s.flag .MU_SUSPECT_VALID stack pc && s.fld .MU_SUSPECT_BANK stack pc == bank &&
      (s.flag .MU_SUSPECT_ALLBANK stack pc || s.fld .MU_SUSPECT_ROW stack pc == row) then
    some (s.fld .MU_SUSPECT_STATUS stack pc)
  else none

/-- The device physical address of a sector of a plot. -/
def State.sectorDpa (s : State) (p pc row sector : Nat) : Nat := plotDpa p (s.plotInv p ⟨pc, row, sector * 32⟩)

/-- R138: an uncorrectable sector: eight words of kind UE_HBM, counted and logged. -/
def State.sectorUe (s : State) (p pc row sector : Nat) : List PW × State :=
  let w := poisoned .ueHbm (originHbm p pc row)
  let s1 := (s.ecc (stackDie (plotStack p)) 3 2 1).ueLog (stackDie (plotStack p)) (s.sectorDpa p pc row sector) w.data
  (List.replicate 8 w, s1)

/-- R138: whether the on-die ECC reports a sector as uncorrectable: it was struck and has not been written since (log entry 151). -/
def State.sectorBad (s : State) (stack pc bank row sector : Nat) : Bool :=
  s.hbm.bad.contains (sectorKey stack pc bank row sector)

/-- R138: an error strikes a sector beneath the sector code. -/
def State.strikeSector (s : State) (p pc row sector : Nat) (ue : Bool) : State :=
  let k := sectorKey (plotStack p) pc (plotBank p) row sector
  if ue ∧ s.hbm.bad.contains k = false then s.withHbm { s.hbm with bad := k :: s.hbm.bad } else s

/-- One sector read as a requester gets it (R136, R138, R218). -/
def State.readSector (s : State) (p pc row sector : Nat) : List PW × State :=
  let stack := plotStack p
  match s.suspect stack pc (plotBank p) row with
  | some st => (List.replicate 8 (poisoned .mule (originMule stack pc st)), s)
  | none =>
    if s.sectorBad stack pc (plotBank p) row sector then s.sectorUe p pc row sector
    else
      let raw := s.sectorRaw stack pc (plotBank p) row sector
      if s.plCtl .PL_CTL_PROT p = 1 then
        let d := decodeSector raw
        match d.cls with
        | .ok => (d.words, s)
        | .data => (d.words, s.ecc (stackDie stack) 3 0 1)
        | .check => (d.words, s.ecc (stackDie stack) 3 1 1)
        | .ue => s.sectorUe p pc row sector
      else (dataWords 8 ((sectorSyms raw).take 32), s)

/-- The words of a partial write laid over a sector's words: bytes by mask; a poisoned word replaces the word. -/
def mergeSector (old new : List PW) (mask : Nat) : List PW :=
  (List.range 8).map (fun k =>
    let m := nfield mask (4 * k) 4
    let o := old.getD k ⟨0, false⟩
    let n := new.getD k ⟨0, false⟩
    if m = 0 then o
    else if n.poison then n
    else ⟨BitVec.ofNat 32 (mergeBytes m o.data.toNat n.data.toNat), false⟩)

/-- One sector written (R134, R135, R137): a PROT sector is encoded whole, or read, corrected, merged and encoded, where an
uncorrectable read is logged as every one is (R141); a RAW sector stores bytes, and a poisoned word's tag as plain data. -/
def State.writeSector (s : State) (p pc row sector mask : Nat) (data : List PW) : State :=
  let stack := plotStack p
  let put := fun (t : State) (w : W288) => t.setSectorRaw stack pc (plotBank p) row sector w
  if s.plCtl .PL_CTL_PROT p = 1 then
    if mask = 2 ^ 32 - 1 then put s (encodeSector data)
    else
      let d := decodeSector (s.sectorRaw stack pc (plotBank p) row sector)
      if s.sectorBad stack pc (plotBank p) row sector ∨ d.cls = .ue then (s.sectorUe p pc row sector).2.ecc (stackDie stack) 3 4 1
      else if d.words.any (fun w => w.poison) then s.ecc (stackDie stack) 3 4 1
      else
        let s1 := match d.cls with
          | .data => s.ecc (stackDie stack) 3 0 1
          | .check => s.ecc (stackDie stack) 3 1 1
          | _ => s
        put s1 (encodeSector (mergeSector d.words data mask))
  else
    let old := dataWords 8 ((sectorSyms (s.sectorRaw stack pc (plotBank p) row sector)).take 32)
    let drops := ((List.range 8).filter (fun k => nfield mask (4 * k) 4 != 0 && (data.getD k ⟨0, false⟩).poison)).length
    let s1 := if drops = 0 then s else s.ecc (stackDie stack) 3 3 drops
    put s1 (rawSector (mergeSector old data mask))

/-! ## The lookup cache's placement and invalidation (R222, R223, R232) -/

/-- The slices of a VI's partition that are in service, in ascending order (R223). -/
def State.lcSlices (s : State) (v : Nat) : List Nat :=
  (List.range 64).filter (fun i =>
    nbit (s.fld .LC_PART_SLICES v 0) i && s.flag .LC_SLICE_STATUS_IN_SERVICE (i / 32) (i % 32))

/-- The slice of a line address in a VI's partition, if the partition has one in service (R222, R223). -/
def State.lcSlice (s : State) (v la : Nat) : Option Nat :=
  let l := s.lcSlices v
  if l.length = 0 then none else l[la / 512 % l.length]?

/-- R223: the set of a line address. -/
def lcSet (la : Nat) : Nat := nfield la 0 9 ^^^ nfield la 9 9

/-- The tag of a stored line as its word decodes (R223, R246). -/
def LcLine.tag (l : LcLine) : Nat := (decodeWord l.tagWord).word.data.toNat

/-- The line address of a stored line: the set gives back the low bits. -/
def LcLine.la (l : LcLine) : Nat := l.tag * 512 + (l.set ^^^ (l.tag % 512))

/-- R237: an event of a slice is counted unless its spine's counters are frozen. -/
def State.lcCount (s : State) (slice e n : Nat) : State :=
  if s.flag .LC_CNT_CTL_FREEZE (slice / 32) 0 then s
  else s.cntInc .LC_SLICE_CNT_COUNT .LC_SLICE_CNT_WRAPS_WRAPS .LC_SLICE_CNT_WRAPS_OVF (slice / 32) (slice % 32 * 7 + e) n

/-- The number of bits set in a mask of four sectors. -/
def popSectors (m : Nat) : Nat := ((List.range 4).filter (nbit m)).length

/-- Sectors `f` names are invalidated in every line; a line with none left is gone. Each is counted (R237). -/
def State.lcDrop (s : State) (f : LcLine → Nat) : State :=
  let hit := s.lc.lines.filter (fun (l : LcLine) => (l.valid &&& f l) != 0)
  let s1 := s.withLc { s.lc with
    lines := (s.lc.lines.map (fun (l : LcLine) => { l with valid := l.valid - (l.valid &&& f l) })).filter
      (fun (l : LcLine) => l.valid != 0) }
  s1.each hit (fun l t => t.lcCount l.slice 5 (popSectors (l.valid &&& f l)))

/-- The sectors of a line that a device physical byte range touches. -/
def lineMask (la lo hi : Nat) : Nat :=
  ((List.range 4).filter (fun k => decide (lo ≤ la * 128 + k * 32 + 31 ∧ la * 128 + k * 32 ≤ hi))).foldl
    (fun m k => m + 2 ^ k) 0

/-- R232, R233: a write to a device physical range invalidates every sector it touches; a pending fill of such a sector
will not be installed. -/
def State.lcWrite (s : State) (lo hi : Nat) : State :=
  let s1 := s.lcDrop (fun l => lineMask l.la lo hi)
  s1.withLc { s1.lc with
    regs := s1.lc.regs.map (fun (r : LcReg) => { r with noInst := r.noInst ||| (r.pend &&& lineMask r.line lo hi) }) }

/-- R232: the requesters whose plot writes invalidate. -/
def reqInvalidates : PlotReq → Bool
  | .stream _ _ => true
  | .list _ _ => true
  | .core _ _ => true
  | .herd _ _ _ _ => true
  | .trace _ => true
  | _ => false

/-! ## Ranges of a plot -/

/-- A part of an access that lies in one sector: the plot offset of the sector, byte mask and eight words. -/
structure SectorPart where
  off : Nat
  mask : Nat
  data : List PW
deriving DecidableEq, Repr

/-- A byte range of a plot cut into sectors; `data` starts with the word that holds the first byte. -/
def sectorParts (off len : Nat) (data : List PW) : List SectorPart :=
  let first := off / 32
  let n := if len = 0 then 0 else (off + len - 1) / 32 + 1 - first
  (List.range n).map (fun i =>
    let base := (first + i) * 32
    let mask := (List.range 32).foldl (fun acc b => if off ≤ base + b ∧ base + b < off + len then acc + 2 ^ b else acc) 0
    ⟨base, mask, (List.range 8).map (fun k =>
      let wi := base / 4 + k
      if off / 4 ≤ wi then data.getD (wi - off / 4) ⟨0, false⟩ else ⟨0, false⟩)⟩)

/-- A range read at once: the words that hold it, the first one first. -/
def State.plotReadParts (s : State) (p : Nat) : List SectorPart → List PW × State
  | [] => ([], s)
  | q :: t =>
    let l := s.plotLoc p q.off
    let (ws, s1) := s.readSector p l.pc l.row (l.byte / 32)
    let (rest, s2) := s1.plotReadParts p t
    (ws ++ rest, s2)

/-- Bytes `off` to `off + len - 1` of a plot, as the words that hold them. -/
def State.plotReadRange (s : State) (p off len : Nat) : List PW × State :=
  let (ws, s1) := s.plotReadParts p (sectorParts off len [])
  let skip := (off / 4) - (off / 32) * 8
  let n := if len = 0 then 0 else (off + len - 1) / 4 + 1 - off / 4
  ((ws.drop skip).take n, s1)

/-- A range written at once. -/
def State.plotWriteRange (s : State) (p off len : Nat) (data : List PW) : State :=
  s.each (sectorParts off len data) (fun q t =>
    let l := t.plotLoc p q.off
    t.writeSector p l.pc l.row (l.byte / 32) q.mask q.data)

/-- R133, R249: a write to host memory is split at 64-B boundaries; a piece that holds a poisoned word leaves as a poisoned TLP
and is a bite; each 32 bytes are a beat of the port's DMA path. `data` starts with the word that holds the first byte. -/
def State.hostWritePieces : Nat → State → Nat → Nat → TrOwner → Nat → Nat → Nat → Nat → List PW → State
  | 0, s, _, _, _, _, _, _, _, _ => s
  | fuel + 1, s, req, cls, owner, vi, port, addr, len, data =>
    if len = 0 then s
    else
      let n := min len (64 - addr % 64)
      let ws := data.take ((addr + n - 1) / 4 + 1 - addr / 4)
      let s1 := (s.each (List.range ((n + 31) / 32)) (fun _ t => t.trMove (pathArb port) 0 req cls owner vi)).emit
        (.hostWrite port addr n ws)
      let s2 := if ws.any (fun w => w.poison) then s1.bite port 3 else s1
      hostWritePieces fuel s2 req cls owner vi port (addr + n) (len - n) (data.drop ((addr + n) / 4 - addr / 4))

/-- R133, R249: a write of `len` bytes to host memory on a port, by a requester of its DMA path. -/
def State.hostWriteAs (s : State) (req cls : Nat) (owner : TrOwner) (vi port addr len : Nat) (data : List PW) : State :=
  s.hostWritePieces (len / 64 + 2) req cls owner vi port addr len data

/-- A write to host memory by a unit that is no requester of a DMA path (R250 gives it no index): cores and cluster streams. -/
def State.hostWrite (s : State) (port addr len : Nat) (data : List PW) : State := s.hostWriteAs 48 1 .unit 0 port addr len data

/-! ## The controllers: arrival, waiting and service (R181, R185, R200 to R203, R249) -/

/-- R200: a channel's mode: 0 MEM, 1 DRAIN, 2 PROC, 3 EXIT. -/
def State.chMode (s : State) (stack pc : Nat) : Nat := s.fld .MU_CH_MODE stack pc

/-- Whether a bank is held by a refresh now (R181). -/
def State.bankHeld (s : State) (stack pc bank : Nat) : Bool :=
  s.hbm.holds.any (fun h => h.stack == stack && h.pc == pc && h.bank == bank && decide (s.now < h.stop))

/-- One more activation of a bank (R182). -/
def State.activate (s : State) (stack pc bank n : Nat) : State :=
  let k := (stack * 64 + pc) * 48 + bank
  s.withHbm { s.hbm with acts := sset (fun _ => 0) s.hbm.acts k (sget (fun _ => 0) s.hbm.acts k + n) }

/-- MU_HOLD.LIMIT in force on a stack, in nanoseconds; 0 acts as 1 µs. -/
def State.holdLimit (s : State) (stack : Nat) : Nat := max 1 (s.inForce .MU_HOLD_LIMIT stack 0) * 1000

/-- R203: an expiry is counted. -/
def State.countExpiry (s : State) (stack : Nat) : State :=
  s.setFld .MU_HOLD_EXP_COUNT stack 0 (s.fld .MU_HOLD_EXP_COUNT stack 0 + 1)

/-- The source code of an engine at FAB (R97): its logical cluster, or the host's on behalf of the VI for an I/O die. A
cluster that serves no logical cluster has none: a code that no window includes stands for it. -/
def State.clusterSrc (s : State) (c : Nat) : Nat := match s.logCluster c with | some l => l | none => 0x3000

/-- R250: the index of a requester at a stack's front; 48, which no arbiter has, where the table gives none. A core's accesses take the
index of its cluster's stream engine, as at a Herdlink port (log entry 152). -/
def State.frontIdx (s : State) (r : PlotReq) : Nat :=
  match r with
  | .stream e _ => if e < 18 then (s.logCluster e).getD 48 else 34 + (e - 18)
  | .list e _ => if e < 18 then (s.logCluster e).getD 48 else 34 + (e - 18)
  | .gather c => match s.logCluster c with | some l => 16 + l | none => 48
  | .core c _ => if c < 18 then (s.logCluster c).getD 48 else 48
  | .bar2 _ => 38
  | .herd _ _ _ die => 36 + die
  | .cache slice => 32 + slice / 32
  | .scrub _ => 40
  | .trace _ => 43
  | .walk _ => 39
  | .service => 48

/-- What a requester's transfer for a sector of device physical memory is part of (R227, R261). -/
def reqOwner (r : PlotReq) (dpa : Nat) : TrOwner :=
  match r with
  | .stream e x => .stream e x
  | .list e x => .list e x
  | .core c x => .core c x
  | .cache slice => .fill slice (dpa / 128) (dpa % 128 / 32)
  | _ => .unit

/-- A unit's access as the stacks' fronts see it: who makes it, in which class (0 BULK, 1 NORMAL, 2 URGENT) and for which VI. -/
structure Front where
  req : PlotReq
  cls : Nat
  vi : Nat
deriving DecidableEq, Repr

/-- One beat of an access moves through its pseudo-channel's point (R249, R254). -/
def State.frontMove (s : State) (p : Nat) (l : HbmLoc) (f : Front) : State :=
  s.trMove (frontArb (plotStack p)) l.pc (s.frontIdx f.req) f.cls (reqOwner f.req (s.sectorDpa p l.pc l.row (l.byte / 32))) f.vi

/-- Whether an earlier access to the same sector is still to be made (R185). -/
def sameSector (a b : SectorAcc) : Bool := a.plot == b.plot && a.pc == b.pc && a.row == b.row && a.sector == b.sector

/-- R174: a plot's part of a queued access is refused on release where its plot has been retired meanwhile. -/
def State.retiredRead (s : State) (a : SectorAcc) : Bool :=
  !a.write && s.flag .PL_STATUS_RETIRED (plotStack a.plot) (plotBank a.plot)

/-- R47, R48: the bytes of a unit's ring, 4 KiB to 64 MiB. -/
def State.traceSize (s : State) (c : Nat) : Nat := 2 ^ max 12 (min 26 (s.fld .FT_TRACE_CTL_SIZE c 0))

/-- R49: a record has been written: HEAD moves on; one that found the ring full moves TAIL on too, and is counted. -/
def State.traceAdvance (s : State) (c : Nat) : State :=
  let n := s.traceSize c
  let h := (s.fld .FT_TRACE_HEAD_HEAD c 0 + 32) % n
  let t := s.fld .FT_TRACE_TAIL_TAIL c 0
  let s1 := s.setFld .FT_TRACE_HEAD_HEAD c 0 h
  if h = t % n then (s1.setFld .FT_TRACE_TAIL_TAIL c 0 ((t + 32) % n)).satInc .FT_TRACE_STATUS_OVERWRITES c 0 1 else s1

/-- PL_STATUS.STATE of a plot; OFF where its stack is absent or off (R168). -/
def State.plotState (s : State) (p : Nat) : Nat :=
  if s.stackOn (plotStack p) then s.fld .PL_STATUS_STATE (plotStack p) (plotBank p) else 0

/-- An access is put to its stack's controller, one part for each sector, each with its beat (R249); a part for a channel that is not in
MEM is held (R202). -/
def State.enqueue (s : State) (p off len : Nat) (write : Bool) (data : List PW) (f : Front) (inc la : Nat) (phys : Bool) : State :=
  let g := s.hbm.nextGroup
  let s1 := if write ∧ reqInvalidates f.req ∧ len ≠ 0 then s.lcWrite (plotDpa p off) (plotDpa p off + len - 1) else s
  let s2 := s1.each (sectorParts off len data) (fun q t =>
    let l := t.plotLoc p q.off
    let u := t.frontMove p l f
    u.withHbm { u.hbm with accs := u.hbm.accs ++ [⟨g, p, l.pc, l.row, l.byte / 32, write, q.mask, q.data, f.vi, f.req, u.now,
      u.chMode (plotStack p) l.pc != 0, false, inc, la, phys⟩] })
  s2.withHbm { s2.hbm with nextGroup := g + 1 }

/-- R48, R49: a unit writes a record at HEAD: into its ring in a plot as requester 43 of the stack's front in class NORMAL, or in host memory as
requester 33 of the DMA path of I/O die 0; one that is refused is counted in LOST, and HEAD stays. -/
def State.traceSend (s : State) (c : Nat) (rec_ : List Byte) : State :=
  let a := s.fld .FT_TRACE_BASE_BASE c 0 / s.traceSize c * s.traceSize c + s.fld .FT_TRACE_HEAD_HEAD c 0 % s.traceSize c
  let lost := s.satInc .FT_TRACE_STATUS_LOST c 0 1
  if s.flag .FT_TRACE_CTL_SPACE c 0 then
    if nbit s.power.links 0 then (s.hostWriteAs 33 1 .unit 0 0 a 32 (wordsOf rec_)).traceAdvance c else lost
  else match s.dpaTarget a with
    | .plot p off =>
      if s.plotState p = 2 ∧ s.plCtl .PL_CTL_PROT p = 1 ∧ s.plCtl .PL_CTL_OWNER_VI p = 0 then
        s.enqueue p off 32 true (wordsOf rec_) ⟨.trace c, 1, 0⟩ 0 a true
      else lost
    | _ => lost

/-- R48, R49: the records of a unit are written one after the other: the next one goes out once the one before has been written or lost. -/
def State.tracePump : Nat → State → Nat → State
  | 0, s, _ => s
  | fuel + 1, s, c =>
    if s.hbm.accs.any (fun a => a.req == .trace c) then s
    else match s.ft.trace.find? (fun r => r.1 == c) with
      | none => s
      | some r => tracePump fuel ((s.withFt { s.ft with trace := s.ft.trace.erase r }).traceSend c r.2) c

/-- The next record of a unit goes out, if none of it is on its way. -/
def State.traceNext (s : State) (c : Nat) : State := s.tracePump (s.ft.trace.length + 1) c

/-- R49: a record on its way to its stack is lost. -/
def State.traceLost (s : State) (c : Nat) : State := (s.satInc .FT_TRACE_STATUS_LOST c 0 1).traceNext c

/-- R107, R108: what follows the last part of an access of a group: a herd write's increment is posted, and the counters of closed herd
windows that were waiting for it go to 0. -/
def State.groupEnd (s : State) (a : SectorAcc) : State :=
  if s.hbm.accs.any (fun b => b.group == a.group && !b.own) then s
  else
    let s1 := match a.req with
      | .herd _ _ w _ => if a.write then s.incHerdWindow w a.inc else s
      | .trace c => (s.traceAdvance c).traceNext c
      | _ => s
    s1.zeroHerd

/-- A queued access begins at its bank and completes: a write commits, a read returns its sector (R609). -/
def State.serveAcc (s : State) (a : SectorAcc) : State :=
  let s1 := (s.withHbm { s.hbm with accs := s.hbm.accs.erase a }).activate (plotStack a.plot) a.pc (plotBank a.plot) 1
  let s2 :=
    if a.write then s1.writeSector a.plot a.pc a.row a.sector a.mask a.data
    else
      let (ws, t) := s1.readSector a.plot a.pc a.row a.sector
      t.withHbm { t.hbm with rets := t.hbm.rets ++ [⟨a.group, a.req, ws⟩] }
  s2.groupEnd a

/-- The access of a requester to a sector that its own step makes, if it waits at the controller. -/
def State.ownAcc (s : State) (f : Front) (p : Nat) (l : HbmLoc) (write : Bool) : Option SectorAcc :=
  s.hbm.accs.find? (fun a => a.own && a.req == f.req && a.plot == p && a.pc == l.pc && a.row == l.row &&
    a.sector == l.byte / 32 && a.write == write)

/-- R185, R202: the accesses to a sector that came before a requester's own are made first; true where none is left. -/
def State.clearSector : Nat → State → Front → Nat → HbmLoc → Bool → Bool × State
  | 0, s, _, _, _, _ => (false, s)
  | fuel + 1, s, f, p, l, write =>
    let mine := s.ownAcc f p l write
    let ahead := match mine with
      | some m => s.hbm.accs.takeWhile (fun b => b != m)
      | none => s.hbm.accs
    match ahead.find? (fun a => a.plot == p && a.pc == l.pc && a.row == l.row && a.sector == l.byte / 32) with
    | none => (true, s)
    | some a => if a.own ∨ a.held then (false, s) else clearSector fuel (s.serveAcc a) f p l write

/-- What comes of an access that reaches its controller. -/
inductive Admit where
  | go
  | waits
  /-- Held longer than MU_HOLD.LIMIT at a channel (R203). -/
  | expired (pc : Nat)
deriving DecidableEq, Repr

/-- Whether a part of an access can begin now: its channel is in MEM, or admitted it before DRAIN, and no refresh holds its bank
(R181, R200). -/
def State.partReady (s : State) (f : Front) (p : Nat) (l : HbmLoc) (write : Bool) : Bool :=
  (s.chMode (plotStack p) l.pc == 0 || (match s.ownAcc f p l write with | some a => !a.held | none => false)) &&
    !s.bankHeld (plotStack p) l.pc (plotBank p)

/-- R181, R185, R200 to R203, R249: an access that its requester's step makes at a stack: it moves its beats and is made at once, or it
waits at the controller, held where its channel is not in MEM, until it can be made or the hold limit has passed. -/
def State.admitParts (s : State) (f : Front) (p : Nat) (parts : List HbmLoc) (write : Bool) : Admit × State :=
  let k := plotStack p
  let (free_, s1) := parts.foldl (fun (acc : Bool × State) l =>
    let (b, t) := acc.2.clearSector (acc.2.hbm.accs.length + 1) f p l write
    (acc.1 && b, t)) (true, s)
  if free_ && parts.all (fun l => s1.partReady f p l write) then
    (.go, s1.each parts (fun l t =>
      let u := match t.ownAcc f p l write with
        | some a => t.withHbm { t.hbm with accs := t.hbm.accs.erase a }
        | none => t.frontMove p l f
      u.activate k l.pc (plotBank p) 1))
  else
    match parts.find? (fun l => match s1.ownAcc f p l write with
        | some a => a.held && decide (s1.holdLimit k < s1.now - a.arrived)
        | none => false) with
    | some l =>
      (.expired l.pc, (s1.each parts (fun l t => match t.ownAcc f p l write with
        | some a => t.withHbm { t.hbm with accs := t.hbm.accs.erase a }
        | none => t)).countExpiry k)
    | none =>
      (.waits, s1.each parts (fun l t =>
        if (t.ownAcc f p l write).isSome ∨ t.trTakes (frontArb k) l.pc = false then t
        else
          let u := t.frontMove p l f
          u.withHbm { u.hbm with accs := u.hbm.accs ++ [⟨0, p, l.pc, l.row, l.byte / 32, write, 0, [], f.vi, f.req, u.now,
            u.chMode k l.pc != 0, true, 0, 0, false⟩] }))

/-- The accesses that the steps of some requesters make wait no more: the requester has been reset, cancelled or halted. -/
def State.dropOwn (s : State) (mine : PlotReq → Bool) : State :=
  s.withHbm { s.hbm with accs := s.hbm.accs.filter (fun a => !(a.own && mine a.req)) }

/-- The places of a plot range's sectors. -/
def State.rangeLocs (s : State) (p off len : Nat) : List HbmLoc := (sectorParts off len []).map (fun q => s.plotLoc p q.off)

/-- A range of a plot read by a requester's own step: its words, the words that an expired access returns, or none yet. -/
def State.frontRead (s : State) (f : Front) (p off len : Nat) : (Admit × List PW) × State :=
  match s.admitParts f p (s.rangeLocs p off len) false with
  | (.go, s1) => let (d, s2) := s1.plotReadRange p off len; ((.go, d), s2)
  | (.waits, s1) => ((.waits, []), s1)
  | (.expired pc, s1) =>
    ((.expired pc, List.replicate (if len = 0 then 0 else (off + len - 1) / 4 + 1 - off / 4)
      (poisoned .channelBusy (originBusy (plotStack p) pc))), s1)

/-- Whether a requester's access has been admitted before and waits at the controller (R184). -/
def State.admitted (s : State) (f : Front) (p off len : Nat) (write : Bool) : Bool :=
  len != 0 && (s.rangeLocs p off len).all (fun l => (s.ownAcc f p l write).isSome)

/-- R233: the invalidation entries in use at a slice: one for each line of each write that has not committed. -/
def State.lcInvBusy (s : State) (slice : Nat) : Nat :=
  let l := (s.hbm.accs.filter (fun (a : SectorAcc) => a.write && reqInvalidates a.req)).map (fun (a : SectorAcc) =>
    (a.group, a.req, s.sectorDpa a.plot a.pc a.row a.sector / 128, s.plCtl .PL_CTL_OWNER_VI a.plot))
  (l.eraseDups.filter (fun e => s.lcSlice e.2.2.2 e.2.2.1 == some slice)).length

/-- R233: whether an invalidating write of a plot range must wait for an entry: a slice of its lines has too few free. -/
def State.lcInvFull (s : State) (p off len : Nat) : Bool :=
  let lines := if len = 0 then [] else rangeFrom (plotDpa p off / 128) ((plotDpa p off + len - 1) / 128 + 1 - plotDpa p off / 128)
  let slices := lines.filterMap (s.lcSlice (s.plCtl .PL_CTL_OWNER_VI p))
  slices.any (fun i => s.lcInvBusy i != 0 && decide (32 < s.lcInvBusy i + slices.count i))

/-- A range of a plot written by a requester's own step; `inval` says that its writes invalidate the lookup cache, for which they take
entries (R232, R233). -/
def State.frontWrite (s : State) (f : Front) (p off len : Nat) (data : List PW) (inval : Bool) : Admit × State :=
  if inval && !s.admitted f p off len true && s.lcInvFull p off len then (.waits, s)
  else
    let s0 := if inval ∧ len ≠ 0 then s.lcWrite (plotDpa p off) (plotDpa p off + len - 1) else s
    match s0.admitParts f p (s.rangeLocs p off len) true with
    | (.go, s1) => (.go, s1.plotWriteRange p off len data)
    | r => r

/-! ## Checks and faults -/

/-- R180, R173, R174: the reason an access to a plot is refused, if any row applies. `vi` is none for an access that a
herd window admits; `pin` is the table set and generation of a pinned read. -/
def State.plotCheck (s : State) (p : Nat) (vi : Option Nat) (write : Bool) (pin : Option (Nat × Nat)) : Option Nat :=
  let k := plotStack p
  let j := plotBank p
  if s.plotState p = 0 then some 0x8
  else if s.plotState p = 1 then some 0x9
  else if (match vi with | some v => v != 0 && s.plCtl .PL_CTL_OWNER_VI p != v | none => false) then some 0xA
  else if write then none
  else if s.flag .PL_CTL_TAGGED k j &&
      (match pin with | some (t, g) => s.fld .PL_TAG_TSET k j != t || s.fld .PL_TAG_GEN k j != g | none => false) then
    some 0xB
  else if s.flag .PL_STATUS_RETIRED k j then some 0xC
  else none

/-- R180: a refused access is logged in PL_FAULT. -/
def State.plotFault (s : State) (addr reason vi : Nat) (write phys : Bool) : State :=
  let (k, s1) := s.ringNext .PL_FAULT_HEAD_NEXT .PL_FAULT_HEAD_WRAPS 0 16 (fun k => s.flag .PL_FAULT_INFO_VALID k 0)
  let s2 := (s1.setFld .PL_FAULT_FT_FT k 0 s.now).setFld .PL_FAULT_ADDR_ADDR k 0 addr
  let s3 := (s2.setReg .PL_FAULT_INFO k 0 0).setFld .PL_FAULT_INFO_REASON k 0 reason
  ((((s3.setFld .PL_FAULT_INFO_VI k 0 vi).setFlag .PL_FAULT_INFO_WRITE k 0 write).setFlag .PL_FAULT_INFO_PHYS k 0 phys)).setFlag
    .PL_FAULT_INFO_VALID k 0 true

/-! ## Translation -/

/-- The end of a page walk. -/
inductive Walk where
  | device (pa : Nat) (e : TlbEntry)
  | host (addr : Nat) (e : TlbEntry)
  | pri
  /-- A table entry's read waits at its channel (R202). -/
  | waits
  | fail (reason : Nat)
deriving DecidableEq, Repr

/-- The end of a read of a table entry. -/
inductive PteRead where
  | entry (e : Nat)
  | fault (reason : Nat)
  | waits
deriving DecidableEq, Repr

/-- R178, R188: an 8-B table entry, which must lie in a READY PROT plot owned by VI0: NOT_VALID (1) outside one, PT_UE
(6) for an uncorrectable or poisoned read. The walk is requester 39 of the plot's stack front (R250). -/
def State.readPte (s : State) (vi a : Nat) : PteRead × State :=
  match s.dpaTarget a with
  | .plot p o =>
    if s.plotState p = 2 ∧ s.plCtl .PL_CTL_PROT p = 1 ∧ s.plCtl .PL_CTL_OWNER_VI p = 0 then
      match s.frontRead ⟨.walk vi, 1, vi⟩ p o 8 with
      | ((.waits, _), s1) => (.waits, s1)
      | ((_, ws), s1) => match ws with
        | [a0, a1] => if a0.poison ∨ a1.poison then (.fault 6, s1) else (.entry (a0.data.toNat + 2 ^ 32 * a1.data.toNat), s1)
        | _ => (.fault 6, s1)
    else (.fault 1, s)
  | _ => (.fault 1, s)

/-- The index of a DVA at a level, and the size of the page a leaf there maps (R176). -/
def levelIx (lvl dva : Nat) : Nat :=
  match lvl with
  | 3 => nfield dva 39 9 | 2 => nfield dva 30 9 | 1 => nfield dva 21 9 | _ => nfield dva 16 5

/-- R177: one entry at a level: the next table, or the end of the walk. A valid entry with HOST 1 that is no leaf names a table in host
memory, which is no table (R178, R188). -/
def pteStep (lvl vi dva e : Nat) (write : Bool) : Walk ⊕ Nat :=
  let v := nbit e 0
  let leaf := nbit e 1
  let host := nbit e 4
  if nfield e 6 6 ≠ 0 ∨ nfield e 48 16 ≠ 0 then .inl (.fail 1)
  else if v = false then (if host ∧ nbit e 5 then .inl .pri else .inl (.fail 1))
  else if leaf then
    if lvl ≥ 2 then .inl (.fail 1)
    else
      let size := if lvl = 1 then 0x200000 else 0x10000
      let pa := e / 4096 % 2 ^ 36 * 4096
      if pa % size ≠ 0 then .inl (.fail 1)
      else
        let t : TlbEntry := ⟨vi, dva / size * size, size, pa, host, nbit e 2, nbit e 3⟩
        if write ∧ t.w = false then .inl (.fail 3)
        else if write = false ∧ t.r = false then .inl (.fail 2)
        else .inl (if host then .host (pa + dva % size) t else .device (pa + dva % size) t)
  else if lvl = 0 ∨ host then .inl (.fail 1)
  else .inr (e / 4096 % 2 ^ 36 * 4096)

/-- R176: the walk from a table at a level, `fuel` levels at most. -/
def State.walkFrom : Nat → State → Nat → Nat → Nat → Nat → Bool → Walk × State
  | 0, s, _, _, _, _, _ => (.fail 1, s)
  | fuel + 1, s, table, lvl, vi, dva, write =>
    match s.readPte vi (table + 8 * levelIx lvl dva) with
    | (.waits, s1) => (.waits, s1)
    | (.fault r, s1) => (.fail r, s1)
    | (.entry e, s1) =>
      match pteStep lvl vi dva e write with
      | .inl w => (w, s1)
      | .inr next => walkFrom fuel s1 next (lvl - 1) vi dva write

/-- R176, R179: a DVA is translated by a cached translation or by a walk from the root in force, which is then cached. -/
def State.translateTlb (s : State) (vi dva : Nat) (write : Bool) : Walk × State :=
  if 2 ^ 48 ≤ dva then (.fail 1, s)
  else
    match s.hbm.tlb.find? (fun e => e.vi == vi && decide (e.base ≤ dva ∧ dva < e.base + e.size)) with
    | some e =>
      if write ∧ e.w = false then (.fail 3, s)
      else if write = false ∧ e.r = false then (.fail 2, s)
      else (if e.host then .host (e.pa + (dva - e.base)) e else .device (e.pa + (dva - e.base)) e, s)
    | none =>
      let root := s.inForce .PL_PT_ROOT_ROOT vi 0 * 4096
      match s.walkFrom 4 root 3 vi dva write with
      | (.device a e, s1) => (.device a e, s1.withHbm { s1.hbm with tlb := e :: s1.hbm.tlb })
      | (.host a e, s1) => (.host a e, s1.withHbm { s1.hbm with tlb := e :: s1.hbm.tlb })
      | r => r

/-- R425: with ATS on for the VI, the translation of a host page is obtained and cached, 4,096 of them per I/O die; a page
is 4 KiB (DEDUCED: the spec gives the count and not the size). -/
def State.atsUse (s : State) (vi a : Nat) : State :=
  if s.flag .HQ_VI_CFG_ATS_EN vi 0 then
    let d := s.fld .HQ_VI_CFG_PORT vi 0
    let x := (d, vi, a / 4096)
    let rest := s.hq.ats.filter (fun (y : Nat × Nat × Nat) => y != x)
    let mine := rest.filter (fun (y : Nat × Nat × Nat) => y.1 == d)
    let s1 := if s.hq.ats.contains x then s else (s.trMove (pathArb d) 0 34 1 .unit vi).emit (.atsReq d vi (a / 4096))
    s1.withHq { s1.hq with ats := x :: (mine.take 4095 ++ rest.filter (fun (y : Nat × Nat × Nat) => y.1 != d)) }
  else s

/-- R176, R425: a virtual address is translated; one that lies in host memory uses ATS where the VI has it on. -/
def State.translate (s : State) (vi dva : Nat) (write : Bool) : Walk × State :=
  match s.translateTlb vi dva write with
  | (.host a e, s1) => (.host a e, s1.atsUse vi a)
  | r => r

/-! ## Page requests (R178) -/

/-- R178: the page requests of a VI that no one has sent are sent while fewer than 64 are outstanding; accesses to one page share one. -/
def State.sendPages (s : State) (vi : Nat) : State :=
  s.each s.hbm.waits (fun w t =>
    let mine := t.hbm.waits.filter (fun x => x.vi == vi && x.sent)
    if w.vi ≠ vi ∨ w.sent then t
    else
      let same := mine.any (fun x => x.page == w.page)
      let pages := (mine.map (fun x => x.page)).eraseDups
      if same = false ∧ 64 ≤ pages.length then t
      else
        let since := match mine.find? (fun x => x.page == w.page) with | some x => x.since | none => t.now
        let t1 := t.withHbm { t.hbm with waits := t.hbm.waits.replace w { w with sent := true, since := since } }
        let port := t.fld .HQ_VI_CFG_PORT vi 0
        if same then t1 else (t1.trMove (pathArb port) 0 34 1 .unit vi).emit (.pageReq port vi w.page w.write))

/-- R178: an access waits for a page; its request is sent when one is free. -/
def State.askPage (s : State) (w : PageWait) : State :=
  (s.withHbm { s.hbm with waits := s.hbm.waits ++ [{ w with sent := false }] }).sendPages w.vi

/-- R176, R178: a virtual address as a unit's own step reaches it: an absent host page is asked for once, and a request that was denied, timed out
or found the page absent again is the access's fault, logged when it came. -/
def State.reach (s : State) (vi dva : Nat) (write : Bool) (req : PlotReq) : Walk × State :=
  match s.hbm.priFail.find? (fun f => f.1 == vi && f.2.1 == dva / 65536 && f.2.2.1 == req) with
  | some f => (.fail f.2.2.2, s.withHbm { s.hbm with priFail := s.hbm.priFail.erase f })
  | none =>
    if s.hbm.waits.any (fun (w : PageWait) => w.vi == vi && w.page == dva / 65536 && w.req == req && w.len == 0) then (.pri, s)
    else match s.translate vi dva write with
      | (.pri, s1) => (.pri, s1.askPage ⟨vi, dva / 65536, dva, write, 0, [], none, req, s1.now, false⟩)
      | (.fail r, s1) => (.fail r, s1.plotFault dva r vi write false)
      | r => r

/-- The page waits and failures of some requesters are over: the requester has been reset, cancelled or halted. -/
def State.dropPages (s : State) (mine : PlotReq → Bool) : State :=
  s.withHbm { s.hbm with
    waits := s.hbm.waits.filter (fun w => !(w.len == 0 && mine w.req))
    priFail := s.hbm.priFail.filter (fun f => !mine f.2.2.1) }

/-! ## Accesses made in one step by another unit -/

/-- The outcome of such an access. -/
inductive MemOut where
  /-- The words that hold the range (none for a write). -/
  | done (data : List PW)
  /-- Refused by a plot or a translation with a reason of R180. -/
  | plotRefused (reason : Nat)
  /-- Refused by a window with a REASON of WN_REFUSE. -/
  | wnRefused (reason : Nat)
  /-- Held at a channel longer than MU_HOLD.LIMIT (R203): the words a read returns. -/
  | expired (data : List PW)
  /-- In host memory, at a PCIe address. -/
  | host (addr : Nat)
  /-- Waits: a channel is not in MEM or its bank is refreshed, FAB holds, or a page was asked for. -/
  | waits
deriving DecidableEq, Repr

/-- Such an access: its source code at FAB, how the stacks see it, its pin, and the address that PL_FAULT gives it, with whether that is a
physical one. -/
structure MemReq where
  src : Nat
  front : Front
  pin : Option (Nat × Nat)
  la : Nat
  phys : Bool
deriving DecidableEq, Repr

/-- A refusal logged for an access. -/
def State.memFault (s : State) (m : MemReq) (reason : Nat) (write : Bool) : State :=
  s.plotFault m.la reason m.front.vi write m.phys

/-- The outcome of a plot access. -/
def memOfAdmit : Admit → List PW → MemOut
  | .go, d => .done d
  | .waits, _ => .waits
  | .expired _, d => .expired d

/-- The checks of a plot access; one that was admitted before is not refused (R180, R184). -/
def State.memCheck (s : State) (m : MemReq) (p off len : Nat) (write : Bool) : Option Nat :=
  if plotSize < off + len then some 7
  else if s.admitted m.front p off len write then none
  else s.plotCheck p (some m.front.vi) write (if write then none else m.pin)

/-- The outcome of a FAB access. -/
def memOfFab : FabOut → MemOut
  | .done d => .done d
  | .refused r => .wnRefused r
  | .held => .waits

/-- A read of device physical memory: plots with their checks, tensor memory through FAB's windows (R59, R180). -/
def State.physRead (s : State) (m : MemReq) (addr len : Nat) : MemOut × State :=
  match s.dpaTarget addr with
  | .unmapped => (.plotRefused 7, s.memFault m 7 false)
  | .tm l off => let (r, s1) := s.fabRead (s.physCluster l) m.front.cls m.src off len; (memOfFab r, s1)
  | .plot p off => match s.memCheck m p off len false with
    | some r => (.plotRefused r, s.memFault m r false)
    | none => let ((r, d), s1) := s.frontRead m.front p off len; (memOfAdmit r d, s1)

/-- A write of device physical memory, as `physRead`; `inval` says that its requester's writes invalidate the lookup
cache (R232). -/
def State.physWrite (s : State) (m : MemReq) (addr len msgs : Nat) (data : List PW) (inval : Bool) : MemOut × State :=
  match s.dpaTarget addr with
  | .unmapped => (.plotRefused 7, s.memFault m 7 true)
  | .tm l off =>
    let (r, s1) := s.fabWrite (s.physCluster l) m.front.cls m.src m.front.vi off len msgs data true
    (memOfFab r, s1)
  | .plot p off => match s.memCheck m p off len true with
    | some r => (.plotRefused r, s.memFault m r true)
    | none => let (r, s1) := s.frontWrite m.front p off len data inval; (memOfAdmit r [], s1)

/-! ## Whole-plot and range fills -/

/-- A pattern stored in a plot over sectors `lo` to `hi` of its offsets. -/
def State.fillRange (s : State) (p lo hi : Nat) (w : W288) : State :=
  let d := hbmDefault s.hbm.bgBlank (sectorKey (plotStack p) 0 (plotBank p) 0 0)
  let inRange := fun (k : Nat) =>
    let sec := k % 32
    let row := (k / 32) % 12288
    let pc := (k / 393216 / 48) % 64
    let o := s.plotInv p ⟨pc, row, sec * 32⟩
    keyPlot k == p && decide (lo ≤ o ∧ o ≤ hi)
  let s0 := s.lcWrite (plotDpa p lo) (plotDpa p hi)
  let s1 := s0.withHbm { s0.hbm with sectors := sdrop inRange s0.hbm.sectors }
  if w = d then s1
  else s1.each (rangeFrom (lo / 32) (hi / 32 + 1 - lo / 32)) (fun i t =>
    let l := t.plotLoc p (i * 32)
    t.setSectorRaw (plotStack p) l.pc (plotBank p) l.row (l.byte / 32) w)

/-- R169: a whole-plot fill starts: the plot is FILLING. -/
def State.startFill (s : State) (p : Nat) : State :=
  let s1 := (s.setFld .PL_STATUS_STATE (plotStack p) (plotBank p) 1).setFld .PL_STATUS_FILL_ROW (plotStack p) (plotBank p) 0
  s1.withHbm { s1.hbm with fills := (p, 0) :: s1.hbm.fills.filter (fun x => x.1 != p) }

/-- The thermal level of a stack: 0 COOL, 1 WARM, 2 HOT, 3 STOP (R208). -/
def State.stackLevel (s : State) (k : Nat) : Nat := s.fld .MU_THERM_LEVEL k 0

/-- R169: the fill has written every sector: blank sectors on a PROT plot, zeros on a RAW one; the plot is READY. -/
def State.endFill (s : State) (p : Nat) : State :=
  let k := plotStack p
  let j := plotBank p
  let blank := s.flag .PL_CTL_PROT k j
  let bg0 := s.hbm.bgBlank - (if nbit s.hbm.bgBlank p then 2 ^ p else 0)
  let s0 := s.lcWrite (plotDpa p 0) (plotDpa p (plotSize - 1))
  let s1 := s0.withHbm { s0.hbm with
    sectors := sdrop (fun x => keyPlot x == p) s0.hbm.sectors
    bad := s0.hbm.bad.filter (fun x => keyPlot x != p)
    bgBlank := bg0 + (if blank then 2 ^ p else 0)
    fills := s.hbm.fills.filter (fun x => x.1 != p) }
  ((s1.setFld .PL_STATUS_STATE k j 2).setFlag .PL_STATUS_FILLED k j true).setFld .PL_STATUS_FILL_ROW k j 12287

/-- Whether a fill of a bank may write to a channel: the channel is in MEM (R203, R215), no refresh holds the bank (R181), and the stack
is not above 105 °C (R189). -/
def State.fillFree (s : State) (k pc bank : Nat) : Bool :=
  s.chMode k pc == 0 && !s.bankHeld k pc bank && decide (s.fld .PL_THERM_TEMP k 0 ≤ 105)

/-- R169, R172, R250: the rows that a whole-plot fill has written since it was seen last: 32 NORMAL beats and one activation for each in
each channel. -/
def State.fillRows (s : State) (p lo hi : Nat) : State :=
  let k := plotStack p
  let s1 := (s.trBulk (frontArb k) 41 ((hi - lo) * 64 * 32)).setFld .PL_STATUS_FILL_ROW k (plotBank p) hi
  let s2 := s1.each (List.range 64) (fun pc t => t.activate k pc (plotBank p) (hi - lo))
  s2.withHbm { s2.hbm with fills := s2.hbm.fills.map (fun x => if x.1 = p then (p, hi) else x) }

/-- PLOT_FILL_DONE (R169, R189): a whole-plot fill reaches `row`, from where it was, and ends with the last one; it waits while one of its
channels is not in MEM, and is paused while the stack is above 105 °C. -/
def execPlotFillDone (p row : Nat) (s : State) : Host.Outcome State Fault Refusal :=
  .next <|
    match s.hbm.fills.find? (fun x => x.1 == p) with
    | none => s
    | some (_, at_) =>
      if s.stackOn (plotStack p) = false ∨ row < at_ ∨
          (List.range 64).all (fun pc => s.fillFree (plotStack p) pc (plotBank p)) = false then s
      else if row < 12288 then s.fillRows p at_ row
      else (s.fillRows p at_ 12288).endFill p

/-- R171: PL_FILL.GO starts a range fill: 3 OFF, 2 NOT_READY, 1 BUSY while another runs on the stack. -/
def State.rangeFillGo (s : State) (k : Nat) : State :=
  let p := 48 * k + s.fld .PL_FILL_PLOT k 0
  if s.hbm.rangeFill.any (fun x => x.1 == k) then s.setFld .PL_FILL_RESULT k 0 1
  else if 48 ≤ s.fld .PL_FILL_PLOT k 0 ∨ s.plotState p = 0 then
    (s.setFld .PL_FILL_RESULT k 0 3).setFlag .PL_FILL_GO k 0 false
  else if s.plotState p ≠ 2 then (s.setFld .PL_FILL_RESULT k 0 2).setFlag .PL_FILL_GO k 0 false
  else (s.withHbm { s.hbm with rangeFill := (k, s.fld .PL_FILL_RANGE_BASE k 0 * 8) :: s.hbm.rangeFill }).setFlag .PL_FILL_GO k 0 true

/-- The accesses to a sector that came before a fill write to it are made first (R185); true where none is left. -/
def State.fillClear (s : State) (p : Nat) (l : HbmLoc) : Bool × State :=
  s.clearSector (s.hbm.accs.length + 1) ⟨.service, 0, 0⟩ p l true

/-- Sectors `lo` to `hi - 1` of a plot's offsets written by a range fill, in the class and as the requester of R171 and R250; a row takes
one activation (R172). -/
def State.fillSectors (s : State) (k p lo hi : Nat) : State :=
  let cls := if s.fld .PL_FILL_CLASS k 0 = 1 then 1 else 0
  let prot := s.plCtl .PL_CTL_PROT p = 1
  let w : W288 :=
    if prot then (if s.fld .PL_FILL_PATTERN k 0 = 0 then blankSector else encodeSector (List.replicate 8 ⟨0, false⟩))
    else 0
  let s1 := s.each (rangeFrom lo (hi - lo)) (fun i t =>
    let l := t.plotLoc p (i * 32)
    let u := t.trMove (frontArb k) l.pc 41 cls .unit 0
    if l.byte / 32 = 0 ∨ i = lo then u.activate k l.pc (plotBank p) 1 else u)
  if lo < hi then s1.fillRange p (lo * 32) (hi * 32 - 1) w else s1

/-- RANGE_FILL_DONE (R171, R185, R189): the range fill of a stack goes on up to sector `upto` of the plot's offsets, and after its last
sector GO clears with DONE; a plot that has left READY ends it. It waits where a channel it comes to is not in MEM or its bank
refreshed, and behind accesses that a sector holds. -/
def execRangeFillDone (k upto : Nat) (s : State) : Host.Outcome State Fault Refusal :=
  .next <|
    match s.hbm.rangeFill.find? (fun x => x.1 == k) with
    | none => s
    | some (_, next) =>
      let p := 48 * k + s.fld .PL_FILL_PLOT k 0
      let last := min (s.fld .PL_FILL_RANGE_LIMIT k 0 * 8 + 8) (plotSize / 32)
      let fin := fun (t : State) (r : Nat) =>
        ((t.withHbm { t.hbm with rangeFill := t.hbm.rangeFill.filter (fun x => x.1 != k) }).setFld .PL_FILL_RESULT k 0 r).setFlag
          .PL_FILL_GO k 0 false
      if s.plotState p = 0 then fin s 3
      else if last ≤ next then fin s 0
      else
        let hi := min last (max next upto)
        let locs := (rangeFrom next (hi - next)).map (fun i => s.plotLoc p (i * 32))
        if locs.all (fun l => s.fillFree k l.pc (plotBank p)) = false then s
        else
          let (free_, s1) := locs.foldl (fun (acc : Bool × State) l =>
            let (b, t) := acc.2.fillClear p l
            (acc.1 && b, t)) (true, s)
          if free_ = false then s1
          else
            let s2 := s1.fillSectors k p next hi
            if hi = last then fin s2 0
            else s2.withHbm { s2.hbm with rangeFill := s2.hbm.rangeFill.map (fun x => if x.1 = k then (k, hi) else x) }

/-- R174: every tagged plot of a table set and generation sets RETIRED. -/
def State.retireGen (s : State) (tset gen : Nat) : State :=
  s.each (List.range 384) (fun p t =>
    let k := plotStack p
    let j := plotBank p
    if t.flag .PL_CTL_TAGGED k j && t.fld .PL_TAG_TSET k j == tset && t.fld .PL_TAG_GEN k j == gen && t.stackOn k then
      t.setFlag .PL_STATUS_RETIRED k j true
    else t)

/-! ## Accesses that the controllers make (R180, R202, R609) -/

/-- The channel's held accesses (MU_CH.HELD). -/
def State.heldAccs (s : State) (stack pc : Nat) : List SectorAcc :=
  s.hbm.accs.filter (fun a => a.held && plotStack a.plot == stack && a.pc == pc)

/-- PL_STATUS.INFLIGHT of a plot: an admitted access is not complete (R184). -/
def State.plotInflight (s : State) (p : Nat) : Bool := s.hbm.accs.any (fun a => a.plot == p)

/-- The class of a requester's accesses: its context's for a stream (R269), NORMAL where the spec states none (log entry 152). -/
def State.reqClass (s : State) (r : PlotReq) : Nat :=
  match r with
  | .stream e x => min 2 (s.fld .ST_CTX_CFG_CLASS e x)
  | .list e x => min 2 (s.fld .ST_CTX_CFG_CLASS e x)
  | .scrub _ => 0
  | _ => 1

/-- The source code of a requester's accesses at FAB (R97), for those that make some. -/
def State.reqSrc (s : State) (r : PlotReq) (vi : Nat) : Option Nat :=
  match r with
  | .stream e _ => some (if e < 18 then s.clusterSrc e else 0x1000 + vi)
  | .list e _ => some (if e < 18 then s.clusterSrc e else 0x1000 + vi)
  | .gather c => some (s.clusterSrc c)
  | .core c _ => some (if c < 18 then s.clusterSrc c else 0x1000 + vi)
  | .bar2 _ => some (0x1000 + vi)
  | .herd src _ _ _ => some (0x2000 + src)
  | _ => none

/-- R180: an access to a device physical address is checked and admitted to the controller, or refused and logged; one
for a channel that already holds 256 accesses is not granted (R202), an invalidating write with no entry free waits (R233), and one
of another module needs its herd window (R106). One to tensor memory goes to its cluster's FAB (R59). -/
def State.plotArrive (s : State) (addr len : Nat) (write : Bool) (data : List PW) (vi : Nat) (phys : Bool)
    (pin : Option (Nat × Nat)) (req : PlotReq) (la : Nat) : State :=
  let f : Front := ⟨req, s.reqClass req, vi⟩
  match s.dpaTarget addr with
  | .unmapped => s.plotFault la 7 vi write phys
  | .tm l off => match s.reqSrc req vi with
    | some src => if len = 0 then s else s.fabArrive (s.physCluster l) f.cls src vi write off len data 1
    | none => s
  | .plot p off =>
    let refused := match req with
      | .herd src _ w _ => s.admitHerd src p write off len != some w
      | _ => false
    let v := match req with | .herd _ _ _ _ => none | _ => some vi
    if refused then (match req with | .herd src _ _ _ => s.hwRefuse src write addr len (s.hwReason src p off len) | _ => s)
    else if plotSize < off + len then s.plotFault la 7 vi write phys
    else match s.plotCheck p v write pin with
      | some r => s.plotFault la r vi write phys
      | none =>
        if (s.rangeLocs p off len).any (fun l => !s.trTakes (frontArb (plotStack p)) l.pc) then s
        else if write && reqInvalidates req && s.lcInvFull p off len then s
        else
          let inc := match req with
            | .herd _ _ w _ => herdInc (s.fld .WN_HW_CTL_CNT_MODE w 0) 1 off len
            | _ => 0
          s.enqueue p off len write data f inc la phys

/-- An access to a virtual address: translated, and then checked; an absent host page is asked for (R176, R178). -/
def State.virtArrive (s : State) (vi dva len : Nat) (write : Bool) (data : List PW) (pin : Option (Nat × Nat))
    (req : PlotReq) : State :=
  match s.translate vi dva write with
  | (.device pa _, s1) => s1.plotArrive pa len write data vi false pin req dva
  | (.host a _, s1) =>
    if len = 0 then s1
    else if write then s1.hostWrite (s1.fld .HQ_VI_CFG_PORT vi 0) a len data
    else s1.emit (.hostRead (s1.fld .HQ_VI_CFG_PORT vi 0) a len 0)
  | (.pri, s1) => if len = 0 then s1 else s1.askPage ⟨vi, dva / 65536, dva, write, len, data, pin, req, s1.now, false⟩
  | (.waits, s1) => s1
  | (.fail r, s1) => s1.plotFault dva r vi write false

/-- PLOT_ACCESS (R176, R178, R180): an access reaches a plot. -/
def execPlotAccess (phys : Bool) (addr len : Nat) (write : Bool) (data : List PW) (vi : Nat) (pin : Option (Nat × Nat))
    (req : PlotReq) (s : State) : Host.Outcome State Fault Refusal :=
  .next <|
    if phys then s.plotArrive addr len write data vi true pin req addr
    else s.virtArrive vi addr len write data pin req

/-- R178: the end of a page request for a waiting access: the fault is logged, and told to the requester whose own step waits. -/
def State.pageFail (s : State) (w : PageWait) (reason : Nat) : State :=
  let s1 := s.plotFault w.addr reason w.vi w.write false
  if w.len = 0 then s1.withHbm { s1.hbm with priFail := s1.hbm.priFail ++ [(w.vi, w.page, w.req, reason)] } else s1

/-- PRI_RESPONSE (R178, R186): the waiting walks of a page are retried, or fault with PRI_DENIED; one for a VI under
reset is discarded with the access. A retried walk that finds the page absent again faults. -/
def execPriResponse (vi page : Nat) (ok : Bool) (s : State) : Host.Outcome State Fault Refusal :=
  .next <|
    let mine := s.hbm.waits.filter (fun w => w.vi == vi && w.page == page && w.sent)
    let s1 := s.withHbm { s.hbm with waits := s.hbm.waits.filter (fun w => !(w.vi == vi && w.page == page && w.sent)) }
    if s.viResetting vi then s1.sendPages vi
    else (s1.each mine (fun w t =>
      if ok then
        match t.translate vi w.addr w.write with
        | (.pri, t1) => t1.pageFail w 1
        | (_, t1) => if w.len = 0 then t1 else t1.virtArrive vi w.addr w.len w.write w.data w.pin w.req
      else t.pageFail w 4)).sendPages vi

/-- PRI_TIMEOUT (R178): a request with no response within PL_PRI_CFG.TIMEOUT faults its accesses. -/
def execPriTimeout (vi page : Nat) (s : State) : Host.Outcome State Fault Refusal :=
  .next <|
    let limit := max 1 (s.fld .PL_PRI_CFG_TIMEOUT 0 0) * 1000
    let due := fun (w : PageWait) => w.vi == vi && w.page == page && w.sent && decide (limit ≤ s.now - w.since)
    let mine := s.hbm.waits.filter due
    let s1 := s.withHbm { s.hbm with waits := s.hbm.waits.filter (fun w => !(due w)) }
    (s1.each mine (fun w t => t.pageFail w 5)).sendPages vi

/-- R179: PL_TLB_INV.GO drops the named translations of a VI and applies its page-table root. -/
def State.tlbInvGo (s : State) : State :=
  let v := s.fld .PL_TLB_INV_VI 0 0
  let all := s.flag .PL_TLB_INV_ALL 0 0
  let lo := s.fld .PL_TLB_INV_START 0 0 * 65536
  let n := s.fld .PL_TLB_INV_CNT_COUNT 0 0 * 65536
  let s1 := s.applyShadow .PL_PT_ROOT v 0
  let hit := fun (e : TlbEntry) => e.vi == v && (all || decide (e.base < lo + n ∧ lo < e.base + e.size))
  s1.withHbm { s1.hbm with
    tlb := s1.hbm.tlb.filter (fun e => !(hit e)), invs := s1.hbm.invs ++ [⟨v, all, lo, n⟩] }

/-- TLB_INV_DONE (R179): every cache has dropped the entries, and GO clears. -/
def execTlbInvDone (s : State) : Host.Outcome State Fault Refusal :=
  .next <|
    match s.hbm.invs with
    | [] => s
    | _ :: t => (s.withHbm { s.hbm with invs := t }).setFlag .PL_TLB_INV_GO 0 0 false

/-- A bank held for 200 ns more: from now, or from the end of a hold that runs (R187). -/
def State.holdBank (s : State) (stack pc bank : Nat) : State :=
  let mine := fun (h : BankHold) => h.stack == stack && h.pc == pc && h.bank == bank
  let from_ := (s.hbm.holds.filter mine).foldl (fun m h => max m h.stop) s.now
  s.withHbm { s.hbm with holds := ⟨stack, pc, bank, from_ + 200⟩ :: s.hbm.holds.filter (fun h => !(mine h)) }

/-- REFRESH (R181): a bank's refresh holds it for 200 ns. -/
def execRefresh (stack pc bank : Nat) (s : State) : Host.Outcome State Fault Refusal :=
  .next <| if s.stackOn stack then s.holdBank stack pc bank else s

/-- PL_RFM.THRESH as it acts: the nearer limit of 256 to 8,192 (R182). -/
def State.rfmThresh (s : State) (stack : Nat) : Nat := max 256 (min 8192 (s.fld .PL_RFM_THRESH stack 0))

/-- REFRESH_MANAGEMENT (R182): a bank whose activation count has passed the threshold is held for 200 ns and its count
restarts at 0. -/
def execRefreshManagement (stack pc bank : Nat) (s : State) : Host.Outcome State Fault Refusal :=
  .next <|
    let k := (stack * 64 + pc) * 48 + bank
    if s.stackOn stack ∧ s.rfmThresh stack < sget (fun _ => 0) s.hbm.acts k then
      let s1 := s.holdBank stack pc bank
      s1.withHbm { s1.hbm with acts := sset (fun _ => 0) s1.hbm.acts k 0 }
    else s

/-- The accesses to its sector that were queued before an access. -/
def State.accsAhead (s : State) (a : SectorAcc) : List SectorAcc := (s.hbm.accs.takeWhile (fun b => b != a)).filter (fun b => sameSector a b)

/-- Whether a queued access can begin at its bank: no refresh holds it, and what was queued before it for its sector is nothing, or, for a
read, writes and reads that are granted too (R185, R609). -/
def State.accReady (s : State) (a : SectorAcc) : Bool :=
  !a.held && !a.own && !s.bankHeld (plotStack a.plot) a.pc (plotBank a.plot) &&
    (if a.write then (s.accsAhead a).isEmpty else (s.accsAhead a).all (fun b => !b.own && !b.held))

/-- R609: whether an URGENT access of its pseudo-channel that can begin goes before an access that is not URGENT. -/
def State.urgentFirst (s : State) (a : SectorAcc) : Bool :=
  s.reqClass a.req != 2 && s.hbm.accs.any (fun b => plotStack b.plot == plotStack a.plot && b.pc == a.pc && s.reqClass b.req == 2 && s.accReady b)

/-- R609: a read of a sector with earlier writes still queued is served from their data. -/
def State.serveForward (s : State) (a : SectorAcc) : State :=
  let s1 := (s.withHbm { s.hbm with accs := s.hbm.accs.erase a }).activate (plotStack a.plot) a.pc (plotBank a.plot) 1
  let later := s1.each ((s.accsAhead a).filter (fun b => b.write)) (fun b t => t.writeSector b.plot b.pc b.row b.sector b.mask b.data)
  let ws := (later.readSector a.plot a.pc a.row a.sector).1
  let s2 := (s1.readSector a.plot a.pc a.row a.sector).2
  (s2.withHbm { s2.hbm with rets := s2.hbm.rets ++ [⟨a.group, a.req, ws⟩] }).groupEnd a

/-- HBM_ACCESS (R609, R185): the oldest access of a group that is not held begins at its bank and completes: a write
commits, a read returns its sector. It waits for a refresh, for an URGENT access of its pseudo-channel, and, a write, for an earlier
access to its sector. `ue` says that the on-die ECC finds the sector uncorrectable. -/
def execHbmAccess (group : Nat) (ue : Bool) (s : State) : Host.Outcome State Fault Refusal :=
  .next <|
    match s.hbm.accs.find? (fun a => a.group == group && !a.held && !a.own) with
    | none => s
    | some a =>
      if s.accReady a = false ∨ s.urgentFirst a then s
      else
        let t := s.strikeSector a.plot a.pc a.row a.sector ue
        if (s.accsAhead a).any (fun b => b.write) then t.serveForward a else t.serveAcc a

/-- R202, R174: a channel returns to MEM: what it held is served in arrival order, but for what waits behind an access that its
requester's own step makes, or for a refresh; a read of a plot that has been retired is refused. -/
def State.chanRelease (s : State) (stack pc : Nat) : State :=
  let here := fun (a : SectorAcc) => a.held && plotStack a.plot == stack && a.pc == pc
  let gone := s.hbm.accs.filter (fun a => here a && s.retiredRead a)
  let dead := fun (a : SectorAcc) => gone.any (fun g => (g.group == a.group && !g.own && !a.own) || g == a)
  let s1 := (s.setFld .MU_CH_MODE stack pc 0).withHbm { s.hbm with
    accs := (s.hbm.accs.filter (fun a => !dead a)).map (fun a => if here a then { a with held := false } else a) }
  let s2 := s1.each (gone.filter (fun g => !g.own)) (fun g t => t.plotFault g.la 0xC g.vi false g.phys)
  s2.each ((s.hbm.accs.filter (fun a => here a && !a.own && !dead a)).map (fun a => { a with held := false })) (fun a t =>
    if t.bankHeld stack pc (plotBank a.plot) ∨ (t.hbm.accs.takeWhile (fun b => b != a)).any (fun b => sameSector a b) then t
    else t.serveAcc a)

/-- PL_TLB and controller state of a stack that loses its data: its plots are OFF and nothing is stored (R183, R189). A trace record that
waited there is lost (R49). -/
def State.clearStack (s : State) (k : Nat) : State :=
  let mine := fun (p : Nat) => plotStack p == k
  let s1 := s.withHbm { s.hbm with
    sectors := sdrop (fun x => mine (keyPlot x)) s.hbm.sectors
    bgBlank := (List.range 48).foldl (fun b j => if nbit b (48 * k + j) then b - 2 ^ (48 * k + j) else b) s.hbm.bgBlank
    accs := s.hbm.accs.filter (fun a => !(mine a.plot))
    fills := s.hbm.fills.filter (fun x => !(mine x.1))
    rangeFill := s.hbm.rangeFill.filter (fun x => x.1 != k)
    bad := s.hbm.bad.filter (fun x => !(mine (keyPlot x)))
    acts := sdrop (fun x => x / 48 / 64 == k) s.hbm.acts
    holds := s.hbm.holds.filter (fun h => h.stack != k) }
  let lost := s.hbm.accs.filterMap (fun a => match a.req with
    | .trace c => if mine a.plot then some c else none
    | _ => none)
  let s2 := s1.resetRegs (keyAt [.PL_CTL, .PL_TAG, .PL_STATUS, .PL_FILL, .PL_FILL_RANGE, .PL_THERM, .PL_RFM, .MU_READY, .MU_THERM,
    .MU_HOLD, .MU_HOLD_EXP, .MU_BUDGET_NS, .MU_SUSPECT, .MU_CH, .MU_STAT_FT, .MU_STAT, .MU_STAT_HEAD] k)
  s2.each lost (fun c t => t.traceLost c)

end Sys2Proof.Machine
end

