-- ==== Sys2Proof/Machine/Mules.lean ====
section
/-! DEFINITION. Mules: descriptors, row operations, mule windows, status, suspect rows, the checks of a command (R192 to R206,
R212 to R219). -/
namespace Sys2Proof.Machine

open Sys2Proof

/-! ## Descriptors (R192) -/

/-- A field of a mule descriptor. -/
def mdFld (d : BitVec 256) (lo w : Nat) : Nat := nfield d.toNat lo w
/-- OP. -/
def mdOp (d : BitVec 256) : Nat := mdFld d 0 8
/-- WINDOW. -/
def mdWindow (d : BitVec 256) : Nat := mdFld d 8 8
/-- PC. -/
def mdPc (d : BitVec 256) : Nat := mdFld d 16 6
/-- ROW_A. -/
def mdRowA (d : BitVec 256) : Nat := mdFld d 32 14
/-- ROW_B. -/
def mdRowB (d : BitVec 256) : Nat := mdFld d 46 14
/-- ROW_D. -/
def mdRowD (d : BitVec 256) : Nat := mdFld d 64 14
/-- DST_PC. -/
def mdDstPc (d : BitVec 256) : Nat := mdFld d 78 6
/-- DST_BANK. -/
def mdDstBank (d : BitVec 256) : Nat := mdFld d 84 6
/-- DIR. -/
def mdDir (d : BitVec 256) : Nat := mdFld d 90 1
/-- COUNT. -/
def mdCount (d : BitVec 256) : Nat := mdFld d 96 9
/-- PATTERN. -/
def mdPattern (d : BitVec 256) : Nat := mdFld d 128 64
/-- TAG. -/
def mdTag (d : BitVec 256) : Nat := mdFld d 192 16
/-- The fields that must be 0. -/
def mdReserved (d : BitVec 256) : Bool :=
  mdFld d 22 10 != 0 || mdFld d 60 4 != 0 || mdFld d 91 5 != 0 || mdFld d 105 7 != 0 || mdFld d 125 3 != 0 ||
    mdFld d 208 48 != 0

/-! ## Queues -/

/-- The number of a channel. -/
def chKey (stack pc : Nat) : Nat := stack * 64 + pc
/-- The commands queued on a channel, the head first. -/
def State.muQueue (s : State) (stack pc : Nat) : List MuleCmd :=
  (s.mule.queues.filter (fun e => e.1 == chKey stack pc)).map (fun e => e.2)
/-- The state with a channel's queue replaced. -/
def State.setMuQueue (s : State) (stack pc : Nat) (q : List MuleCmd) : State :=
  s.withMule { s.mule with
    queues := s.mule.queues.filter (fun e => e.1 != chKey stack pc) ++ q.map (fun m => (chKey stack pc, m)) }
/-- A command in progress: the head has begun and has not left the queue. -/
def State.muRunning (s : State) (stack pc : Nat) : Bool :=
  match s.muQueue stack pc with
  | m :: _ => m.begun || m.done.isSome
  | [] => false

/-! ## Status (R199, R219) -/

/-- One MU_STAT entry in a stack's ring. -/
def State.muStat (s : State) (stack status op pc window tag rows : Nat) : State :=
  let (k, s1) := s.ringNext .MU_STAT_HEAD_NEXT .MU_STAT_HEAD_WRAPS stack 32 (fun k => s.flag .MU_STAT_VALID stack k)
  let s2 := (s1.setFld .MU_STAT_FT_FT stack k s.now).setReg .MU_STAT stack k 0
  let s3 := ((s2.setFld .MU_STAT_STATUS stack k status).setFld .MU_STAT_OP stack k op).setFld .MU_STAT_PC stack k pc
  let s4 := ((s3.setFld .MU_STAT_WINDOW stack k window).setFld .MU_STAT_TAG stack k tag).setFld .MU_STAT_ROWS stack k rows
  s4.setFlag .MU_STAT_VALID stack k true

/-- The increment a descriptor asks for. -/
def State.muPost (s : State) (d : BitVec 256) : State :=
  if mdFld d 112 1 = 1 then
    let c := s.physCluster (mdFld d 113 4)
    if s.clusterOn c then s.postCount c (mdFld d 117 8) 1 else s
  else s

/-- R199: a command leaves its queue: its entry and its increment. -/
def State.muFinish (s : State) (stack pc : Nat) (m : MuleCmd) (status : Nat) : State :=
  (s.muStat stack status (mdOp m.desc) pc (mdWindow m.desc) (mdTag m.desc) m.rows).muPost m.desc

/-- R218: a row becomes suspect. -/
def State.setSuspect (s : State) (stack pc bank row status : Nat) : State :=
  if s.flag .MU_SUSPECT_VALID stack pc then
    if s.fld .MU_SUSPECT_BANK stack pc = bank ∧ s.fld .MU_SUSPECT_ROW stack pc = row then s
    else s.setFlag .MU_SUSPECT_ALLBANK stack pc true
  else
    let s1 := ((s.setReg .MU_SUSPECT stack pc 0).setFld .MU_SUSPECT_ROW stack pc row).setFld .MU_SUSPECT_BANK stack pc bank
    (s1.setFld .MU_SUSPECT_STATUS stack pc status).setFlag .MU_SUSPECT_VALID stack pc true

/-! ## Windows (R204 to R207) -/

/-- Whether a window names a channel. -/
def State.muNames (s : State) (w pc : Nat) : Bool := nbit (s.fld .MU_WIN_MASK_PCMASK w 0) pc
/-- The channels a window names. -/
def State.muMask (s : State) (w : Nat) : List Nat := (List.range 64).filter (s.muNames w)
/-- The channels that are in a window now. -/
def State.muMembers (s : State) (w : Nat) : List Nat :=
  let k := s.fld .MU_WIN_CTL_STACK w 0
  (s.muMask w).filter (fun pc => s.chMode k pc != 0 && s.fld .MU_CH_WINDOW k pc == w)

/-- R204: a window is CLOSED again when no channel is left in it. -/
def State.muSettle (s : State) (w : Nat) : State :=
  if s.muMembers w = [] then s.setFld .MU_WIN_CTL_STATE w 0 0 else s

/-- R205: the status of an opening. -/
def State.muOpenStatus (s : State) (w : Nat) : Nat :=
  let k := s.fld .MU_WIN_CTL_STACK w 0
  let b := s.fld .MU_WIN_CTL_BANK w 0
  let p := 48 * k + b
  if s.stackOn k = false then 0x13
  else if s.stackLevel k = 3 then 0x12
  else if 48 ≤ b ∨ s.plotState p ≠ 2 then 3
  else if s.plCtl .PL_CTL_PROT p = 1 then 1
  else if s.plCtl .PL_CTL_LAYOUT p ≠ 1 then 2
  else if s.plCtl .PL_CTL_OWNER_VI p ≠ s.fld .MU_WIN_CTL_OWNER_VI w 0 then 4
  else if (s.muMask w).any (fun pc => s.chMode k pc != 0) then 6
  else if s.fld .MU_WIN_MASK_PCMASK w 0 = 0 then 7
  else 0

/-- R205: a window opens: every named channel enters DRAIN, bound to its bank, with no row counted; MU_HOLD's last value
takes effect on the stack. -/
def State.muOpen (s : State) (w : Nat) : Nat × State :=
  let st := s.muOpenStatus w
  if st ≠ 0 then (st, s)
  else
    let k := s.fld .MU_WIN_CTL_STACK w 0
    let s1 := (s.applyShadow .MU_HOLD k 0).setFld .MU_WIN_CTL_STATE w 0 1
    (0, s1.each (s.muMask w) (fun pc t =>
      let t1 := (t.setFld .MU_CH_MODE k pc 1).setFld .MU_CH_WINDOW k pc w
      (t1.setFld .MU_CH_BANK k pc (s.fld .MU_WIN_CTL_BANK w 0)).setFld .MU_CH_ROWS k pc 0))

/-- The commands a channel has queued and not started are discarded with a status (R206, R209). -/
def State.muDiscard (s : State) (stack pc status : Nat) : State :=
  let q := s.muQueue stack pc
  let s1 := s.setMuQueue stack pc (q.filter (fun m => m.begun || m.done.isSome))
  s1.each (q.filter (fun m => !m.begun && m.done.isNone)) (fun m t => t.muFinish stack pc m status)

/-- R206, R209: a window closes: every channel in it enters EXIT and queued commands are discarded. -/
def State.muClose (s : State) (w status : Nat) : Nat × State :=
  if s.fld .MU_WIN_CTL_STATE w 0 ≠ 1 then (5, s)
  else
    let k := s.fld .MU_WIN_CTL_STACK w 0
    let s1 := s.setFld .MU_WIN_CTL_STATE w 0 2
    let s2 := s1.each (s.muMembers w) (fun pc t => (t.setFld .MU_CH_MODE k pc 3).muDiscard k pc status)
    (0, s2.muSettle w)

/-- The open windows of a stack. -/
def State.muOpenOn (s : State) (k : Nat) : List Nat :=
  (List.range 256).filter (fun w => s.fld .MU_WIN_CTL_STATE w 0 == 1 && s.fld .MU_WIN_CTL_STACK w 0 == k)

/-- The bank that CHAIN writes, if there is one. -/
def chainBank (d : BitVec 256) (k : Nat) : Option Nat :=
  if mdDir d = 0 then (if k < 47 then some (k + 1) else none) else (if 0 < k then some (k - 1) else none)

/-! ## Row operations (R193) -/

/-- The allowance of row activations for each 1 µs period at a stack's level (R208). -/
def muAllowance (level : Nat) : Nat :=
  match level with
  | 0 => 64 | 1 => 32 | 2 => 8 | _ => 0

/-- The activations a channel's mule work has charged beyond earlier periods' allowances. -/
def State.muUsed (s : State) (stack pc : Nat) : Nat := sget (fun _ => 0) s.mule.used (chKey stack pc)

/-- `n` activations are charged to a channel and counted at the bank (R208, R182). -/
def State.muCharge (s : State) (stack pc bank n : Nat) : State :=
  let s1 := s.activate stack pc bank n
  s1.withMule { s1.mule with used := sset (fun _ => 0) s1.mule.used (chKey stack pc) (s.muUsed stack pc + n) }

/-- The 32 data bytes of a RAW sector, as a number. -/
def State.rawData (s : State) (stack pc bank row sector : Nat) : Nat :=
  (s.sectorRaw stack pc bank row sector).toNat % 2 ^ 256

/-- The first `n` sectors of a row of a RAW plot written from data. -/
def State.putRow (s : State) (stack pc bank row n : Nat) (f : Nat → Nat) : State :=
  s.each (List.range n) (fun k t => t.setSectorRaw stack pc bank row k (BitVec.ofNat 288 (f k % 2 ^ 256)))

/-- What a mule operation does on each row: its code, the activations of a row in its own channel, whether it reads A
and B, and what it makes of a sector of A, a sector of B and the pattern. -/
structure MuleOp where
  code : Nat
  acts : Nat
  readsA : Bool
  readsB : Bool
  f : Nat → Nat → Nat → Nat

/-- Where row `i` of a command is written: pseudo-channel, bank and row. -/
def muDest (d : BitVec 256) (pc k i : Nat) : Nat × Nat × Nat :=
  match mdOp d with
  | 8 => (pc, (chainBank d k).getD k, mdRowA d + i)
  | 9 => (mdDstPc d, mdDstBank d, mdRowD d + i)
  | _ => (pc, k, mdRowD d + i)

/-- 256 one bits. -/
def sectorOnes : Nat := 2 ^ 256 - 1

/-- R193: the operations of codes 0x01 to 0x09. -/
def muOp : Nat → Option MuleOp
  | 1 => some ⟨1, 2, true, false, fun a _ _ => a⟩
  | 2 => some ⟨2, 1, false, false, fun _ _ p => p⟩
  | 3 => some ⟨3, 3, true, true, fun a b _ => a &&& b⟩
  | 4 => some ⟨4, 3, true, true, fun a b _ => a ||| b⟩
  | 5 => some ⟨5, 3, true, true, fun a b _ => a ^^^ b⟩
  | 6 => some ⟨6, 3, true, true, fun a b _ => a &&& (b ^^^ sectorOnes)⟩
  | 7 => some ⟨7, 2, true, false, fun a _ _ => a ^^^ sectorOnes⟩
  | 8 => some ⟨8, 2, true, false, fun a _ _ => a⟩
  | 9 => some ⟨9, 1, true, false, fun a _ _ => a⟩
  | _ => none

/-- Row step `i` up to the `n` first sectors of its destination: the source rows are read whole and the destination row is written. -/
def State.muWriteRow (s : State) (op : MuleOp) (d : BitVec 256) (stack pc k i n : Nat) : State :=
  let (dpc, dbank, drow) := muDest d pc k i
  let pat := (List.range 4).foldl (fun acc j => acc + mdPattern d * 2 ^ (64 * j)) 0
  s.putRow stack dpc dbank drow n (fun sec =>
    op.f (if op.readsA then s.rawData stack pc k (mdRowA d + i) sec else 0)
      (if op.readsB then s.rawData stack pc k (mdRowB d + i) sec else 0) pat)

/-- Row step `i`, with the activations it is charged. -/
def State.muRowStep (s : State) (op : MuleOp) (d : BitVec 256) (stack pc k i : Nat) : State :=
  let (dpc, dbank, _) := muDest d pc k i
  let s2 := (s.muWriteRow op d stack pc k i 32).muCharge stack pc k op.acts
  if mdOp d = 9 then s2.muCharge stack dpc dbank 1 else s2

/-- Whether row step `i` reads a suspect row (R218). -/
def State.muReadsSuspect (s : State) (op : MuleOp) (d : BitVec 256) (stack pc k i : Nat) : Bool :=
  (op.readsA && (s.suspect stack pc k (mdRowA d + i)).isSome) || (op.readsB && (s.suspect stack pc k (mdRowB d + i)).isSome)

/-- R209: a stack enters STOP: every open window on it closes with THERMAL_END. A command in progress ends after its row step with that
status, its rows done (log entry 153). -/
def State.muStopStack (s : State) (k : Nat) : State :=
  s.each (s.muOpenOn k) (fun w t =>
    let u := (t.muClose w 0x0E).2
    u.each (t.muMembers w) (fun pc v => match v.muQueue k pc with
      | m :: q => if m.begun ∧ m.done = none then v.setMuQueue k pc ({ m with done := some 0x0E } :: q) else v
      | [] => v))

/-- R216: the command in progress on a channel is abandoned at its next 32-B beat: how many sectors of the destination row of the step it
was in are written the model leaves free, none to all (log entry 153); a row left partly written is suspect. -/
def State.muAbandonRow (s : State) (stack pc : Nat) : State :=
  match s.muQueue stack pc with
  | [] => s
  | m :: _ => match muOp (mdOp m.desc) with
    | some op =>
      if m.begun ∧ m.done = none ∧ m.rows < mdCount m.desc then
        let k := s.fld .MU_WIN_CTL_BANK (mdWindow m.desc) 0
        let (x, s1) := s.free 16
        let n := x % 33
        let s2 := s1.muWriteRow op m.desc stack pc k m.rows n
        let (dpc, dbank, drow) := muDest m.desc pc k m.rows
        if n = 0 ∨ n = 32 then s2 else s2.setSuspect stack dpc dbank drow 0x0F
      else s
    | none => s

/-- R216, R590: the channels of a window return to MEM at once; the command in progress is abandoned, and the queued ones are dropped,
without status or increment. -/
def State.muAbandon (s : State) (w : Nat) : State :=
  let k := s.fld .MU_WIN_CTL_STACK w 0
  (s.each (s.muMembers w) (fun pc t => ((t.muAbandonRow k pc).setMuQueue k pc []).chanRelease k pc)).setFld .MU_WIN_CTL_STATE w 0 0

/-- R216: a VI reset acts on every window that the VI owns. -/
def State.muViReset (s : State) (v : Nat) : State :=
  s.each ((List.range 256).filter (fun w => s.fld .MU_WIN_CTL_OWNER_VI w 0 == v && s.fld .MU_WIN_CTL_STATE w 0 != 0))
    (fun w t => t.muAbandon w)

/-- R590: the retirement of a stack acts on every window on it. -/
def State.muStackGone (s : State) (k : Nat) : State :=
  s.each ((List.range 256).filter (fun w => s.fld .MU_WIN_CTL_STACK w 0 == k && s.fld .MU_WIN_CTL_STATE w 0 != 0))
    (fun w t => t.muAbandon w)

/-- Whether an issuer may act on a window (R197). -/
def State.muMayWin (s : State) (w vi : Nat) (svc : Bool) : Bool :=
  svc || vi == 0 || s.fld .MU_WIN_CTL_OWNER_VI w 0 == vi

/-- R212: whether a MUWIN_OPEN or MUWIN_CLOSE stroke of this edge has not fired yet: it goes before the commands of the edge. -/
def State.muWinDue (s : State) : Bool :=
  (List.range 256).any (fun i => s.strokeDue i && (s.fld .FT_STK_STATE_ACTION i 0 == 8 || s.fld .FT_STK_STATE_ACTION i 0 == 9))

/-- R197: a WINOPEN or WINCLOSE command is acted on: its status is one MU_STAT entry, and its increment is posted. -/
def State.muWinAct (s : State) (d : BitVec 256) : State :=
  let w := mdWindow d
  let (st, s1) := if mdOp d = 0x10 then s.muOpen w else s.muClose w 0x0D
  (s1.muStat (s.fld .MU_WIN_CTL_STACK w 0) st (mdOp d) 0 w (mdTag d) 0).muPost d

/-- R197, R212: a WINOPEN or WINCLOSE command acts at issue, after a stroke of the same edge. -/
def State.muWinCommand (s : State) (d : BitVec 256) : State :=
  if s.muWinDue then s.withMule { s.mule with winq := s.mule.winq ++ [d] } else s.muWinAct d

/-- R196, R197: a descriptor is issued: acted on at once, queued, or refused with QUEUE_FULL. The stack is the window's. -/
def State.muIssue (s : State) (d : BitVec 256) (vi : Nat) (svc : Bool) (core : Option Nat) : Nat × State :=
  let w := mdWindow d
  if mdOp d = 0x10 ∨ mdOp d = 0x11 then (0, if s.muMayWin w vi svc then s.muWinCommand d else s)
  else
    let k := s.fld .MU_WIN_CTL_STACK w 0
    let q := s.muQueue k (mdPc d)
    if 16 ≤ q.length then (0x0C, s) else (0, s.setMuQueue k (mdPc d) (q ++ [⟨d, vi, svc, core, false, none, 0⟩]))

/-- WINOPEN (R197): the window unit acts on a WINOPEN descriptor. -/
def execWinopen (d : BitVec 256) (vi : Nat) (svc : Bool) (s : State) : Host.Outcome State Fault Refusal :=
  .next <| if mdOp d = 0x10 ∧ s.muMayWin (mdWindow d) vi svc then s.muWinCommand d else s

/-- WINCLOSE (R197): the window unit acts on a WINCLOSE descriptor. -/
def execWinclose (d : BitVec 256) (vi : Nat) (svc : Bool) (s : State) : Host.Outcome State Fault Refusal :=
  .next <| if mdOp d = 0x11 ∧ s.muMayWin (mdWindow d) vi svc then s.muWinCommand d else s

/-- R192: MU_CMD_GO queues the descriptor that MU_CMD holds. -/
def State.muCmdGo (s : State) (vi : Nat) (svc : Bool) : State :=
  let d := (List.range 4).foldl (fun acc k => acc + (s.reg .MU_CMD k 0).toNat * 2 ^ (64 * k)) 0
  let (r, s1) := s.muIssue (BitVec.ofNat 256 d) vi svc none
  (s1.setFld .MU_CMD_GO_RESULT 0 0 r).setFlag .MU_CMD_GO_GO 0 0 false

/-- R205, R206, R212: MU_WIN_CMD opens or closes its window; GO stays set while a stroke of the edge goes first. -/
def State.muWinCmd (s : State) : State :=
  if s.muWinDue then s.setFlag .MU_WIN_CMD_GO 0 0 true
  else
    let w := s.fld .MU_WIN_CMD_WINDOW 0 0
    let (st, s1) := if s.flag .MU_WIN_CMD_CLOSE 0 0 then s.muClose w 0x0D else s.muOpen w
    (s1.setFld .MU_WIN_CMD_RESULT 0 0 st).setFlag .MU_WIN_CMD_GO 0 0 false

/-- R212: once the strokes of an edge have fired, MU_WIN_CMD and then the window commands that waited for them act. -/
def State.muWinPending (s : State) : State :=
  if s.muWinDue then s
  else
    let s1 := if s.flag .MU_WIN_CMD_GO 0 0 then s.muWinCmd else s
    let s2 := s1.withMule { s1.mule with winq := [] }
    s2.each s1.mule.winq (fun d t => t.muWinAct d)

/-! ## Checks at the head of a queue (R198) -/

/-- The limit of rows of a window: 0 acts as 1, and more than 4,096 as 4,096 (R12). -/
def State.muLimit (s : State) (w : Nat) : Nat := max 1 (min 4096 (s.fld .MU_WIN_CTL_LIMIT w 0))

/-- The row numbers a command's operation reads or writes. -/
def mdRows (d : BitVec 256) : List Nat :=
  match mdOp d with
  | 1 => [mdRowA d, mdRowD d]
  | 2 => [mdRowD d]
  | 7 => [mdRowA d, mdRowD d]
  | 8 => [mdRowA d]
  | 9 => [mdRowA d, mdRowD d]
  | _ => [mdRowA d, mdRowB d, mdRowD d]

/-- R198: the plots a command touches. -/
def State.muPlots (s : State) (stack : Nat) (d : BitVec 256) : List Nat :=
  let k := s.fld .MU_WIN_CTL_BANK (mdWindow d) 0
  let own := if k < 48 then [48 * stack + k] else []
  if mdOp d = 8 then own ++ (match chainBank d k with | some b => [48 * stack + b] | none => [])
  else if mdOp d = 9 then own ++ (if mdDstBank d < 48 then [48 * stack + mdDstBank d] else [])
  else own

/-- R198, R200, R219: the status a command at the head is refused with: the first of the status table that applies, or 0
if none does. -/
def State.muCheck (s : State) (stack pc : Nat) (m : MuleCmd) : Nat :=
  let d := m.desc
  let w := mdWindow d
  let k := s.fld .MU_WIN_CTL_BANK w 0
  let ps := s.muPlots stack d
  let owner := s.fld .MU_WIN_CTL_OWNER_VI w 0
  if ps.any (fun p => s.plCtl .PL_CTL_PROT p == 1) then 1
  else if ps.any (fun p => s.plCtl .PL_CTL_LAYOUT p != 1) then 2
  else if ps.any (fun p => s.plotState p != 2) then 3
  else if ps.any (fun p => s.plCtl .PL_CTL_OWNER_VI p != owner) || m.svc || !(m.vi == owner || m.vi == 0) then 4
  else if s.fld .MU_WIN_CTL_STATE w 0 ≠ 1 ∨ s.muNames w pc = false ∨ s.chMode stack pc = 0 then 5
  else if mdOp d = 0 ∨ 9 < mdOp d ∨ mdReserved d then 7
  else if mdCount d = 0 ∨ 256 < mdCount d ∨ (mdRows d).any (fun r => decide (12287 < r + mdCount d - 1)) then 8
  else if 48 ≤ k ∨ s.fld .MU_CH_BANK stack pc ≠ k ∨ (mdOp d = 8 ∧ (chainBank d k).isNone) ∨
      (mdOp d = 9 ∧ 48 ≤ mdDstBank d) then 9
  else if mdOp d = 9 ∧ s.chMode stack (mdDstPc d) ≠ 2 then 0x0A
  else if s.muLimit w < s.fld .MU_CH_ROWS stack pc + mdCount d then 0x0B
  else 0

end Sys2Proof.Machine
end

