-- ==== Sys2Proof/Machine/Cache.lean ====
section
/-! DEFINITION. The lookup cache: lookups, miss registers, fills, deliveries, partitions, LCFLUSH and LCINVAL (R220 to
R248). -/
namespace Sys2Proof.Machine

open Sys2Proof

/-! ## Lines -/

/-- The line of a slice that holds a line address. -/
def State.lcLine (s : State) (slice la : Nat) : Option LcLine :=
  s.lc.lines.find? (fun (l : LcLine) => l.slice == slice && l.set == lcSet la && l.tag == la / 512)

/-- The miss register of a line address in a slice. -/
def State.lcReg (s : State) (slice la : Nat) : Option LcReg :=
  s.lc.regs.find? (fun (r : LcReg) => r.slice == slice && r.line == la)

/-- The way of a set is held by an active miss register. -/
def State.lcHeld (s : State) (slice set way : Nat) : Bool :=
  s.lc.regs.any (fun (r : LcReg) => r.slice == slice && lcSet r.line == set && r.way == way)

/-- A line at a way of a set. -/
def State.lcAt (s : State) (slice set way : Nat) : Option LcLine :=
  s.lc.lines.find? (fun (l : LcLine) => l.slice == slice && l.set == set && l.way == way)

/-- R229: the way a new line takes: the lowest invalid one, else the lowest whose reference bit is clear, else the
lowest; never one that a miss register holds. -/
def State.lcVictim (s : State) (slice set : Nat) : Option Nat :=
  let free := (List.range 12).filter (fun w => !(s.lcHeld slice set w))
  match free.find? (fun w => (s.lcAt slice set w).isNone) with
  | some w => some w
  | none =>
    match free.find? (fun w => match s.lcAt slice set w with | some l => !l.ref | none => true) with
    | some w => some w
    | none => free.head?

/-- R229: a hit or an install sets the way's reference bit; when all 12 would be set, every other one is cleared. -/
def State.lcTouch (s : State) (slice set way : Nat) : State :=
  let mine := fun (l : LcLine) => l.slice == slice && l.set == set
  let others := s.lc.lines.filter (fun (l : LcLine) => mine l && l.way != way && l.ref)
  let full := decide (others.length = 11)
  s.withLc { s.lc with
    lines := s.lc.lines.map (fun (l : LcLine) =>
      if mine l then (if l.way = way then { l with ref := true } else if full then { l with ref := false } else l)
      else l) }

/-- R160: an uncorrectable error in a line that a spare frame serves is counted against the spare. -/
def State.lcStrike (s : State) (l : LcLine) : State :=
  match (List.range 16).find? (fun x => sget (fun _ => 0) s.lc.spares (l.slice * 16 + x) == l.set * 16 + l.way + 1) with
  | some x => s.strikeSpare (spareKey 1 l.slice 0 x)
  | none => s

/-- The words of one valid sector of a line, decoded; an uncorrectable one is invalidated (R245). -/
def State.lcReadWords (s : State) (l : LcLine) (k : Nat) : List W40 → List PW × State
  | [] => ([], s)
  | w :: t =>
    let pa := l.la * 128 + k * 32
    let (p, s1) := s.tallyWord (l.slice / 32) 2 pa .ueLc (originLc l.slice l.set l.way k) w
    let s0 := if (decodeWord w).cls = .ue then s1.lcStrike l else s1
    let (r, s2) := s0.lcReadWords l k t
    (p :: r, s2)

/-- One sector read from the cache. -/
def State.lcReadSector (s : State) (l : LcLine) (k : Nat) : List PW × State :=
  let raw := (l.data.drop (8 * k)).take 8
  let (ws, s1) := s.lcReadWords l k raw
  if raw.any (fun w => (decodeWord w).cls == .ue) then
    (ws, s1.lcDrop (fun x => if x.slice = l.slice ∧ x.set = l.set ∧ x.way = l.way then 2 ^ k else 0))
  else (ws, s1)

/-- Several sectors read from the cache, each with its number. -/
def State.lcReadSectors (s : State) (l : LcLine) : List Nat → List (Nat × List PW) × State
  | [] => ([], s)
  | k :: t =>
    let (ws, s1) := s.lcReadSector l k
    let (r, s2) := s1.lcReadSectors l t
    ((k, ws) :: r, s2)

/-- A sector installed at a way (R230): a new line if the way holds another tag. -/
def State.lcInstall (s : State) (slice la way k : Nat) (ws : List PW) : State :=
  let set := lcSet la
  let tag := la / 512
  let new : LcLine := ⟨slice, set, way, encodeWord ⟨BitVec.ofNat 32 tag, false⟩, 0, false, List.replicate 32 0⟩
  let old : LcLine :=
    match s.lcAt slice set way with
    | some l => if l.tag = tag then l else new
    | none => new
  let l : LcLine := { old with
    valid := old.valid ||| 2 ^ k
    data := old.data.take (8 * k) ++ ws.map encodeWord ++ old.data.drop (8 * k + 8) }
  let s1 := s.withLc { s.lc with
    lines := l :: s.lc.lines.filter (fun (x : LcLine) => !(x.slice == slice && x.set == set && x.way == way)) }
  s1.lcTouch slice set way

/-- The sectors of a line that bytes `off` to `off + len - 1` of the line touch (R221). -/
def needMask (addr len : Nat) : Nat := if len = 0 then 0 else lineMask (addr / 128) addr (addr + len - 1)

/-- The sector numbers in a mask. -/
def sectorsIn (m : Nat) : List Nat := (List.range 4).filter (nbit m)

/-- R226: the lookups of bytes of one line that an access is handled as (R221): address and length of each. -/
def lineParts : Nat → Nat → Nat → List (Nat × Nat)
  | 0, _, _ => []
  | fuel + 1, addr, len =>
    if len = 0 then []
    else
      let n := min len (128 - addr % 128)
      (addr, n) :: lineParts fuel (addr + n) (len - n)

/-- Whether a read logged an uncorrectable error (R141). -/
def ueSeen (s t : State) : Bool :=
  s.reg .IN_UE_HEAD 0 0 != t.reg .IN_UE_HEAD 0 0 || s.reg .IN_UE_HEAD 1 0 != t.reg .IN_UE_HEAD 1 0

/-- What a step has sent since state `s` carries words whose uncorrectable error it detected (R283). -/
def State.lcFresh (t s : State) : State :=
  if ueSeen s t then
    let n := s.lc.rets.length
    t.withLc { t.lc with rets := t.lc.rets.take n ++ (t.lc.rets.drop n).map (fun (r : LcRet) => { r with ue := true }) }
  else t

/-! ## Lookups -/

/-- R224, R233: whether a VI's partition is being swept. -/
def State.lcSweeping (s : State) (v : Nat) : Bool := s.flag .LC_PART_STATE_SWEEPING v 0

/-- R233: an invalidating write that has not committed covers a sector that is needed. -/
def State.lcCovered (s : State) (p addr len : Nat) : Bool :=
  let lo := addr / 32 * 32
  let hi := addr + len - 1
  s.hbm.accs.any (fun (a : SectorAcc) =>
    a.write && reqInvalidates a.req && a.plot == p &&
      (let pa := s.sectorDpa p a.pc a.row a.sector
       decide (lo ≤ pa + 31 ∧ pa ≤ hi)))

/-- R220: the requesters whose reads look up the cache. -/
def looksUp : PlotReq → Bool
  | .gather _ => true
  | .stream _ _ => true
  | .core _ _ => true
  | _ => false

/-- R220: whether a lookup of a requester installs: a steer core's always does. -/
def lcAllocs (r : PlotReq) (alloc : Bool) : Bool :=
  match r with
  | .core _ _ => true
  | _ => alloc

/-- A transfer from the cache. -/
def State.lcSend (s : State) (r : LcRet) : State := s.withLc { s.lc with rets := s.lc.rets ++ [r] }

/-- A delivery to one requester. -/
def State.lcDeliver (s : State) (w : LcWaiter) (sectors : List (Nat × List PW)) : State :=
  if sectors.isEmpty then s else s.lcSend ⟨none, [w], sectors, .sectors, false⟩

/-- R228: whether a free miss register, or a free waiter slot of the line's register, is open to a class. -/
def State.lcRoom (s : State) (slice la cls : Nat) : Bool :=
  match s.lcReg slice la with
  | some r => decide (r.waiters.length < if cls = 2 then 64 else 60)
  | none => decide ((s.lc.regs.filter (fun (r : LcReg) => r.slice == slice)).length < if cls = 2 then 256 else 248)

/-- The transfers of a line's fills that wait at their point are raised to a class (R227). -/
def State.lcRaise (s : State) (slice la cls : Nat) : State :=
  s.setTrReqs (s.tr.reqs.map (fun (r : TrReq) =>
    match r.owner with
    | .fill i l _ => if i = slice ∧ l = la ∧ r.holder = false then { r with cls := max r.cls cls } else r
    | _ => r))

/-- R227, R250: the fill read of a sector is presented at its stack's arbiter, as requester 32 or 33, in the class of its lookup. Where its
channel is not in MEM, or a refresh holds its bank, it comes to wait at the controller. -/
def State.lcFill (s : State) (slice la p k cls : Nat) : State :=
  let l := s.plotLoc p (la * 128 + k * 32 - plotDpa p 0)
  let f : Front := ⟨.cache slice, cls, 0⟩
  let s1 := s.trPresent (frontArb (plotStack p)) l.pc (s.frontIdx f.req) cls 1 (.fill slice la k) 0
  if s1.partReady f p l false then s1 else (s1.admitParts f p [l] false).2

/-- R227: a lookup that misses allocates a miss register, or joins one; its present sectors are delivered, and each absent one that is not
pending yet is fetched. -/
def State.lcMiss (s : State) (slice la p : Nat) (w : LcWaiter) (way : Nat) (present : Nat) (l : Option LcLine) : State :=
  let s1 := s.lcCount slice (if l.isNone then 1 else 2) 1
  let s2 := if l.isNone ∧ (s1.lcReg slice la).isNone then
      s1.withLc { s1.lc with lines := s1.lc.lines.filter (fun (x : LcLine) =>
        !(x.slice == slice && x.set == lcSet la && x.way == way)) }
    else s1
  let (got, s3) := match l with
    | some x => s2.lcReadSectors x (sectorsIn (w.need &&& present))
    | none => ([], s2)
  let s4 := s3.lcDeliver w got
  let w1 : LcWaiter := { w with need := w.need - (w.need &&& present) }
  let r : LcReg := (s4.lcReg slice la).getD ⟨slice, la, way, p, 0, 0, [], []⟩
  let new := w1.need - (w1.need &&& r.pend)
  let r1 : LcReg := { r with pend := r.pend ||| w1.need, waiters := r.waiters ++ [w1] }
  let s5 := s4.withLc { s4.lc with
    regs := if (s4.lcReg slice la).isSome then s4.lc.regs.replace r r1 else s4.lc.regs ++ [r1] }
  (s5.lcRaise slice la w.cls).each (sectorsIn new) (fun k t => t.lcFill slice la p k w.cls)

/-- A lookup refused with RETRY (R228). -/
def State.lcAgain (s : State) (slice : Nat) (w : LcWaiter) : State :=
  (s.lcCount slice 3 1).withLc { s.lc with retries := s.lc.retries ++ [⟨slice, w⟩] }

/-- R246: the tags of a set are read: a corrected error is counted; an uncorrectable one is counted and logged and invalidates the set. -/
def State.lcTags (s : State) (slice set : Nat) : State :=
  let mine := s.lc.lines.filter (fun (l : LcLine) => l.slice == slice && l.set == set)
  let s1 := s.each mine (fun l t =>
    (t.tallyWord (slice / 32) 2 (l.la * 128) .ueLc (originLc slice set l.way 0) l.tagWord).2)
  if mine.any (fun l => (decodeWord l.tagWord).cls == .ue) then
    s1.lcDrop (fun l => if l.slice = slice ∧ l.set = set then 15 else 0)
  else s1

/-- A lookup that its slice has accepted (R225 to R229, R246): a hit, a miss, or RETRY. -/
def State.lcServe (s0 : State) (slice p : Nat) (w : LcWaiter) : State :=
  let la := w.addr / 128
  let s := s0.lcTags slice (lcSet la)
  let l := s.lcLine slice la
  let present := match l with | some x => x.valid | none => 0
  if w.need - (w.need &&& present) = 0 then
    match l with
    | some x =>
      let s1 := (s.lcCount slice 0 1).lcTouch slice x.set x.way
      let (got, s2) := s1.lcReadSectors x (sectorsIn w.need)
      s2.lcDeliver w got
    | none => s
  else
    let way := match l with
      | some x => some x.way
      | none => match s.lcReg slice la with
        | some r => some r.way
        | none => s.lcVictim slice (lcSet la)
    match way with
    | some k => if s.lcRoom slice la w.cls then s.lcMiss slice la p w k present l else s.lcAgain slice w
    | none => s.lcAgain slice w

/-- A lookup that its slice has accepted. -/
def State.lcAtSlice (s : State) (slice p : Nat) (w : LcWaiter) : State := (s.lcServe slice p w).lcFresh s

/-- R222, R224, R233: whether a lookup goes to its stack and not to the slice. -/
def State.lcBypasses (s : State) (p : Nat) (w : LcWaiter) : Bool :=
  let v := s.plCtl .PL_CTL_OWNER_VI p
  !lcAllocs w.req w.alloc || s.lcSweeping v || s.lcCovered p w.addr w.len || (s.lcSlice v (w.addr / 128)).isNone

/-- A lookup that bypasses: the slice it would use counts it. -/
def State.lcPass (s : State) (p : Nat) (w : LcWaiter) : State :=
  match s.lcSlice (s.plCtl .PL_CTL_OWNER_VI p) (w.addr / 128) with
  | some i => s.lcCount i 6 1
  | none => s

/-- What a bypassing lookup of a unit's own step reads: its whole sectors, straight from the stack, once the stack can give them. -/
def State.lcDirect (s : State) (p : Nat) (w : LcWaiter) : State :=
  let a := w.addr / 32 * 32
  let ks := sectorsIn (needMask w.addr w.len)
  match s.frontRead ⟨w.req, w.cls, w.vi⟩ p (a - plotDpa p 0) (32 * ks.length) with
  | ((.go, d), s1) => (s1.lcSend ⟨none, [w], ks.zipIdx.map (fun (k, n) => (k, (d.drop (8 * n)).take 8)), .sectors, false⟩).lcFresh s
  | ((.waits, _), s1) => s1
  | ((.expired pc, _), s1) => s1.lcSend ⟨none, [w], [], .expired pc, false⟩

/-- A lookup that has passed the checks of R225 comes to its slice and waits there to be accepted (R226), or bypasses. -/
def State.lcPlace (s : State) (p : Nat) (w : LcWaiter) : State :=
  if s.lcBypasses p w then
    let s1 := s.lcPass p w
    if w.own then s1.lcDirect p w
    else s1.enqueue p (w.addr - plotDpa p 0) w.len false [] ⟨w.req, w.cls, w.vi⟩ 0 w.la w.phys
  else match s.lcSlice (s.plCtl .PL_CTL_OWNER_VI p) (w.addr / 128) with
    | some i => s.withLc { s.lc with queue := s.lc.queue ++ [⟨i, { w with need := needMask w.addr w.len }⟩] }
    | none => s

/-- R220, R225: a lookup is presented: one that a plot refuses does not reach the cache, and one of a requester that never looks up goes to
the stack. -/
def State.lcPresent (s : State) (w : LcWaiter) : State :=
  match s.dpaTarget w.addr with
  | .plot p off =>
    if looksUp w.req = false then s.plotArrive w.addr w.len false [] w.vi w.phys w.pin w.req w.la
    else
      match (if plotSize < off + w.len then some 7 else s.plotCheck p (some w.vi) false w.pin) with
      | some r => (s.plotFault w.la r w.vi false w.phys).lcSend ⟨none, [w], [], .refused r, false⟩
      | none => s.lcPlace p w
  | _ => s.plotArrive w.addr w.len false [] w.vi w.phys w.pin w.req w.la

/-- R226: the lookup that a slice takes next: the oldest URGENT one, else the oldest. -/
def State.lcNext (s : State) (slice : Nat) : Option LcLook :=
  let mine := s.lc.queue.filter (fun (x : LcLook) => x.slice == slice)
  match mine.find? (fun (x : LcLook) => x.waiter.cls == 2) with
  | some x => some x
  | none => mine.head?

/-- R226: one TMCK cycle of a slice: it accepts one lookup. One whose way to the slice has closed meanwhile is placed anew. -/
def State.lcAccept (s : State) (slice : Nat) : State :=
  match s.lcNext slice with
  | none => s
  | some x =>
    let s1 := s.withLc { s.lc with queue := s.lc.queue.erase x }
    match s1.dpaTarget x.waiter.addr with
    | .plot p _ =>
      if s1.lcBypasses p x.waiter ∨ s1.lcSlice (s1.plCtl .PL_CTL_OWNER_VI p) (x.waiter.addr / 128) ≠ some slice then
        (if x.waiter.own then s1 else s1.lcPlace p x.waiter)
      else s1.lcAtSlice slice p x.waiter
    | _ => s1

/-- A bit of a stored tag word flips. -/
def State.lcFlipTag (s : State) (slice set way bit : Nat) : State :=
  s.withLc { s.lc with lines := s.lc.lines.map (fun (l : LcLine) =>
    if l.slice = slice ∧ l.set = set ∧ l.way = way then { l with tagWord := l.tagWord ^^^ BitVec.ofNat 40 (2 ^ bit) } else l) }

/-- The lookups of an access, one for each line (R221). -/
def LcAsk.looks (a : LcAsk) : List LcWaiter :=
  (lineParts (a.len / 128 + 2) a.addr a.len).map (fun (x, n) =>
    ⟨a.req, a.cluster, a.vi, min a.cls 2, a.alloc, a.shared, x, n, a.pin, 0, x, true, false⟩)

/-- LC_LOOKUP (R220, R221, R225 to R229): one TMCK cycle of the slices: lookups are presented, and each slice accepts one of those that
wait. `upset` are bits of stored tags that have flipped, by slice, set, way and bit (R246). -/
def execLcLookup (asks : List LcAsk) (upset : List (Nat × Nat × Nat × Nat)) (s : State) : Host.Outcome State Fault Refusal :=
  .next <|
    let s1 := s.each upset (fun (i, set, way, bit) t => t.lcFlipTag i set way bit)
    let s2 := s1.each (asks.flatMap LcAsk.looks) (fun w t => t.lcPresent w)
    s2.each ((s2.lc.queue.map (fun (x : LcLook) => x.slice)).eraseDups) (fun i t => t.lcAccept i)

/-- LC_RETRY (R228): the oldest lookup that a slice refused is presented again, in its class, and the slice accepts a lookup. -/
def execLcRetry (slice : Nat) (s : State) : Host.Outcome State Fault Refusal :=
  .next <|
    match s.lc.retries.find? (fun (r : LcLook) => r.slice == slice) with
    | none => s
    | some r =>
      let s1 := s.withLc { s.lc with retries := s.lc.retries.erase r }
      (s1.lcPresent r.waiter).lcAccept slice

/-! ## Fills (R230, R231) -/

/-- A waiter with one more sector. -/
def LcWaiter.take (w : LcWaiter) (k : Nat) : LcWaiter := if nbit w.need k then { w with need := w.need - 2 ^ k } else w

/-- The die of the unit that a lookup serves: a cluster's, or that of an I/O die's stream engine or a herd core. -/
def LcWaiter.die (w : LcWaiter) : Nat := if w.cluster < 18 then dieOf w.cluster else w.cluster % 2

/-- R231: the waiters that share the multicast of an arriving sector: the SHARED ones, where waiters of several clusters hold the register. -/
def LcReg.shared (r : LcReg) (k : Nat) : List LcWaiter :=
  if 1 < ((r.waiters.map (fun (w : LcWaiter) => w.cluster)).eraseDups).length then
    r.waiters.filter (fun (w : LcWaiter) => w.shared && nbit w.need k)
  else []

/-- R230, R231: an arriving sector is delivered to every waiter that asked for it: one copy of a multicast for each die of its takers, and
each other waiter its own. -/
def State.lcHandOut (s : State) (r : LcReg) (k : Nat) (ws : List PW) : State :=
  let sh := r.shared k
  let rest := r.waiters.filter (fun (w : LcWaiter) => nbit w.need k && !sh.contains w)
  let s1 := if sh.isEmpty then s else s.lcCount r.slice 4 1
  let s2 := s1.each (sh.map LcWaiter.die).eraseDups (fun d t =>
    t.lcSend ⟨some d, sh.filter (fun (w : LcWaiter) => w.die == d), [(k, ws)], .sectors, false⟩)
  s2.each rest (fun w t => t.lcDeliver w [(k, ws)])

/-- R230: an arriving sector is delivered, and installed unless a write, an LCFLUSH, a sweep or its poison forbids it; the register is freed
with its last pending sector. -/
def State.lcArrive (s : State) (r : LcReg) (k : Nat) (ws : List PW) : State :=
  let owner := s.plCtl .PL_CTL_OWNER_VI r.plot
  let inst := !nbit r.noInst k && r.marks.isEmpty && !s.lcSweeping owner && !ws.any (fun w => w.poison)
  let s1 := if inst then s.lcInstall r.slice r.line r.way k ws else s
  let s2 := s1.lcHandOut r k ws
  let r1 : LcReg := { r with
    pend := r.pend - (r.pend &&& 2 ^ k), noInst := r.noInst - (r.noInst &&& 2 ^ k)
    waiters := (r.waiters.map (fun (w : LcWaiter) => w.take k)).filter (fun (w : LcWaiter) => w.need != 0) }
  s2.withLc { s2.lc with
    regs := if r1.pend = 0 then s2.lc.regs.filter (fun x => x != r) else s2.lc.regs.replace r r1 }

/-- R248: a register is freed with its fills not delivered, and each waiter's lookup ends so. -/
def State.lcFree (s : State) (r : LcReg) (e : LcEnd) : State :=
  let mine := fun (o : TrOwner) => match o with | .fill i la _ => i == r.slice && la == r.line | _ => false
  let here := fun (a : SectorAcc) => a.own && a.req == .cache r.slice && s.sectorDpa a.plot a.pc a.row a.sector / 128 == r.line
  let s1 := (s.withLc { s.lc with regs := s.lc.regs.filter (fun x => x != r) }).setTrReqs
    (s.tr.reqs.filter (fun (x : TrReq) => x.holder || !mine x.owner))
  let s2 := s1.withHbm { s1.hbm with accs := s1.hbm.accs.filter (fun a => !here a) }
  s2.each r.waiters (fun w t => t.lcSend ⟨none, [w], [], e, false⟩)

/-- R248: a fill that its stack refuses: each waiter is refused. -/
def State.lcFillRefused (s : State) (r : LcReg) (reason : Nat) : State :=
  (s.each r.waiters (fun w t => t.plotFault w.la reason w.vi false w.phys)).lcFree r (.refused reason)

/-- LC_FILL_ARRIVE (R230, R203, R248): a pending sector of a line arrives from its stack. While its channel is not in MEM it waits, up to
the hold limit. `ue` says that the on-die ECC finds the sector uncorrectable. -/
def execLcFillArrive (slice la k : Nat) (ue : Bool) (s : State) : Host.Outcome State Fault Refusal :=
  .next <|
    match s.lcReg slice la with
    | none => s
    | some r =>
      if nbit r.pend k = false then s
      else
        let o := la * 128 + k * 32 - plotDpa r.plot 0
        let f : Front := ⟨.cache slice, 0, 0⟩
        match (if s.admitted f r.plot o 32 false then none else s.plotCheck r.plot none false none) with
        | some x => s.lcFillRefused r x
        | none =>
          let l := s.plotLoc r.plot o
          match s.admitParts f r.plot [l] false with
          | (.go, s1) =>
            let (ws, s2) := (s1.strikeSector r.plot l.pc l.row (l.byte / 32) ue).readSector r.plot l.pc l.row (l.byte / 32)
            (s2.lcArrive r k ws).lcFresh { s1 with lc := s2.lc }
          | (.waits, s1) => s1
          | (.expired pc, s1) => s1.lcFree r (.expired pc)

/-! ## Reads that a unit's own step makes through the cache -/

/-- Whether a lookup is one that an access made. -/
def LcWaiter.sameAs (w x : LcWaiter) : Bool := w.own && w.req == x.req && w.vi == x.vi && w.addr == x.addr && w.len == x.len

/-- Whether a lookup is on its way: it waits at its slice or a miss register, or to be presented again. -/
def State.lcWaits (s : State) (w : LcWaiter) : Bool :=
  s.lc.queue.any (fun (x : LcLook) => x.waiter.sameAs w) || s.lc.retries.any (fun (x : LcLook) => x.waiter.sameAs w) ||
    s.lc.regs.any (fun (r : LcReg) => r.waiters.any (fun x => x.sameAs w))

/-- The sectors that a lookup has been given. -/
def State.lcGiven (s : State) (w : LcWaiter) : List (Nat × List PW) :=
  s.lc.rets.flatMap (fun (r : LcRet) => if r.takers.any (fun x => x.sameAs w) then r.sectors else [])

/-- Whether one of a requester's lookups at an address has been given words whose uncorrectable error was detected for it. -/
def State.lcFound (s : State) (r : PlotReq) (addr : Nat) : Bool :=
  s.lc.rets.any (fun (x : LcRet) => x.ue && x.takers.any (fun w => w.own && w.req == r && w.addr == addr))

/-- How a lookup has failed, if it has. -/
def State.lcFailed (s : State) (w : LcWaiter) : Option LcEnd :=
  (s.lc.rets.find? (fun (r : LcRet) => r.outcome != .sectors && r.takers.any (fun x => x.sameAs w))).map (fun r => r.outcome)

/-- Whether every sector of a lookup has been given. -/
def State.lcWhole (s : State) (w : LcWaiter) : Bool :=
  (sectorsIn (needMask w.addr w.len)).all (fun k => (s.lcGiven w).any (fun e => e.1 == k))

/-- The lookups that some requests made are over, and what they were given is taken. Their fills go on, and are installed (R230). -/
def State.lcTake (s : State) (mine : LcWaiter → Bool) : State :=
  s.withLc { s.lc with
    regs := s.lc.regs.map (fun (r : LcReg) => { r with waiters := r.waiters.filter (fun w => !mine w) })
    queue := s.lc.queue.filter (fun (x : LcLook) => !mine x.waiter)
    retries := s.lc.retries.filter (fun (x : LcLook) => !mine x.waiter)
    rets := (s.lc.rets.map (fun (r : LcRet) => { r with takers := r.takers.filter (fun w => !mine w) })).filter
      (fun (r : LcRet) => !r.takers.isEmpty) }

/-- A lookup is made, unless it is on its way or has been given its sectors; its slice may accept it at once. -/
def State.lcMake (s : State) (p : Nat) (w : LcWaiter) : State :=
  if s.lcWaits w ∨ s.lcWhole w ∨ (s.lcFailed w).isSome then s
  else if s.admitted ⟨w.req, w.cls, w.vi⟩ p (w.addr / 32 * 32 - plotDpa p 0)
      (32 * (sectorsIn (needMask w.addr w.len)).length) false then s.lcDirect p w
  else
    let s1 := s.lcPlace p w
    match s1.lcSlice (s1.plCtl .PL_CTL_OWNER_VI p) (w.addr / 128) with
    | some i => if s1.lcWaits w then s1.lcAccept i else s1
    | none => s1

/-- The words of a lookup's bytes. -/
def State.lcWords (s : State) (w : LcWaiter) : List PW :=
  let g := s.lcGiven w
  let all := (sectorsIn (needMask w.addr w.len)).flatMap (fun k => ((g.filter (fun e => e.1 == k)).take 1).flatMap (fun e => e.2))
  (all.drop (w.addr % 32 / 4)).take ((w.addr + w.len - 1) / 4 + 1 - w.addr / 4)

/-- The cluster that a requester's lookups serve. -/
def reqCluster : PlotReq → Nat
  | .stream e _ => e
  | .list e _ => e
  | .gather c => c
  | .core c _ => c
  | _ => 18

/-- R220, R221, R225: a read of device physical memory by a requester that looks up the cache: the words, once every line's lookup has been
given its sectors, or how it failed. `addr` and the length are multiples of 4 where the range crosses a line. -/
def State.cachedRead (s : State) (m : MemReq) (alloc shared : Bool) (addr len : Nat) : MemOut × State :=
  match s.dpaTarget addr with
  | .plot p off =>
    let looks : List LcWaiter := (lineParts (len / 128 + 2) addr len).map (fun (a, n) =>
      ⟨m.front.req, reqCluster m.front.req, m.front.vi, m.front.cls, alloc, shared, a, n, m.pin, 0, m.la, m.phys, true⟩)
    let begun := looks.any (fun w => s.lcWaits w || !(s.lcGiven w).isEmpty || (s.lcFailed w).isSome)
    match (if begun then none else s.memCheck m p off len false) with
    | some r => (.plotRefused r, s.memFault m r false)
    | none =>
      let s1 := s.each looks (fun w t => t.lcMake p w)
      let done := s1.lcTake (fun x => looks.any (fun w => x.sameAs w))
      match looks.findSome? s1.lcFailed with
      | some (.refused r) => (.plotRefused r, done)
      | some (.expired pc) => (.expired (List.replicate (if len = 0 then 0 else (addr + len - 1) / 4 + 1 - addr / 4)
          (poisoned .channelBusy (originBusy (plotStack p) pc))), done)
      | _ =>
        if looks.all s1.lcWhole then (.done (looks.flatMap s1.lcWords), done)
        else (.waits, s1)
  | _ => s.physRead m addr len

/-- What waits for some requesters' own steps is over: they have been reset, cancelled or halted. -/
def State.dropUnit (s : State) (mine : PlotReq → Bool) : State :=
  ((s.dropOwn mine).dropPages mine).lcTake (fun w => w.own && mine w.req)

/-! ## Partitions and operations -/

/-- LC_PART_STATE.N: the in-service slices of a partition. -/
def State.lcPartN (s : State) (v : Nat) : Nat := (s.lcSlices v).length

/-- R224: LC_PART is busy while the VI is swept, or while a slice the value names lies in another VI's mask. -/
def State.lcPartBusy (s : State) (v slices : Nat) : Bool :=
  s.lcSweeping v ||
    (List.range 64).any (fun u => u != v && (s.fld .LC_PART_SLICES u 0 &&& slices) != 0)

/-- R224, R247: a partition's slices are swept: every line in them is dropped and SWEEPING is set. -/
def State.lcSweep (s : State) (v slices : Nat) : State :=
  (s.lcDrop (fun l => if nbit slices l.slice then 15 else 0)).setFlag .LC_PART_STATE_SWEEPING v 0 true

/-- LC_SWEEP_DONE (R224, R238): a partition's sweep ends; that of a VI reset only when every register it marked is freed. -/
def execLcSweepDone (v : Nat) (s : State) : Host.Outcome State Fault Refusal :=
  .next <|
    if s.lcSweeping v = false ∨ s.lc.regs.any (fun (r : LcReg) => r.marks.contains 0 && nbit (s.fld .LC_PART_SLICES v 0) r.slice) then s
    else s.setFlag .LC_PART_STATE_SWEEPING v 0 false

/-- R237: whether a line lies in the scope of an operation. -/
def State.lcInScope (s : State) (o : LcOp) (slice la : Nat) : Bool :=
  if o.part then nbit (s.fld .LC_PART_SLICES o.vi 0) slice
  else
    decide (0 < o.len ∧ o.base / 128 ≤ la ∧ la ≤ (o.base + o.len - 1) / 128) &&
      (o.vi == 0 || nbit (s.fld .LC_PART_SLICES o.vi 0) slice)

/-- R235 to R237: an operation starts: every installed sector in its scope is invalidated, and LCFLUSH marks the miss
registers there. Result 1 is BYPASS (no slices), 2 OFF (none in service). -/
def State.lcOpStart (s : State) (o0 : LcOp) : State :=
  let none_ := s.fld .LC_PART_SLICES o0.vi 0 = 0 ∧ (o0.vi ≠ 0 ∨ o0.part)
  let off := (s.lcSlices o0.vi).length = 0 ∧ (o0.vi ≠ 0 ∨ o0.part)
  let o : LcOp := { o0 with id := s.lc.nextOp, result := if none_ then 1 else if off then 2 else 0 }
  let s1 := s.lcDrop (fun l => if s.lcInScope o l.slice l.la then 15 else 0)
  s1.withLc { s1.lc with
    ops := s1.lc.ops ++ [o]
    nextOp := s1.lc.nextOp + 1
    regs := s1.lc.regs.map (fun (r : LcReg) =>
      if o.flush && s.lcInScope o r.slice r.line then { r with marks := o.id :: r.marks } else r) }

/-- The operation that LC_OP holds (R237). -/
def State.lcOpOf (s : State) : LcOp :=
  ⟨0, s.fld .LC_OP_VI 0 0, s.flag .LC_OP_FLUSH 0 0, s.flag .LC_OP_PARTITION 0 0, s.fld .LC_OP_BASE_BASE 0 0,
    s.fld .LC_OP_LEN_LEN 0 0, none, 0⟩

/-- LC_OP_DONE (R235, R236, R237, R242): operation `n` of those in progress completes, LCFLUSH only when every register
that it marked is freed: LC_OP reports its result, or, with the last of its ranges, the waiting core is answered. -/
def execLcOpDone (n : Nat) (s : State) : Host.Outcome State Fault Refusal :=
  .next <|
    match s.lc.ops[n]? with
    | none => s
    | some o =>
      if s.lc.regs.any (fun (r : LcReg) => r.marks.contains o.id) then s
      else
        let s1 := s.withLc { s.lc with ops := s.lc.ops.eraseIdx n }
        match o.who with
        | none => (s1.setFld .LC_OP_RESULT 0 0 o.result).setFlag .LC_OP_GO 0 0 false
        | some (c, x, rd) =>
          if s1.lc.ops.any (fun (q : LcOp) => q.who == o.who) then s1
          else s1.withSc { s1.sc with
            answers := s1.sc.answers.map (fun (a : SlAnswer) =>
              if a.core = c ∧ a.ctx = x ∧ a.rd = rd then { a with code := o.result, ready := true } else a) }

/-- R238: a reset of a VI: its partition is flushed, and its waiters and retries are removed everywhere. -/
def State.lcViReset (s : State) (v : Nat) : State :=
  let m := s.fld .LC_PART_SLICES v 0
  let s1 := (s.lcSweep v m).lcTake (fun w => w.vi == v)
  s1.withLc { s1.lc with
    regs := s1.lc.regs.map (fun (r : LcReg) => if nbit m r.slice then { r with marks := 0 :: r.marks } else r) }

/-- R237, R159: every slice counter of a spine at zero. -/
def State.lcClearCounters (s : State) (d : Nat) : State := s.resetRegs (keyAt [.LC_SLICE_CNT, .LC_SLICE_CNT_WRAPS] d)

/-- R247: a slice enters or leaves service, and the partition that owns it is swept. What waited at a slice that leaves goes where placement
now sends it (log entry 154). -/
def State.lcService (s : State) (slice : Nat) (on : Bool) : State :=
  let s0 := (s.lcDrop (fun l => if l.slice = slice then 15 else 0)).setFlag .LC_SLICE_STATUS_IN_SERVICE (slice / 32) (slice % 32) on
  let mine := fun (x : LcLook) => x.slice == slice
  let out := s0.lc.regs.flatMap (fun (r : LcReg) => if r.slice = slice then r.waiters else []) ++
    ((s0.lc.queue ++ s0.lc.retries).filter mine).map (fun x => x.waiter)
  let s1 := if on then s0 else
    (s0.withLc { s0.lc with
      regs := s0.lc.regs.filter (fun (r : LcReg) => r.slice != slice)
      queue := s0.lc.queue.filter (fun x => !mine x)
      retries := s0.lc.retries.filter (fun x => !mine x) }).each out (fun w t =>
        match t.dpaTarget w.addr with
        | .plot p _ => if w.own then t else t.lcPlace p w
        | _ => t)
  match (List.range 64).find? (fun v => nbit (s1.fld .LC_PART_SLICES v 0) slice) with
  | some v => s1.lcSweep v (s1.fld .LC_PART_SLICES v 0)
  | none => s1

/-- R590: the sectors of a retired stack's plots are dropped from every slice. -/
def State.lcDropStack (s : State) (k : Nat) : State :=
  s.lcDrop (fun l => match s.dpaTarget (l.la * 128) with
    | .plot p _ => if plotStack p = k then 15 else 0
    | _ => 0)

/-- LC_INVAL_WRITE (R232, R233): an invalidating write passes the slices of its lines on its way to the stack: the
touched sectors are invalidated and it takes an entry until it commits. It waits while a slice has too few entries free. -/
def execLcInvalWrite (addr len : Nat) (data : List PW) (vi : Nat) (req : PlotReq) (s : State) :
    Host.Outcome State Fault Refusal :=
  .next <|
    match s.dpaTarget addr with
    | .plot p off =>
      if reqInvalidates req = false ∨ len = 0 ∨ s.lcInvFull p off len then s
      else s.plotArrive addr len true data vi true none req addr
    | _ => s

end Sys2Proof.Machine
end

