-- ==== Sys2Proof/Machine/Numbers.lean ====
section
/-! DEFINITION. Number formats, exact values and rounding (R304), and the long accumulator (R305 to R308). -/
namespace Sys2Proof.Machine

open Sys2Proof

/-- A value of a number format: a NaN, an infinity, or (-1)^neg × mant × 2^exp, exactly. -/
inductive FVal where
  | nan
  | inf (neg : Bool)
  | fin (neg : Bool) (mant : Nat) (exp : Int)
deriving DecidableEq, Repr

/-- R304: the format codes. -/
inductive NumFmt where
  | fp32 | bf16 | fp16 | e4m3 | e5m2 | int8 | int32 | long
deriving DecidableEq, Repr

/-- The format of a code. -/
def fmtOf (code : Nat) : NumFmt :=
  match code % 8 with
  | 0 => .fp32 | 1 => .bf16 | 2 => .fp16 | 3 => .e4m3 | 4 => .e5m2 | 5 => .int8 | 6 => .int32 | _ => .long

/-- The bytes of an element. -/
def NumFmt.size : NumFmt → Nat
  | .fp32 => 4 | .bf16 => 2 | .fp16 => 2 | .e4m3 => 1 | .e5m2 => 1 | .int8 => 1 | .int32 => 4 | .long => 48

/-- A binary format: exponent bits, mantissa bits, and whether the top exponent holds infinities and NaNs (E4M3 has one
NaN pattern only). -/
structure BinFmt where
  ebits : Nat
  mbits : Nat
  ieee : Bool
deriving DecidableEq, Repr

/-- The binary layout of a floating-point format. -/
def NumFmt.bin : NumFmt → BinFmt
  | .bf16 => ⟨8, 7, true⟩ | .fp16 => ⟨5, 10, true⟩ | .e4m3 => ⟨4, 3, false⟩ | .e5m2 => ⟨5, 2, true⟩ | _ => ⟨8, 23, true⟩

/-- The exponent bias. -/
def BinFmt.bias (b : BinFmt) : Int := (2 ^ (b.ebits - 1) - 1 : Nat)
/-- The exponent of a subnormal's last place. -/
def BinFmt.minExp (b : BinFmt) : Int := 1 - b.bias - b.mbits
/-- The largest biased exponent. -/
def BinFmt.topExp (b : BinFmt) : Nat := 2 ^ b.ebits - 1
/-- The sign bit's place. -/
def BinFmt.signBit (b : BinFmt) : Nat := b.ebits + b.mbits

/-- The value of a binary encoding. -/
def BinFmt.decode (b : BinFmt) (x : Nat) : FVal :=
  let neg := nbit x b.signBit
  let e := nfield x b.mbits b.ebits
  let m := nfield x 0 b.mbits
  if b.ieee && e == b.topExp then (if m = 0 then .inf neg else .nan)
  else if !b.ieee && e == b.topExp && m == 2 ^ b.mbits - 1 then .nan
  else if e = 0 then .fin neg m b.minExp
  else .fin neg (2 ^ b.mbits + m) (b.minExp + (e : Int) - 1)

/-- The value of an element (R304). -/
def NumFmt.decode (f : NumFmt) (x : Nat) : FVal :=
  match f with
  | .int8 => let i := sextNat 8 x; .fin (decide (i < 0)) i.natAbs 0
  | .int32 => let i := sextNat 32 x; .fin (decide (i < 0)) i.natAbs 0
  | f => f.bin.decode x

/-- The binary logarithm, rounded down, of a positive number. -/
def log2Floor (n : Nat) : Nat := Nat.log2 n

/-- num × 2^e / den, to the nearest integer, ties to even. -/
def divNearest (num den : Nat) (e : Int) : Nat :=
  let n := if e < 0 then num else num * 2 ^ e.toNat
  let d := if e < 0 then den * 2 ^ (-e).toNat else den
  let q := n / d
  let r := n % d
  if 2 * r < d then q else if 2 * r > d then q + 1 else q + q % 2

/-- The exponent of the leading bit of num × 2^e / den: the largest k with 2^k at most the value. -/
def leadExp (num den : Nat) (e : Int) : Int :=
  let k : Int := (log2Floor num : Int) - log2Floor den
  let ge := if k < 0 then decide (den ≤ num * 2 ^ (-k).toNat) else decide (den * 2 ^ k.toNat ≤ num)
  (if ge then k else k - 1) + e

/-- The magnitude bits of (num / den) × 2^e in a binary format, rounded to nearest, ties to even; past the largest finite
value they reach the pattern of infinity or beyond. -/
def BinFmt.magBits (b : BinFmt) (num den : Nat) (e : Int) : Nat :=
  if num = 0 ∨ den = 0 then 0
  else
    let u := max (leadExp num den e - b.mbits) b.minExp
    (u - b.minExp).toNat * 2 ^ b.mbits + divNearest num den (e - u)

/-- The canonical NaN of a format (R304). -/
def NumFmt.nan : NumFmt → Nat
  | .bf16 => 0x7FC0 | .fp16 => 0x7E00 | .e4m3 => 0x7F | .e5m2 => 0x7E | .fp32 => 0x7FC00000 | _ => 0

/-- The pattern of an infinity, without its sign. -/
def BinFmt.infBits (b : BinFmt) : Nat := b.topExp * 2 ^ b.mbits

/-- An integer saturated to eight bits (R304). -/
def satInt8 (neg : Bool) (m : Nat) : Nat := if neg then (if m ≤ 128 then (256 - m) % 256 else 128) else min m 127

/-- R304: an exact quotient (num / den) × 2^e, with a sign, converted to a format with one rounding. -/
def NumFmt.roundRat (f : NumFmt) (neg : Bool) (num den : Nat) (e : Int) : Nat :=
  match f with
  | .int8 => satInt8 neg (divNearest num den e)
  | .int32 =>
    let m := divNearest num den e
    if (if neg then decide (m ≤ 2 ^ 31) else decide (m < 2 ^ 31)) then (if neg then (2 ^ 32 - m) % 2 ^ 32 else m)
    else (Config.int32Over neg m).toNat
  | .e4m3 => min 0x7E (f.bin.magBits num den e) + (if neg then 0x80 else 0)
  | f =>
    let b := f.bin
    min b.infBits (b.magBits num den e) + (if neg then 2 ^ b.signBit else 0)

/-- R304: a value converted to a format. What an infinity becomes in E4M3, and a NaN, an infinity or a value out of range
in INT32, the spec does not state: free values (log entry 21). -/
def NumFmt.encode (f : NumFmt) (v : FVal) : Nat :=
  match v with
  | .fin neg m e => f.roundRat neg m 1 e
  | .nan => match f with
    | .int8 => 0
    | .int32 => (Config.int32Odd 0).toNat
    | f => f.nan
  | .inf neg => match f with
    | .int8 => satInt8 neg 1000
    | .int32 => (Config.int32Odd (1 + b2n neg)).toNat
    | .e4m3 => (Config.e4m3Inf neg).toNat
    | f => f.bin.infBits + (if neg then 2 ^ f.bin.signBit else 0)

/-- A value rounded to FP32. -/
def FVal.toFp32 (v : FVal) : FVal := NumFmt.fp32.decode (NumFmt.fp32.encode v)

/-- Negation. -/
def FVal.neg : FVal → FVal
  | .nan => .nan
  | .inf n => .inf (!n)
  | .fin n m e => .fin (!n) m e

/-- The exact product. -/
def FVal.mul : FVal → FVal → FVal
  | .nan, _ => .nan
  | _, .nan => .nan
  | .inf a, .inf b => .inf (a != b)
  | .inf a, .fin b m _ => if m = 0 then .nan else .inf (a != b)
  | .fin a m _, .inf b => if m = 0 then .nan else .inf (a != b)
  | .fin a m e, .fin b n g => .fin (a != b) (m * n) (e + g)

/-- A finite value as a multiple of 2^e, for e at most its exponent. -/
def scaleTo (neg : Bool) (m : Nat) (e g : Int) : Int :=
  let x : Int := (m * 2 ^ (e - g).toNat : Nat)
  if neg then -x else x

/-- The exact sum; an exact zero is +0 unless both terms are negative (IEEE 754, round to nearest). -/
def FVal.add : FVal → FVal → FVal
  | .nan, _ => .nan
  | _, .nan => .nan
  | .inf a, .inf b => if a = b then .inf a else .nan
  | .inf a, .fin _ _ _ => .inf a
  | .fin _ _ _, .inf b => .inf b
  | .fin a m e, .fin b n g =>
    let k := min e g
    let x := scaleTo a m e k + scaleTo b n g k
    if x = 0 then .fin (a && b) 0 k else .fin (decide (x < 0)) x.natAbs k

/-- Whether a value is a NaN. -/
def FVal.isNan : FVal → Bool
  | .nan => true
  | _ => false

/-- Strictly less, with −0 below +0 (R314); false where either is a NaN. -/
def FVal.lt : FVal → FVal → Bool
  | .nan, _ => false
  | _, .nan => false
  | .inf a, .inf b => a && !b
  | .inf a, .fin _ _ _ => a
  | .fin _ _ _, .inf b => !b
  | .fin a m e, .fin b n g =>
    let k := min e g
    let x := scaleTo a m e k
    let y := scaleTo b n g k
    if x = 0 ∧ y = 0 then a && !b else decide (x < y)

/-! ## The long accumulator -/

/-- The CNT flag of a count (R306). -/
def cntFlag (n : Nat) : Nat := if 2 ^ 31 < n then 32 else 0

/-- R306: one term offered. -/
def LongAcc.term (a : LongAcc) (v : FVal) : LongAcc :=
  let n := min (a.cnt + 1) 0xFFFFFFFF
  let fl := a.flags ||| cntFlag (a.cnt + 1)
  match v with
  | .nan => { a with cnt := n, flags := fl ||| 4 }
  | .inf neg => { a with cnt := n, flags := fl ||| (if neg then 2 else 1) }
  | .fin neg m e =>
    let big := if e < 139 then decide (2 ^ (139 - e).toNat ≤ m) else m != 0
    if big then { a with cnt := n, flags := fl ||| 8 ||| (if neg then 2 else 1) }
    else
      let sh := e + 149
      let x := if sh < 0 then m / 2 ^ (-sh).toNat else m * 2 ^ sh.toNat
      let loss := sh < 0 ∧ m % 2 ^ (-sh).toNat ≠ 0
      { a with cnt := n, flags := fl ||| (if loss then 16 else 0),
               val := if neg then (a.val + 2 ^ 320 - x % 2 ^ 320) % 2 ^ 320 else (a.val + x) % 2 ^ 320 }

/-- An accumulator poisoned by a tag, unless it is already (R326: the first poisoned input's tag). -/
def LongAcc.taint (a : LongAcc) (t : Option W32) : LongAcc :=
  match a.poison with
  | some _ => a
  | none => { a with poison := t }

/-- R307: two accumulators merge. -/
def LongAcc.merge (a b : LongAcc) : LongAcc :=
  { (a.taint b.poison) with
    val := (a.val + b.val) % 2 ^ 320
    flags := a.flags ||| b.flags ||| cntFlag (a.cnt + b.cnt)
    cnt := min (a.cnt + b.cnt) 0xFFFFFFFF }

/-- R308: an accumulator's value divided by `n` and rounded once. -/
def LongAcc.round (a : LongAcc) (f : NumFmt) (n : Nat) : Nat :=
  if nbit a.flags 2 ∨ (nbit a.flags 0 ∧ nbit a.flags 1) then f.nan
  else if nbit a.flags 0 then f.encode (.inf false)
  else if nbit a.flags 1 then f.encode (.inf true)
  else
    let i := sextNat 320 a.val
    f.roundRat (decide (i < 0)) i.natAbs (max n 1) (-149)

/-- R305, R326: the twelve words of the stored form; a poisoned one is stored with all words poisoned. -/
def LongAcc.words (a : LongAcc) : List (W32 × Option W32) :=
  (List.range 12).map (fun k =>
    (BitVec.ofNat 32 (if k < 10 then a.val / 2 ^ (32 * k) else if k = 10 then a.flags else a.cnt), a.poison))

/-- The accumulator that twelve words store. -/
def LongAcc.ofWords (ws : List PW) : LongAcc :=
  let w := fun (k : Nat) => (ws.getD k ⟨0, false⟩).data.toNat
  { val := (List.range 10).foldl (fun v k => v + w k * 2 ^ (32 * k)) 0,
    flags := w 10 % 64, cnt := w 11,
    poison := (ws.find? (fun p => p.poison)).map (fun p => p.data) }

end Sys2Proof.Machine
end

