-- ==== Sys2Proof/Machine/Trace.lean ====
section
/-! DEFINITION. Trace units: records, rings, sleep, wake and marks (R46 to R49). -/
namespace Sys2Proof.Machine

open Sys2Proof

/-- R47: a unit is active while EN is 1 and its spine domain is on. -/
def State.traceActive (s : State) (c : Nat) : Bool := s.flag .FT_TRACE_CTL_EN c 0 && s.spineOn (dieOf c)

/-- R48, R49: an active unit writes a record of 32 bytes, after those that it has not written yet. -/
def State.traceWrite (s : State) (c : Nat) (rec_ : List Byte) : State :=
  if s.traceActive c = false then s
  else (s.withFt { s.ft with trace := s.ft.trace ++ [(c, rec_)] }).traceNext c

/-- R47: the records of a unit that are on their way go no further: the unit starts anew. -/
def State.traceDrop (s : State) (c : Nat) : State :=
  (s.withFt { s.ft with trace := s.ft.trace.filter (fun r => r.1 != c) }).withHbm
    { s.hbm with accs := s.hbm.accs.filter (fun a => a.req != .trace c) }

/-- R46: a record. -/
def traceRecord (type c cause ft cycles word : Nat) : List Byte :=
  bytesOf 4 (type + 256 * c + 65536 * cause) ++ bytesOf 8 ft ++ bytesOf 6 cycles ++ bytesOf 4 word ++ bytesOf 10 0

/-- R46: SLEEP, with the last cycle count, which the model leaves free (log entry 18). -/
def State.traceSleep (s : State) (c cause : Nat) : State :=
  if s.traceActive c then
    let (n, s1) := s.free 48
    s1.traceWrite c (traceRecord 0x10 c cause s1.now n 0)
  else s

/-- R46: SYNC. -/
def State.traceSync (s : State) (c : Nat) : State :=
  s.traceWrite c (traceRecord 0x12 c 0 s.now 0 (s.fld .FT_STATUS_STATE 0 0))

/-- R46: WAKE, and then SYNC. -/
def State.traceWake (s : State) (c cause : Nat) : State :=
  (s.traceWrite c (traceRecord 0x11 c cause s.now 0 0)).traceSync c

/-- R46, R47: MARK, at one unit. -/
def State.traceMark (s : State) (mark c : Nat) : State :=
  if s.traceActive c then
    let (n, s1) := s.free 48
    s1.traceWrite c (traceRecord 0x13 c 0 s1.now n (mark % 2 ^ 32))
  else s

/-- R47: a TRACEMARK stroke: a MARK record at every active unit. -/
def State.traceMarkAll (s : State) (mark : Nat) : State := s.each (List.range 18) (fun c t => t.traceMark mark c)

/-- R47: EN written from 0 to 1: HEAD, TAIL and the counts at 0, and a SYNC record. -/
def State.traceEnable (s : State) (c : Nat) : State :=
  ((((s.traceDrop c).setReg .FT_TRACE_HEAD c 0 0).setReg .FT_TRACE_TAIL c 0 0).setReg .FT_TRACE_STATUS c 0 0).traceSync c

/-- FT_TRACE_TAIL: a value that is not a multiple of 32 or not below the ring size is ignored. -/
def State.traceTailOk (s : State) (c v : Nat) : Bool := decide (v % 32 = 0 ∧ v < s.traceSize c)

/-- R47: a spine's units wake inactive, every register at its reset value. -/
def State.traceReset (s : State) (d : Nat) : State :=
  s.each (rangeFrom (9 * d) 9) (fun c t =>
    (t.traceDrop c).resetRegs (keyAt [.FT_TRACE_CTL, .FT_TRACE_BASE, .FT_TRACE_HEAD, .FT_TRACE_TAIL, .FT_TRACE_STATUS] c))

end Sys2Proof.Machine
end

