-- ==== Sys2Proof/Machine/SteerCore.lean ====
section
/-! DEFINITION. Steer and herd cores: steer memory, registers, contexts and their scheduling, traps, interrupts, resets
(R335 to R378, R410, R411). Cores 0 to 17 are the steer cores of the physical clusters, 18 to 21 the herd cores 0 to 3. -/
namespace Sys2Proof.Machine

open Sys2Proof

/-- A herd core (R367). -/
def isHerdCore (core : Nat) : Bool := decide (18 ≤ core)
/-- The core's number in lock owner records and the audit log (R111, R367). -/
def coreCode (core : Nat) : Nat := if core < 18 then core else 24 + (core - 18)
/-- The die, and so the spine, of a core. -/
def coreDie (core : Nat) : Nat := if core < 18 then dieOf core else (core - 18) / 2
/-- Whether a core's domain is on (R367, R368). -/
def State.coreOn (s : State) (core : Nat) : Bool :=
  if core < 18 then s.clusterOn core else s.power.rails && decide ((core - 18) / 2 < s.fld .SV_ASSEMBLY_IODIES 0 0)
/-- The origin of a core's configuration writes (R348). -/
def coreOrigin (core : Nat) : Origin := if core < 18 then .steer core else .herdCore (core - 18)
/-- A context's VI. -/
def State.ctxVi (s : State) (core x : Nat) : Nat := s.fld .SC_CTX_CFG_VI core x
/-- A context's state: 0 STOPPED, 1 READY, 2 RUNNING, 3 WAITING, 4 FAULTED (R336). -/
def State.ctxState (s : State) (core x : Nat) : Nat := s.fld .SC_CTX_STATUS_STATE core x
/-- The state with a context's state replaced. -/
def State.setCtxState (s : State) (core x st : Nat) : State := s.setFld .SC_CTX_STATUS_STATE core x st
/-- Whether a context runs at PRIV. -/
def State.ctxPriv (s : State) (core x : Nat) : Bool := s.flag .SC_CTX_STATUS_LEVEL core x

/-! ## Steer memory (R340, R376) -/

/-- The key of a steer-memory word. -/
def steerKey (core w : Nat) : Nat := core * 131072 + w
/-- A stored word of steer memory. -/
def State.steerRaw (s : State) (core w : Nat) : W40 := sget (fun _ => blankWord) s.tm.steer (steerKey core w)
/-- The state with a stored word of steer memory replaced. -/
def State.setSteerRaw (s : State) (core w : Nat) (x : W40) : State :=
  s.withTm { s.tm with steer := sset (fun _ => blankWord) s.tm.steer (steerKey core w) x }
/-- R142: the address that stands for a steer-memory word. -/
def steerAddr (core w : Nat) : Nat := 0xF00000000000 + coreCode core * 0x100000 + 4 * w
/-- A word of steer memory as its reader gets it. -/
def State.steerWord (s : State) (core w : Nat) : PW × State :=
  s.tallyWord (coreDie core) 1 (steerAddr core w) .ueTm (originSteer (coreCode core) w) (s.steerRaw core w)
/-- A whole word stored with fresh check bits. -/
def State.steerStore (s : State) (core w : Nat) (p : PW) : State := s.setSteerRaw core w (encodeWord p)
/-- Part of a word stored: the word is read and merged; a poisoned word keeps its poison, and an uncorrectable one is
stored poisoned (as R76 and R93 have it for TM; DEDUCED, log entry 19). -/
def State.steerMerge (s : State) (core w mask data : Nat) : State :=
  let ue := (decodeWord (s.steerRaw core w)).cls == .ue
  let (p, s1) := s.steerWord core w
  if p.poison then (if ue then s1.steerStore core w p else s1)
  else s1.steerStore core w ⟨BitVec.ofNat 32 (mergeBytes mask p.data.toNat data), false⟩
/-- A byte range stored from words, the first of which holds the first byte. -/
def State.steerWriteWords (s : State) (core : Nat) (ws : List TmWord) : State :=
  s.each ws (fun w t =>
    if tmFull w then t.steerStore core (w.addr / 4) w.data else t.steerMerge core (w.addr / 4) w.mask w.data.data.toNat)
/-- The words that hold a byte range. -/
def State.steerReadWords (s : State) (core : Nat) : List TmWord → List PW × State
  | [] => ([], s)
  | w :: t =>
    let (p, s1) := s.steerWord core (w.addr / 4)
    let (r, s2) := s1.steerReadWords core t
    (p :: r, s2)
/-- Steer memory of a core blank (R127). -/
def State.steerBlank (s : State) (core : Nat) : State :=
  s.withTm { s.tm with steer := sdrop (fun k => k / 131072 == core) s.tm.steer }

/-- R340: whether an access of `len` bytes at an address passes the checks. -/
def State.steerAllowed (s : State) (core x addr len : Nat) : Bool :=
  decide (addr + len ≤ 0x80000) &&
    (s.ctxPriv core x ||
      decide (s.fld .SC_CTX_CFG_SEG_BASE core x * 4096 ≤ addr ∧ addr + len ≤ s.fld .SC_CTX_CFG_SEG_LIMIT core x * 4096 + 4096 ∧
        s.fld .SC_CORE_CFG_PRIV_LIMIT core 0 * 4096 ≤ addr))

/-! ## Registers (R343, R344) -/

/-- The number of a context. -/
def ctxKey (core x : Nat) : Nat := core * 16 + x
/-- A g register: g0 reads 0 and is never poisoned. -/
def State.slG (s : State) (core x r : Nat) : SlG :=
  if r = 0 then ⟨0, false⟩ else sget (fun _ => SlG.mk 0 true) s.sc.g (ctxKey core x * 32 + r)
/-- The state with a g register replaced; writes to g0 are discarded. -/
def State.setSlG (s : State) (core x r : Nat) (v : SlG) : State :=
  if r = 0 then s
  else s.withSc { s.sc with g := sset (fun _ => SlG.mk 0 true) s.sc.g (ctxKey core x * 32 + r) v }
/-- A d register. -/
def State.slD (s : State) (core x r : Nat) : SlD := sget (fun _ => SlD.mk 0 true) s.sc.d (ctxKey core x * 16 + r)
/-- The state with a d register replaced. -/
def State.setSlD (s : State) (core x r : Nat) (v : SlD) : State :=
  s.withSc { s.sc with d := sset (fun _ => SlD.mk 0 true) s.sc.d (ctxKey core x * 16 + r) v }
/-- A predicate: p0 reads 1 and is never poisoned. -/
def State.slP (s : State) (core x r : Nat) : SlP :=
  if r = 0 then ⟨true, false, 0⟩ else sget (fun _ => SlP.mk false true 0) s.sc.p (ctxKey core x * 8 + r)
/-- The state with a predicate replaced; writes to p0 are discarded. -/
def State.setSlP (s : State) (core x r : Nat) (v : SlP) : State :=
  if r = 0 then s
  else s.withSc { s.sc with p := sset (fun _ => SlP.mk false true 0) s.sc.p (ctxKey core x * 8 + r) v }
/-- The program counter. -/
def State.slPc (s : State) (core x : Nat) : Nat := sget (fun _ => 0) s.sc.pcs (ctxKey core x)
/-- The state with a program counter replaced. -/
def State.setSlPc (s : State) (core x pc : Nat) : State :=
  s.withSc { s.sc with pcs := sset (fun _ => 0) s.sc.pcs (ctxKey core x) (pc % 2 ^ 64) }
/-- A poisoned g register holding a tag. -/
def slPoisoned (tag : W32) : SlG := ⟨tag.setWidth 64, true⟩

/-! ## Counters and scheduling (R336, R337) -/

/-- SC_CNT: an event is counted. -/
def State.scCount (s : State) (core e : Nat) : State :=
  s.cntInc .SC_CNT_COUNT .SC_CNT_WRAPS_WRAPS .SC_CNT_WRAPS_OVF core e 1

/-- Whether a context of the core is RUNNING. -/
def State.coreRuns (s : State) (core : Nat) : Bool := (List.range 16).any (fun x => s.ctxState core x == 2)

/-- R337: the next context: the lowest-numbered READY one above the one just run, wrapping. -/
def State.nextReady (s : State) (core : Nat) : Option Nat :=
  let last := s.fld .SC_CORE_STATUS_CTX core 0
  ((List.range 16).map (fun k => (last + 1 + k) % 16)).find? (fun x => s.ctxState core x == 1)

/-- R337, R46: with no context RUNNING, the core switches to the next READY one, or is idle; its trace unit records the
sleep and the wake. SC_CORE_QUANTUM's last value takes effect at a switch. -/
def State.schedule (s : State) (core : Nat) : State :=
  if s.coreRuns core then s
  else match s.nextReady core with
    | some x =>
      let s1 := if s.flag .SC_CORE_STATUS_IDLE core 0 ∧ core < 18 then s.traceWake core 0 else s
      let s2 := ((s1.setFlag .SC_CORE_STATUS_IDLE core 0 false).setFld .SC_CORE_STATUS_CTX core 0 x).setCtxState core x 2
      (s2.applyShadow .SC_CORE_QUANTUM core 0).scCount core 3
    | none =>
      if s.flag .SC_CORE_STATUS_IDLE core 0 then s
      else
        let s1 := s.setFlag .SC_CORE_STATUS_IDLE core 0 true
        if core < 18 then s1.traceSleep core 0 else s1

/-- The state without a context's wait. -/
def State.dropWait (s : State) (core x : Nat) : State :=
  s.withSc { s.sc with waits := s.sc.waits.filter (fun (w : SlWait) => !(w.core == core && w.ctx == x && !w.discard)) }

/-- A context's wait. -/
def State.slWait (s : State) (core x : Nat) : Option SlWait :=
  s.sc.waits.find? (fun (w : SlWait) => w.core == core && w.ctx == x && !w.discard)

/-- Whether a context has a VIRT or PHYS access in flight. -/
def State.inAccess (s : State) (core x : Nat) : Bool :=
  match s.slWait core x with
  | some w => match w.kind with
    | .access _ => true
    | _ => false
  | none => false

/-- Whether a unit still owes a context an answer (R355, R411). -/
def State.owesAnswer (s : State) (core x : Nat) : Bool :=
  s.sc.answers.any (fun (a : SlAnswer) => a.core == core && a.ctx == x)

/-- A context becomes READY, and the core schedules. -/
def State.makeReady (s : State) (core x : Nat) : State := (s.setCtxState core x 1).schedule core

/-! ## Faults and traps (R360 to R366) -/

/-- The lock owner record of a context (R111). -/
def State.ctxOwner (s : State) (core x : Nat) : LockOwner := ⟨s.herdId, s.ctxVi core x, coreCode core, x⟩

/-- R338, R365: the locks of a context are released. -/
def State.releaseCtxLocks (s : State) (core x : Nat) : State :=
  (s.lockDrop (fun q => q.owner == s.ctxOwner core x)).releaseLocks (fun o => o == s.ctxOwner core x)

/-- R113: a reset of a whole core releases every word held with this module's herd ID and the core. -/
def State.releaseCoreLocks (s : State) (core : Nat) : State :=
  (s.lockDrop (fun q => q.owner.herd == s.herdId && q.owner.core == coreCode core)).releaseLocks
    (fun o => o.herd == s.herdId && o.core == coreCode core)

/-- R365: a context becomes FAULTED: it keeps its registers, its locks are released and SC_EVENT names it. -/
def State.slFault (s : State) (core x cause cause2 : Nat) : State :=
  let s1 := ((s.setCtxState core x 4).setFld .SC_CTX_STATUS_CAUSE core x cause).setFld .SC_CTX_STATUS_CAUSE2 core x cause2
  let s2 := ((s1.dropWait core x).releaseCtxLocks core x).setFlag .SC_EVENT_FAULTED core 0 true
  (s2.setFld .SC_EVENT_CTX core 0 x).schedule core

/-- R362, R365: TAKING A TRAP: with EXL set the context becomes FAULTED with NESTED; else the trap registers take the
return address, the level, the cause, the information and the tag, the level becomes PRIV, EXL is set, and the program
counter goes to the vector. VBAR's last value takes effect here. -/
def State.slTrap (s : State) (core x cause info : Nat) (tag : W32) (epc : Nat) : State :=
  if s.flag .SC_CTX_STATUS_EXL core x then s.slFault core x 0x1E cause
  else
    let s0 := s.applyShadow .SC_CORE_CFG core 0
    let s1 := (s0.setFld .SC_CTX_TRAP_EPC core x epc).setFld .SC_CTX_TRAP_ELEVEL core x (s0.fld .SC_CTX_STATUS_LEVEL core x)
    let s2 := (s1.setFld .SC_CTX_TRAP_CAUSE_ECAUSE core x cause).setFld .SC_CTX_TRAP_INFO_EINFO core x info
    let s3 := (s2.setFld .SC_CTX_TRAP_TAG_ETAG core x tag.toNat).setFld .SC_CTX_STATUS_LEVEL core x 1
    let s4 := (s3.setFlag .SC_CTX_STATUS_EXL core x true).setFld .SC_CTX_STATUS_CAUSE core x cause
    let pc := s4.inForce .SC_CORE_CFG_VBAR core 0 * 128 + (if 0x10 ≤ cause then 0x40 else 0)
    (s4.setSlPc core x pc).scCount core (if 0x10 ≤ cause then 5 else 4)

/-- R363: RETURN FROM A TRAP: the program counter, the level and EXL. -/
def State.slReturn (s : State) (core x : Nat) : State :=
  ((s.setSlPc core x (s.fld .SC_CTX_TRAP_EPC core x)).setFld .SC_CTX_STATUS_LEVEL core x
    (s.fld .SC_CTX_TRAP_ELEVEL core x)).setFlag .SC_CTX_STATUS_EXL core x false

/-- R366: a source raises its interrupt. -/
def State.raiseIrq (s : State) (core x src : Nat) : State :=
  s.setFld .SC_CTX_STATUS_PENDING core x (s.fld .SC_CTX_STATUS_PENDING core x ||| 2 ^ src)

/-- R366: the lowest-numbered pending source that is enabled. -/
def State.irqSource (s : State) (core x : Nat) : Option Nat :=
  (List.range 5).find? (fun k =>
    nbit (s.fld .SC_CTX_STATUS_PENDING core x) k && nbit (s.fld .SC_CTX_CFG_INTEN core x) k)

/-- Whether a wait's condition holds. A counter whose word was uncorrectable holds its waiters (R121). -/
def State.waitMet (s : State) : SlWaitKind → Bool
  | .cnt c i target => serialGe (s.fld .WN_CNT_VALUE c i) target && !s.tm.cntHeld.contains (c, i)
  | .mu k mask => !s.stackOn k || (List.range 64).all (fun pc => !nbit mask pc || s.chMode k pc == 0)
  | .ft target => decide (target ≤ s.now)
  | .access _ => false

/-- A wait whose condition has come true: its context becomes READY, and the wait completes when it runs (R398). -/
def State.wake (s : State) (core x : Nat) (w : SlWait) : State :=
  (s.withSc { s.sc with waits := s.sc.waits.replace w { w with met := true } }).makeReady core x

/-- R371: a wait that an interrupt may not abandon: its condition holds. -/
def State.waitHeld (s : State) (core x : Nat) : Option SlWait :=
  match s.slWait core x with
  | some w => if w.met || s.waitMet w.kind then some w else none
  | none => none

/-- INTERRUPT_DELIVER (R366, R371, R411): a pending enabled interrupt is taken at the context's next boundary, while EXL is 0,
no unit owes an answer and no access is in flight; a wait is abandoned, and its context becomes READY. A wait whose condition holds completes
first: its context wakes, and the interrupt is taken after it. -/
def execInterruptDeliver (core x : Nat) (s : State) : Host.Outcome State Fault Refusal :=
  .next <|
    let st := s.ctxState core x
    if (st = 1 ∨ st = 2 ∨ st = 3) ∧ s.flag .SC_CTX_STATUS_EXL core x = false ∧ s.owesAnswer core x = false ∧
        s.inAccess core x = false then
      match s.irqSource core x, s.waitHeld core x with
      | none, _ => s
      | some _, some w => if st = 3 then s.wake core x w else s
      | some k, none =>
        let s1 := (s.dropWait core x).slTrap core x (0x10 + k) 0 0 (s.slPc core x)
        if st = 3 then s1.makeReady core x else s1
    else s

/-- ALARM (R366): FT_NOW has reached SC_CTX_ALARM, which clears and raises the interrupt. -/
def execAlarm (core x : Nat) (s : State) : Host.Outcome State Fault Refusal :=
  .next <|
    let a := s.fld .SC_CTX_ALARM_AT core x
    if s.coreOn core ∧ a ≠ 0 ∧ a ≤ s.now then (s.setFld .SC_CTX_ALARM_AT core x 0).raiseIrq core x 1 else s

/-- TIME_SLICE_END (R337): the running context's slice ends while another is READY: it becomes READY and the core
switches. -/
def execTimeSliceEnd (core : Nat) (s : State) : Host.Outcome State Fault Refusal :=
  .next <|
    match (List.range 16).find? (fun x => s.ctxState core x == 2) with
    | none => s
    | some x => if (s.nextReady core).isSome then (s.setCtxState core x 1).schedule core else s

/-- REG_PARITY_ERROR (R377, R416): the context becomes FAULTED with REG_PARITY. -/
def execRegParityError (core x : Nat) (s : State) : Host.Outcome State Fault Refusal :=
  .next <|
    if s.coreOn core then
      (s.withSc { s.sc with answers := s.sc.answers.filter (fun (a : SlAnswer) => !(a.core == core && a.ctx == x)) }).slFault
        core x 0x1F 0
    else s

/-! ## Start, stop, reset (R336, R338, R339) -/

/-- SC_CTX_CTL.START: a STOPPED context becomes READY; one that is FAULTED is refused. -/
def State.ctxStart (s : State) (core x : Nat) : State :=
  let s0 := s.setFlag .SC_CTX_CTL_START core x false
  if s.ctxState core x = 4 then s0.setFld .SC_CTX_CTL_RESULT core x 1
  else
    let s1 := s0.setFld .SC_CTX_CTL_RESULT core x 0
    if s.ctxState core x = 0 then s1.makeReady core x else s1

/-- SC_CTX_CTL.STOP: the context stops at its next boundary and abandons a wait; with a VIRT or PHYS access in flight it
stops when that completes. -/
def State.ctxStop (s : State) (core x : Nat) : State :=
  let st := s.ctxState core x
  if st = 1 ∨ st = 2 ∨ st = 3 then
    if s.inAccess core x then s.setFlag .SC_CTX_CTL_STOP core x true
    else (((s.dropWait core x).setCtxState core x 0).setFlag .SC_CTX_CTL_STOP core x false).schedule core
  else s.setFlag .SC_CTX_CTL_STOP core x false

/-- R338: a context is reset: locks released, registers poisoned with kind UNINIT, trap registers zero, level and
program counter from SC_CTX_CFG, STOPPED. An access in flight completes with its result discarded. -/
def State.ctxReset (s : State) (core x : Nat) : State :=
  let k := ctxKey core x
  let s1 := s.releaseCtxLocks core x
  let s2 := s1.withSc { s1.sc with
    g := sdrop (fun r => r / 32 == k) s1.sc.g
    d := sdrop (fun r => r / 16 == k) s1.sc.d
    p := sdrop (fun r => r / 8 == k) s1.sc.p
    waits := s1.sc.waits.filterMap (fun (w : SlWait) =>
      if w.core == core && w.ctx == x && !w.discard then
        (match w.kind with | .access _ => some { w with discard := true } | _ => none)
      else some w)
    answers := s1.sc.answers.filter (fun (a : SlAnswer) => !(a.core == core && a.ctx == x)) }
  let s3 := (((s2.setReg .SC_CTX_TRAP core x 0).setReg .SC_CTX_TRAP_CAUSE core x 0).setReg .SC_CTX_TRAP_INFO core x 0).setReg
    .SC_CTX_TRAP_TAG core x 0
  let s4 := (s3.setFld .SC_CTX_STATUS_LEVEL core x (s.fld .SC_CTX_CFG_START_PRIV core x)).setFlag .SC_CTX_STATUS_EXL core x false
  let s5 := (s4.setSlPc core x (s.fld .SC_CTX_CFG_ENTRY core x)).setCtxState core x 0
  ((s5.setFlag .SC_CTX_CTL_STOP core x false).setFlag .SC_CTX_CTL_START core x false).schedule core

/-- R339: all 16 contexts of a core are reset. -/
def State.coreReset (s : State) (core : Nat) : State :=
  (s.each (List.range 16) (fun x t => t.ctxReset core x)).releaseCoreLocks core

/-- R339: a VI reset resets every context of the VI. -/
def State.scViReset (s : State) (v : Nat) : State :=
  s.each (List.range 22) (fun core t =>
    if t.coreOn core then
      t.each ((List.range 16).filter (fun x => t.ctxVi core x == v)) (fun x u => u.ctxReset core x)
    else t)

/-- R339, R367: a core whose domain goes off loses its contexts and its registers; steer memory is blank at the wake. -/
def State.coreOff (s : State) (core : Nat) : State :=
  let own := fun (q : PlotReq) => match q with
    | .core c _ => c == core
    | _ => false
  let s1 := ((s.releaseCoreLocks core).steerBlank core).dropUnit own
  let mine := fun (r n : Nat) => r / n / 16 == core
  let s2 := s1.withSc { s1.sc with
    g := sdrop (fun r => mine r 32) s1.sc.g
    d := sdrop (fun r => mine r 16) s1.sc.d
    p := sdrop (fun r => mine r 8) s1.sc.p
    pcs := sdrop (fun k => k / 16 == core) s1.sc.pcs
    waits := s1.sc.waits.filter (fun (w : SlWait) => w.core != core)
    answers := s1.sc.answers.filter (fun (a : SlAnswer) => a.core != core) }
  s2.resetRegs (keyAt [.SC_CORE_STATUS, .SC_CORE_CFG, .SC_CORE_QUANTUM, .SC_CORE_CTL, .SC_EVENT, .SC_CTX_CFG, .SC_CTX_CTL,
    .SC_CTX_STATUS, .SC_CTX_KICK, .SC_CTX_ALARM, .SC_CTX_TRAP, .SC_CTX_TRAP_CAUSE, .SC_CTX_TRAP_INFO, .SC_CTX_TRAP_TAG,
    .SC_CNT, .SC_CNT_WRAPS, .SC_CNT_CLR, .SC_CFG_ERR, .SC_CFG_ERR_FT] core)

/-- Writing SC_CNT_CLR: every SC_CNT of a core at zero. -/
def State.scClearCounters (s : State) (core : Nat) : State := s.resetRegs (keyAt [.SC_CNT, .SC_CNT_WRAPS] core)

/-! ## Waits (R398 to R400) -/

/-- WAIT_WAKE (R398, R399, R400): a waited-for condition is true and the WAITING context becomes READY. -/
def execWaitWake (core x : Nat) (s : State) : Host.Outcome State Fault Refusal :=
  .next <|
    match s.slWait core x with
    | none => s
    | some w =>
      if s.ctxState core x = 3 ∧ s.waitMet w.kind then
        s.wake core x w
      else s

/-- UNIT_ANSWER (R355): a unit answers a class-Q instruction: its result code is written to rd. A lock unit serves the operations
that wait at the word in turn (R118). -/
def execUnitAnswer (core x rd : Nat) (s0 : State) : Host.Outcome State Fault Refusal :=
  .next <|
    let s := s0.lockAnswer core x rd
    match s.sc.answers.find? (fun (a : SlAnswer) => a.core == core && a.ctx == x && a.rd == rd && a.ready) with
    | none => s
    | some a =>
      (s.withSc { s.sc with answers := s.sc.answers.erase a }).setSlG core x rd ⟨BitVec.ofNat 64 a.code, false⟩

/-! ## Messages to herd cores (R480) -/

/-- Byte 7 bit 0 of a ring slot: VALID. -/
def State.msgSlotValid (s : State) (core addr : Nat) : Bool := nbit (decodeWord (s.steerRaw core (addr / 4 + 1))).word.data.toNat 24

/-- R480: a MSG of `len` bytes is written into the ring of a context of a herd core and raises HERD, or is refused because
no slot at or after the ring pointer is free. -/
def State.deliverMsgWords (s : State) (n x src len : Nat) (payload : List PW) : Bool × State :=
  let core := 18 + n
  let base := s.fld .HD_MSG_BASE_ADDR n x
  let ptr := s.fld .HD_MSG_BASE_PTR n x
  let order := (List.range 16).map (fun k => (ptr + k) % 16)
  match order.find? (fun k => !(s.msgSlotValid core ((base + 256 * k) % 0x80000))) with
  | none => (false, s)
  | some k =>
    let ws := wordsOf (bytesOf 2 src ++ bytesOf 2 len ++ [0, 0, 0, 1]) ++ payload
    let a := (base + 256 * k) % 0x80000
    let s1 := s.steerWriteWords core (maskedWords a (8 + len) ws)
    (true, (s1.setFld .HD_MSG_BASE_PTR n x ((k + 1) % 16)).raiseIrq core x 4)

/-- A MSG whose payload is a byte string. -/
def State.deliverMsg (s : State) (n x src : Nat) (payload : List Byte) : Bool × State :=
  s.deliverMsgWords n x src payload.length (wordsOf payload)

/-- A MSG of the module's own to the shepherd (R522, R567, R594): delivered in place on the shepherd itself; true when it
was sent. It is not sent while the module is ALONE or SILENT. -/
def State.msgToShepherd (s : State) (n x : Nat) (payload : List Byte) : Bool × State :=
  if s.role = 0 ∨ s.flag .HD_STATUS_SILENT 0 0 then (false, s)
  else if s.shepherdId = s.herdId then s.deliverMsg n x s.herdId payload
  else
    let tag := s.herd.nextTag
    let f := { s.msgFrame s.shepherdId n x payload with tag := tag }
    match s.sendFrame f with
    | none => (false, s)
    | some s1 => (true, s1.withHerd { s1.herd with
        nextTag := (tag + 1) % 2 ^ 32
        txns := s1.herd.txns ++ [⟨tag, 0x09, s.shepherdId, s.portOf f, .service, s.replyDue⟩] })

/-! ## Throttle accounts (R519 to R522) -/

/-- R520: the accumulated duration of a reason, the running episode included. -/
def State.thrAccum (s : State) (r : Nat) : Nat :=
  s.fld .PM_THR_ACCUM_ACCUM r 0 +
    (if nbit s.power.thrActive r then s.now - s.fld .PM_THR_LAST_START_LAST_START r 0 else 0)

/-- R522: the alert MSG of an episode's start. -/
def State.powerAlert (s : State) (r : Nat) : State :=
  if s.flag .PM_ALERT_DEST_EN 0 0 ∧ nbit (s.fld .PM_ALERT_DEST_MASK 0 0) r then
    let payload := bytesOf 1 1 ++ bytesOf 1 r ++ bytesOf 2 (s.fld .PM_CAP_WATTS 0 0) ++ bytesOf 4 0
      ++ bytesOf 8 (s.fld .PM_THR_LAST_START_LAST_START r 0) ++ bytesOf 8 (s.thrAccum r) ++ bytesOf 8 (s.fld .PM_POWER_EST 0 0)
    match s.msgToShepherd (s.fld .PM_ALERT_DEST_CORE 0 0) (s.fld .PM_ALERT_DEST_CONTEXT 0 0) payload with
    | (true, t) => t.setFlag .PM_EVENT_ALERT_SENT 0 0 true
    | (false, t) => t.setFlag .PM_EVENT_ALERT_DROPPED 0 0 true
  else s

/-- R520: a reason becomes active or inactive: an episode begins or ends. A reason that becomes active on the edge on
which its episode ended continues that episode. -/
def State.throttle (s : State) (r : Nat) (on : Bool) : State :=
  let last := s.fld .PM_THR_LAST_END_LAST_END r 0
  let prev := sget (fun _ => 0) s.pm.prevEnd r
  if nbit s.power.thrActive r = on then s
  else if on then
    let s1 := s.withPower { s.power with thrActive := s.power.thrActive + 2 ^ r }
    if prev ≠ 0 ∧ last = s.now then
      (s1.setFld .PM_THR_ACCUM_ACCUM r 0 (s.fld .PM_THR_ACCUM_ACCUM r 0 - (s.now - s.fld .PM_THR_LAST_START_LAST_START r 0))).setFld
        .PM_THR_LAST_END_LAST_END r 0 (prev - 1)
    else
      let s2 := (s1.setFld .PM_THR_EPISODES_EPISODES r 0 (s.fld .PM_THR_EPISODES_EPISODES r 0 + 1)).setFld
        .PM_THR_LAST_START_LAST_START r 0 s.now
      s2.powerAlert r
  else
    let s1 := s.setFld .PM_THR_ACCUM_ACCUM r 0 (s.thrAccum r)
    let s2 := s1.withPm { s1.pm with prevEnd := sset (fun _ => 0) s1.pm.prevEnd r (last + 1) }
    (s2.setFld .PM_THR_LAST_END_LAST_END r 0 s.now).withPower { s2.power with thrActive := s2.power.thrActive - 2 ^ r }

end Sys2Proof.Machine
end

