-- ==== Sys2Proof/Machine/Egress.lean ====
section
/-! DEFINITION. The egress of the Herdlink ports: what waits at a port, the order in which its frames leave, and their beats at its
arbiter (R249, R250, R464, R469, R471). -/
namespace Sys2Proof.Machine

open Sys2Proof

/-- R469: the channel of a class: 0 BULK, 1 NORMAL, 2 and 3 URGENT. -/
def classVc (cls : Nat) : Nat := match cls with | 0 => 3 | 1 => 2 | _ => 1

/-- The class of a channel's frames at the arbiter; NORMAL for replies, whose class the spec does not state (log entry 152). -/
def vcClass (vc : Nat) : Nat := match vc with | 1 => 2 | 3 => 0 | _ => 1

/-- R464: the order in which headers go out: VC0, VC4, VC1, VC2, VC3. -/
def headerOrder (vc : Nat) : Nat := match vc with | 0 => 0 | 4 => 1 | 1 => 2 | 2 => 3 | _ => 4

/-- The frames waiting at a port that can leave now: the first of its channel and sub-channel, with credit for all of it (R471). -/
def State.egressReady (s : State) (p : Nat) : List Egress :=
  let here := s.herd.egress.filter (fun (e : Egress) => e.port == p)
  here.filter (fun (e : Egress) =>
    s.hasCredit p e.frame && here.find? (fun (x : Egress) => x.frame.vc == e.frame.vc && x.frame.sub == e.frame.sub) == some e)

/-- R464: the frame whose header goes out next. -/
def State.egressNext (s : State) (p : Nat) : Option Egress :=
  (s.egressReady p).foldl (fun (best : Option Egress) (e : Egress) =>
    match best with
    | none => some e
    | some b => if headerOrder e.frame.vc < headerOrder b.frame.vc then some e else some b) none

/-- R471: the buffer a frame took on a port is free: CREDIT words return its header and its beats. Control frames take
none. -/
def State.freeBuffer (s : State) (p vc sub beats : Nat) : State :=
  if vc = 0 then s
  else
    let s1 := s.emit (.credit p vc sub true 1)
    if beats = 0 then s1 else s1.emit (.credit p vc sub false beats)

/-- A frame leaves its port: its beats cross the arbiter, and the buffer it held on arrival is free. -/
def State.egressLeave (s : State) (e : Egress) : State :=
  let s0 := s.withHerd { s.herd with egress := s.herd.egress.erase e }
  let s1 := (s0.trWhole (portArb e.port) 0 e.req (vcClass e.frame.vc) (frameBeats e.frame) .unit 0).putFrame e.port e.frame
  match e.arrival with
  | none => s1
  | some (p, sub) => s1.freeBuffer p e.frame.vc sub (frameBeats e.frame)

/-- The frames of a port leave in the order of R464 while the next hop has credit for one of them. -/
def State.egressRun : Nat → State → Nat → State
  | 0, s, _ => s
  | fuel + 1, s, p =>
    match s.egressNext p with
    | none => s
    | some e => egressRun fuel (s.egressLeave e) p

/-- What waits at a port leaves, as far as it can. -/
def State.portRun (s : State) (p : Nat) : State := s.egressRun (s.herd.egress.length + 1) p

/-- A frame of a requester comes to a port; a control frame leaves at once (R473). -/
def State.enterPort (s : State) (p : Nat) (f : Frame) (req : Nat) (arrival : Option (Nat × Nat)) : State :=
  if f.vc = 0 then
    let s1 := s.offerFrame p f
    match arrival with
    | none => s1
    | some (q, sub) => s1.freeBuffer q f.vc sub (frameBeats f)
  else (s.withHerd { s.herd with egress := s.herd.egress ++ [⟨p, f, req, arrival⟩] }).portRun p

/-- A frame that a requester of this module makes is routed and comes to its port; `none` when no route exists. -/
def State.sendAs (s : State) (f : Frame) (req : Nat) : Option State :=
  match s.route none f with
  | .here => none
  | .unreachable => none
  | .port p g det =>
    let s1 := s.enterPort p g req none
    some (if det then s1.setFlag .HL_EVENT_DETOUR 0 0 true else s1)

/-- R250: the index at a Herdlink port of a stream context's traffic. -/
def State.streamIdx (s : State) (e x : Nat) : Nat := if e < 18 then (s.logCluster e).getD 48 else 16 + x / 4

/-- R250: the index at a Herdlink port of a core's traffic. -/
def State.coreIdx (s : State) (core : Nat) : Nat := if core < 18 then (s.logCluster core).getD 48 else 24 + (core - 18)

/-- R250: the index at a Herdlink port of what has come by a port and goes on. -/
def transitIdx (p : Nat) : Nat := 28 + p

/-- A request is sent to a member, and its reply awaited for HL_TIMEOUT (R476, R481); none where no route exists, the module
is in no herd, or the member is lost (R498). -/
def State.remoteSend (s : State) (type vc dest len addr arg : Nat) (payload : List PW) (owner : TxnOwner) :
    Option State :=
  if s.role = 0 ∨ s.herd.lost.contains dest then none
  else
    let tag := s.herd.nextTag
    let f : Frame := { type := type, vc := vc, sub := 0, detours := 0, dest := dest, bcast := false, linkLocal := false,
                       src := s.herdId, len := len, addr := addr, tag := tag, arg := arg, payload := payload }
    let req := match owner with
      | .core c _ _ _ => s.coreIdx c
      | .stream e x _ _ => s.streamIdx e x
      | .entry e x _ => s.streamIdx e x
      | .service => 48
    match s.sendAs f req with
    | none => none
    | some s1 => some (s1.withHerd { s1.herd with
        nextTag := (tag + 1) % 2 ^ 32
        txns := s1.herd.txns ++ [⟨tag, type, dest, s.portOf f, owner, s.replyDue⟩] })

end Sys2Proof.Machine
end

