-- ==== Sys2Proof/Machine/Streams.lean ====
section
/-! DEFINITION. Streams: contexts, block lists, read-ahead and merging, retirement, halts and breadcrumbs, resume and
cancel (R269 to R300), and what a delivered remote operation does at the member that owns the place (R468, R474, R477, R478). Engines 0
to 17 are the clusters' and 18 and 19 the I/O dies'. -/
namespace Sys2Proof.Machine

open Sys2Proof

/-- Words that hold `n` bytes from byte `skip` (0 to 3) of the first word on; a byte of a poisoned word poisons its word. -/
def realign (ws : List PW) (skip n : Nat) : List PW :=
  if skip = 0 then ws.take ((n + 3) / 4)
  else (List.range ((n + 3) / 4)).map (fun k =>
    let a := ws.getD k ⟨0, false⟩
    let b := ws.getD (k + 1) ⟨0, false⟩
    if a.poison then a
    else if b.poison then b
    else ⟨BitVec.ofNat 32 ((a.data.toNat + 2 ^ 32 * b.data.toNat) / 2 ^ (8 * skip)), false⟩)

/-! ## Accesses of members at their target (R474, R477, R478) -/

/-- What became of a request at its target. -/
inductive HerdOut where
  | done (data : List PW)
  | refused (family code : Nat)
  | waits
deriving DecidableEq, Repr

/-- R477: an access of another module to a cluster's tensor memory, through a window of its FAB, admitted or refused whole. -/
def State.herdFab (s : State) (src c off len : Nat) (write post : Bool) (data : List PW) (inc cls : Nat) : HerdOut × State :=
  let code := 0x2000 + src
  if s.clusterOn c = false then (.refused 1 1, s)
  else if s.fabHolds c then (.waits, s)
  else match s.admitWindow c code write off len with
    | none => let r := s.wnReason c code off len; (.refused 1 r, s.wnRefuse c code write off len r)
    | some w =>
      if post then (.done [], s.incWindow c w inc)
      else if write then
        let n := herdInc (s.fld .WN_CTL_CNT_MODE c w) inc off len
        match s.fabWrite c cls code 64 off len 1 data false with
        | (.done _, t) => (.done [], t.incWindow c w n)
        | (_, t) => (.waits, t)
      else match s.fabRead c cls code off len with
        | (.done ws, t) => (.done ws, t)
        | (_, t) => (.waits, t)

/-- The herd window that admitted an access that waits at its channel. -/
def State.herdWaits (s : State) (src tag p : Nat) (write : Bool) : Option Nat :=
  s.hbm.accs.findSome? (fun a => match a.req with
    | .herd b u w _ => if a.own && a.plot == p && a.write == write && b == src && u == tag then some w else none
    | _ => none)

/-- R106, R107, R203, R478: an access of another module to a plot, through a herd window: admitted or refused whole, and then made at its stack. -/
def State.herdPlot (s : State) (src tag die addr p off len : Nat) (write post : Bool) (data : List PW) (inc cls : Nat) :
    HerdOut × State :=
  let was := s.herdWaits src tag p write
  match (match was with | some h => some h | none => s.admitHerd src p write off len) with
  | none => let r := s.hwReason src p off len; (.refused 1 r, s.hwRefuse src write addr len r)
  | some h =>
    if post then (.done [], s.incHerdWindow h inc)
    else if plotSize < off + len then (.refused 2 7, s.plotFault addr 7 0 write true)
    else match (if was.isSome then none else s.plotCheck p none write none) with
      | some r => (.refused 2 r, s.plotFault addr r 0 write true)
      | none =>
        let f : Front := ⟨.herd src tag h die, cls, 0⟩
        if write then
          match s.frontWrite f p off len data true with
          | (.go, t) => (.done [], (t.incHerdWindow h (herdInc (t.fld .WN_HW_CTL_CNT_MODE h 0) inc off len)).zeroHerd)
          | (.waits, t) => (.waits, t)
          | (.expired _, t) => (.refused 3 0, t.zeroHerd)
        else
          match s.frontRead f p off len with
          | ((.waits, _), t) => (.waits, t)
          | ((_, ws), t) => (.done ws, t.zeroHerd)

/-- R477, R478, R106, R203: an access of a member at a device physical address, named by its source and tag, that comes in by I/O die `die` in a
class. `post` says that it is a POST, which writes nothing. -/
def State.herdAccess (s : State) (src tag die addr len : Nat) (write post : Bool) (data : List PW) (inc cls : Nat) :
    HerdOut × State :=
  match s.dpaTarget addr with
  | .unmapped => (.refused 2 7, s.plotFault addr 7 0 write true)
  | .tm l off => s.herdFab src (s.physCluster l) off len write post data inc cls
  | .plot p off => s.herdPlot src tag die addr p off len write post data inc cls

/-- R275: the refusal of a whole transfer to the module's own herd ID, logged, if no one window covers it. -/
def State.herdWhole (s : State) (src addr len : Nat) : Option Nat × State :=
  match s.dpaTarget addr with
  | .unmapped => (none, s)
  | .tm l off =>
    let c := s.physCluster l
    let code := 0x2000 + src
    if s.clusterOn c = false then (some 1, s)
    else match s.admitWindow c code true off len with
      | some _ => (none, s)
      | none => let r := s.wnReason c code off len; (some r, s.wnRefuse c code true off len r)
  | .plot p off => match s.admitHerd src p true off len with
    | some _ => (none, s)
    | none => let r := s.hwReason src p off len; (some r, s.hwRefuse src true addr len r)

/-- R476: the stream fault kind of a refusal's family. -/
def familyKind (family : Nat) : Nat := match family with | 1 => 2 | 2 => 1 | 3 => 3 | _ => 9

/-! ## Contexts -/

/-- The key of a stream context. -/
def stKey (e x : Nat) : Nat := e * 32 + x
/-- A stream context. -/
def State.stCtx (s : State) (e x : Nat) : StCtx := sget (fun _ => StCtx.reset) s.st (stKey e x)
/-- The state with a stream context replaced. -/
def State.setStCtx (s : State) (e x : Nat) (c : StCtx) : State :=
  s.withSt (sset (fun _ => StCtx.reset) s.st (stKey e x) c)
/-- R271: 0 IDLE, 1 RUNNING, 2 HALTED, 3 CANCELLING. -/
def State.stState (s : State) (e x : Nat) : Nat := s.fld .ST_CTX_STATUS_STATE e x
/-- The state with the context's STATE replaced. -/
def State.setStState (s : State) (e x n : Nat) : State := s.setFld .ST_CTX_STATUS_STATE e x n
/-- Whether an engine has a context of this number: 16 in a cluster's, 32 in an I/O die's. -/
def stExists (e x : Nat) : Bool := if e < 18 then decide (x < 16) else decide (e < 20 ∧ x < 32)
/-- Whether an engine's domain is on. -/
def State.stOn (s : State) (e : Nat) : Bool :=
  if e < 18 then s.clusterOn e else s.power.rails && decide (e - 18 < s.fld .SV_ASSEMBLY_IODIES 0 0)
/-- A context's VI. -/
def State.stVi (s : State) (e x : Nat) : Nat := s.fld .ST_CTX_CFG_VI e x
/-- The die of an engine. -/
def stDie (e : Nat) : Nat := if e < 18 then dieOf e else e - 18
/-- The source code of a stream's accesses. -/
def State.stSrc (s : State) (e x : Nat) : Nat := if e < 18 then s.clusterSrc e else 0x1000 + s.stVi e x
/-- A class as the arbiters and the breadcrumb have it: 3 acts as 2. -/
def State.stClass (s : State) (e x : Nat) : Nat := min 2 (s.fld .ST_CTX_CFG_CLASS e x)
/-- Whether a requester is a context, by its blocks or by its list entries. -/
def stUnit (e x : Nat) (r : PlotReq) : Bool := r == .stream e x || r == .list e x
/-- A context's access to device physical memory: `req` is its blocks' or its list's requester. -/
def State.stMem (s : State) (e x : Nat) (req : PlotReq) (la : Nat) (phys : Bool) : MemReq :=
  ⟨s.stSrc e x, ⟨req, s.stClass e x, s.stVi e x⟩, none, la, phys⟩
/-- R250: the index of a context's accesses at a DMA path; none for a cluster's. -/
def stPathIdx (e x : Nat) : Nat := if e < 18 then 48 else x
/-- R133, R447, R461: words that a VI reads from host memory; a poisoned one has kind LINK and names the VI and its port. -/
def State.hostWords (s : State) (vi : Nat) (ws : List PW) : List PW :=
  ws.map (fun w => if w.poison then poisoned .link (originLink false 0 vi (s.fld .HQ_VI_CFG_PORT vi 0)) else w)
/-- Words that a context reads from host memory. -/
def State.stHostWords (s : State) (e x : Nat) (ws : List PW) : List PW := s.hostWords (s.stVi e x) ws
/-- An event of ST_CNT: 0 BLOCKS, 1 BYTES, 2 MERGED, 3 HALTS, 4 RESUMES, 5 CANCELS. -/
def State.stCount (s : State) (e ev n : Nat) : State := s.cntInc .ST_CNT_COUNT .ST_CNT_WRAPS_WRAPS .ST_CNT_WRAPS_OVF e ev n

/-! ## Entries (R272 to R274) -/

/-- Byte `k` of an entry's bytes. -/
def entByte (e k : Nat) : Nat := nfield e (8 * k) 8

/-- An address field of an entry: 48 bits, the space and the herd ID. -/
def entAddr (w : Nat) : StAddr := ⟨nfield w 48 2, nfield w 50 12, nfield w 0 48⟩

/-- R272: the fields of an entry of 32 bytes, or 64 for an extended one. -/
def stDecode (e : Nat) : StBlk :=
  let w0 := nfield e 0 64
  let w1 := nfield e 64 64
  let c := nfield e 128 32
  let ext := nfield w0 62 2 == 1
  { kind := nfield w0 62 2, src := entAddr w0, dst := entAddr w1, len := nfield c 0 24,
    rows := if ext then nfield e 256 16 else 1,
    srcStep := if ext then sextNat 32 (nfield e 320 32) else 0,
    dstStep := if ext then sextNat 32 (nfield e 352 32) else 0,
    nomerge := nbit c 24, lc := nbit c 25, sigEn := nbit c 26, order := nbit c 27, layer := nbit c 28,
    sigCluster := nfield e 160 4, sigCnt := nfield e 168 8, tag := nfield e 176 16 }

/-- The bytes a block moves. -/
def StBlk.total (b : StBlk) : Nat := b.rows * b.len

/-- Row `r` of a stepped address, in 48 bits. -/
def rowAddr (a : Nat) (step : Int) (r : Nat) : Nat := (((a : Int) + r * step) % (2 ^ 48 : Nat)).toNat

/-- The source address of a byte offset of a block. -/
def StBlk.srcAt (b : StBlk) (o : Nat) : Nat := rowAddr b.src.addr b.srcStep (o / b.len) + o % b.len
/-- The destination address of a byte offset of a block. -/
def StBlk.dstAt (b : StBlk) (o : Nat) : Nat := rowAddr b.dst.addr b.dstStep (o / b.len) + o % b.len

/-- Whether a row of a LOCAL side of a block leaves the cluster's tensor memory (R274: an offset in the own cluster's
TM); only the first, the last and so the extreme rows need be looked at. -/
def localOut (a : Nat) (step : Int) (rows len : Nat) : Bool :=
  let lo : Int := if step < 0 then (a : Int) + ((rows : Int) - 1) * step else a
  let hi : Int := if step < 0 then (a : Int) + len else (a : Int) + ((rows : Int) - 1) * step + len
  decide (lo < 0 ∨ hi > (2 ^ 24 : Nat))

/-- R274: whether a space may not be named by a context. -/
def badSpace (e vi space : Nat) : Bool := (space == 1 && decide (18 ≤ e)) || (space == 2 && vi != 0)

/-- R272 to R274: the offending byte of an entry that breaks a rule, the lowest of several; the checks in byte order. -/
def badByte (e vi ent : Nat) (b : StBlk) : Option Nat :=
  let moves := b.kind == 0 || b.kind == 1
  let checks : List (Nat × Bool) :=
    [(0, b.kind == 2 && (b.src.addr % 32 != 0 || (b.src.space == 1 && decide (2 ^ 24 ≤ b.src.addr)))),
     (0, moves && b.src.space == 1 && localOut b.src.addr b.srcStep b.rows b.len),
     (6, b.kind != 3 && badSpace e vi b.src.space),
     (8, moves && b.dst.space == 1 && localOut b.dst.addr b.dstStep b.rows b.len),
     (14, moves && badSpace e vi b.dst.space),
     (15, entByte ent 15 / 64 != 0),
     (16, moves && b.len == 0),
     (19, entByte ent 19 / 32 != 0 || (b.layer && b.kind != 3))]
    ++ (rangeFrom 24 8).map (fun k => (k, entByte ent k != 0))
    ++ (if b.kind = 1 then
          [(32, b.rows == 0)] ++ (rangeFrom 34 6).map (fun k => (k, entByte ent k != 0))
            ++ (rangeFrom 48 16).map (fun k => (k, entByte ent k != 0))
        else [])
  (checks.find? (fun c => c.2)).map (fun c => c.1)

/-! ## Where an address leads (R274) -/

/-- What an address of a context names. -/
inductive StPlace where
  /-- The engine's own tensor memory. -/
  | own (off : Nat)
  /-- Another cluster's tensor memory. -/
  | other (c off : Nat)
  /-- Device physical memory outside tensor memory. -/
  | plot (addr : Nat)
  /-- Host memory. -/
  | host (addr : Nat)
  /-- Another member's memory. -/
  | herd (h addr : Nat)
  /-- Refused by the translation (R180). -/
  | refused (reason : Nat)
  /-- Waits for a page (R178). -/
  | waits
deriving DecidableEq, Repr

/-- A device physical address as a stream sees it. -/
def State.stPhys (s : State) (e a : Nat) : StPlace :=
  match s.dpaTarget a with
  | .tm l off => if s.physCluster l = e then .own off else .other (s.physCluster l) off
  | _ => .plot a

/-- R274: what an address names, after translation (R176); an absent host page is waited for (R178). -/
def State.stPlace (s : State) (e x : Nat) (req : PlotReq) (a : StAddr) (addr : Nat) (write : Bool) : StPlace × State :=
  match a.space with
  | 0 => match s.reach (s.stVi e x) addr write req with
    | (.device pa _, s1) => (s1.stPhys e pa, s1)
    | (.host h _, s1) => (.host h, s1)
    | (.fail r, s1) => (.refused r, s1)
    | (_, s1) => (.waits, s1)
  | 1 => (.own addr, s)
  | 2 => (s.stPhys e addr, s)
  | _ => (.herd a.herd addr, s)

/-! ## Reading and writing a block -/

/-- The outcome of reading or writing a part of a block. -/
inductive StOut where
  | done (ws : List PW)
  | fault (kind detail : Nat)
  | waits
deriving DecidableEq, Repr

/-- The outcome of a memory access as a stream's (R282). -/
def stOfMem : MemOut → StOut
  | .done ws => .done ws
  | .plotRefused r => .fault 1 r
  | .wnRefused r => .fault 2 r
  | .expired _ => .fault 3 0
  | .host _ => .waits
  | .waits => .waits

/-- The outcome of a FAB access as a stream's. -/
def stOfFab : FabOut → StOut
  | .done ws => .done ws
  | .refused r => .fault 2 r
  | .held => .waits

/-- The number under which the source word of a block offset is kept: row by row, with room for an unaligned row. -/
def StBlk.wordIx (b : StBlk) (o : Nat) : Nat :=
  let a := rowAddr b.src.addr b.srcStep (o / b.len)
  (o / b.len) * (b.len / 4 + 2) + ((a + o % b.len) / 4 - a / 4)

/-- A kept word. -/
def lookupPW (l : List (Nat × PW)) (k : Nat) : Option PW := (l.find? (fun e => e.1 == k)).map (fun e => e.2)

/-- The words kept for `n` bytes at a block offset in one row, if all are there. -/
def StBlk.kept (b : StBlk) (l : List (Nat × PW)) (o n : Nat) : Option (List PW) :=
  (rangeFrom (b.wordIx o) (b.wordIx (o + n - 1) + 1 - b.wordIx o)).mapM (lookupPW l)

/-- What a move of a block's bytes works with: the engine, context and entry, source words from outside the module, and
the block offsets of source words lost in the read buffer (R300). -/
structure StJob where
  e : Nat
  x : Nat
  ent : StEntry
  ext : List (Nat × PW)
  upset : List Nat

/-- One part of a block read from its source; it lies in one row and one 32-B sector. -/
def State.stReadPart (s : State) (j : StJob) (o n : Nat) : StOut × State :=
  let b := j.ent.blk
  match b.kept j.ent.words o n with
  | some ws => (.done ws, s)
  | none =>
    let a := b.srcAt o
    let req : PlotReq := .stream j.e j.x
    match s.stPlace j.e j.x req b.src a false with
    | (.own off, s1) =>
      if s1.tmReady j.e then
        let (ws, t) := s1.tmReadN j.e 1 (off / 4 * 4) ((off + n - 1) / 4 + 1 - off / 4)
        (.done ws, t)
      else (.waits, s1)
    | (.other c off, s1) =>
      let (r, t) := s1.fabRead c (s1.stClass j.e j.x) (s1.stSrc j.e j.x) off n
      (stOfFab r, t)
    | (.plot pa, s1) =>
      let m := s1.stMem j.e j.x req a (b.src.space == 2)
      let (r, t) := if b.lc then s1.cachedRead m true false pa n else s1.physRead m pa n
      (stOfMem r, t)
    | (.host _, s1) => match b.kept j.ext o n with
      | some ws =>
        (.done (s1.stHostWords j.e j.x ws), s1.trMove (pathArb (s1.fld .HQ_VI_CFG_PORT (s1.stVi j.e j.x) 0)) 0 (stPathIdx j.e j.x)
          (s1.stClass j.e j.x) (.stream j.e j.x) (s1.stVi j.e j.x))
      | none => (.waits, s1)
    | (.herd _ _, s1) => (.waits, s1)
    | (.refused r, s1) => (.fault 1 r, s1)
    | (.waits, s1) => (.waits, s1)

/-- Whether the words of a part carry an uncorrectable error that its read detected (R283): in this step, or when the lookup cache
fetched them for it. -/
def State.stFresh (s t : State) (j : StJob) (o : Nat) : Bool :=
  ueSeen s t || (j.ent.blk.lc && (match (s.stPlace j.e j.x (.stream j.e j.x) j.ent.blk.src (j.ent.blk.srcAt o) false).1 with
    | .plot pa => s.lcFound (.stream j.e j.x) pa
    | _ => false))

/-- The policy as it acts: 0 PASS, 1 HALT_UE, 2 HALT_ANY. -/
def State.stPolicy (s : State) (e x : Nat) : Nat := min 2 (s.fld .ST_CTX_CFG_POLICY e x)

/-- R283: the fault that poison in words read at block offset `o` raises, at the first word concerned. -/
def stPoison (policy : Nat) (fresh : Bool) (b : StBlk) (o n : Nat) (ws : List PW) : Option StFault :=
  let ue := fun (w : PW) => w.poison && [1, 2, 3, 7].contains (w.data.toNat / 2 ^ 28)
  let hit := if policy = 2 then ws.findIdx? (fun w => w.poison)
             else if policy = 1 ∧ fresh then ws.findIdx? ue else none
  hit.map (fun k =>
    let w := ws.getD k ⟨0, false⟩
    let at_ := o + (if k = 0 then 0 else min (n - 1) (4 * k - b.srcAt o % 4))
    ⟨if fresh && ue w then 4 else 5, w.data.toNat / 2 ^ 28, at_, { b.src with addr := b.srcAt at_ }, w.data.toNat⟩)

/-- How far a phase of a block has come: the state, the offset below which every byte has been read or written, the words read, the
admitted accesses written through, and a fault or a wait that it met. -/
structure StProg where
  st : State
  off : Nat
  words : List (Nat × PW)
  wins : List (Nat × Nat)
  fault : Option StFault
  waits : Bool

/-- R300: words lost in the read buffer become poison of kind ENGINE. -/
def stUpset (j : StJob) (o : Nat) (ws : List PW) : List PW :=
  ws.zipIdx.map (fun (w, k) =>
    if j.upset.any (fun u => j.ent.blk.wordIx u == j.ent.blk.wordIx o + k) then
      poisoned .engine (originEngine (if j.e < 18 then j.e else 0x1F) 3 0)
    else w)

/-- The bytes that an engine's reads may have outstanding. -/
def stWindow (e : Nat) : Nat := if e < 18 then 65536 else 131072

/-- The bytes of an engine's reads that wait at the stacks. -/
def State.stOutstanding (s : State) (e : Nat) : Nat :=
  32 * (s.hbm.accs.filter (fun a => a.own && !a.write && (match a.req with | .stream f _ => f == e | _ => false))).length

/-- The read phase of a block from an offset up to `stop`: reads go on past one that waits while fewer bytes are outstanding than the engine
may have; it ends at the first fault (R282, R283). `gap` is the offset of the first part that waits. -/
def State.stReadLoop : Nat → State → StJob → Nat → Nat → List (Nat × PW) → Option Nat → StProg
  | 0, s, _, o, _, acc, gap => ⟨s, gap.getD o, acc, [], none, gap.isSome⟩
  | fuel + 1, s, j, o, stop, acc, gap =>
    let b := j.ent.blk
    let full := gap.isSome && decide (stWindow j.e ≤ s.stOutstanding j.e)
    if stop ≤ o ∨ b.len = 0 ∨ full then ⟨s, gap.getD o, acc, [], none, gap.isSome⟩
    else
      let n := min (min (stop - o) (b.len - o % b.len)) (32 - b.srcAt o % 32)
      match s.stReadPart j o n with
      | (.waits, s1) => stReadLoop fuel s1 j (o + n) stop acc (some (gap.getD o))
      | (.fault k d, s1) =>
        ⟨s1, gap.getD o, acc, [], some ⟨k, d, o, { b.src with addr := b.srcAt o }, 0⟩, gap.isSome⟩
      | (.done ws0, s1) =>
        let ws := stUpset j o ws0
        let fresh := s.stFresh s1 j o || ws != ws0
        let acc1 := acc ++ (ws.zipIdx.map (fun (w, k) => (b.wordIx o + k, w)))
        match stPoison (s1.stPolicy j.e j.x) fresh b o n ws with
        | some f => ⟨s1, min f.off (gap.getD f.off), acc1, [], some f, gap.isSome⟩
        | none => stReadLoop fuel s1 j (o + n) stop acc1 gap

/-- The words to store for `n` bytes at a block offset of one row: source words where both sides are aligned alike, else
put together byte by byte; a byte of a poisoned word poisons the word it lands in (R130, R131). -/
def stShift (b : StBlk) (l : List (Nat × PW)) (o n : Nat) : List PW :=
  let d := b.dstAt o
  let word := fun (q : Nat) => (lookupPW l (b.wordIx q)).getD ⟨0, false⟩
  (List.range ((d + n - 1) / 4 + 1 - d / 4)).map (fun k =>
    let w := (d / 4 + k) * 4
    let offs := ((List.range 4).map (w + ·)).filterMap (fun a => if d ≤ a ∧ a < d + n then some (o + (a - d), a % 4) else none)
    match offs.find? (fun q => (word q.1).poison) with
    | some q => word q.1
    | none =>
      ⟨BitVec.ofNat 32 (offs.foldl (fun v q => v + byteAt (word q.1).data.toNat (b.srcAt q.1 % 4) * 2 ^ (8 * q.2)) 0), false⟩)

/-- The lowest destination address of a merged transfer or block and the bytes from it to its end (R275, R277). -/
def State.stSpan (s : State) (j : StJob) : Nat × Nat :=
  let b := j.ent.blk
  let mine := (s.stCtx j.e j.x).entries.filter (fun (t : StEntry) => t.group == j.ent.group && t.seq != j.ent.seq)
  if b.kind = 1 then
    let last := rowAddr b.dst.addr b.dstStep (b.rows - 1)
    (min b.dst.addr last, max b.dst.addr last + b.len - min b.dst.addr last)
  else
    let lo := b.dst.addr - j.ent.gOff
    let hi := mine.foldl (fun m (t : StEntry) => max m (t.blk.dst.addr + t.blk.len)) (b.dst.addr + b.len)
    (lo, hi - lo)

/-- R103: the increment of a block at a window: one, or the lines of the whole block. -/
def stLines (b : StBlk) (off0 : Nat) : Nat :=
  (List.range b.rows).foldl (fun (n r : Nat) =>
    n + linesTouched (((off0 : Int) + (r : Int) * b.dstStep).toNat) b.len) 0

/-- R275, R98: the access through which a block writes to another cluster, admitted whole before any byte moves; `addr` is the destination
address that lies at `off`. It stays in flight until the block retires or is given up. -/
def State.stAdmit (s : State) (j : StJob) (c addr off : Nat) : (FabAcc ⊕ Nat) × State :=
  let have_ := s.tm.fab.find? (fun a => j.ent.wins.contains (c, a.id))
  match have_ with
  | some a => (.inl a, s)
  | none =>
    let (lo, len) := s.stSpan j
    let src := s.stSrc j.e j.x
    let off0 := off - (addr - lo)
    if s.clusterOn c = false then (.inr 1, s)
    else if off < addr - lo then (.inr 4, s.wnRefuse c src true 0 len 4)
    else match s.admitWindow c src true off0 len with
      | some w =>
        let b := j.ent.blk
        let a0 := s.fabRecord c w src (s.stVi j.e j.x) true off0 len 1
        let a : FabAcc := { a0 with
          left := 1
          inc := if s.fld .WN_CTL_CNT_MODE c w = 0 then 1 else stLines b ((off : Int) - addr + b.dst.addr).toNat }
        (.inl a, s.withTm { s.tm with fab := s.tm.fab ++ [a], nextFab := s.tm.nextFab + 1 })
      | none => let r := s.wnReason c src off0 len; (.inr r, s.wnRefuse c src true off0 len r)

/-- R79, R80: words of an admitted access cross the spine in its class and are written at FAB. -/
def State.fabPut (s : State) (a : FabAcc) (cls off len : Nat) (data : List PW) : State :=
  let lines := (splitLines (maskedWords off len data)).map (fun ws => (⟨a.c, a.id, cls, true, ws⟩ : FabLine))
  let s1 := ((s.withTm { s.tm with fabQ := s.tm.fabQ ++ lines }).pump a.c).tmUntil (fun t => t.fabGranted a.id) a.c
    ((len / 64 + 2) * tmFuel)
  s1.withTm { s1.tm with issues := s1.tm.issues.filter (fun i => i.acc != a.id) }

/-- The admitted accesses of blocks are in flight no more, and nothing is posted for them (R285, R291, R298). -/
def State.dropWins (s : State) (l : List (Nat × Nat)) : State := s.each l (fun w t => t.fabDrop w.2)

/-- One part of a block written to its destination, with the admitted access it went through. -/
def State.stWritePart (s : State) (j : StJob) (o n : Nat) (ws : List PW) : StOut × List (Nat × Nat) × State :=
  let b := j.ent.blk
  let a := b.dstAt o
  let req : PlotReq := .stream j.e j.x
  match s.stPlace j.e j.x req b.dst a true with
  | (.own off, s1) =>
    if s1.tmReady j.e then (.done [], [], s1.tmWriteAll j.e 1 (maskedWords off n ws)) else (.waits, [], s1)
  | (.other c off, s1) =>
    if s1.fabHolds c then (.waits, [], s1)
    else match s1.stAdmit j c a off with
      | (.inr r, s2) => (.fault 2 r, [], s2)
      | (.inl f, s2) => (.done [], [(c, f.id)], s2.fabPut f (s2.stClass j.e j.x) off n ws)
  | (.plot pa, s1) =>
    let (m, s2) := s1.physWrite (s1.stMem j.e j.x req a (b.dst.space == 2)) pa n 1 ws true
    (stOfMem m, [], s2)
  | (.host h, s1) =>
    (.done [], [], s1.hostWriteAs (stPathIdx j.e j.x) (s1.stClass j.e j.x) (.stream j.e j.x) (s1.stVi j.e j.x)
      (s1.fld .HQ_VI_CFG_PORT (s1.stVi j.e j.x) 0) h n ws)
  | (.herd _ _, s1) => (.waits, [], s1)
  | (.refused r, s1) => (.fault 1 r, [], s1)
  | (.waits, s1) => (.waits, [], s1)

/-- The write phase of a block from an offset up to `stop`. -/
def State.stWriteLoop : Nat → State → StJob → Nat → Nat → List (Nat × PW) → List (Nat × Nat) → StProg
  | 0, s, _, o, _, l, wins => ⟨s, o, l, wins, none, false⟩
  | fuel + 1, s, j, o, stop, l, wins =>
    let b := j.ent.blk
    if stop ≤ o ∨ b.len = 0 then ⟨s, o, l, wins, none, false⟩
    else
      let n := min (min (stop - o) (b.len - o % b.len)) (64 - b.dstAt o % 64)
      match s.stWritePart { j with ent := { j.ent with wins := wins } } o n (stShift b l o n) with
      | (.waits, _, s1) => ⟨s1, o, l, wins, none, true⟩
      | (.fault k d, _, s1) => ⟨s1, o, l, wins, some ⟨k, d, o, { b.dst with addr := b.dstAt o }, 0⟩, false⟩
      | (.done _, w, s1) => stWriteLoop fuel s1 j (o + n) stop l (wins ++ w.filter (fun q => !wins.contains q))

/-- A block's bytes from an offset up to `stop` moved: what was read before the first fault or wait is written; the end of the
block fences STE's merge buffer (R278). -/
def State.stMove (s : State) (j : StJob) (o stop : Nat) : StProg :=
  let r := s.stReadLoop (stop - o) j o stop j.ent.words none
  let w := r.st.stWriteLoop (r.off - o) j o r.off r.words j.ent.wins
  let t0 := if j.e < 18 ∧ w.st.tmReady j.e then w.st.fencePorts j.e [1] else w.st
  let t := t0.stCount j.e 1 (w.off - o)
  if w.fault.isSome ∨ w.waits then { w with st := t }
  else { w with st := t, fault := r.fault, waits := r.waits }

/-! ## Transfers at the arbiters (R252, R269) -/

/-- A block's offsets cut into parts that lie in one row and in one piece of `align` bytes at address `f`, as (offset, bytes). -/
def stCuts (f : Nat → Nat) (len align : Nat) : Nat → Nat → Nat → List (Nat × Nat)
  | 0, _, _ => []
  | fuel + 1, o, stop =>
    if stop ≤ o ∨ len = 0 then []
    else
      let n := min (min (stop - o) (len - o % len)) (align - f o % align)
      (o, n) :: stCuts f len align fuel (o + n) stop

/-- The arbiter and point that a sector of a block crosses at its stack; none where it lies elsewhere. -/
def State.stPoint (s : State) (e x : Nat) (a : StAddr) (addr : Nat) (write : Bool) : Option (Nat × Nat) :=
  match (s.stPlace e x (.stream e x) a addr write).1 with
  | .plot pa => match s.dpaTarget pa with
    | .plot p off => some (frontArb (plotStack p), (s.plotLoc p off).pc)
    | _ => none
  | _ => none

/-- The points that one side of a block crosses, one for each beat. -/
def State.stBeats (s : State) (e x : Nat) (t : StEntry) (write : Bool) : List (Nat × Nat) :=
  let b := t.blk
  if 1 < b.kind then []
  else if write then
    (stCuts b.dstAt b.len 32 b.total t.start b.total).filterMap (fun p => s.stPoint e x b.dst (b.dstAt p.1) true)
  else if b.lc then []
  else (stCuts b.srcAt b.len 32 b.total t.start b.total).filterMap (fun p => s.stPoint e x b.src (b.srcAt p.1) false)

/-- One side of a transfer is presented: a transfer of its own at each point it crosses, with its beats there (R252). -/
def State.stPresent (s : State) (e x : Nat) (pts : List (Nat × Nat)) : State :=
  s.each pts.eraseDups (fun p t =>
    t.trPresent p.1 p.2 (t.frontIdx (.stream e x)) (t.stClass e x) (pts.count p) (.stream e x) (t.stVi e x))

/-- The reads of host memory that a block needs are sent (R274). -/
def State.stHostReads (s : State) (e x : Nat) (t : StEntry) : State :=
  let b := t.blk
  if 1 < b.kind then s
  else s.each (stCuts b.srcAt b.len 4096 b.total t.start b.total) (fun (o, n) u =>
    match (u.stPlace e x (.stream e x) b.src (b.srcAt o) false).1 with
    | .host h => u.emit (.hostRead (u.fld .HQ_VI_CFG_PORT (u.stVi e x) 0) h n (stPathIdx e x))
    | _ => u)

/-- A context's transfer is issued: the blocks merged in it (R277), presented at every arbiter it crosses. -/
def State.stOpen (s : State) (e x group : Nat) : State :=
  let c := s.stCtx e x
  let mine := c.entries.filter (fun (t : StEntry) => t.group == group && !t.opened)
  let s1 := s.setStCtx e x { c with
    entries := c.entries.map (fun (t : StEntry) => if t.group = group then { t with opened := true } else t) }
  let s2 := s1.stPresent e x (mine.flatMap (fun t => s1.stBeats e x t false))
  let s3 := s2.stPresent e x (mine.flatMap (fun t => s2.stBeats e x t true))
  s3.each mine (fun t u => u.stHostReads e x t)

/-- The transfer that a context has ready to issue: that of its first block. -/
def State.stReady (s : State) (e x : Nat) : Option Nat :=
  match (s.stCtx e x).entries with
  | t :: _ => if s.stState e x = 1 ∧ t.opened = false ∧ t.blk.kind < 2 ∧ t.fault.isNone then some t.group else none
  | [] => none

/-- R269: the contexts of an engine that have a transfer ready, in the order in which the engine serves them: by class, and within one class
round-robin from the one served last. -/
def State.stOrder (s : State) (e : Nat) : List Nat :=
  let last := sget (fun _ => 31) s.tr.served e
  let l := ((List.range 32).map (fun k => (last + 1 + k) % 32)).filter (fun x => stExists e x && (s.stReady e x).isSome)
  [2, 1, 0].flatMap (fun k => l.filter (fun x => s.stClass e x == k))

/-- R269: an engine issues the transfers that its contexts have ready. -/
def State.stServe (s : State) (e : Nat) : State :=
  s.each (s.stOrder e) (fun x t =>
    match t.stReady e x with
    | some g =>
      let u := t.stOpen e x g
      u.withTr { u.tr with served := sset (fun _ => 31) u.tr.served e x }
    | none => t)

/-- The rest of a context's transfers moves: its last block has retired. -/
def State.stFinish (s : State) (e x : Nat) : State :=
  s.each (s.tr.reqs.filter (fun (r : TrReq) => r.owner == .stream e x && r.drop == 0)) (fun r t =>
    t.trRun (t.tr.reqs.foldl (fun (k : Nat) (q : TrReq) => k + 2 * q.beats + 2) 4) r.arb r.point r.id r.beats)

/-! ## Blocks to and from other members (R477, R478) -/

/-- The pieces of a block, each of up to 4,096 bytes in one row, as (offset, bytes). -/
def stPieces (b : StBlk) (o stop : Nat) : List (Nat × Nat) :=
  stCuts (fun _ => 0) b.len 4096 (b.total / 4096 + b.rows + 1) o stop

/-- Requests sent one after another; the offset of the first that could not be sent. -/
def State.sendAll (s : State) : List (Nat × (State → Option State)) → Option Nat × State
  | [] => (none, s)
  | (o, f) :: t => match f s with
    | some s1 => s1.sendAll t
    | none => (some o, s)

/-- The entry of a context with a number replaced. -/
def State.setEntry (s : State) (e x seq : Nat) (f : StEntry → StEntry) : State :=
  let c := s.stCtx e x
  s.setStCtx e x { c with entries := c.entries.map (fun (t : StEntry) => if t.seq == seq then f t else t) }

/-- HERD_LOST for a block whose target cannot be reached (R282). -/
def herdLost (a : StAddr) (addr off : Nat) : StFault := ⟨9, 0, off, { a with addr := addr }, 0⟩

/-- A fault of a block that another member's answer, or the lack of one, raises: the one at the lowest offset is held (R284, R293). -/
def StEntry.fail (t : StEntry) (f : StFault) : StEntry :=
  match t.fault with
  | some g => if f.off < g.off then { t with fault := some f } else t
  | none => { t with fault := some f }

/-- The block offsets of the requests of a block that await replies. -/
def State.stAwaited (s : State) (e x seq : Nat) : List Nat :=
  s.herd.txns.filterMap (fun (t : Txn) => match t.owner with
    | .stream e' x' q o => if e' = e ∧ x' = x ∧ q = seq then some o else none
    | _ => none)

/-- Requests of a block that await replies. -/
def State.stWaiting (s : State) (e x seq : Nat) : Bool := !(s.stAwaited e x seq).isEmpty

/-- Words from outside, kept from the number of a block offset's word on. -/
def numbered (base : Nat) (ws : List PW) : List (Nat × PW) := ws.zipIdx.map (fun (w, k) => (base + k, w))

/-- R474: a request to the module's own herd ID is delivered to the module itself. -/
def State.ownHerd (s : State) (a : StAddr) : Bool := a.space == 3 && s.role != 0 && a.herd == s.herdId

/-- R474: the tag under which a context's own blocks, or its list entries, reach the module itself; no frame has it. -/
def selfTag (e x list_ : Nat) : Nat := 2 ^ 32 + 2 * stKey e x + list_

/-- The reads of a block from the module's own herd ID, piece by piece. -/
def State.selfRead (e x seq : Nat) (b : StBlk) : List (Nat × Nat) → State → StOut × Nat × State
  | [], s => (.done [], 0, s)
  | (o, n) :: t, s =>
    if (b.kept (((s.stCtx e x).entries.find? (fun (q : StEntry) => q.seq == seq)).map (fun q => q.words) |>.getD []) o n).isSome then
      selfRead e x seq b t s
    else
      match s.herdAccess s.herdId (selfTag e x 0) (stDie e) (b.srcAt o / 4 * 4 % 2 ^ 48)
          ((b.srcAt o + n - 1) / 4 * 4 + 4 - b.srcAt o / 4 * 4) false false [] 0 (s.stClass e x) with
      | (.waits, u) => (.waits, o, u)
      | (.refused fam code, u) => (.fault (familyKind fam) (if fam = 4 then 0 else code), o, u)
      | (.done ws, u) =>
        selfRead e x seq b t (u.setEntry e x seq (fun q => { q with words := q.words ++ numbered (b.wordIx o) ws }))

/-- The writes of a block to the module's own herd ID, piece by piece; what has been written is kept in the entry. -/
def State.selfWrite (e x seq : Nat) (b : StBlk) (l : List (Nat × PW)) : List (Nat × Nat) → State → StOut × Nat × State
  | [], s => (.done [], 0, s)
  | (o, n) :: t, s =>
    match s.herdAccess s.herdId (selfTag e x 0) (stDie e) (b.dstAt o % 2 ^ 48) n true false (stShift b l o n) 0 (s.stClass e x) with
    | (.waits, u) => (.waits, o, u)
    | (.refused fam code, u) => (.fault (familyKind fam) (if fam = 4 then 0 else code), o, u)
    | (.done _, u) => selfWrite e x seq b l t (u.setEntry e x seq (fun q => { q with moved := o + n }))

/-- The POST of a block to the module's own herd ID (R477, R478), with the block's count under R103. -/
def State.selfPost (s : State) (e x : Nat) (b : StBlk) : HerdOut × State :=
  s.herdAccess s.herdId (selfTag e x 0) (stDie e) (b.dst.addr % 2 ^ 48) 1 true true [] 1 (s.stClass e x)

/-- The reads of a block from another member, or from the module's own herd ID, are sent. -/
def State.stHerdRead (s : State) (e x : Nat) (t : StEntry) (cls : Nat) : State :=
  let b := t.blk
  if s.ownHerd b.src then
    match State.selfRead e x t.seq b (stPieces b t.start b.total) s with
    | (.done _, _, u) => u.setEntry e x t.seq (fun q => { q with stage := 1 })
    | (.fault k d, o, u) =>
      u.setEntry e x t.seq (fun q => { q with stage := 1 }.fail ⟨k, d, o, { b.src with addr := b.srcAt o }, 0⟩)
    | (.waits, _, u) => u
  else
    let reqs := (stPieces b t.start b.total).map (fun (o, n) => (o, fun (u : State) =>
      u.remoteSend 0x03 cls b.src.herd 0 (b.srcAt o / 4 * 4) ((b.srcAt o + n - 1) / 4 * 4 + 4 - b.srcAt o / 4 * 4) []
        (.stream e x t.seq o)))
    match s.sendAll reqs with
    | (none, u) => u.setEntry e x t.seq (fun q => { q with stage := 1 })
    | (some o, u) => u.setEntry e x t.seq (fun q => { q with stage := 1 }.fail (herdLost b.src (b.srcAt o) o))

/-- R275: the transfer of a block to the module's own herd ID is admitted whole before any of its bytes moves. -/
def State.selfAdmit (s : State) (j : StJob) : Option Nat × State :=
  if j.ent.start < j.ent.moved then (none, s)
  else let (lo, len) := s.stSpan j; s.herdWhole s.herdId (lo % 2 ^ 48) len

/-- The writes of a block to another member, or to the module's own herd ID, once every source word before its first fault is at hand. -/
def State.stHerdWrite (s : State) (e x : Nat) (t : StEntry) (cls : Nat) : State :=
  let b := t.blk
  let j : StJob := ⟨e, x, t, [], []⟩
  let r := s.stReadLoop (b.total - t.start) j t.start b.total t.words none
  let s1 := r.st.setEntry e x t.seq (fun q => { q with words := r.words })
  if r.waits ∧ r.fault.isNone then s1
  else
    let held := fun (q : StEntry) => match r.fault with | some f => q.fail f | none => q
    if s.ownHerd b.dst then
      match s1.selfAdmit j with
      | (some c, u) => u.setEntry e x t.seq (fun q => { q with stage := 2 }.fail ⟨2, c, t.start, { b.dst with addr := b.dstAt t.start }, 0⟩)
      | (none, u0) =>
        match State.selfWrite e x t.seq b r.words (stPieces b (max t.moved t.start) r.off) u0 with
        | (.done _, _, u) => u.setEntry e x t.seq (fun q => held { q with stage := 2 })
        | (.fault k d, o, u) =>
          u.setEntry e x t.seq (fun q => { q with stage := 2 }.fail ⟨k, d, o, { b.dst with addr := b.dstAt o }, 0⟩)
        | (.waits, _, u) => u
    else
      let reqs := (stPieces b t.start r.off).map (fun (o, n) => (o, fun (u : State) =>
        u.remoteSend 0x01 cls b.dst.herd n (b.dstAt o) 0 (stShift b r.words o n) (.stream e x t.seq o)))
      match s1.sendAll reqs with
      | (none, u) => u.setEntry e x t.seq (fun q => held { q with stage := 2 })
      | (some o, u) => u.setEntry e x t.seq (fun q => { q with stage := 2 }.fail (herdLost b.dst (b.dstAt o) o))

/-- A herd block's next step: its reads are sent, or, with every source word at hand, its writes. `run` says that the
block belongs to the running list, so that it may write (R280). -/
def State.stIssueOne (s : State) (e x : Nat) (t : StEntry) (run : Bool) : State :=
  let b := t.blk
  let cls := classVc (s.fld .ST_CTX_CFG_CLASS e x)
  if 1 < b.kind ∨ t.fault.isSome then s
  else if t.stage = 0 ∧ b.src.space = 3 then s.stHerdRead e x t cls
  else if t.stage ≤ 1 ∧ b.dst.space = 3 ∧ run ∧ s.stWaiting e x t.seq = false then s.stHerdWrite e x t cls
  else s

/-- The entries of the running list: up to and with its END. -/
def runningEntries : List StEntry → List StEntry
  | [] => []
  | t :: l => if t.blk.kind = 3 ∧ t.fault.isNone then [t] else t :: runningEntries l

/-- The herd blocks of a context take their next steps. -/
def State.stIssue (s : State) (e x : Nat) : State :=
  if s.stState e x = 1 then
    let c := s.stCtx e x
    let run := (runningEntries c.entries).map (fun (t : StEntry) => t.seq)
    s.each c.entries (fun t u => u.stIssueOne e x t (run.contains t.seq))
  else s

/-! ## Issue, resume, cancel (R270, R288, R291) -/

/-- ST_CTX_STATUS.QUEUED: the lists a context holds. -/
def State.stQueued (s : State) (e x : Nat) : Nat := (s.stCtx e x).lists.length

/-- R270: whether an issuer acting for a VI may use a context. -/
def State.stMay (s : State) (e x vi : Nat) : Bool := vi == 0 || vi == s.stVi e x

/-- R270: a list is issued: 0 ACCEPTED, 1 QUEUE_FULL, 2 WRONG_VI. One issued to a context that is CANCELLING waits for the end of the
cancel, which does not touch it (R291, log entry 155). -/
def State.stIssueList (s : State) (e x vi addr space : Nat) : Nat × State :=
  if s.stMay e x vi = false then (2, s)
  else
    let c := s.stCtx e x
    if 4 ≤ c.lists.length then (1, s)
    else if s.stState e x = 0 then
      (0, (s.setStCtx e x { c with
        lists := [(addr, space)], entries := [], next := ⟨space, 0, addr⟩, nextIx := 0, reading := 0, ended := false,
        resumeOff := 0, fetched := [], fetchFault := none }).setStState e x 1)
    else (0, s.setStCtx e x { c with lists := c.lists ++ [(addr, space)] })

/-- R288: STRESUME: 0 ACCEPTED, 2 WRONG_VI, 3 NOT_HALTED. The faulting entry is read again from its address. -/
def State.stResume (s : State) (e x vi : Nat) : Nat × State :=
  if s.stMay e x vi = false then (2, s)
  else if s.stState e x ≠ 2 then (3, s)
  else (0, (s.setStState e x 1).stCount e 4 1)

/-- The requests of a context that await replies are forgotten: their replies are discarded. -/
def State.stForget (s : State) (e x : Nat) : State :=
  s.withHerd { s.herd with txns := s.herd.txns.filter (fun (t : Txn) => match t.owner with
    | .stream e' x' _ _ => !(e' == e && x' == x)
    | .entry e' x' _ => !(e' == e && x' == x)
    | _ => true) }

/-- R285, R291, R298, R261: a context's requests drop with a cause (1 reset of its owner, 2 VI reset, 3 CANCEL, 4 HALT), and its reads in
flight are drained and discarded. -/
def State.stQuiet (s : State) (e x cause : Nat) : State :=
  let s1 := (s.trGiveUp (fun r => r.owner == .stream e x || r.owner == .list e x) cause).dropUnit (stUnit e x)
  (s1.dropOwn (fun r => match r with
    | .herd _ u _ _ => u == selfTag e x 0 || u == selfTag e x 1
    | _ => false)).zeroHerd

/-- A context's requests drop, and it leaves no access in flight at any window and awaits no reply (R285). -/
def State.stDrop (s : State) (e x cause : Nat) : State :=
  ((s.stQuiet e x cause).dropWins ((s.stCtx e x).entries.flatMap (fun (t : StEntry) => t.wins))).stForget e x

/-- The context holds no list and no entry. -/
def State.stClear (s : State) (e x cause : Nat) : State :=
  let c := s.stCtx e x
  (s.stDrop e x cause).setStCtx e x { StCtx.reset with crumbs := c.crumbs, nextSeq := c.nextSeq }

/-- R291: the cancel is complete; a list that was issued while it ran starts. -/
def State.stCancelDone (s : State) (e x : Nat) : State :=
  let later := (s.stCtx e x).lists.drop (s.stCtx e x).cancelled
  let s1 := ((s.stClear e x 3).setStState e x 0).setFld .ST_CTX_DONE_FT e x s.now
  let s2 := s1.setFlag .ST_CTX_STATUS_CANCELLED e x true
  match later with
  | [] => s2
  | (a, sp) :: _ => (s2.setStCtx e x { s2.stCtx e x with lists := later, next := ⟨sp, 0, a⟩ }).setStState e x 1

/-- R291: STCANCEL: 0 ACCEPTED, 2 WRONG_VI. A RUNNING or HALTED context enters CANCELLING and its requests drop; an IDLE one completes at
once. -/
def State.stCancel (s : State) (e x vi : Nat) : Nat × State :=
  if s.stMay e x vi = false then (2, s)
  else match s.stState e x with
    | 0 => (0, (s.stCancelDone e x).stCount e 5 1)
    | 3 => (0, s)
    | _ =>
      let s1 := s.stQuiet e x 3
      (0, (s1.setStCtx e x { s1.stCtx e x with cancelled := (s1.stCtx e x).lists.length }).setStState e x 3)

/-! ## Read-ahead (R276, R277, R280) -/

/-- The entry slots in use. -/
def slotsUsed (l : List StEntry) : Nat := l.foldl (fun n (t : StEntry) => n + t.slots) 0

/-- The blocks of the list after the running one that have been read. -/
def prologue (l : List StEntry) : Nat := l.length - (runningEntries l).length

/-- R276, R280, R284: whether a context reads its next entry now. -/
def State.stMayFetch (s : State) (e x : Nat) (c : StCtx) : Bool :=
  s.stState e x == 1 && s.stOn e && !c.ended && decide (slotsUsed c.entries < 16) &&
    !(c.entries.any (fun (t : StEntry) => t.fault.isSome || (t.blk.order && decide (t.blk.kind < 2)))) &&
    (c.reading == 0 || decide (prologue c.entries < min 16 (s.fld .ST_CTX_CFG_OVERLAP e x)))

/-- The words of an entry read from its address: 32 bytes from `32 part` on. -/
def State.stEntryRead (s : State) (e x : Nat) (a0 : StAddr) (part : Nat) (ext : List PW) : StOut × State :=
  let a : StAddr := { a0 with addr := a0.addr + 32 * part }
  let req : PlotReq := .list e x
  let own := (ext.drop (8 * part)).take 8
  match s.stPlace e x req a a.addr false with
  | (.own off, s1) =>
    if s1.tmReady e then let (ws, t) := s1.tmReadN e 1 (off / 4 * 4) 8; (.done ws, t) else (.waits, s1)
  | (.other c off, s1) => let (r, t) := s1.fabRead c (s1.stClass e x) (s1.stSrc e x) off 32; (stOfFab r, t)
  | (.plot pa, s1) =>
    let (m, t) := s1.physRead (s1.stMem e x req a.addr (a.space == 2)) pa 32
    (stOfMem m, t)
  | (.host _, s1) => if own.length = 8 then (.done (s1.stHostWords e x own), s1) else (.waits, s1)
  | (.herd h _, s1) =>
    let c := s1.stCtx e x
    if s1.ownHerd a then
      match s1.herdAccess s1.herdId (selfTag e x 1) (stDie e) (a.addr % 2 ^ 48) 32 false false [] 0 (s1.stClass e x) with
      | (.done ws, t) => (.done ws, t)
      | (.refused fam code, t) => (.fault (familyKind fam) (if fam = 4 then 0 else code), t)
      | (.waits, t) => (.waits, t)
    else match c.fetchFault, c.fetched.find? (fun q => q.1 == part) with
      | some (k, d), _ => (.fault k d, s1)
      | none, some q => (.done q.2, s1)
      | none, none =>
        if s1.herd.txns.any (fun (t : Txn) => t.owner == .entry e x part) then (.waits, s1)
        else match s1.remoteSend 0x03 (classVc (s1.fld .ST_CTX_CFG_CLASS e x)) h 0 (a.addr % 2 ^ 48) 32 [] (.entry e x part) with
          | some u => (.waits, u)
          | none => (.fault 9 0, s1)
  | (.refused r, s1) => (.fault 1 r, s1)
  | (.waits, s1) => (.waits, s1)

/-- An empty block, for an entry that could not be read. -/
def StBlk.none : StBlk := ⟨0, ⟨0, 0, 0⟩, ⟨0, 0, 0⟩, 0, 0, 0, 0, false, false, false, false, false, 0, 0, 0⟩

/-- R282: the fault of an entry that was read: poison, or a broken rule, or a resume beyond its end (R288). -/
def stEntryFault (e vi : Nat) (place : StAddr) (ws : List PW) (b : StBlk) (resume : Nat) : Option StFault :=
  match ws.find? (fun w => w.poison) with
  | some w => some ⟨6, w.data.toNat / 2 ^ 28, 0, place, w.data.toNat⟩
  | none =>
    match badByte e vi (natOfBytes (wordsBytes ws)) b with
    | some k => some ⟨7, k, 0, place, 0⟩
    | none => if resume ≠ 0 ∧ (if b.kind < 2 then b.total else 0) ≤ resume then some ⟨7, 16, 0, place, 0⟩ else none

/-- R277: whether a block merges into the transfer of the block read before it. -/
def mergesWith (l : List StEntry) (b : StBlk) : Option StEntry :=
  match l.getLast? with
  | none => none
  | some t =>
    let p := t.blk
    if p.kind = 0 ∧ b.kind = 0 ∧ p.len < 512 ∧ b.len < 512 ∧ p.nomerge = false ∧ b.nomerge = false ∧
        p.src.space = b.src.space ∧ p.src.herd = b.src.herd ∧ p.dst.space = b.dst.space ∧ p.dst.herd = b.dst.herd ∧
        p.lc = b.lc ∧ p.src.addr + p.len = b.src.addr ∧ p.dst.addr + p.len = b.dst.addr ∧ p.sigEn = false ∧
        p.order = false ∧ t.gOff + p.len + b.len ≤ 4096 ∧ t.fault.isNone ∧ t.start = 0 ∧ t.stage = 0 ∧ t.opened = false ∧
        l.any (fun (q : StEntry) => q.group == t.group && q.gOff == 0) then some t
    else none

/-- R276, R277: a read entry joins the read-ahead. -/
def State.stAppend (s : State) (e x : Nat) (place : StAddr) (slots : Nat) (b : StBlk) (f : Option StFault) : State :=
  let c := s.stCtx e x
  let m := if f.isSome then none else mergesWith c.entries b
  let t : StEntry :=
    { seq := c.nextSeq, index := c.nextIx, place := place, slots := slots, blk := b, start := c.resumeOff, fault := f,
      group := match m with | some q => q.group | none => c.nextSeq
      gOff := match m with | some q => q.gOff + q.blk.len | none => 0
      words := [], stage := 0, opened := false, moved := c.resumeOff, wins := [] }
  let more := b.kind == 3 && f.isNone && b.layer && c.reading == 0 && decide (1 < c.lists.length)
  let next : StAddr := match c.lists[1]? with
    | some (a, sp) => if more then ⟨sp, 0, a⟩ else { place with addr := place.addr + 32 * slots }
    | none => { place with addr := place.addr + 32 * slots }
  let s1 := s.setStCtx e x { c with
    entries := c.entries ++ [t], nextSeq := c.nextSeq + 1, resumeOff := 0, next := next, fetched := [], fetchFault := none
    nextIx := if more then 0 else c.nextIx + 1
    reading := if more then 1 else c.reading
    ended := b.kind == 3 && f.isNone && !more }
  if m.isSome then s1.stCount e 2 1 else s1

/-- Source words of a block read ahead of its retirement: up to the engine's outstanding reads; a fault is held (R284). -/
def State.stEarly (s : State) (e x : Nat) (ext : List (Nat × PW)) : State :=
  match (s.stCtx e x).entries.getLast? with
  | none => s
  | some t =>
    let b := t.blk
    if t.fault.isSome ∨ 1 < b.kind ∨ b.src.space = 3 ∨ stWindow e < b.total then s
    else
      let s1 := (s.stServe e).stOpen e x t.group
      let r := s1.stReadLoop (b.total - t.start) ⟨e, x, t, ext, []⟩ t.start b.total t.words none
      r.st.setEntry e x t.seq (fun q => { q with words := r.words, fault := r.fault })

/-- An entry joins the read-ahead, and its block may be read at once. -/
def State.stTake (s : State) (e x : Nat) (place : StAddr) (slots : Nat) (b : StBlk) (f : Option StFault) (early : Bool) (src : List PW) :
    State :=
  let s1 := s.stAppend e x place slots b f
  (if early ∧ f.isNone ∧ b.kind < 2 then s1.stEarly e x (numbered 0 src) else s1).stIssue e x

/-- The second slot of an extended entry is read and the entry joins the read-ahead. -/
def State.stTakeExt (s : State) (e x : Nat) (a : StAddr) (ws ext : List PW) (early : Bool) (src : List PW) : State :=
  let c := s.stCtx e x
  if 15 ≤ slotsUsed c.entries then s
  else if a.space = 1 ∧ 2 ^ 24 ≤ a.addr + 32 then s.stAppend e x a 2 StBlk.none (some ⟨7, 32, 0, a, 0⟩)
  else match s.stEntryRead e x a 1 ext with
    | (.waits, s2) => s2
    | (.fault k d, s2) => s2.stAppend e x a 2 StBlk.none (some ⟨k, d, 0, { a with addr := a.addr + 32 }, 0⟩)
    | (.done w2, s2) =>
      let b := stDecode (natOfBytes (wordsBytes (ws ++ w2)))
      s2.stTake e x a 2 b (stEntryFault e (s.stVi e x) a (ws ++ w2) b c.resumeOff) early src

/-- ENTRY_FETCH (R276, R277, R273, R280): the next entry of a context's list is read and, when its words come, decoded: a LINK is followed, an
END stops the reading or starts the prologue, a block joins the read-ahead and may merge. `ext` holds the entry's words where it
lies in host memory. With `early`, the block's source is read now, from `src` where it lies in host memory (its words
in order, row by row, each row in LENGTH / 4 + 2 places). -/
def execEntryFetch (e x : Nat) (ext : List PW) (early : Bool) (src : List PW) (s : State) :
    Host.Outcome State Fault Refusal :=
  .next <|
    let c := s.stCtx e x
    if stExists e x && s.stMayFetch e x c then
      let a := c.next
      if a.addr % 32 ≠ 0 ∨ badSpace e (s.stVi e x) a.space ∨ (a.space = 1 ∧ 2 ^ 24 ≤ a.addr) then
        s.stAppend e x a 1 StBlk.none (some ⟨7, if badSpace e (s.stVi e x) a.space then 6 else 0, 0, a, 0⟩)
      else match s.stEntryRead e x a 0 ext with
        | (.waits, s1) => s1
        | (.fault k d, s1) => s1.stAppend e x a 1 StBlk.none (some ⟨k, d, 0, a, 0⟩)
        | (.done ws, s1) =>
          let b := stDecode (natOfBytes (wordsBytes ws))
          if b.kind = 1 ∧ ws.all (fun w => !w.poison) then s1.stTakeExt e x a ws ext early src
          else
            match stEntryFault e (s.stVi e x) a ws b c.resumeOff with
            | some f => s1.stAppend e x a 1 b (some f)
            | none =>
              if b.kind = 2 then
                s1.setStCtx e x { s1.stCtx e x with next := b.src, nextIx := c.nextIx + 1, fetched := [] }
              else s1.stTake e x a 1 b none early src
    else s

/-! ## Retirement (R278) -/

/-- The block's count at each window it wrote through, whose entries at FAB flush first (R73, R81, R278). -/
def State.stPostWins (s : State) (wins : List (Nat × Nat)) : State :=
  s.each wins (fun (c, id) t =>
    match t.tm.fab.find? (fun a => a.id == id) with
    | some a => let u := t.flushIf c (fabEntry a); (u.postAcc a).fabDrop id
    | none => t)

/-- R278: a signal adds 1 to a counter of a logical cluster whose domain is on. -/
def State.stSignal (s : State) (l cnt : Nat) : State :=
  let c := s.physCluster l
  if s.clusterOn c then s.postCount c cnt 1 else s

/-- R278: a delivered block retires: its counts, its POST to another member, its signal. -/
def State.stRetire (s : State) (e x : Nat) (t : StEntry) (wins : List (Nat × Nat)) : State :=
  let b := t.blk
  let s1 := s.stPostWins wins
  let s2 := if s1.ownHerd b.dst then (s1.selfPost e x b).2
    else if b.dst.space = 3 then
      (s1.remoteSend 0x02 (classVc (s1.fld .ST_CTX_CFG_CLASS e x)) b.dst.herd 0 b.dst.addr 1 [] .service).getD s1
    else s1
  let s3 := if b.sigEn then s2.stSignal b.sigCluster b.sigCnt else s2
  let c := s3.stCtx e x
  let rest := c.entries.filter (fun (q : StEntry) => q.seq != t.seq)
  let s4 := (s3.setStCtx e x { c with entries := rest }).stCount e 0 1
  if rest.any (fun (q : StEntry) => q.opened) then s4 else s4.stFinish e x

/-- What moving a block has come to is kept in its entry. -/
def State.stKeep (r : StProg) (e x seq : Nat) : State :=
  r.st.setEntry e x seq (fun q => { q with words := r.words, moved := max q.moved r.off, wins := r.wins })

/-- The offset below which a block has been moved. -/
def StEntry.done (t : StEntry) : Nat := max t.start t.moved

/-- A block of this module is moved up to `stop`, and what it meets is kept in its entry: the bytes committed, and a fault. -/
def State.stRunTo (s : State) (e x : Nat) (t : StEntry) (src : List PW) (upset : List Nat) (stop : Nat) : StProg :=
  s.stMove ⟨e, x, t, numbered 0 src, upset⟩ t.done stop

/-- A block between this module's own places moves, and retires when it has been delivered. -/
def State.stBlock (s : State) (e x : Nat) (t : StEntry) (src : List PW) (upset : List Nat) : State :=
  let r := s.stRunTo e x t src upset t.blk.total
  if r.fault.isNone ∧ r.waits = false then (r.st.stRetire e x t r.wins).stIssue e x
  else if s.stState e x = 3 then s
  else (State.stKeep r e x t.seq).setEntry e x t.seq (fun q => { q with fault := r.fault })

/-- BLOCK_RETIRE (R278, R279, R269, R291): the engine issues what its contexts have ready, and the first unretired block of a RUNNING or
CANCELLING context has been delivered: every byte it writes has committed, and it retires. `src` holds its source words where they lie in
host memory; `upset` the block offsets of words the read buffer lost. A block that meets a fault, or must wait, does not retire: what it has
written stays, and a fault is held for STREAM_HALT. -/
def execBlockRetire (e x : Nat) (src : List PW) (upset : List Nat) (s0 : State) : Host.Outcome State Fault Refusal :=
  .next <|
    if s0.stOn e ∧ (s0.stState e x = 1 ∨ s0.stState e x = 3) then
      let s := s0.stServe e
      match (s.stCtx e x).entries with
      | [] => s
      | t :: _ =>
        if 1 < t.blk.kind ∨ t.fault.isSome then s
        else if t.blk.dst.space = 3 then
          if s.ownHerd t.blk.dst ∧ (s.selfPost e x t.blk).1 = .waits then s
          else if t.stage = 2 ∧ s.stWaiting e x t.seq = false then
            ((s.stCount e 1 (t.blk.total - t.start)).stRetire e x t []).stIssue e x
          else s.stIssue e x
        else if t.blk.src.space = 3 ∧ (t.stage ≠ 1 ∨ s.stWaiting e x t.seq) then s.stIssue e x
        else s.stBlock e x t src upset
    else s0

/-- LIST_END (R271, R273, R280): the END entry of the running list is first: it retires, posts its signal, and the next
list starts or the context is IDLE. -/
def execListEnd (e x : Nat) (s : State) : Host.Outcome State Fault Refusal :=
  .next <|
    let c := s.stCtx e x
    if s.stOn e ∧ s.stState e x = 1 then
      match c.entries with
      | [] => s
      | t :: rest =>
        if t.blk.kind ≠ 3 ∨ t.fault.isSome then s
        else
          let s1 := if t.blk.sigEn then s.stSignal t.blk.sigCluster t.blk.sigCnt else s
          let s2 := s1.setFld .ST_CTX_DONE_FT e x s1.now
          match c.lists.drop 1 with
          | [] => (s2.stClear e x 0).setStState e x 0
          | (a, sp) :: more =>
            let c1 := if c.reading = 1 then { c with lists := (a, sp) :: more, entries := rest, reading := 0 }
              else { c with
                lists := (a, sp) :: more, entries := [], next := ⟨sp, 0, a⟩, nextIx := 0, reading := 0, ended := false }
            (s2.setStCtx e x c1).stIssue e x
    else s

/-! ## Halts (R282 to R287) -/

/-- R287: the words of a breadcrumb. -/
def crumbWords (e x vi cls ft seq : Nat) (list : Nat × Nat) (t : StEntry) (f : StFault) (frontier : Nat) : List W64 :=
  let off := frontier / 256 * 256
  [BitVec.ofNat 64 ft,
   BitVec.ofNat 64 (list.1 + list.2 * 2 ^ 48),
   BitVec.ofNat 64 (t.place.addr + t.place.space * 2 ^ 48),
   BitVec.ofNat 64 (t.index % 2 ^ 32 + (off % 2 ^ 32) * 2 ^ 32),
   BitVec.ofNat 64 (frontier % 2 ^ 32 + (f.place.addr % 2 ^ 32) * 2 ^ 32),
   BitVec.ofNat 64 (nfield f.place.addr 32 16 + f.place.space * 2 ^ 16 + f.place.herd * 2 ^ 18 + f.kind * 2 ^ 32
     + (f.detail % 256) * 2 ^ 40 + x * 2 ^ 48 + (if e < 18 then e else 0x20 + (e - 18)) * 2 ^ 56),
   BitVec.ofNat 64 (vi + cls * 2 ^ 8 + t.blk.tag * 2 ^ 16 + (if 4 ≤ f.kind ∧ f.kind ≤ 6 then f.tag % 2 ^ 32 else 0) * 2 ^ 32),
   BitVec.ofNat 64 (seq % 2 ^ 32 + (off / 2 ^ 32 % 256) * 2 ^ 32 + (frontier / 2 ^ 32 % 256) * 2 ^ 40 + 2 ^ 63)]

/-- The data words of register words. -/
def wordsOf64 (l : List W64) : List PW :=
  l.flatMap (fun w => [⟨BitVec.ofNat 32 w.toNat, false⟩, ⟨BitVec.ofNat 32 (w.toNat / 2 ^ 32), false⟩])

/-- R287, R299: the breadcrumb is written to ST_CTX_CRUMB: whether it could be; none while it has to wait. -/
def State.crumbWrite (s : State) (e x : Nat) (ws : List PW) : Option Bool × State :=
  let a := s.fld .ST_CTX_CRUMB_ADDR e x
  let sp := s.fld .ST_CTX_CRUMB_SPACE e x
  let req : PlotReq := .list e x
  if a % 64 ≠ 0 ∨ sp = 3 ∨ badSpace e (s.stVi e x) sp ∨ (sp = 1 ∧ 2 ^ 24 ≤ a) then (some false, s)
  else match s.stPlace e x req ⟨sp, 0, a⟩ a true with
    | (.own off, s1) =>
      if s1.tmReady e then (some true, (s1.tmWriteAll e 1 (maskedWords off 64 ws)).fencePorts e [1]) else (none, s1)
    | (.other c off, s1) =>
      match s1.fabWrite c (s1.stClass e x) (s1.stSrc e x) (s1.stVi e x) off 64 1 ws true with
      | (.done _, s2) => (some true, s2)
      | (.refused _, s2) => (some false, s2)
      | (.held, s2) => (none, s2)
    | (.plot pa, s1) =>
      match s1.physWrite (s1.stMem e x req a (sp == 2)) pa 64 1 ws true with
      | (.done _, s2) => (some true, s2)
      | (.waits, s2) => (none, s2)
      | (_, s2) => (some false, s2)
    | (.host h, s1) =>
      (some true, s1.hostWriteAs 33 1 .unit (s1.stVi e x) (s1.fld .HQ_VI_CFG_PORT (s1.stVi e x) 0) h 64 ws)
    | (.waits, s1) => (none, s1)
    | (_, s1) => (some false, s1)

/-- R285 step 7, R366: the halt signal is posted and the interrupt raised. -/
def State.stHaltSignal (s : State) (e x : Nat) : State :=
  let vi := s.stVi e x
  let s1 :=
    if s.flag .ST_CTX_CFG_HALT_SIG_EN e x then
      if e < 18 then s.postCount e (s.fld .ST_CTX_CFG_HALT_CNT e x) 1
      else s.stSignal (s.fld .ST_CTX_CFG_HALT_CLUSTER e x) (s.fld .ST_CTX_CFG_HALT_CNT e x)
    else s
  s1.each (if e < 18 then [e] else [18 + 2 * (e - 18), 19 + 2 * (e - 18)]) (fun core u =>
    u.each ((List.range 16).filter (fun y => u.ctxVi core y == vi)) (fun y v => v.raiseIrq core y 2))

/-- R285 steps 2 to 7, R287: the requests drop, the frontier is fixed, the breadcrumb written, STATE set to HALTED, the halt signal
posted, and the interrupt raised. The faulting entry will be read again. While the breadcrumb's write waits, the fault is held. -/
def State.stHalt (s0 : State) (e x : Nat) (t : StEntry) (f : StFault) (frontier : Nat) : State :=
  let c := s0.stCtx e x
  let s := s0.stDrop e x 4
  let crumb := crumbWords e x (s.stVi e x) (s.stClass e x) s.now c.crumbs (c.lists.headD (0, 0)) t f frontier
  match (if s.flag .ST_CTX_CFG_CRUMB_EN e x then s.crumbWrite e x (wordsOf64 crumb) else (some true, s)) with
  | (none, s2) => s2.setEntry e x t.seq (fun q => { q with fault := some f })
  | (some ok, s2) =>
    let s3 := (if ok then s2 else s2.setFlag .ST_CTX_STATUS_CRUMB_LOST e x true).each crumb.zipIdx
      (fun (w, k) u => u.setReg .ST_CRUMB e (x * 8 + k) w)
    let s4 := s3.setStCtx e x { c with
      entries := [], next := t.place, nextIx := t.index, reading := 0, ended := false, fetched := [], fetchFault := none
      resumeOff := frontier / 256 * 256, crumbs := c.crumbs + 1 }
    let s5 := (s4.setStState e x 2).stCount e 3 1
    (if f.kind = 6 then s5.bite (stDie e) 0 else s5).stHaltSignal e x

/-- A part of a block that landed though the block did not: which unretired entry (0 the first), block offset, bytes, and
the source words where they lie in host memory. -/
abbrev StLanded := Nat × Nat × Nat × List PW

/-- R285, R291: writes of blocks that are not posted stay written. -/
def State.stLand (s : State) (e x : Nat) (landed : List StLanded) : State :=
  let es := (s.stCtx e x).entries
  s.each landed (fun (k, o, n, src) u =>
    match es[k]? with
    | none => u
    | some t =>
      if 1 < t.blk.kind ∨ t.fault.isSome ∨ t.blk.dst.space = 3 ∨ (t.blk.src.space = 3 ∧ t.stage ≠ 1) ∨
          (runningEntries es).length ≤ k then u
      else
        let r := u.stMove ⟨e, x, t, numbered (t.blk.wordIx o) src, []⟩ o (min (o + n) t.blk.total)
        r.st.dropWins (r.wins.filter (fun w => !t.wins.contains w)))

/-- Whether the byte at a block's offset comes from or goes to host memory. -/
def State.stAtHost (s : State) (e x : Nat) (b : StBlk) (o : Nat) : Bool :=
  let host := fun (p : StPlace) => match p with | .host _ => true | _ => false
  host (s.stPlace e x (.stream e x) b.src (b.srcAt o) false).1 || host (s.stPlace e x (.stream e x) b.dst (b.dstAt o) true).1

/-- Whether the context's next entry lies in host memory. -/
def State.stEntryAtHost (s : State) (e x : Nat) : Bool :=
  let a := (s.stCtx e x).next
  match (s.stPlace e x (.list e x) a a.addr false).1 with | .host _ => true | _ => false

/-- R285: the frontier of a block that writes to another member: below it every byte has been acknowledged. -/
def State.herdFrontier (s : State) (e x : Nat) (t : StEntry) (f : StFault) : Nat :=
  if t.stage = 2 then max t.start ((s.stAwaited e x t.seq).foldl min (if s.ownHerd t.blk.dst then min f.off t.done else f.off))
  else t.start

/-- A fault from outside meets the first block: kind 4 in a word of the read buffer, 8 where it reads or writes host memory, 0xA in the engine
(R282, R300): kind, detail and block offset. -/
def State.stOuterHalt (s : State) (e x : Nat) (t : StEntry) (k d o : Nat) (src : List PW) (upset : List Nat)
    (fin : State → StFault → Nat → State) : State :=
  let b := t.blk
  let r := s.stRunTo e x t src upset (min (max o t.done) b.total)
  match r.fault with
  | some f => fin (State.stKeep r e x t.seq) f r.off
  | none =>
    let u := State.stKeep r e x t.seq
    if b.total ≤ r.off ∨ (k = 4 ∧ s.stPolicy e x = 0) ∨ (k = 8 ∧ s.stAtHost e x b r.off = false) then u
    else
      let tag := if k = 4 then (poisonTag .engine (originEngine (if e < 18 then e else 0x1F) 3 0)).toNat else 0
      fin u ⟨k, if k = 4 then 7 else d, r.off, { b.src with addr := b.srcAt r.off }, tag⟩ r.off

/-- STREAM_HALT (R282 to R287): a fault meets the first unretired block, or the read of the next entry where none is held. Bytes below the
frontier have committed; the fault is the held one, the one that moving the block meets, or one from outside, `outer` (kind 4, 8 or 0xA,
detail, block offset). `src` holds source words in host memory, `landed` what landed beyond the frontier. -/
def execStreamHalt (e x : Nat) (outer : Option (Nat × Nat × Nat)) (src : List PW) (upset : List Nat)
    (landed : List StLanded) (s0 : State) : Host.Outcome State Fault Refusal :=
  .next <|
    if s0.stOn e ∧ s0.stState e x = 1 then
      let s := s0.stServe e
      let fin := fun (t : StEntry) (u : State) (f : StFault) (n : Nat) => (u.stLand e x landed).stHalt e x t f n
      match (s.stCtx e x).entries with
      | [] =>
        match outer with
        | some (k, d, _) =>
          if k = 0xA ∨ (k = 8 ∧ s.stEntryAtHost e x) then
            let a := (s.stCtx e x).next
            let u := s.stAppend e x a 1 StBlk.none (some ⟨k, d, 0, a, 0⟩)
            match (u.stCtx e x).entries with
            | t :: _ => fin t u ⟨k, d, 0, a, 0⟩ t.start
            | [] => u
          else s
        | none => s
      | t :: _ =>
        let b := t.blk
        match t.fault with
        | some f =>
          if 1 < b.kind then fin t s f t.start
          else if b.dst.space = 3 then fin t s f (s.herdFrontier e x t f)
          else if f.off ≤ t.done then fin t s f t.done
          else
            let r := s.stRunTo e x t src upset f.off
            fin t (State.stKeep r e x t.seq) (r.fault.getD f) r.off
        | none =>
          match outer with
          | some (0xA, d, o) =>
            if 1 < b.kind ∨ b.dst.space = 3 then fin t s ⟨0xA, d, 0, t.place, 0⟩ t.start
            else s.stOuterHalt e x t 0xA d o src upset (fin t)
          | some (k, d, o) =>
            if 1 < b.kind ∨ b.dst.space = 3 ∨ (k ≠ 4 ∧ k ≠ 8) then s else s.stOuterHalt e x t k d o src upset (fin t)
          | none =>
            if 1 < b.kind ∨ b.dst.space = 3 ∨ (b.src.space = 3 ∧ t.stage ≠ 1) then s
            else
              let r := s.stRunTo e x t src upset b.total
              match r.fault with
              | some f => fin t (State.stKeep r e x t.seq) f r.off
              | none => State.stKeep r e x t.seq
    else s0

/-- CANCEL_COMPLETE (R291): the reads are drained; every block that has not retired is discarded, what `landed` names of
them stays written, and the context is IDLE. -/
def execCancelComplete (e x : Nat) (landed : List StLanded) (s : State) : Host.Outcome State Fault Refusal :=
  .next <|
    if s.stState e x = 3 then ((s.stLand e x landed).stCancelDone e x).stCount e 5 1 else s

/-! ## Resets and counters -/

/-- R298: a context returns to IDLE without a breadcrumb: `cause` is 1 for a reset of its owner, 2 for one of its VI. -/
def State.stReset (s : State) (e x cause : Nat) : State :=
  if s.stState e x = 0 ∧ (s.stCtx e x).lists = [] then s else (s.stClear e x cause).setStState e x 0

/-- R298, R449: every context of a VI. -/
def State.stViReset (s : State) (v : Nat) : State :=
  s.each (List.range 20) (fun e t =>
    t.each ((List.range 32).filter (fun x => stExists e x && t.stVi e x == v)) (fun x u => u.stReset e x 2))

/-- R298: an engine whose domain goes off: its contexts are gone and its registers at their reset values. -/
def State.stEngineOff (s : State) (e : Nat) : State :=
  let s1 := s.each (List.range 32) (fun x t => if stExists e x then t.stClear e x 1 else t)
  (s1.withSt (sdrop (fun k => k / 32 == e) s1.st)).resetRegs
    (keyAt [.ST_CTX_CFG, .ST_CTX_CRUMB, .ST_CTX_STATUS, .ST_CTX_DONE, .ST_CMD_LIST, .ST_CMD, .ST_CRUMB, .ST_CNT,
      .ST_CNT_WRAPS, .ST_CNT_CLR] e)

/-- Writing ST_CNT_CLR: every ST_CNT of an engine at zero. -/
def State.stClearCounters (s : State) (e : Nat) : State := s.resetRegs (keyAt [.ST_CNT, .ST_CNT_WRAPS] e)

/-- R297: whether ST_CTX_CFG and ST_CTX_CRUMB of a context are busy. -/
def State.stBusy (s : State) (e x : Nat) : Bool :=
  s.stState e x == 1 || s.stState e x == 3 || (s.stState e x != 2 && (s.stCtx e x).lists.length != 0)

end Sys2Proof.Machine
end

