-- ==== Sys2Proof/Machine/Engines.lean ====
section
/-! DEFINITION. Matrix, vector and gather engines: queues and completion, the matrix modes, the vector operations and long
accumulators, gathers and pooling, and what resets and errors do (R301 to R334). Engine 0 is MX, 1 VX and 2 GT. -/
namespace Sys2Proof.Machine

open Sys2Proof

/-! ## Queues, issue and completion (R301, R303) -/

/-- The field of an engine's registers. -/
def engFld (k : Nat) (mx vx gt : Fld) : Fld := match k with | 0 => mx | 1 => vx | _ => gt

/-- The descriptors of an engine, the running one first. -/
def State.engQueue (s : State) (c k : Nat) : List EngOp :=
  (s.eng.queues.filter (fun q => q.1 == c * 3 + k)).map (fun q => q.2)

/-- The state with an engine's descriptors replaced. -/
def State.setEngQueue (s : State) (c k : Nat) (l : List EngOp) : State :=
  let rest := s.eng.queues.filter (fun (q : Nat × EngOp) => q.1 != c * 3 + k)
  s.withEng { s.eng with queues := rest ++ l.map (fun o => (c * 3 + k, o)) }

/-- R301: a descriptor is issued for a VI: 0 accepted, 1 QUEUE_FULL with 8 queued, the running one included. -/
def State.engIssue (s : State) (c k : Nat) (desc : BitVec 256) (vi : Nat) : Nat × State :=
  if 8 ≤ (s.engQueue c k).length then (1, s)
  else (0, s.withEng { s.eng with queues := s.eng.queues ++ [(c * 3 + k, ⟨desc, vi, none⟩)] })

/-- A field of a descriptor. -/
def EngOp.fld (o : EngOp) (lo w : Nat) : Nat := nfield o.desc.toNat lo w

/-- The head of an engine's queue, if it has not run; while the cluster clears, its engines' accesses are held (R84). -/
def State.engHead (s : State) (c k : Nat) : Option EngOp :=
  if s.tmReady c then
    match s.engQueue c k with
    | [] => none
    | o :: _ => if o.done.isNone then some o else none
  else none

/-- The head of an engine's queue has run. -/
def State.engRan (s : State) (c k : Nat) (d : EngDone) : State :=
  match s.engQueue c k with
  | [] => s
  | o :: t => s.setEngQueue c k ({ o with done := some d } :: t)

/-- An event of an engine's counters. -/
def State.engCount (s : State) (c k e n : Nat) : State :=
  s.cntInc (engFld k .MX_CNT_COUNT .VX_CNT_COUNT .GT_CNT_COUNT) (engFld k .MX_CNT_WRAPS_WRAPS .VX_CNT_WRAPS_WRAPS .GT_CNT_WRAPS_WRAPS)
    (engFld k .MX_CNT_WRAPS_OVF .VX_CNT_WRAPS_OVF .GT_CNT_WRAPS_OVF) c e n

/-- R308: the flags of a rounded accumulator are ORed into XX_STATUS. -/
def State.accSummary (s : State) (c k flags : Nat) : State :=
  let put := fun (t : State) (b : Nat) (f : Fld) => if nbit flags b then t.setFlag f c 0 true else t
  put (put (put s 4 (engFld k .MX_STATUS_LOSS .VX_STATUS_LOSS .GT_STATUS_LOSS))
    3 (engFld k .MX_STATUS_BIG .VX_STATUS_BIG .GT_STATUS_BIG)) 5 (engFld k .MX_STATUS_CNT .VX_STATUS_CNT .GT_STATUS_CNT)

/-! ## Elements in tensor memory -/

/-- An element's bits and the tag of its word's poison. -/
abbrev Elem := Nat × Option W32

/-- Element `i` of `size` bytes of a list of words (R304: narrow elements are packed little-endian and share their word's
poison). -/
def elemAt (ws : List PW) (size i : Nat) : Elem :=
  let w := ws.getD (i * size / 4) ⟨0, false⟩
  (nfield w.data.toNat (8 * (i * size % 4)) (8 * size), if w.poison then some w.data else none)

/-- `n` elements read from tensor memory through a port (R302). -/
def State.readElems (s : State) (c port addr size n : Nat) : List Elem × State :=
  let (ws, s1) := s.tmReadN c port addr ((n * size + 3) / 4)
  ((List.range n).map (elemAt ws size), s1)

/-- The first tag of a list. -/
def firstTag (l : List (Option W32)) : Option W32 := (l.find? (fun t => t.isSome)).getD none

/-- Elements packed into words at an address that is a multiple of 4; a poisoned element poisons its word. -/
def packElems (addr size : Nat) (l : List Elem) : List TmWord :=
  (List.range ((l.length * size + 3) / 4)).map (fun k =>
    let here := (List.range 4).filterMap (fun b =>
      let i := (4 * k + b) / size
      (l[i]?).map (fun e => (b, nfield e.1 (8 * ((4 * k + b) % size)) 8, e.2)))
    let mask := here.foldl (fun m h => m + 2 ^ h.1) 0
    match firstTag (here.map (fun h => h.2.2)) with
    | some t => ⟨addr + 4 * k, mask, ⟨t, true⟩⟩
    | none => ⟨addr + 4 * k, mask, ⟨BitVec.ofNat 32 (here.foldl (fun v h => v + h.2.1 * 2 ^ (8 * h.1)) 0), false⟩⟩)

/-- The words of an accumulator as elements of 4 bytes. -/
def LongAcc.elems (a : LongAcc) : List Elem := a.words.map (fun w => (w.1.toNat, w.2))

/-- R327, R332: an output that a parity error touched. -/
def upsetElem (c k : Nat) (upset : List (Nat × Nat)) (i : Nat) (e : Elem) : Elem :=
  match e.2, upset.find? (fun u => u.1 == i) with
  | none, some u => (e.1, some (poisonTag .engine (originEngine c k u.2)))
  | _, _ => e

/-! ## Matrix engine (R309 to R312) -/

/-- R310: whether `rows` rows of `width` bytes, `step` apart, pass the end of tensor memory. -/
def regionOut (addr rows step width : Nat) : Bool := decide (2 ^ 24 < addr + (rows - 1) * step + width)

/-- The first of a list of checks that fails, by its descriptor byte. -/
def firstBad (l : List (Nat × Bool)) : Option Nat := (l.find? (fun c => c.2)).map (fun c => c.1)

/-- The first nonzero byte of a descriptor from a bit on, as checks. -/
def reservedFrom (desc bit : Nat) : List (Nat × Bool) :=
  (rangeFrom (bit / 8) (32 - bit / 8)).map (fun k =>
    (k, (if k = bit / 8 then nfield desc bit (8 - bit % 8) else nfield desc (8 * k) 8) != 0))

/-- R310: the permitted pairs of input formats. -/
def mxPair (a b : NumFmt) : Bool :=
  match a, b with
  | .e4m3, .e4m3 => true | .e4m3, .e5m2 => true | .e5m2, .e4m3 => true | .e5m2, .e5m2 => true
  | .int8, .int8 => true | .bf16, .bf16 => true | .fp16, .fp16 => true
  | _, _ => false

/-- R310: the first offending byte of a matrix descriptor. -/
def mxBad (o : EngOp) : Option Nat :=
  let m := o.fld 72 14
  let n := o.fld 86 14
  let k := o.fld 100 14
  let fa := fmtOf (o.fld 186 3)
  let fb := fmtOf (o.fld 189 3)
  let fc := fmtOf (o.fld 192 3)
  let exact_ := o.fld 196 1 == 1
  let okC := match fc with
    | .fp32 => true | .bf16 => true | .fp16 => true
    | .int32 => fa == .int8 && !exact_
    | .long => exact_
    | _ => false
  firstBad ([(0, o.fld 0 24 % 4 != 0 || regionOut (o.fld 0 24) m (o.fld 114 24) (k * fa.size)),
    (3, o.fld 24 24 % 4 != 0 || regionOut (o.fld 24 24) k (o.fld 138 24) (n * fb.size)),
    (6, o.fld 48 24 % 4 != 0 || regionOut (o.fld 48 24) m (o.fld 162 24) (n * fc.size)),
    (9, m == 0), (10, n == 0), (12, k == 0),
    (14, o.fld 114 24 % 4 != 0 || decide (o.fld 114 24 < k * fa.size)),
    (17, o.fld 138 24 % 4 != 0 || decide (o.fld 138 24 < n * fb.size)),
    (20, o.fld 162 24 % 4 != 0 || decide (o.fld 162 24 < n * fc.size)),
    (23, !mxPair fa fb), (24, !okC)] ++ reservedFrom o.desc.toNat 226)

/-- Rows of a matrix read from tensor memory through a port. -/
def State.readRows (s : State) (c port addr step size cols : Nat) : Nat → List (List Elem) × State
  | 0 => ([], s)
  | r + 1 =>
    let (l, s1) := s.readRows c port addr step size cols r
    let (row, s2) := s1.readElems c port (addr + r * step) size cols
    (l ++ [row], s2)

/-- R326: the tag of an output of the matrix engine. -/
def mxTag (a b : List Elem) (prior : List (Option W32)) : Option W32 :=
  firstTag (a.map (fun e => e.2) ++ b.map (fun e => e.2) ++ prior)

/-- R311: the FP32 sum of products in ascending k, from a start value. -/
def mxSum (fa fb : NumFmt) (a b : List Elem) (start : FVal) : FVal :=
  (List.zip a b).foldl (fun acc p => (acc.add ((fa.decode p.1.1).mul (fb.decode p.2.1)).toFp32).toFp32) start

/-- R311: the INT8 sum modulo 2^32, and whether a partial sum wrapped. -/
def mxIntSum (a b : List Elem) (start : Int) : Int × Bool :=
  (List.zip a b).foldl (fun (acc : Int × Bool) p =>
    let x := acc.1 + sextNat 8 p.1.1 * sextNat 8 p.2.1
    let w := sextNat 32 (wrapInt 32 x)
    (w, acc.2 || w != x)) (start, false)

/-- An integer as a value. -/
def intVal (i : Int) : FVal := .fin (decide (i < 0)) i.natAbs 0

/-- R311: one output of the normal mode, and whether an INT8 sum wrapped. `prior` is the prior C with ACCUM. -/
def mxNormalOut (fa fb fc : NumFmt) (a b : List Elem) (prior : Option Elem) : Nat × Bool :=
  match fa with
  | .int8 =>
    match fc with
    | .int32 =>
      let (x, ov) := mxIntSum a b (match prior with | some p => sextNat 32 p.1 | none => 0)
      (wrapInt 32 x, ov)
    | _ =>
      let (x, ov) := mxIntSum a b 0
      match prior with
      | none => (fc.encode (intVal x), ov)
      | some p => (fc.encode (NumFmt.fp32.decode (Config.mxInt8Accum (BitVec.ofNat 32 (NumFmt.fp32.encode (fc.decode p.1)))
          (BitVec.ofNat 32 (wrapInt 32 x))).toNat), ov)
  | _ => (fc.encode (mxSum fa fb a b (match prior with | some p => (fc.decode p.1).toFp32 | none => .fin false 0 0)), false)

/-- R312: the accumulator of one output of the exact mode. -/
def mxExactAcc (fa fb fc : NumFmt) (a b : List Elem) (prior : Option Elem) (priorAcc : Option LongAcc) : LongAcc :=
  let start := match priorAcc, prior with
    | some l, _ => LongAcc.zero.merge { l with poison := none }
    | none, some p => LongAcc.zero.term (fc.decode p.1)
    | none, none => LongAcc.zero
  (List.zip a b).foldl (fun acc p => acc.term ((fa.decode p.1.1).mul (fb.decode p.2.1))) start

/-- Column `j` of a matrix. -/
def column (b : List (List Elem)) (j : Nat) : List Elem := b.map (fun row => row.getD j (0, none))

/-- What a row of outputs has come to: its elements, the flags of rounded accumulators, and whether an INT8 sum wrapped. -/
structure MxRow where
  elems : List Elem
  flags : Nat
  wrapped : Bool

/-- One row of outputs. `prior` holds the row's prior C as elements, or as words of accumulators. -/
def mxRow (o : EngOp) (c i : Nat) (a : List Elem) (b : List (List Elem)) (prior : List Elem) (upset : List (Nat × Nat)) :
    MxRow :=
  let fa := fmtOf (o.fld 186 3)
  let fb := fmtOf (o.fld 189 3)
  let fc := fmtOf (o.fld 192 3)
  let n := o.fld 86 14
  let accum := o.fld 195 1 == 1
  (List.range n).foldl (fun (r : MxRow) j =>
    let col := column b j
    let at_ := i * n + j
    if o.fld 196 1 = 1 then
      let pw := (List.range 12).map (fun k => prior.getD (12 * j + k) (0, none))
      let pa : Option LongAcc := if accum ∧ fc = .long then
          some (LongAcc.ofWords (pw.map (fun e => ⟨BitVec.ofNat 32 e.1, false⟩)))
        else none
      let pe : Option Elem := if accum ∧ fc ≠ .long then some (prior.getD j (0, none)) else none
      let tags := if accum then (if fc = .long then pw.map (fun e => e.2) else [(prior.getD j (0, none)).2]) else []
      let acc := mxExactAcc fa fb fc a col pe pa
      let tag := (upsetElem c 0 upset at_ (0, mxTag a col tags)).2
      if fc = .long then { r with elems := r.elems ++ ({ acc with poison := tag } : LongAcc).elems }
      else { r with elems := r.elems ++ [(acc.round fc 1, tag)], flags := r.flags ||| acc.flags }
    else
      let pe := if accum then some (prior.getD j (0, none)) else none
      let (x, ov) := mxNormalOut fa fb fc a col pe
      let tag := mxTag a col (match pe with | some p => [p.2] | none => [])
      { r with elems := r.elems ++ [upsetElem c 0 upset at_ (x, tag)], wrapped := r.wrapped || ov }) ⟨[], 0, false⟩

/-- The rows of outputs, the prior C read through MXA, computed and written through MXC (R302); whether any output is poisoned. -/
def State.mxRows (s : State) (c : Nat) (o : EngOp) (b : List (List Elem)) (upset : List (Nat × Nat)) :
    List (Nat × List Elem) → Bool × State
  | [] => (false, s)
  | (i, a) :: t =>
    let fc := fmtOf (o.fld 192 3)
    let n := o.fld 86 14
    let size := if fc = .long then 4 else fc.size
    let per := if fc = .long then 12 * n else n
    let addr := o.fld 48 24 + i * o.fld 162 24
    let (prior, s1) := if o.fld 195 1 = 1 then s.readElems c 5 addr size per else ([], s)
    let r := mxRow o c i a b prior upset
    let s2 := (s1.tmWriteAll c 0 (packElems addr size r.elems)).accSummary c 0 r.flags
    let s3 := if r.wrapped then s2.setFlag .MX_STATUS_IOVF c 0 true else s2
    let (p, s4) := s3.mxRows c o b upset t
    (p || r.elems.any (fun e => e.2.isSome), s4)

/-- R309 to R312: a matrix operation runs: A is read through MXA and B through MXB, and every output is formed and written. -/
def State.mxRun (s : State) (c : Nat) (o : EngOp) (upset : List (Nat × Nat)) : State :=
  let m := o.fld 72 14
  let n := o.fld 86 14
  let k := o.fld 100 14
  let (a, s1) := s.readRows c 5 (o.fld 0 24) (o.fld 114 24) (fmtOf (o.fld 186 3)).size k m
  let (b, s2) := s1.readRows c 6 (o.fld 24 24) (o.fld 138 24) (fmtOf (o.fld 189 3)).size n k
  let (p, s3) := s2.mxRows c o b upset (a.zipIdx.map (fun (r, i) => (i, r)))
  let macs := sget (fun _ => 0) s3.eng.macRem c + m * n * k
  let s4 := (s3.withEng { s3.eng with macRem := sset (fun _ => 0) s3.eng.macRem c (macs % 1000) }).engCount c 0 1 (macs / 1000)
  s4.engRan c 0 ⟨0, 0, p⟩

/-- A matrix operation of a mode at the head of its queue. -/
def State.mxMode (s : State) (c exactBit : Nat) (upset : List (Nat × Nat)) : State :=
  match s.engHead c 0 with
  | none => s
  | some o => if o.fld 196 1 = exactBit ∧ (mxBad o).isNone then s.mxRun c o upset else s

/-- MX_NORMAL (R311): the matrix operation at the head of its queue runs in normal mode. `upset` names outputs a parity
error touched, with the code of R327. -/
def execMxNormal (c : Nat) (upset : List (Nat × Nat)) (s : State) : Host.Outcome State Fault Refusal :=
  .next (s.mxMode c 0 upset)

/-- MX_EXACT (R312): the matrix operation at the head of its queue runs in exact mode. -/
def execMxExact (c : Nat) (upset : List (Nat × Nat)) (s : State) : Host.Outcome State Fault Refusal :=
  .next (s.mxMode c 1 upset)

/-! ## Vector engine (R314 to R317) -/

/-- The source operands of an elementwise operation, or 0 for another. -/
def vxArity (op : Nat) : Nat :=
  match op with
  | 0x01 => 2 | 0x02 => 2 | 0x03 => 2 | 0x04 => 3 | 0x05 => 2 | 0x06 => 2 | 0x07 => 2 | 0x08 => 2
  | 0x09 => 1 | 0x10 => 1 | 0x11 => 1 | 0x12 => 1 | 0x13 => 1 | 0x14 => 1 | 0x15 => 1
  | _ => 0

/-- R314: the operation codes. -/
def vxKnown (op : Nat) : Bool :=
  vxArity op != 0 || (decide (0x20 ≤ op) && decide (op ≤ 0x26)) || op == 0x30

/-- The bytes of a mask of `n` bits. -/
def maskBytes (n : Nat) : Nat := (n + 7) / 8

/-- The bytes each operand region of a vector operation has: SRC1, SRC2, SRC3 and DST; 0 for one that is not used. -/
def vxRegions (o : EngOp) : Nat × Nat × Nat × Nat :=
  let op := o.fld 0 8
  let n := o.fld 104 21
  let i := n * (fmtOf (o.fld 125 3)).size
  let w := (fmtOf (o.fld 128 3)).size
  let red := o.fld 133 1 == 1
  match op with
  | 0x04 => (i, i, i, n * w)
  | 0x07 => (i, i, 0, maskBytes n)
  | 0x08 => (i, i, maskBytes n, n * w)
  | 0x20 => (0, 0, 0, 0)
  | 0x21 => (i, 0, 0, 0)
  | 0x22 => (i, i, 0, 0)
  | 0x23 => (48 * n, 0, 0, 0)
  | 0x24 => (3072, 0, 0, 0)
  | 0x25 => (0, 0, 0, 3072)
  | 0x26 => (0, 0, 0, if red then w else 64 * w)
  | 0x30 => (4 * n, if o.fld 32 24 = 0 then 0 else 4 * n, 0, 8 * (o.fld 134 10 + 1))
  | _ => (i, if 2 ≤ vxArity op then i else 0, 0, n * w)

/-- R314, R310: the first offending byte of a vector descriptor; only operands that the operation uses are looked at. -/
def vxBad (o : EngOp) : Option Nat :=
  let op := o.fld 0 8
  let (r1, r2, r3, rd) := vxRegions o
  let region := fun (a len : Nat) => len != 0 && (a % 4 != 0 || decide (2 ^ 24 < a + len))
  let usesIn := vxArity op != 0 || op == 0x21 || op == 0x22
  let badOut := match fmtOf (o.fld 128 3) with
    | .long => (vxArity op != 0 && op != 0x07) || (op == 0x26 && o.fld 133 1 == 0)
    | .fp32 => false | .bf16 => false | .fp16 => false
    | _ => op == 0x26
  firstBad ([(0, !vxKnown op), (1, region (o.fld 8 24) r1), (4, region (o.fld 32 24) r2), (7, region (o.fld 56 24) r3),
    (10, region (o.fld 80 24) rd), (13, o.fld 104 21 == 0 || decide (2 ^ 20 < o.fld 104 21)),
    (15, usesIn && o.fld 125 3 == 7), (16, badOut)] ++ reservedFrom o.desc.toNat 173)

/-- An accumulator of a lane. -/
def State.vxAcc (s : State) (c lane ix : Nat) : LongAcc := sget (fun _ => LongAcc.zero) s.eng.acc ((c * 64 + lane) * 4 + ix)

/-- The state with an accumulator replaced. -/
def State.setVxAcc (s : State) (c lane ix : Nat) (a : LongAcc) : State :=
  s.withEng { s.eng with acc := sset (fun _ => LongAcc.zero) s.eng.acc ((c * 64 + lane) * 4 + ix) a }

/-- Every accumulator of a cluster at zero. -/
def State.clearAccs (s : State) (c : Nat) : State :=
  s.withEng { s.eng with acc := sdrop (fun k => k / 256 == c) s.eng.acc }

/-- R317: before an operation of another VI than the last one's, every accumulator is cleared. -/
def State.vxEnter (s : State) (c vi : Nat) : State :=
  let last := sget (fun _ => 0) s.eng.accVi c
  let s1 := s.withEng { s.eng with accVi := sset (fun _ => 0) s.eng.accVi c (vi + 1) }
  if last = 0 ∨ last = vi + 1 then s1 else (s1.clearAccs c).engCount c 1 3 1

/-- The elements of an operand, as FP32 values with their tags. -/
def State.vxSrc (s : State) (c : Nat) (o : EngOp) (lo : Nat) : List (FVal × Option W32) × State :=
  let f := fmtOf (o.fld 125 3)
  let (l, s1) := s.readElems c 7 (o.fld lo 24) f.size (o.fld 104 21)
  (l.map (fun e => ((f.decode e.1).toFp32, e.2)), s1)

/-- Results written through VXW, with what parity errors touched. -/
def State.vxWrite (s : State) (c : Nat) (o : EngOp) (size : Nat) (l : List Elem) (upset : List (Nat × Nat)) : State :=
  let l1 := l.zipIdx.map (fun (e, i) => upsetElem c 1 upset i e)
  let s1 := s.tmWriteAll c 4 (packElems (o.fld 80 24) size l1)
  (s1.engCount c 1 1 (o.fld 104 21)).engRan c 1 ⟨0, 0, l1.any (fun e => e.2.isSome)⟩

/-- A vector operation of a code at the head of its queue is entered and run. -/
def State.vxOp (s : State) (c op : Nat) (run : State → EngOp → State) : State :=
  match s.engHead c 1 with
  | none => s
  | some o => if o.fld 0 8 = op ∧ (vxBad o).isNone then run (s.vxEnter c o.vi) o else s

/-- An elementwise operation of `n` sources: `f` on the FP32 operands of each position, converted to FMT_OUT; poisoned by any
input at the position (R326). -/
def State.vxEach (s : State) (c : Nat) (o : EngOp) (n : Nat) (upset : List (Nat × Nat)) (f : FVal → FVal → FVal → FVal) :
    State :=
  let g := fmtOf (o.fld 128 3)
  let (a, s1) := s.vxSrc c o 8
  let (b, s2) := if 2 ≤ n then s1.vxSrc c o 32 else ([], s1)
  let (d, s3) := if 3 ≤ n then s2.vxSrc c o 56 else ([], s2)
  let zero : FVal × Option W32 := (.fin false 0 0, none)
  let out := a.zipIdx.map (fun (x, i) =>
    let y := b.getD i zero
    let z := d.getD i zero
    ((g.encode (f x.1 y.1 z.1), firstTag [x.2, y.2, z.2]) : Elem))
  s3.vxWrite c o g.size out upset

/-- The elementwise operation of a code at the head of its queue. -/
def State.vxMap (s : State) (c op : Nat) (upset : List (Nat × Nat)) (f : FVal → FVal → FVal → FVal) : State :=
  s.vxOp c op (fun s o => s.vxEach c o (vxArity op) upset f)

/-- The smaller of two values: NaN if either is, −0 below +0. -/
def FVal.minOf (a b : FVal) : FVal := if a.isNan || b.isNan then .nan else if b.lt a then b else a
/-- The larger of two values. -/
def FVal.maxOf (a b : FVal) : FVal := if a.isNan || b.isNan then .nan else if a.lt b then b else a

/-- VX_ADD (R314). -/
def execVxAdd (c : Nat) (upset : List (Nat × Nat)) (s : State) : Host.Outcome State Fault Refusal :=
  .next (s.vxMap c 0x01 upset (fun a b _ => (a.add b).toFp32))
/-- VX_SUB (R314). -/
def execVxSub (c : Nat) (upset : List (Nat × Nat)) (s : State) : Host.Outcome State Fault Refusal :=
  .next (s.vxMap c 0x02 upset (fun a b _ => (a.add b.neg).toFp32))
/-- VX_MUL (R314). -/
def execVxMul (c : Nat) (upset : List (Nat × Nat)) (s : State) : Host.Outcome State Fault Refusal :=
  .next (s.vxMap c 0x03 upset (fun a b _ => (a.mul b).toFp32))
/-- VX_FMA (R314): SRC1 × SRC2 + SRC3 with one rounding. -/
def execVxFma (c : Nat) (upset : List (Nat × Nat)) (s : State) : Host.Outcome State Fault Refusal :=
  .next (s.vxMap c 0x04 upset (fun a b d => ((a.mul b).add d).toFp32))
/-- VX_MIN (R314). -/
def execVxMin (c : Nat) (upset : List (Nat × Nat)) (s : State) : Host.Outcome State Fault Refusal :=
  .next (s.vxMap c 0x05 upset (fun a b _ => a.minOf b))
/-- VX_MAX (R314). -/
def execVxMax (c : Nat) (upset : List (Nat × Nat)) (s : State) : Host.Outcome State Fault Refusal :=
  .next (s.vxMap c 0x06 upset (fun a b _ => a.maxOf b))

/-- FP32 bits of a value. -/
def FVal.bits32 (v : FVal) : BitVec 32 := BitVec.ofNat 32 (NumFmt.fp32.encode v)

/-- The bits of a compare are packed and written. -/
def State.vxCmpRun (s : State) (c : Nat) (o : EngOp) (upset : List (Nat × Nat)) : State :=
  let (a, s1) := s.vxSrc c o 8
  let (b, s2) := s1.vxSrc c o 32
  let bits := (List.zip a b).map (fun (x, y) => (Config.vxCmp x.1.bits32 y.1.bits32, firstTag [x.2, y.2]))
  let bytes := (List.range (maskBytes (o.fld 104 21))).map (fun k =>
    let l := (bits.drop (8 * k)).take 8
    ((l.zipIdx.foldl (fun v (q, j) => v + b2n q.1 * 2 ^ j) 0, firstTag (l.map (fun q => q.2))) : Elem))
  s2.vxWrite c o 1 bytes upset

/-- VX_CMP (R314): a 1-bit mask, bit i for element i; the condition is not stated, and each bit is a free value of its two
operands (log entry 22). -/
def execVxCmp (c : Nat) (upset : List (Nat × Nat)) (s : State) : Host.Outcome State Fault Refusal :=
  .next (s.vxOp c 0x07 (fun s o => s.vxCmpRun c o upset))

/-- Each position takes the element of SRC1 where its mask bit is 1, else that of SRC2. -/
def State.vxSelRun (s : State) (c : Nat) (o : EngOp) (upset : List (Nat × Nat)) : State :=
  let (a, s1) := s.vxSrc c o 8
  let (b, s2) := s1.vxSrc c o 32
  let (m, s3) := s2.tmReadN c 7 (o.fld 56 24) ((o.fld 104 21 + 31) / 32)
  let g := fmtOf (o.fld 128 3)
  let out := (List.zip a b).zipIdx.map (fun ((x, y), i) =>
    let w := m.getD (i / 32) ⟨0, false⟩
    let v := if nbit w.data.toNat (i % 32) then x else y
    ((g.encode v.1, firstTag [if w.poison then some w.data else none, if w.poison then none else v.2]) : Elem))
  s3.vxWrite c o g.size out upset

/-- VX_SEL (R314, R326): SRC3's mask bit picks SRC1 or SRC2. -/
def execVxSel (c : Nat) (upset : List (Nat × Nat)) (s : State) : Host.Outcome State Fault Refusal :=
  .next (s.vxOp c 0x08 (fun s o => s.vxSelRun c o upset))

/-- VX_CVT (R314): conversion from FMT_IN to FMT_OUT. -/
def execVxCvt (c : Nat) (upset : List (Nat × Nat)) (s : State) : Host.Outcome State Fault Refusal :=
  .next (s.vxMap c 0x09 upset (fun a _ _ => a))

/-- A special function: its bits are a free value of the operand's, a NaN in the canonical encoding (log entry 6). -/
def special (n : Nat) (a : FVal) : FVal := NumFmt.fp32.decode (Config.specialFn n a.bits32).toNat

/-- VX_EXP (R314). -/
def execVxExp (c : Nat) (upset : List (Nat × Nat)) (s : State) : Host.Outcome State Fault Refusal :=
  .next (s.vxMap c 0x10 upset (fun a _ _ => special 0 a))
/-- VX_LOG (R314). -/
def execVxLog (c : Nat) (upset : List (Nat × Nat)) (s : State) : Host.Outcome State Fault Refusal :=
  .next (s.vxMap c 0x11 upset (fun a _ _ => special 1 a))
/-- VX_RCP (R314). -/
def execVxRcp (c : Nat) (upset : List (Nat × Nat)) (s : State) : Host.Outcome State Fault Refusal :=
  .next (s.vxMap c 0x12 upset (fun a _ _ => special 2 a))
/-- VX_RSQRT (R314). -/
def execVxRsqrt (c : Nat) (upset : List (Nat × Nat)) (s : State) : Host.Outcome State Fault Refusal :=
  .next (s.vxMap c 0x13 upset (fun a _ _ => special 3 a))
/-- VX_SIGMOID (R314). -/
def execVxSigmoid (c : Nat) (upset : List (Nat × Nat)) (s : State) : Host.Outcome State Fault Refusal :=
  .next (s.vxMap c 0x14 upset (fun a _ _ => special 4 a))
/-- VX_TANH (R314). -/
def execVxTanh (c : Nat) (upset : List (Nat × Nat)) (s : State) : Host.Outcome State Fault Refusal :=
  .next (s.vxMap c 0x15 upset (fun a _ _ => special 5 a))

/-! ## Vector accumulators -/

/-- The accumulator index of a descriptor. -/
def EngOp.acc (o : EngOp) : Nat := o.fld 131 2

/-- R332: lanes whose accumulator storage was uncorrectable, poisoned. -/
def State.accUpset (s : State) (c ix : Nat) (upset : List (Nat × Nat)) : State :=
  s.each (upset.filter (fun u => decide (u.1 < 64))) (fun u t =>
    t.setVxAcc c u.1 ix ((t.vxAcc c u.1 ix).taint (some (poisonTag .engine (originEngine c 1 u.2)))))

/-- An accumulate operation ends. -/
def State.accDone (s : State) (c : Nat) (o : EngOp) (upset : List (Nat × Nat)) : State :=
  ((s.accUpset c o.acc upset).engCount c 1 1 (o.fld 104 21)).engRan c 1 ⟨0, 0, false⟩

/-- Accumulator ACC is cleared in every lane. -/
def State.accclrRun (s : State) (c : Nat) (o : EngOp) (upset : List (Nat × Nat)) : State :=
  (s.each (List.range 64) (fun l t => t.setVxAcc c l o.acc LongAcc.zero)).accDone c o upset

/-- ACCCLR (R314): accumulator ACC is clear in every lane. -/
def execAccclr (c : Nat) (upset : List (Nat × Nat)) (s : State) : Host.Outcome State Fault Refusal :=
  .next (s.vxOp c 0x20 (fun s o => s.accclrRun c o upset))

/-- Each element of SRC1 is offered as a term to its lane. -/
def State.accsumRun (s : State) (c : Nat) (o : EngOp) (upset : List (Nat × Nat)) : State :=
  let (a, s1) := s.vxSrc c o 8
  (s1.each a.zipIdx (fun (x, i) t =>
    t.setVxAcc c (i % 64) o.acc (((t.vxAcc c (i % 64) o.acc).term x.1).taint x.2))).accDone c o upset

/-- ACCSUM (R306): each element is offered as a term to its lane's accumulator. -/
def execAccsum (c : Nat) (upset : List (Nat × Nat)) (s : State) : Host.Outcome State Fault Refusal :=
  .next (s.vxOp c 0x21 (fun s o => s.accsumRun c o upset))

/-- Each product of SRC1 and SRC2 is offered as a term to its lane. -/
def State.accdotRun (s : State) (c : Nat) (o : EngOp) (upset : List (Nat × Nat)) : State :=
  let (a, s1) := s.vxSrc c o 8
  let (b, s2) := s1.vxSrc c o 32
  (s2.each (List.zip a b).zipIdx (fun ((x, y), i) t =>
    t.setVxAcc c (i % 64) o.acc (((t.vxAcc c (i % 64) o.acc).term (x.1.mul y.1)).taint (firstTag [x.2, y.2])))).accDone
      c o upset

/-- ACCDOT (R306): exact products are offered as terms. -/
def execAccdot (c : Nat) (upset : List (Nat × Nat)) (s : State) : Host.Outcome State Fault Refusal :=
  .next (s.vxOp c 0x22 (fun s o => s.accdotRun c o upset))

/-- Stored accumulators merge into their lanes. -/
def State.accmergeRun (s : State) (c : Nat) (o : EngOp) (upset : List (Nat × Nat)) : State :=
  let (ws, s1) := s.tmReadN c 7 (o.fld 8 24) (12 * o.fld 104 21)
  (s1.each (List.range (o.fld 104 21)) (fun i t =>
    t.setVxAcc c (i % 64) o.acc ((t.vxAcc c (i % 64) o.acc).merge (LongAcc.ofWords ((ws.drop (12 * i)).take 12))))).accDone
      c o upset

/-- ACCMERGE (R307): LEN stored accumulators merge into ACC, element i into lane i mod 64. -/
def execAccmerge (c : Nat) (upset : List (Nat × Nat)) (s : State) : Host.Outcome State Fault Refusal :=
  .next (s.vxOp c 0x23 (fun s o => s.accmergeRun c o upset))

/-- ACC of every lane is read from SRC1. -/
def State.accloadRun (s : State) (c : Nat) (o : EngOp) (upset : List (Nat × Nat)) : State :=
  let (ws, s1) := s.tmReadN c 7 (o.fld 8 24) 768
  (s1.each (List.range 64) (fun l t =>
    t.setVxAcc c l o.acc (LongAcc.ofWords ((ws.drop (12 * l)).take 12)))).accDone c o upset

/-- ACCLOAD (R314): ACC of all 64 lanes from SRC1, lane l at 48 l. -/
def execAccload (c : Nat) (upset : List (Nat × Nat)) (s : State) : Host.Outcome State Fault Refusal :=
  .next (s.vxOp c 0x24 (fun s o => s.accloadRun c o upset))

/-- ACC of every lane is written to DST. -/
def State.accstoreRun (s : State) (c : Nat) (o : EngOp) (upset : List (Nat × Nat)) : State :=
  let s0 := s.accUpset c o.acc upset
  s0.vxWrite c o 4 ((List.range 64).flatMap (fun l => (s0.vxAcc c l o.acc).elems)) []

/-- ACCSTORE (R314): ACC of all 64 lanes to DST. -/
def execAccstore (c : Nat) (upset : List (Nat × Nat)) (s : State) : Host.Outcome State Fault Refusal :=
  .next (s.vxOp c 0x25 (fun s o => s.accstoreRun c o upset))

/-- ACC of every lane, or their merge, is rounded and written. -/
def State.accroundRun (s : State) (c : Nat) (o : EngOp) (upset : List (Nat × Nat)) : State :=
  let s0 := s.accUpset c o.acc upset
  let f := fmtOf (o.fld 128 3)
  let lanes := (List.range 64).map (fun l => s0.vxAcc c l o.acc)
  let all := lanes.foldl (fun a b => a.merge b) LongAcc.zero
  if o.fld 133 1 = 1 then
    if f = .long then s0.vxWrite c o 4 all.elems []
    else (s0.accSummary c 1 all.flags).vxWrite c o f.size [(all.round f 1, all.poison)] []
  else
    (s0.accSummary c 1 (lanes.foldl (fun n a => n ||| a.flags) 0)).vxWrite c o f.size
      (lanes.map (fun a => (a.round f 1, a.poison))) []

/-- ACCROUND (R308): each lane's accumulator rounded once, or, with REDUCE, the 64 lanes merged and one result written,
rounded or LONG. -/
def execAccround (c : Nat) (upset : List (Nat × Nat)) (s : State) : Host.Outcome State Fault Refusal :=
  .next (s.vxOp c 0x26 (fun s o => s.accroundRun c o upset))

/-! ## TOPK (R315) -/

/-- A candidate: its score's bits and its index. -/
abbrev Cand := Nat × Nat

/-- R315: whether a candidate comes before another: the higher score, −0 equal to +0, NaN last, then the lower index. -/
def candBefore (a b : Cand) : Bool :=
  let pos := fun (v : FVal) => match v with | .fin _ 0 e => FVal.fin false 0 e | v => v
  let x : FVal := pos (NumFmt.fp32.decode a.1)
  let y : FVal := pos (NumFmt.fp32.decode b.1)
  if x.isNan ∧ y.isNan then decide (a.2 < b.2)
  else if x.isNan then false
  else if y.isNan then true
  else if y.lt x then true
  else if x.lt y then false
  else decide (a.2 < b.2)

/-- A candidate put in its place. -/
def insertCand (a : Cand) : List Cand → List Cand
  | [] => [a]
  | b :: t => if candBefore a b then a :: b :: t else b :: insertCand a t

/-- The K highest-scoring pairs are written. -/
def State.topkRun (s : State) (c : Nat) (o : EngOp) (upset : List (Nat × Nat)) : State :=
  let n := o.fld 104 21
  let k := o.fld 134 10 + 1
  let (sc, s1) := s.readElems c 7 (o.fld 8 24) 4 n
  let (ix, s2) := if o.fld 32 24 = 0 then ((List.range n).map (fun i => ((i, none) : Elem)), s1)
                  else s1.readElems c 7 (o.fld 32 24) 4 n
  let tag := firstTag ((List.zip sc ix).flatMap (fun (a, b) => [a.2, b.2]))
  let sorted := (List.zip sc ix).foldl (fun l (a, b) => insertCand (a.1, b.1) l) []
  let score := fun (x : Nat) => if (NumFmt.fp32.decode x).isNan then NumFmt.fp32.nan else x
  let out := (List.range k).flatMap (fun i => match sorted[i]? with
    | some a => [((score a.1, tag) : Elem), (a.2, tag)]
    | none => [(0xFF800000, tag), (0xFFFFFFFF, tag)])
  s2.vxWrite c o 4 out upset

/-- TOPK (R315): the K highest-scoring pairs in descending order. -/
def execTopk (c : Nat) (upset : List (Nat × Nat)) (s : State) : Host.Outcome State Fault Refusal :=
  .next (s.vxOp c 0x30 (fun s o => s.topkRun c o upset))

/-! ## Gather engine (R318 to R325) -/

/-- The bytes of an element of a table (R319). -/
def tabElem (tab : Nat) : Nat := (fmtOf (nfield tab 61 3)).size
/-- ROWLEN. -/
def tabRowLen (tab : Nat) : Nat := nfield tab 48 13
/-- ELEMS. -/
def tabElems (tab : Nat) : Nat := nfield tab 96 12

/-- R319: whether a table descriptor breaks a rule. -/
def tabBad (tab : Nat) : Bool :=
  decide (tabRowLen tab < 32 ∨ 4096 < tabRowLen tab) || tabRowLen tab % 4 != 0 || decide (5 < nfield tab 61 3) ||
    decide (tabRowLen tab < 12 + tabElems tab * tabElem tab) || tab / 2 ^ 148 != 0

/-- R318, R310: the first offending byte of a gather descriptor. -/
def gtBad (o : EngOp) : Option Nat :=
  let al := fun (a : Nat) => a % 4 != 0
  let f := o.fld 163 3
  firstBad ([(0, o.fld 0 24 % 32 != 0 || decide (2 ^ 24 < o.fld 0 24 + 32)), (3, al (o.fld 24 24)),
    (6, al (o.fld 48 24) || decide (2 ^ 24 < o.fld 48 24 + 4 * (o.fld 120 16 + 1))),
    (9, o.fld 160 2 == 3 && al (o.fld 72 24)), (12, al (o.fld 96 24)), (15, o.fld 120 16 == 0), (17, al (o.fld 136 24)),
    (20, !(f == 0 || f == 1 || f == 7) || (f == 7 && (o.fld 162 1 == 0 || o.fld 160 2 == 2)))]
    ++ reservedFrom o.desc.toNat 197)

/-- The words of a list, with poison kept, from tensor memory, through SCP (R302). -/
def State.gtList (s : State) (c addr n : Nat) : List PW × State := s.tmReadN c 8 addr n

/-- What a bag's indices are: the first position and how many, or none when an offset of the bag is poisoned (R326). -/
def bagRange (offs : List PW) (b : Nat) : Option (Nat × Nat) :=
  let lo := offs.getD b ⟨0, false⟩
  let hi := offs.getD (b + 1) ⟨0, false⟩
  if lo.poison || hi.poison then none else some (lo.data.toNat, hi.data.toNat - lo.data.toNat)

/-- The running gather of a cluster. -/
def State.gtRun (s : State) (c : Nat) : Option GtRun := s.eng.runs.find? (fun (r : GtRun) => r.c == c)

/-- The state with the running gather of a cluster replaced, or gone. -/
def State.setGtRun (s : State) (c : Nat) (r : Option GtRun) : State :=
  s.withEng { s.eng with runs := s.eng.runs.filter (fun (q : GtRun) => q.c != c) ++ r.toList }

/-- How a bag stands before its rows: normal, not performed for a poisoned index or offset, or with an index at or above
ROWS (R322, R326). -/
inductive BagKind where
  | normal | poisonIndex | oob
deriving DecidableEq, Repr

/-- The kind of a bag. -/
def GtRun.bagKind (r : GtRun) (b : Nat) : BagKind :=
  match bagRange r.offs b with
  | none => .poisonIndex
  | some (lo, n) =>
    let l := (r.idx.drop lo).take n
    if l.any (fun w => w.poison) then .poisonIndex
    else if l.any (fun w => decide (nfield r.tab 64 32 ≤ w.data.toNat)) then .oob
    else .normal

/-- The positions of a bag that are looked up: none of a bag not performed, and no index at or above ROWS. -/
def GtRun.lookups (r : GtRun) (b : Nat) : List Nat :=
  match r.bagKind b, bagRange r.offs b with
  | .poisonIndex, _ => []
  | _, none => []
  | _, some (lo, n) => (rangeFrom lo n).filter (fun p =>
      decide ((r.idx.getD p ⟨0, false⟩).data.toNat < nfield r.tab 64 32))

/-- Byte `k` of a row of words. -/
def rowByte (ws : List PW) (k : Nat) : Nat := byteAt (ws.getD (k / 4) ⟨0, false⟩).data.toNat (k % 4)

/-- Element `j` of a row: its value and its word's tag (R320). -/
def rowElem (tab : Nat) (ws : List PW) (j : Nat) : FVal × Option W32 :=
  let f := fmtOf (nfield tab 61 3)
  let e := elemAt (ws.drop 2) f.size j
  (f.decode e.1, e.2)

/-- The tag of a word, if it is poisoned. -/
def tagOf (w : PW) : Option W32 := if w.poison then some w.data else none

/-- The counted rows of a bag in index-list order (R322, R323), each with the weight at its position. -/
def GtRun.counted (r : GtRun) (b : Nat) : List (GtRow × PW) :=
  (r.lookups b).filterMap (fun p =>
    match r.rows.find? (fun (q : GtRow) => q.pos == p) with
    | some q => if q.skip then none else some (q, r.wgt.getD p ⟨0, false⟩)
    | none => none)

/-- R323: the exact term of a row's element: element × SCALE, and × weight for WSUM. -/
def gtTerm (pool tab : Nat) (q : GtRow) (w : PW) (j : Nat) : FVal :=
  let v := (rowElem tab q.words j).1.mul (NumFmt.fp32.decode (q.words.getD 0 ⟨0, false⟩).data.toNat)
  if pool = 3 then v.mul (NumFmt.fp32.decode w.data.toNat) else v

/-- R326: the tag of output `j` of a bag: in index-list order, a counted row's SCALE, the weight of the index, skipped row or not, then the
element's word. -/
def GtRun.tag (r : GtRun) (pool b j : Nat) : Option W32 :=
  firstTag ((r.lookups b).flatMap (fun p =>
    let weight := if pool = 3 then tagOf (r.wgt.getD p ⟨0, false⟩) else none
    match r.rows.find? (fun (q : GtRow) => q.pos == p) with
    | some q =>
      if q.skip then [weight]
      else [tagOf (q.words.getD 0 ⟨0, false⟩), tagOf (q.words.getD 1 ⟨0, false⟩), weight, (rowElem r.tab q.words j).2]
    | none => [weight]))

/-- R323: one pooled output, as the elements it stores, and the flags of a rounded accumulator. -/
def gtPool (pool : Nat) (exact_ : Bool) (f : NumFmt) (tab : Nat) (rows : List (GtRow × PW)) (tag : Option W32) (j : Nat) :
    List Elem × Nat :=
  let terms := rows.map (fun (q, w) => gtTerm pool tab q w j)
  let n := rows.length
  if pool = 2 then
    let m := match terms.map FVal.toFp32 with
      | [] => FVal.fin false 0 0
      | t :: l => l.foldl FVal.maxOf t
    ([(f.encode m, tag)], 0)
  else if exact_ then
    let a := terms.foldl (fun (x : LongAcc) t => x.term t) LongAcc.zero
    if f = .long then (({ a with poison := tag, cnt := if pool = 1 then n else a.cnt } : LongAcc).elems, 0)
    else ([(a.round f (if pool = 1 then n else 1), tag)], a.flags)
  else
    let sum := (terms.map FVal.toFp32).foldl (fun acc t => (acc.add t).toFp32) (.fin false 0 0)
    let v := if pool = 1 ∧ n ≠ 0 then
        (match sum with
          | .fin neg m e => NumFmt.fp32.decode (NumFmt.fp32.roundRat neg m n e)
          | v => v)
      else sum
    ([(f.encode v, tag)], 0)

/-- A bag's outputs written through GTE (R323, R322, R326). `upset` names outputs the pooling datapath lost (R332). -/
def State.gtWriteBag (s : State) (c : Nat) (o : EngOp) (r : GtRun) (b : Nat) (upset : List Nat) : State × GtRun :=
  let pool := o.fld 160 2
  let f := match o.fld 163 3 with | 0 => NumFmt.fp32 | 1 => .bf16 | _ => .long
  let n := tabElems r.tab
  let rows := r.counted b
  let eng := fun (code : Nat) => some (poisonTag .engine (originEngine c 2 code))
  let outs := (List.range n).map (fun j =>
    let own := match r.bagKind b with
      | .poisonIndex => eng 0x202
      | .oob => eng 0x201
      | .normal => r.tag pool b j
    let tag := if own.isNone && upset.contains j then eng 0x204 else own
    gtPool pool (o.fld 162 1 == 1 && pool != 2) f r.tab rows tag j)
  let elems := outs.flatMap (fun q => q.1)
  let size := if f = .long then 4 else f.size
  let s1 := s.tmWriteAll c 3 (packElems (o.fld 96 24 + b * o.fld 136 24) size elems)
  let s2 := s1.accSummary c 2 (outs.foldl (fun x q => x ||| q.2) 0)
  let s3 := if r.bagKind b = .normal ∧ rows = [] then s2.engCount c 2 5 1 else s2
  (s3, { r with left := r.left.filter (fun x => x != b), poisonOut := r.poisonOut || elems.any (fun e => e.2.isSome) })

/-- Every bag whose rows have all arrived is written. -/
def State.gtWriteReady (s : State) (c : Nat) (o : EngOp) (r : GtRun) (upset : List Nat) : List Nat → State × GtRun
  | [] => (s, r)
  | b :: t =>
    if (r.lookups b).all (fun p => r.rows.any (fun (q : GtRow) => q.pos == p)) then
      let (s1, r1) := s.gtWriteBag c o r b upset
      s1.gtWriteReady c o r1 upset t
    else s.gtWriteReady c o r upset t

/-- After a row: bags that are ready are written, and the operation has run once none is left. -/
def State.gtAdvance (s : State) (c : Nat) (o : EngOp) (r : GtRun) (upset : List Nat) : State :=
  let (s1, r1) := s.gtWriteReady c o r upset r.left
  if r1.left = [] then (s1.setGtRun c none).engRan c 2 ⟨0, 0, r1.poisonOut⟩ else s1.setGtRun c (some r1)

/-- R318, R319, R321, R322: a gather of a pooling starts: GT_CFG takes effect, the table descriptor and the lists are read,
bags that need no row are written, poisoned indices bite and indices out of range are counted. -/
def State.gtBegin (s : State) (c pool : Nat) (o : EngOp) : State :=
  let s0 := s.applyShadow .GT_CFG c 0
  let nb := o.fld 120 16
  let (tw, s1) := s0.gtList c (o.fld 0 24) 8
  let tab := natOfBytes (wordsBytes tw)
  let (offs, s2) := s1.gtList c (o.fld 48 24) (nb + 1)
  let lasts := (offs.filter (fun w => !w.poison)).map (fun w => w.data.toNat)
  let top := lasts.foldl max 0
  let drops := (List.range nb).any (fun b => match offs[b]?, offs[b + 1]? with
    | some x, some y => !x.poison && !y.poison && decide (y.data.toNat < x.data.toNat)
    | _, _ => false)
  if tw.any (fun w => w.poison) ∨ tabBad tab then
    (if tw.any (fun w => w.poison) then s1.bite (dieOf c) 0 else s1).engRan c 2 ⟨1, 0, false⟩
  else if drops then s2.engRan c 2 ⟨1, 6, false⟩
  else if 2 ^ 24 < o.fld 24 24 + 4 * top then s2.engRan c 2 ⟨1, 3, false⟩
  else if pool = 3 ∧ 2 ^ 24 < o.fld 72 24 + 4 * top then s2.engRan c 2 ⟨1, 9, false⟩
  else
    let (idx, s3) := s2.gtList c (o.fld 24 24) top
    let (wgt, s4) := if pool = 3 then s3.gtList c (o.fld 72 24) top else ([], s3)
    let r : GtRun := { c := c, tab := tab, offs := offs, idx := idx, wgt := wgt, want := [], rows := [],
                       left := List.range nb, poisonOut := false, parts := [] }
    let r := { r with want := (List.range nb).flatMap r.lookups }
    let bites := (offs.filter (fun w => w.poison)).length + ((List.range nb).flatMap (fun b => match bagRange offs b with
      | some (lo, n) => ((idx.drop lo).take n).filter (fun w => w.poison)
      | none => [])).length
    let oob := ((List.range nb).flatMap (fun b => match r.bagKind b, bagRange offs b with
      | .oob, some (lo, n) => (rangeFrom lo n).filter (fun p =>
          decide (nfield tab 64 32 ≤ (idx.getD p ⟨0, false⟩).data.toNat))
      | _, _ => [])).length
    let s5 := s4.satInc .IN_BITE_COUNT (dieOf c) 0 bites
    (if oob = 0 then s5 else s5.engCount c 2 6 oob).gtAdvance c o r []

/-- The gather of a pooling at the head of its queue starts. -/
def State.gtStart (s : State) (c pool : Nat) : State :=
  match s.engHead c 2 with
  | none => s
  | some o => if o.fld 160 2 ≠ pool ∨ (gtBad o).isSome ∨ (s.gtRun c).isSome then s else s.gtBegin c pool o

/-- GT_SUM (R323): a gather with SUM pooling starts. -/
def execGtSum (c : Nat) (s : State) : Host.Outcome State Fault Refusal := .next (s.gtStart c 0)
/-- GT_MEAN (R323). -/
def execGtMean (c : Nat) (s : State) : Host.Outcome State Fault Refusal := .next (s.gtStart c 1)
/-- GT_MAX (R323). -/
def execGtMax (c : Nat) (s : State) : Host.Outcome State Fault Refusal := .next (s.gtStart c 2)
/-- GT_WSUM (R323). -/
def execGtWsum (c : Nat) (s : State) : Host.Outcome State Fault Refusal := .next (s.gtStart c 3)

/-! ## Rows -/

/-- The outcome of a row's read. -/
inductive GtRead where
  | row (ws : List PW) (checked : Bool)
  | refused (reason : Nat)
  /-- Held past the hold limit (R334): the word that poisons the row. -/
  | expired (busy : PW)
  | waits
deriving DecidableEq, Repr

/-- Whether every sector a range of a line touches is in the cache (LC_HITS). -/
def State.lcHas (s : State) (vi addr len : Nat) : Bool :=
  let la := addr / 128
  match s.lcSlice vi la with
  | none => false
  | some i => match s.lcLine i la with
    | none => false
    | some l => (l.valid &&& needMask addr len) == needMask addr len

/-- Whether a gather's lookups of a byte range are under way. -/
def State.gtBegun (s : State) (c lo hi : Nat) : Bool :=
  let mine := fun (w : LcWaiter) => w.own && w.req == .gather c && decide (lo ≤ w.addr ∧ w.addr < hi)
  s.lc.queue.any (fun (x : LcLook) => mine x.waiter) || s.lc.retries.any (fun (x : LcLook) => mine x.waiter) ||
    s.lc.regs.any (fun (r : LcReg) => r.waiters.any mine) || s.lc.rets.any (fun (r : LcRet) => r.takers.any mine)

/-- R321: one part of a row read at its device physical address: translated, it is checked with the table's pin and looked up with LCMODE
in the descriptor's class; outside the plots it is NOT_VALID. -/
def State.gtReadPhys (s : State) (c vi cls tab dva addr len : Nat) : GtRead × State :=
  let pin := if nbit tab 144 then some (nfield tab 120 8, nfield tab 128 16) else none
  let m : MemReq := ⟨s.clusterSrc c, ⟨.gather c, min 2 cls, vi⟩, pin, dva, false⟩
  match s.dpaTarget addr with
  | .plot p _ =>
    let raw := s.plCtl .PL_CTL_PROT p == 0
    match s.cachedRead m (nfield tab 145 2 != 0) (decide (2 ≤ nfield tab 145 2)) addr len with
    | (.done ws, s1) => (.row ws (raw || nbit tab 147), s1)
    | (.plotRefused r, s1) => (.refused r, s1)
    | (.wnRefused r, s1) => (.refused r, s1)
    | (.expired ws, s1) => (.expired (ws.headD ⟨0, true⟩), s1)
    | (.host _, s1) => (.refused 1, s1)
    | (.waits, s1) => (.waits, s1)
  | _ => (.refused 1, s.memFault m 1 false)

/-- R321: a row read at its DVA, page by page; an address outside the plots is NOT_VALID. A page that has been read is kept in the run. -/
def State.gtReadRow : Nat → State → GtRun → Nat → Nat → Nat → Nat → Nat → GtRead × State
  | 0, s, _, _, _, _, _, _ => (.row [] false, s)
  | fuel + 1, s, r, vi, cls, pos, dva, len =>
    let n := min len (65536 - dva % 65536)
    let page : GtRead × State := match r.parts.find? (fun q => q.1 == pos && q.2.1 == dva) with
      | some q => (.row q.2.2.1 q.2.2.2, s)
      | none => match s.reach vi dva false (.gather r.c) with
        | (.device pa _, s1) => s1.gtReadPhys r.c vi cls r.tab dva (pa / 4 * 4) ((pa + n + 3) / 4 * 4 - pa / 4 * 4)
        | (.host _ _, s1) => (.refused 1, s1.plotFault dva 1 vi false false)
        | (.fail x, s1) => (.refused x, s1)
        | (_, s1) => (.waits, s1)
    match page with
    | (.row ws k, s2) =>
      if len ≤ n then (.row ws k, s2)
      else
        let s3 := s2.withEng { s2.eng with runs := s2.eng.runs.map (fun (x : GtRun) =>
          if x.c = r.c ∧ (x.parts.any (fun q => q.1 == pos && q.2.1 == dva)) = false then { x with parts := (pos, dva, ws, k) :: x.parts } else x) }
        match gtReadRow fuel s3 r vi cls pos (dva + n) (len - n) with
        | (.row w2 k2, s4) => (.row (ws ++ w2) (k || k2), s4)
        | x => x
    | x => x

/-- R322: the checks of a row that has arrived: its words, whether its CRC failed, and whether it is skipped. -/
def gtCheck (c tab pos : Nat) (checked : Bool) (ws : List PW) : List PW × Bool × Bool :=
  let all := fun (w : PW) => ws.map (fun _ => w)
  if checked && !rowCrcOk (wordsBytes ws) then
    (all (poisoned .checkword (originCheck c (nfield tab 108 12) pos)), true, false)
  else
    let h := ws.getD 1 ⟨0, false⟩
    if h.poison then (all h, false, false)
    else if rowByte ws 4 ≠ nfield tab 61 3 then (all (poisoned .engine (originEngine c 2 0x203)), false, false)
    else (ws, false, nbit (rowByte ws 5) 0)

/-- Whether every sector of a row at a DVA is in the cache (LC_HITS). -/
def State.gtHit (s : State) (c vi tab dva len : Nat) : Bool :=
  nfield tab 145 2 != 0 && (match s.translate vi dva false with
    | (.device pa _, t) => !t.gtBegun c pa (pa + len) && (List.range (len / 128 + 2)).all (fun k =>
        let a := max pa ((pa / 128 + k) * 128)
        let e := min (pa + len) ((pa / 128 + k + 1) * 128)
        decide (e ≤ a) || t.lcHas vi a (e - a))
    | _ => false)

/-- GATHER_ROW_ARRIVE (R321, R322, R325, R334): the row at position `pos` of the index list is looked up and arrives: it
is checked, and its bag is written once complete. A refusal ends the operation, and the lookups in flight are discarded. While its channel is
not in MEM the row waits; past the hold limit it arrives as CHANNEL_BUSY poison. `upset` names outputs lost in the pooling
datapath. -/
def execGatherRowArrive (c pos : Nat) (upset : List Nat) (s : State) : Host.Outcome State Fault Refusal :=
  .next <|
    match s.engHead c 2, s.gtRun c with
    | some o, some r =>
      let left := r.want.filter (fun p => !(r.rows.any (fun (q : GtRow) => q.pos == p)))
      let cap := max 1 (min 512 (s.inForce .GT_CFG_MAX_OUT c 0))
      if (left.take cap).contains pos = false then s
      else
        let len := tabRowLen r.tab
        let dva := nfield r.tab 0 48 + (r.idx.getD pos ⟨0, false⟩).data.toNat * len
        match s.gtReadRow 3 r o.vi (o.fld 166 2) pos dva len with
        | (.waits, s1) => s1
        | (.refused code, s1) =>
          (((s1.engCount c 2 1 1).dropUnit (fun (q : PlotReq) => q == PlotReq.gather c)).setGtRun c none).engRan c 2
            (if code = 0xB ∨ code = 0xC then ⟨3, 0, r.poisonOut⟩ else ⟨2, code, r.poisonOut⟩)
        | (.expired w, s1) =>
          (s1.engCount c 2 1 1).gtAdvance c o { r with rows := r.rows ++ [⟨pos, List.replicate (len / 4) w, false⟩] } upset
        | (.row ws chk, s1) =>
          let (w2, bad, skip) := gtCheck c r.tab pos chk (realign ws (dva % 4) len)
          let s2 := (if bad then s1.engCount c 2 3 1 else s1).engCount c 2 1 1
          let s3 := if skip then s2.engCount c 2 4 1 else s2
          let s4 := if s.gtHit c o.vi r.tab dva len then s3.engCount c 2 2 1 else s3
          s4.gtAdvance c o { r with rows := r.rows ++ [⟨pos, w2, skip⟩] } upset
    | _, _ => s

/-! ## Completion, resets, counters -/

/-- Where the signal, tag and enable of a descriptor lie: SIG_EN, SIG_CLUSTER, SIG_CNT, TAG. -/
def engSig (k : Nat) : Nat × Nat × Nat × Nat :=
  match k with
  | 0 => (197, 198, 202, 210)
  | 1 => (144, 145, 149, 157)
  | _ => (168, 169, 173, 181)

/-- How the head of a queue ends now, if it does: it has run, or its descriptor breaks a rule. -/
def EngOp.ending (o : EngOp) (k : Nat) : Option EngDone :=
  match o.done with
  | some d => some d
  | none => (match k with | 0 => mxBad o | 1 => vxBad o | _ => gtBad o).map (fun b => ⟨1, b, false⟩)

/-- R303, R366: an operation completes: XX_DONE, the fleet time and the signal; BAD_DESC and ENGINE_ERR raise an
interrupt on the cluster's contexts of its VI. -/
def State.engFinish (s : State) (c k : Nat) (o : EngOp) (d : EngDone) : State :=
  let (se, sc, sn, tg) := engSig k
  let s1 := s.fencePorts c [match k with | 0 => 0 | 1 => 4 | _ => 3]
  let reg := engFld k .MX_DONE_TAG .VX_DONE_TAG .GT_DONE_TAG
  let s2 := s1.setReg reg.id c 0 (BitVec.ofNat 64
    (o.fld tg 16 + d.status % 256 * 2 ^ 16 + b2n d.poisonOut * 2 ^ 24 + d.detail % 65536 * 2 ^ 32))
  let s3 := (s2.setFld (engFld k .MX_DONE_FT_FT .VX_DONE_FT_FT .GT_DONE_FT_FT) c 0 s2.now).engCount c k 0 1
  let s4 := if o.fld se 1 = 1 then s3.stSignal (o.fld sc 4) (o.fld sn 8) else s3
  let s5 := (s4.setEngQueue c k ((s4.engQueue c k).drop 1))
  if d.status = 1 ∨ d.status = 4 then
    s5.each ((List.range 16).filter (fun x => s5.ctxVi c x == o.vi)) (fun x t => t.raiseIrq c x 3)
  else s5

/-- ENGINE_COMPLETE (R303, R332): the operation at the head of an engine's queue completes: it has run, or its descriptor
is refused, or, with `err`, a control error has stopped it. -/
def execEngineComplete (c k : Nat) (err : Bool) (s : State) : Host.Outcome State Fault Refusal :=
  .next <|
    match s.clusterOn c, s.engQueue c k with
    | true, o :: _ =>
      if err then (if k = 2 then (s.dropUnit (fun (q : PlotReq) => q == PlotReq.gather c)).setGtRun c none else s).engFinish c k o ⟨4, 0, false⟩
      else match o.ending k with
        | some d => s.engFinish c k o d
        | none => s
    | _, _ => s

/-- R333: the operations of a VI are abandoned on every cluster, without status or signal, and the accumulators that stand
after its operations are cleared. -/
def State.engViReset (s : State) (v : Nat) : State :=
  s.each (List.range 18) (fun c t =>
    let t1 := match t.engQueue c 2 with
      | o :: _ => if o.vi = v then (t.dropUnit (fun (q : PlotReq) => q == PlotReq.gather c)).setGtRun c none else t
      | [] => t
    let t2 := t1.each (List.range 3) (fun k u => u.setEngQueue c k ((u.engQueue c k).filter (fun (o : EngOp) => o.vi != v)))
    if sget (fun _ => 0) t2.eng.accVi c = v + 1 then t2.clearAccs c else t2)

/-- A cluster's engines lose their operations, accumulators and registers with its domain. -/
def State.engOff (s : State) (c : Nat) : State :=
  let s1 := (((s.each (List.range 3) (fun k t => t.setEngQueue c k [])).dropUnit (fun (q : PlotReq) => q == PlotReq.gather c)).setGtRun c none).clearAccs c
  let s2 := s1.withEng { s1.eng with
    accVi := sdrop (fun k => k == c) s1.eng.accVi, macRem := sdrop (fun k => k == c) s1.eng.macRem }
  s2.resetRegs (keyAt [.MX_STATUS, .MX_DONE, .MX_DONE_FT, .MX_CNT, .MX_CNT_WRAPS, .MX_CNT_CLR, .VX_STATUS, .VX_DONE,
    .VX_DONE_FT, .VX_CNT, .VX_CNT_WRAPS, .VX_CNT_CLR, .GT_STATUS, .GT_DONE, .GT_DONE_FT, .GT_CNT, .GT_CNT_WRAPS,
    .GT_CNT_CLR, .GT_CFG] c)

/-- XX_CNT_CLR: the counters of one engine block at zero. -/
def State.engClearCounters (s : State) (c k : Nat) : State :=
  s.resetRegs (keyAt (match k with
    | 0 => [.MX_CNT, .MX_CNT_WRAPS] | 1 => [.VX_CNT, .VX_CNT_WRAPS] | _ => [.GT_CNT, .GT_CNT_WRAPS]) c)

end Sys2Proof.Machine
end

