-- ==== Sys2Proof/Machine/Queues.lean ====
section
/-! DEFINITION. Host port, queues and virtual instances: rings and doorbells, staging, admission and shedding, request
slots, posts, completions and their interrupts, generation pins, VI resets and function-level resets (R420 to R461). -/
namespace Sys2Proof.Machine

open Sys2Proof

/-! ## Functions, ports and queues (R423) -/

/-- The number of I/O dies. -/
def State.ioDies (s : State) : Nat := s.fld .SV_ASSEMBLY_IODIES 0 0
/-- The port of a VI (R423); one die has port 0 only. -/
def State.viPort (s : State) (v : Nat) : Nat := if s.ioDies = 2 then s.fld .HQ_VI_CFG_PORT v 0 else 0
/-- R423: the VI of function `fn` (0 the PF, n VF n) of a port; none for a VF that is not live. -/
def State.fnVi (s : State) (port fn : Nat) : Option Nat :=
  if s.ioDies ≤ port ∨ 63 < fn then none
  else if fn = 0 then some 0
  else if s.viPort fn = port then some fn else none
/-- The VI of a queue (R5). -/
def queueVi (q : Nat) : Nat := q / 1024
/-- The port, and so the I/O die, of a queue (R423). -/
def State.queuePort (s : State) (q : Nat) : Nat :=
  if queueVi q = 0 then (if s.ioDies = 2 then s.fld .HQ_Q_CFG_PORT q 0 else 0) else s.viPort (queueVi q)
/-- The queue's state beside its registers. -/
def State.queue (s : State) (q : Nat) : HqQueue := sget (fun _ => HqQueue.reset) s.hq.queues q
/-- The state with a queue replaced. -/
def State.setQueue (s : State) (q : Nat) (x : HqQueue) : State :=
  s.withHq { s.hq with queues := sset (fun _ => HqQueue.reset) s.hq.queues q x }
/-- R426: the number of ring entries. A SIZE outside 4 to 16 acts as one the spec does not state (log entry 30). -/
def State.ringSize (s : State) (q : Nat) : Nat :=
  let n := s.fld .HQ_Q_CFG_SIZE q 0
  if 4 ≤ n ∧ n ≤ 16 then 2 ^ n else 2 ^ (4 + Config.hqSize n % 13)
/-- Whether a queue is live. -/
def State.queueLive (s : State) (q : Nat) : Bool := s.flag .HQ_Q_CFG_ENABLE q 0
/-- The live queues of a VI. -/
def State.liveQueues (s : State) (v : Nat) : List Nat :=
  s.regs.filterMap (fun e =>
    if keyId e.1 = RegId.HQ_Q_CFG.ctorIdx ∧ queueVi (keyI e.1) = v ∧ getBit e.2 0 then some (keyI e.1) else none)
/-- The staged entries of a queue. -/
def State.stagedOf (s : State) (q : Nat) : List HqStaged := s.hq.staged.filter (fun (e : HqStaged) => e.queue == q)
/-- The ring reads of a queue that are not staged yet. -/
def State.readsOf (s : State) (q : Nat) : List HqRead := s.hq.reads.filter (fun (r : HqRead) => r.queue == q)
/-- R430: SQ_HEAD, the oldest entry not yet admitted: the first in ring order of those fetched, else the next to fetch. -/
def State.sqHead (s : State) (q : Nat) : Nat :=
  let n := s.ringSize q
  let nx := (s.queue q).next
  let ixs := (s.stagedOf q).map (fun (e : HqStaged) => e.index) ++ (s.readsOf q).map (fun (r : HqRead) => r.index)
  (nx + n - ixs.foldl (fun (m ix : Nat) => max m ((nx + n - ix) % n)) 0) % n
/-- R434: the CQ of a queue has space. -/
def State.cqSpace (s : State) (q : Nat) : Bool :=
  (s.fld .HQ_Q_STATE_CQ_TAIL q 0 + 1) % s.ringSize q != (s.queue q).cqHead
/-- An event of HQ_VI_CNT: 0 ADMITTED, 1 EXPIRED, 2 OVERRUN, 3 POST_ERR, 4 DB_ERR, 5 POISON_IN. -/
def State.viCount (s : State) (v e : Nat) : State := s.wrapInc .HQ_VI_CNT_COUNT v e 1
/-- R435: the vector of the VI's events is raised. -/
def State.viEvent (s : State) (v : Nat) : State := s.emit (.msix (s.viPort v) v (s.fld .HQ_VI_CFG_EVT_VECTOR v 0))
/-- R459: a queue freezes after a ring access that failed: ERR 1 ring read, 2 ring write, 3 refused. -/
def State.freezeQueue (s : State) (q err : Nat) : State :=
  let s1 := ((s.setFlag .HQ_Q_STATE_FROZEN q 0 true).setFld .HQ_Q_STATE_ERR q 0 err).setFlag .HQ_VI_STATUS_QUEUE_ERR (queueVi q) 0 true
  s1.viEvent (queueVi q)
/-- The state without the ring reads and staged entries of a queue; the next fetch starts at its SQ_HEAD. -/
def State.dropStaged (s : State) (q : Nat) : State :=
  let h := s.sqHead q
  let s1 := s.setQueue q { s.queue q with next := h }
  s1.withHq { s1.hq with
    reads := s1.hq.reads.filter (fun (r : HqRead) => r.queue != q)
    staged := s1.hq.staged.filter (fun (e : HqStaged) => e.queue != q) }
/-- A completion is to be written for a queue. -/
def State.addComp (s : State) (c : HqComp) : State := s.withHq { s.hq with comps := s.hq.comps ++ [c] }

/-! ## Request slots and pins (R432, R439, R443, R444) -/

/-- The requests of a VI's operator that are in flight. -/
def State.opInflight (s : State) (v o : Nat) : Nat := s.fld .HQ_OP_STATE_INFLIGHT v o
/-- The entries of an operator's inbox: 2^DEPTH. -/
def State.inboxSize (s : State) (v o : Nat) : Nat :=
  let n := s.fld .HQ_OP_DEPTH v o
  if n ≤ 14 then 2 ^ n else 2 ^ (Config.hqSize (32 + n) % 15)
/-- ⌈(B + 1) / PAR⌉ of an operator; PAR 0 acts as 1 (R438, R439). -/
def State.opRounds (s : State) (v o : Nat) : Nat :=
  let par := max 1 (s.fld .HQ_OP_PAR v o)
  (s.opInflight v o + 1 + (par - 1)) / par
/-- R438: the completion predicted for a request admitted now. -/
def State.predict (s : State) (v o : Nat) : Nat :=
  s.now + s.opRounds v o * s.fld .HQ_OP_STATE_S v o + s.fld .HQ_OP_EST_MARGIN v o
/-- The GENSWAPs a table set has seen. -/
def State.swapsOf (s : State) (t : Nat) : Nat := sget (fun _ => 0) s.hq.swaps t
/-- The count of pins that a pin made after `n` swaps stands in: of ACTIVE, of PRIOR, or stale (R443). -/
def State.pinFld (s : State) (t n : Nat) : Fld :=
  if n = s.swapsOf t then .HQ_GEN_PINS_ACTIVE_PINS
  else if n + 1 = s.swapsOf t then .HQ_GEN_PINS_PRIOR_PINS
  else .HQ_GEN_PINS_STALE_PINS
/-- R444: a pin is released: the count it stands in falls. -/
def State.releasePin (s : State) (p : Option (Nat × Nat)) : State :=
  match p with
  | none => s
  | some (t, n) => s.setFld (s.pinFld t n) t 0 (s.fld (s.pinFld t n) t 0 - 1)
/-- A slot is freed: its request is in flight no more and its pin is released (R432, R444). -/
def State.freeSlot (s : State) (k : Nat) : State :=
  match s.hq.slots.find? (fun (x : HqSlot) => x.slot == k) with
  | none => s
  | some x =>
    let s1 := (s.releasePin x.pin).setFld .HQ_OP_STATE_INFLIGHT x.vi x.op (s.opInflight x.vi x.op - 1)
    s1.withHq { s1.hq with slots := s1.hq.slots.filter (fun (y : HqSlot) => y.slot != k) }
/-- The lowest free slot of an I/O die (16,384 of them). -/
def State.freeSlotIx (s : State) (die : Nat) : Option Nat :=
  let used := (s.hq.slots.filter (fun (x : HqSlot) => x.slot / 16384 == die)).map (fun (x : HqSlot) => x.slot % 16384)
  (List.range (used.length + 1)).find? (fun i => !used.contains i && decide (i < 16384))

/-- R443: a GENSWAP fires: PRIOR takes ACTIVE and its count, ACTIVE the new generation with count 0, and the pins that
PRIOR held turn stale; the mark of R445 ends. -/
def State.genswapFire (s : State) (t gen : Nat) : State :=
  let a := s.fld .HQ_GEN_ACTIVE t 0
  let s1 := ((s.setFld .HQ_GEN_PRIOR t 0 a).setFld .HQ_GEN_ACTIVE t 0 gen).setFlag .HQ_GEN_ACTIVE_RETIRED t 0 false
  let stale := s1.fld .HQ_GEN_PINS_STALE_PINS t 0 + s1.fld .HQ_GEN_PINS_PRIOR_PINS t 0
  let s2 := (s1.setFld .HQ_GEN_PINS_STALE_PINS t 0 stale).setFld .HQ_GEN_PINS_PRIOR_PINS t 0 (s1.fld .HQ_GEN_PINS_ACTIVE_PINS t 0)
  let s3 := s2.setFld .HQ_GEN_PINS_ACTIVE_PINS t 0 0
  s3.withHq { s3.hq with swaps := sset (fun _ => 0) s3.hq.swaps t (s3.swapsOf t + 1) }

/-- R174, R445: a GENRETIRE fires: the generation's plots are retired, LAST_RETIRED names it, and ACTIVE_RETIRED is set
when it is the active one. -/
def State.genretireFire (s : State) (t gen : Nat) : State :=
  let s1 := (s.retireGen t gen).setFld .HQ_GEN_LAST_RETIRED t 0 gen
  if s1.fld .HQ_GEN_ACTIVE t 0 = gen then s1.setFlag .HQ_GEN_ACTIVE_RETIRED t 0 true else s1

/-! ## Setting queues and operators up -/

/-- R426, R459: ENABLE goes from 0 to 1: the indices are 0 and PHASE 1, and what the queue held before is discarded, its
slots freed. -/
def State.queueEnable (s : State) (q : Nat) : State :=
  let s1 := s.each (s.hq.slots.filter (fun (x : HqSlot) => x.queue == q)) (fun (x : HqSlot) t => t.freeSlot x.slot)
  let s2 := (s1.setReg .HQ_Q_STATE q 0 0).setFlag .HQ_Q_STATE_PHASE q 0 true
  (s2.setQueue q HqQueue.reset).withHq { (s2.setQueue q HqQueue.reset).hq with
    reads := s2.hq.reads.filter (fun (r : HqRead) => r.queue != q)
    staged := s2.hq.staged.filter (fun (e : HqStaged) => e.queue != q)
    comps := s2.hq.comps.filter (fun (c : HqComp) => c.queue != q) }

/-- R431: EN of an operator goes from 0 to 1: its inbox is numbered from 0 again. -/
def State.operatorEnable (s : State) (v o : Nat) : State :=
  s.withHq { s.hq with opCount := sset (fun _ => 0) s.hq.opCount (v * 64 + o) 0 }

/-- R458: CANCEL freezes a live queue and completes each of its staged entries CANCELLED. -/
def State.queueCancel (s : State) (q : Nat) : State :=
  if s.queueLive q then
    let s1 := s.setFlag .HQ_Q_STATE_FROZEN q 0 true
    let s2 := s1.each (s.stagedOf q) (fun (e : HqStaged) t => t.addComp ⟨q, nfield e.desc.toNat 0 32, false, 5, none⟩)
    s2.withHq { s2.hq with staged := s2.hq.staged.filter (fun (e : HqStaged) => e.queue != q) }
  else s

/-- Whether any queue of a VI is enabled: HQ_VI_CFG.PORT is then LOCKED (R457). -/
def State.viQueuesOn (s : State) (v : Nat) : Bool := decide ((s.liveQueues v).length ≠ 0)

/-! ## Doorbells, fetching and staging (R428 to R430, R447, R448) -/

/-- PCIE_UNSUPPORTED_REQUEST (R421): a request from another endpoint, or an AtomicOp, completes with Unsupported Request. -/
def execPcieUnsupportedRequest (port : Nat) (s : State) : Host.Outcome State Fault Refusal :=
  .next (s.emit (.unsupported port))

/-- R425: whether reads of host memory in a range that a VI's streams have sent are still outstanding: those of transfers issued and not
retired. -/
def State.hostReading (s : State) (vi addr len : Nat) : Bool :=
  (List.range 20).any (fun e => (List.range 32).any (fun x => stExists e x && s.stVi e x == vi &&
    (s.stCtx e x).entries.any (fun (t : StEntry) => t.opened && decide (t.blk.kind < 2) &&
      (stCuts t.blk.srcAt t.blk.len 4096 t.blk.total t.start t.blk.total).any (fun (o, n) =>
        match (s.stPlace e x (.stream e x) t.blk.src (t.blk.srcAt o) false).1 with
        | .host h => decide (h < addr + len ∧ addr < h + n)
        | _ => false))))

/-- ATS_INVALIDATION (R425): the cached translations of a range of host pages of a VI are dropped, and the invalidation
completes; while an access that used one is outstanding it does not complete, and comes again. -/
def execAtsInvalidation (port vi addr len tag : Nat) (s : State) : Host.Outcome State Fault Refusal :=
  .next <|
    let hit := fun (x : Nat × Nat × Nat) =>
      x.1 == port && x.2.1 == vi && decide (addr / 4096 ≤ x.2.2 ∧ x.2.2 * 4096 < addr + len)
    let s1 := s.withHq { s.hq with ats := s.hq.ats.filter (fun x => !(hit x)) }
    if s.hostReading vi addr len then s1 else s1.emit (.atsDone port tag)

/-- R428: one half of a doorbell: a value below N is taken, any other is ignored and counted. -/
def State.doorbellHalf (s : State) (v q : Nat) (tail : Bool) (x : Option Nat) : State :=
  match x with
  | none => s
  | some n =>
    if s.ringSize q ≤ n % 65536 then s.viCount v 4
    else if tail then s.setQueue q { s.queue q with sqTail := n % 65536, pend := true }
    else s.setQueue q { s.queue q with cqHead := n % 65536, pend := true }

/-- DOORBELL (R428, R429, R447): a write to doorbell `i` of a function: a new SQ_TAIL, a new CQ_HEAD, or both. -/
def execDoorbell (port fn i : Nat) (tail head : Option Nat) (poison : Bool) (s : State) : Host.Outcome State Fault Refusal :=
  .next <|
    match s.fnVi port fn with
    | none => s
    | some v =>
      let q := 1024 * v + i % 1024
      if poison then s.viCount v 5
      else if s.queueLive q = false then s.viCount v 4
      else (s.doorbellHalf v q true tail).doorbellHalf v q false head

/-- Whether the queue engine may fetch another entry of a queue: it is live, not frozen, its VI is not under reset, it has
a new entry, and the staging stores have room (R430). -/
def State.mayFetch (s : State) (q : Nat) : Bool :=
  let die := s.queuePort q
  let onDie := (s.hq.staged.filter (fun (e : HqStaged) => s.queuePort e.queue == die)).length
    + (s.hq.reads.filter (fun (r : HqRead) => s.queuePort r.queue == die)).length
  s.queueLive q && !s.flag .HQ_Q_STATE_FROZEN q 0 && !s.viResetting (queueVi q) && (s.queue q).next != (s.queue q).sqTail
    && decide ((s.stagedOf q).length + (s.readsOf q).length < 8) && decide (onDie < 4096)

/-- The class of a queue's ring traffic (R430); 3 acts as URGENT, as in an entry's CLASS (log entry 152). -/
def State.ringClass (s : State) (q : Nat) : Nat := min 2 (s.fld .HQ_Q_CFG_FETCH_CLASS q 0)

/-- R250, R430: the 64 bytes of a ring entry come over the port's DMA path for requester 35. -/
def State.ringBeats (s : State) (q : Nat) : State :=
  s.each (List.range 2) (fun _ t => t.trMove (pathArb (s.queuePort q)) 0 35 (s.ringClass q) .unit (queueVi q))

/-- R426: a read of a ring that lies in tensor memory. An address outside tensor memory is refused. -/
def State.ringRead (s : State) (q addr : Nat) : FabOut × State :=
  match s.dpaTarget addr with
  | .tm l off => s.fabRead (s.physCluster l) (s.ringClass q) (0x1000 + queueVi q) off 64
  | _ => (.refused 1, s)

/-- R426: a write of a ring that lies in tensor memory. -/
def State.ringWrite (s : State) (q addr : Nat) (data : List PW) : FabOut × State :=
  match s.dpaTarget addr with
  | .tm l off => s.fabWrite (s.physCluster l) (s.ringClass q) (0x1000 + queueVi q) (queueVi q) off 16 1 data true
  | _ => (.refused 1, s)

/-- SQ_FETCH (R429, R430, R459): the queue engine reads the queue's state, clears its pending bit, and fetches the next
entry in ring order: a read is sent to the host, or made of tensor memory, where a refusal freezes the queue. -/
def execSqFetch (q : Nat) (s : State) : Host.Outcome State Fault Refusal :=
  .next <|
    if s.mayFetch q then
      let x := s.queue q
      let addr := (s.reg .HQ_Q_SQB q 0).toNat / 64 * 64 + 64 * x.next
      let s1 := s.setQueue q { x with pend := false, next := (x.next + 1) % s.ringSize q }
      let put := fun (t : State) (d : Option (List PW)) => t.withHq { t.hq with reads := t.hq.reads ++ [⟨q, x.next, d⟩] }
      if s.flag .HQ_Q_CFG_SPACE q 0 then
        match s.ringRead q addr with
        | (.done _, _) =>
          let (o, s2) := s1.ringRead q addr
          put s2 (match o with | .done d => some d | _ => none)
        | (.refused _, t) => t.freezeQueue q 3
        | (.held, _) => s
      else put (s1.emit (.hostRead (s.queuePort q) addr 64 35)) none
    else s.setQueue q { s.queue q with pend := false }

/-- The state with the words of an outstanding ring read set. -/
def State.readFill (s : State) (q ix : Nat) (d : List PW) : State :=
  s.withHq { s.hq with reads := s.hq.reads.map (fun (r : HqRead) =>
    if r.queue = q ∧ r.index = ix ∧ r.data = none then { r with data := some d } else r) }

/-- The words of a poisoned TLP for a VI on a port: each poisoned with kind LINK (R447). -/
def linkWords (vi port n : Nat) : List PW := List.replicate n (poisoned .link (originLink false 0 vi port))

/-- HOST_READ_COMPLETION (R447, R459): the completion of a ring read arrives; the words of a poisoned one are poisoned
with kind LINK, and one that reports an error freezes the queue. -/
def execHostReadCompletion (q ix : Nat) (data : List PW) (poison ok : Bool) (s : State) : Host.Outcome State Fault Refusal :=
  .next <|
    if s.hq.reads.any (fun (r : HqRead) => r.queue == q && r.index == ix && r.data == none) then
      if ok then
        (s.ringBeats q).readFill q ix (if poison then linkWords (queueVi q) (s.queuePort q) 16
          else (List.range 16).map (fun i => ⟨(data.getD i ⟨0, false⟩).data, false⟩))
      else (s.freezeQueue q 1).dropStaged q
    else s

/-- PCIE_COMPLETION_TIMEOUT (R461): a ring read that no completion answers returns every word poisoned with kind LINK. -/
def execPcieCompletionTimeout (q ix : Nat) (s : State) : Host.Outcome State Fault Refusal :=
  .next (s.readFill q ix (linkWords (queueVi q) (s.queuePort q) 16))

/-- ENTRY_STAGED (R430, R448): the oldest read of a queue whose words have come is staged; one with a poisoned word is
completed POISONED with INDEXED 1 instead, and one that a cancel has overtaken CANCELLED. -/
def execEntryStaged (q : Nat) (s : State) : Host.Outcome State Fault Refusal :=
  .next <|
    match s.readsOf q with
    | [] => s
    | r :: _ =>
      match r.data with
      | none => s
      | some ws =>
        let s1 := s.withHq { s.hq with reads := s.hq.reads.erase r }
        let desc := natOfBytes (wordsBytes ws)
        if ws.any (fun w => w.poison) then s1.addComp ⟨q, r.index, true, 3, none⟩
        else if s.flag .HQ_Q_STATE_FROZEN q 0 then
          if s.fld .HQ_Q_STATE_ERR q 0 = 0 then s1.addComp ⟨q, nfield desc 0 32, false, 5, none⟩ else s
        else s1.withHq { s1.hq with staged := s1.hq.staged ++ [⟨q, r.index, BitVec.ofNat 512 desc⟩] }

/-! ## Admission (R431, R432, R436 to R438, R444, R445) -/

/-- A field of a submission entry, by its first byte and its bits. -/
def HqStaged.fld (e : HqStaged) (byte w : Nat) : Nat := nfield e.desc.toNat (8 * byte) w
/-- CLASS of an entry: 3 acts as 2 (R427). -/
def HqStaged.cls (e : HqStaged) : Nat := min 2 (e.fld 6 2)
/-- OP of an entry. -/
def HqStaged.op (e : HqStaged) : Nat := e.fld 4 16
/-- PIN of an entry. -/
def HqStaged.pin (e : HqStaged) : Bool := nbit (e.fld 6 8) 2
/-- DEADLINE of an entry. -/
def HqStaged.deadline (e : HqStaged) : Nat := e.fld 8 64

/-- R436: an entry is eligible. -/
def State.eligible (s : State) (e : HqStaged) : Bool :=
  s.queueLive e.queue && !s.flag .HQ_Q_STATE_FROZEN e.queue 0 && s.cqSpace e.queue &&
    (decide (64 ≤ e.op) || !s.flag .HQ_OP_EN (queueVi e.queue) e.op ||
      decide (s.opInflight (queueVi e.queue) e.op < s.inboxSize (queueVi e.queue) e.op))

/-- R436: whether an URGENT entry goes before another that was staged earlier: the earlier deadline, 0 being last; equal
ones go to the one staged first. -/
def urgentBefore (a b : HqStaged) : Bool :=
  if a.deadline = 0 then false else if b.deadline = 0 then true else decide (a.deadline < b.deadline)

/-- The URGENT entry next in line. -/
def pickUrgent (l : List HqStaged) : Option HqStaged :=
  l.foldl (fun (m : Option HqStaged) e =>
    match m with
    | none => some e
    | some b => if urgentBefore e b then some e else some b) none

/-- The key of a die and class. -/
def turnKey (die cls : Nat) : Nat := die * 4 + cls
/-- The number after `a` first met going round 64 numbers from the one after it, of those that satisfy `p`. -/
def nextRound (a : Nat) (p : Nat → Bool) : Option Nat := ((List.range 64).map (fun k => (a + 1 + k) % 64)).find? p
/-- The weight in force of a VI in a class (R436). -/
def State.weight (s : State) (v cls : Nat) : Nat :=
  if cls = 1 then s.inForce .HQ_VI_CFG_WEIGHT_N v 0 else s.inForce .HQ_VI_CFG_WEIGHT_B v 0

/-- R12, R436: the weights last written take effect. -/
def State.newWeights (s : State) : State :=
  s.each ((List.range 64).filter (fun u => s.isPending .HQ_VI_CFG u 0)) (fun u t => t.applyShadow .HQ_VI_CFG u 0)

/-- R436: deficit round robin over the VIs that have an eligible entry of a class: the VI served, and the state with its
turn counted. A round ends when the turn passes back to the VI served last or one below it, and the weights last written take effect as the
next begins (log entry 103). A VI of weight 0 is served when no other is. -/
def State.pickVi (s : State) (die cls : Nat) (vis : Nat → Bool) : Option Nat × State :=
  let k := turnKey die cls
  let (v, left) := sget (fun _ => (63, 0)) s.hq.turn k
  let put := fun (t : State) (x : Nat × Nat) => t.withHq { t.hq with turn := sset (fun _ => (63, 0)) t.hq.turn k x }
  if left ≠ 0 ∧ vis v then (some v, put s (v, left - 1))
  else
    let pick := fun (t : State) => nextRound v (fun u => vis u && decide (t.weight u cls ≠ 0))
    let s1 := match pick s with
      | some u => if v < u then s else s.newWeights
      | none => s.newWeights
    match pick s1 with
    | some u => (some u, put s1 (u, s1.weight u cls - 1))
    | none =>
      match nextRound v vis with
      | some u => (some u, put s1 (u, 0))
      | none => (none, s)

/-- R436: within a VI the queues are served in turn, each in ring order: the entry of the queue after the one served last,
and the state with that queue noted. -/
def State.pickQueue (s : State) (die cls v : Nat) (l : List HqStaged) : Option HqStaged × State :=
  let k := turnKey die cls * 64 + v
  let last := sget (fun _ => 0) s.hq.lastQ k
  let mine := l.filter (fun (e : HqStaged) => queueVi e.queue == v)
  let low := fun (p : HqStaged → Bool) =>
    (mine.filter p).foldl (fun (m : Option HqStaged) e =>
      match m with
      | none => some e
      | some b => if e.queue < b.queue then some e else some b) none
  let pick := match low (fun e => decide (last ≤ e.queue)) with
    | some e => some e
    | none => low (fun _ => true)
  match pick with
  | none => (none, s)
  | some e => (some e, s.withHq { s.hq with lastQ := sset (fun _ => 0) s.hq.lastQ k (e.queue + 1) })

/-- R436: the entry that a decision of an I/O die admits, and the state with the turns counted. -/
def State.pickEntry (s : State) (die : Nat) : Option HqStaged × State :=
  let l := s.hq.staged.filter (fun (e : HqStaged) => s.queuePort e.queue == die && s.eligible e)
  let of := fun (c : Nat) => l.filter (fun (e : HqStaged) => e.cls == c)
  match pickUrgent (of 2) with
  | some e => (some e, s)
  | none =>
    let cls := if (of 1).length ≠ 0 then 1 else 0
    match s.pickVi die cls (fun v => (of cls).any (fun (e : HqStaged) => queueVi e.queue == v)) with
    | (none, _) => (none, s)
    | (some v, t) => t.pickQueue die cls v (of cls)

/-- R437: a bad entry: an unknown or disabled operator, or a nonzero reserved byte. A PAYLOAD of 48 bits always has the
shape of a DVA (R176). -/
def State.badEntry (s : State) (e : HqStaged) : Bool :=
  decide (64 ≤ e.op) || !s.flag .HQ_OP_EN (queueVi e.queue) e.op || decide (e.fld 22 16 ≠ 0) || decide (e.fld 56 64 ≠ 0)

/-- R431: the 64 B of an inbox entry. -/
def inboxWords (e : HqStaged) (slot gen ft : Nat) : List PW :=
  let b := fun (byte n : Nat) => bytesN n (e.desc.toNat >>> (8 * byte))
  let l := b 0 4 ++ bytesN 2 slot ++ b 6 16 ++ bytesN 2 gen ++ b 24 32 ++ bytesN 8 ft
  dataWords 16 l

/-- A decision's effect on the entry it picked: it leaves the staging store and is completed FAULT (R437), GEN_GONE (R445)
or EXPIRED (R438) without a slot, or pinned, given a slot and written to its operator's inbox (R431, R460). -/
def State.admitAt (s0 : State) (die : Nat) (e : HqStaged) : State :=
  let s := s0.withHq { s0.hq with staged := s0.hq.staged.erase e }
  let q := e.queue
  let v := queueVi q
  let o := e.op
  let t := e.fld 7 8
  let seq := e.fld 0 32
  if s.badEntry e then s.addComp ⟨q, seq, false, 7, none⟩
  else if e.pin ∧ s.flag .HQ_GEN_ACTIVE_RETIRED t 0 then s.addComp ⟨q, seq, false, 6, none⟩
  else if e.deadline ≠ 0 ∧ e.deadline < s.predict v o then (s.viCount v 1).addComp ⟨q, seq, false, 1, none⟩
  else match s.freeSlotIx die with
    | none => s0
    | some i =>
      let k := die * 16384 + i
      let gen := if e.pin then s.fld .HQ_GEN_ACTIVE t 0 else 0
      let slot : HqSlot := ⟨k, q, v, o, seq, e.deadline, s.now, s.opRounds v o, if e.pin then some (t, s.swapsOf t) else none,
        false⟩
      let n := sget (fun _ => 0) s.hq.opCount (v * 64 + o)
      let off := s.fld .HQ_OP_INBOX v o / 64 * 64 + (n % s.inboxSize v o) * 64
      let s1 := (s.viCount v 0).setFld .HQ_OP_STATE_INFLIGHT v o (s.opInflight v o + 1)
      let s2 := s1.withHq { s1.hq with
        slots := s1.hq.slots ++ [slot], opCount := sset (fun _ => 0) s1.hq.opCount (v * 64 + o) (n + 1) }
      let s3 := if e.pin then s2.setFld .HQ_GEN_PINS_ACTIVE_PINS t 0 (s2.fld .HQ_GEN_PINS_ACTIVE_PINS t 0 + 1) else s2
      match s3.fabWrite (s.physCluster (s.fld .HQ_OP_CLUSTER v o)) e.cls (0x1000 + v) v off 64 1 (inboxWords e k gen s.now) true with
      | (.done _, s4) => s4.wrapInc .HQ_OP_CNT_DISPATCHED v o 1
      | (.refused _, s4) =>
        let s5 := s4.satInc .HQ_OP_STATE_DISPATCH_ERR v o 1
        let s6 := s5.withHq { s5.hq with slots := s5.hq.slots.map (fun (x : HqSlot) =>
          if x.slot = k then { x with done := true } else x) }
        s6.addComp ⟨q, seq, false, 7, some k⟩
      | (.held, _) => s0

/-- ADMISSION (R436, R432): one decision of an I/O die's scheduler. A full slot store stops it, and one whose inbox's
cluster holds its FAB port waits. -/
def execAdmission (die : Nat) (s : State) : Host.Outcome State Fault Refusal :=
  .next <|
    if (s.freeSlotIx die).isNone then s
    else match s.pickEntry die with
      | (none, _) => s
      | (some e, t) =>
        let u := t.admitAt die e
        if u.hq.staged.length = t.hq.staged.length then s else u

/-! ## Posts (R433, R439, R440) -/

/-- R442: the codes that device software may post. -/
def postable (status : Nat) : Bool := [0, 3, 4, 5, 6, 7, 8].contains status

/-- R439: a request of an operator was served in `dur` ns over `r` rounds: S moves by a sixteenth of the difference. A value
that S cannot hold is a free value (log entry 31). -/
def State.serviceEstimate (s : State) (v o dur r : Nat) : State :=
  let old := s.fld .HQ_OP_STATE_S v o
  let x : Int := (old : Int) + ((dur / r : Nat) - (old : Int)) / 16
  if 0 ≤ x ∧ x < 2 ^ 32 then s.setFld .HQ_OP_STATE_S v o x.toNat
  else
    let (f, s1) := s.free 32
    s1.setFld .HQ_OP_STATE_S v o f

/-- A slot's outcome is known: its completion waits to be written. -/
def State.slotDone (s : State) (x : HqSlot) (status : Nat) : State :=
  let s1 := s.withHq { s.hq with slots := s.hq.slots.map (fun (y : HqSlot) =>
    if y.slot = x.slot then { y with done := true } else y) }
  s1.addComp ⟨x.queue, x.seq, false, status, some x.slot⟩

/-- The VI for which an origin posts: the PF and the service firmware act for VI0, a core for its context's VI. -/
def postVi (a : Acc) : Nat :=
  match a.origin with
  | .vi v => v
  | .steer _ => a.vi
  | .herdCore _ => a.vi
  | _ => 0

/-- R433, R440, R454, R455: a write of HQ_POST: accepted, it completes the request with the status posted, with OVERRUN for
an OK after the deadline, or with POISONED where the value is poisoned; any other is ignored and counted. -/
def State.hqPost (s : State) (a : Acc) (value : W64) (poison : Bool) : State :=
  let k := getBits value 0 16
  let st := getBits value 16 8
  let seq := getBits value 32 32
  let v := postVi a
  match s.hq.slots.find? (fun (x : HqSlot) => x.slot == k) with
  | none => s.viCount v 3
  | some x =>
    if x.done = false ∧ x.seq = seq ∧ (v = x.vi ∨ v = 0) ∧ s.viResetting x.vi = false ∧ (poison ∨ postable st) then
      if poison then (s.bite (x.slot / 16384) 4).slotDone x 3
      else if st = 0 then
        let s1 := s.serviceEstimate x.vi x.op (s.now - x.admitAt) x.r
        if x.deadline ≠ 0 ∧ x.deadline < s.now then (s1.viCount x.vi 2).slotDone x 2 else s1.slotDone x 0
      else s.slotDone x st
    else s.viCount v 3

/-- SLOT_PARITY_ERROR (R460): a slot with a parity error completes its request FAULT with INDEXED 0. -/
def execSlotParityError (slot : Nat) (s : State) : Host.Outcome State Fault Refusal :=
  .next <|
    match s.hq.slots.find? (fun (x : HqSlot) => x.slot == slot) with
    | none => s
    | some x =>
      if x.done then
        s.withHq { s.hq with comps := s.hq.comps.map (fun (c : HqComp) =>
          if c.slot = some slot then { c with status := 7, indexed := false } else c) }
      else s.slotDone x 7

/-! ## Completions (R434, R435, R459) -/

/-- The 16 B of a completion entry (R434). -/
def State.compWords (s : State) (c : HqComp) : List PW :=
  let ph := s.fld .HQ_Q_STATE_PHASE c.queue 0
  wordsOf64 [BitVec.ofNat 64 (c.id % 2 ^ 32 + c.status * 2 ^ 32 + (ph + 2 * b2n c.indexed) * 2 ^ 40
      + s.sqHead c.queue * 2 ^ 48), BitVec.ofNat 64 s.now]

/-- R434: CQ_TAIL advances, and PHASE toggles when it wraps. -/
def State.cqAdvance (s : State) (q : Nat) : State :=
  let n := (s.fld .HQ_Q_STATE_CQ_TAIL q 0 + 1) % s.ringSize q
  let s1 := s.setFld .HQ_Q_STATE_CQ_TAIL q 0 n
  if n = 0 then s1.setFld .HQ_Q_STATE_PHASE q 0 (1 - s.fld .HQ_Q_STATE_PHASE q 0) else s1

/-- The queue's MSI-X vector is raised, and the coalescing starts again (R435). -/
def State.queueIrq (s : State) (q : Nat) : State :=
  (s.setQueue q { s.queue q with coal := 0, coalFt := 0 }).emit (.msix (s.queuePort q) (queueVi q) (s.fld .HQ_Q_CFG_VECTOR q 0))

/-- R435: a completion has been written: the vector is raised at COAL_CNT of them, or at each with COAL_CNT 0. -/
def State.coalesce (s : State) (q : Nat) : State :=
  if s.flag .HQ_Q_CFG_IRQ_EN q 0 then
    let x := s.queue q
    let lim := s.fld .HQ_Q_CFG_COAL_CNT q 0
    if x.coal + 1 < lim then s.setQueue q { x with coal := x.coal + 1, coalFt := if x.coal = 0 then s.now else x.coalFt }
    else s.queueIrq q
  else s

/-- One completion entry is written, if it can be: whether it was, and the state. A refused write freezes the queue. -/
def State.writeComp (s : State) (c : HqComp) : Bool × State :=
  let q := c.queue
  let addr := (s.reg .HQ_Q_CQB q 0).toNat / 16 * 16 + 16 * s.fld .HQ_Q_STATE_CQ_TAIL q 0
  if s.flag .HQ_Q_CFG_SPACE q 0 then
    match s.ringWrite q addr (s.compWords c) with
    | (.done _, t) => (true, (t.cqAdvance q).coalesce q)
    | (.refused _, t) => (false, t.freezeQueue q 3)
    | (.held, _) => (false, s)
  else (true, ((s.hostWriteAs 32 (s.ringClass q) .unit (queueVi q) (s.queuePort q) addr 16 (s.compWords c)).cqAdvance q).coalesce q)

/-- COMPLETION_WRITE (R434, R459): the oldest completion that waits for a queue is written once its CQ has space; its slot
is freed. `fails` says that the write fails on the link, which freezes the queue. -/
def execCompletionWrite (q : Nat) (fails : Bool) (s : State) : Host.Outcome State Fault Refusal :=
  .next <|
    match s.hq.comps.find? (fun (c : HqComp) => c.queue == q) with
    | none => s
    | some c =>
      if s.queueLive q && decide (s.fld .HQ_Q_STATE_ERR q 0 = 0) && s.cqSpace q && !s.viResetting (queueVi q) then
        if fails && !s.flag .HQ_Q_CFG_SPACE q 0 then s.freezeQueue q 2
        else
          match s.writeComp c with
          | (false, t) => t
          | (true, t) =>
            let t1 := t.withHq { t.hq with comps := t.hq.comps.erase c }
            match c.slot with
            | none => t1
            | some k => t1.freeSlot k
      else s

/-- MSIX_COALESCE_TIMEOUT (R435, R450): COAL_US after the first completion that no interrupt has signalled, the vector of a live queue is
raised; while a function-level reset runs no TLP leaves for its VI. -/
def execMsixCoalesceTimeout (q : Nat) (s : State) : Host.Outcome State Fault Refusal :=
  .next <|
    let x := s.queue q
    let flr := s.hq.resets.any (fun (r : ViReset) => r.vi == queueVi q && r.flr)
    if s.queueLive q ∧ flr = false ∧ x.coal ≠ 0 ∧ x.coalFt + s.fld .HQ_Q_CFG_COAL_US q 0 * 1000 ≤ s.now then s.queueIrq q else s

/-! ## The aperture (R424) -/

/-- BAR2_ACCESS (R424, R203, R446, R447): an access at offset `off` of a port's aperture reaches device physical space as
VI0, mapped through the base in force when it arrives; one that waits comes again and keeps its address. `poison` says that the write's
TLP is poisoned. A refused read completes with zeros, a refused write has no effect (R98, R180). -/
def execBar2Access (port off : Nat) (write : Bool) (len : Nat) (data : List PW) (poison : Bool) (s : State) :
    Host.Outcome State Fault Refusal :=
  .next <|
    let mine := fun (b : Bar2Acc) => b.port == port && b.off == off && b.write == write && b.len == len
    let addr := match s.hq.bar2.find? mine with
      | some b => b.addr
      | none => s.fld .HQ_APERTURE_BASE 0 0 * 2 ^ 21 + off
    let n := (maskedWords addr len []).length
    let m : MemReq := ⟨0x1000, ⟨.bar2 port, 1, 0⟩, none, addr, true⟩
    let ended := fun (t : State) => t.withHq { t.hq with bar2 := t.hq.bar2.filter (fun b => !mine b) }
    let wait := fun (t : State) => if t.hq.bar2.any mine then t else
      t.withHq { t.hq with bar2 := t.hq.bar2 ++ [⟨port, off, write, len, addr⟩] }
    let (r, t) := if write then s.physWrite m addr len 1 (if poison then linkWords 0 port n else data) false else s.physRead m addr len
    match r with
    | .waits => wait t
    | .done ws => if write then ended t else (ended t).emit (.cpl port ws)
    | .expired ws => if write then ended t else (ended t).emit (.cpl port ws)
    | _ => if write then ended t else (ended t).emit (.cpl port (List.replicate n ⟨0, false⟩))

/-! ## Resets (R449 to R451, R454, R456) -/

/-- R449 steps 1 to 6: a VI's queues freeze, its work is abandoned, its writes already issued post no arrival, its cache partition is
flushed, its windows close and its locks are released. -/
def State.viResetBegin (s : State) (v : Nat) : State :=
  let s1 := (s.setFlag .HQ_VI_STATUS_RESETTING v 0 true).setFlag .HQ_VI_STATUS_RESET_DONE v 0 false
  let s2 := s1.each (s.liveQueues v) (fun q t =>
    ((t.setFlag .HQ_Q_STATE_FROZEN q 0 true).setFld .HQ_Q_STATE_ERR q 0 4).dropStaged q)
  let s3 := (((s2.stViReset v).engViReset v).muViReset v).scViReset v
  let s4 := s3.withHbm { s3.hbm with
    waits := s3.hbm.waits.filter (fun (w : PageWait) => w.vi != v)
    priFail := s3.hbm.priFail.filter (fun f => f.1 != v) }
  let s5 := ((s4.lcViReset v).closeViWindows v).closeViHerdWindows v
  let s5a := s5.fabMute (fun a => a.vi == v)
  let s6 := s5a.withTm { s5a.tm with fabHeld := s5a.tm.fabHeld.map (fun h => if h.vi = v then { h with post := false } else h) }
  (s6.lockDrop (fun q => q.owner.herd == s.herdId && q.owner.vi == v)).releaseLocks (fun o => o.herd == s.herdId && o.vi == v)

/-- R449, R456: a reset of a VI starts, or joins the one that runs. -/
def State.viReset (s : State) (v : Nat) (flush flr : Bool) : State :=
  if s.hq.resets.any (fun (r : ViReset) => r.vi == v) then
    s.withHq { s.hq with resets := s.hq.resets.map (fun (r : ViReset) =>
      if r.vi = v then { r with flr := r.flr || flr } else r) }
  else
    let t := s.viResetBegin v
    t.withHq { t.hq with resets := t.hq.resets ++ [⟨v, flush, flr⟩] }

/-- HQ_VI_RESET.GO is set: the reset of the VI it names starts (R449). -/
def State.viResetGo (s : State) : State :=
  (s.setFlag .HQ_VI_RESET_GO 0 0 true).viReset (s.fld .HQ_VI_RESET_VI 0 0) (s.flag .HQ_VI_RESET_FLUSH_CQ 0 0) false

/-- R449 step 7: a slot of a VI under reset completes with VI_RESET where its CQ has space, or is counted as lost; it is
freed, and its pin is released. -/
def State.flushSlot (s : State) (flush : Bool) (x : HqSlot) : State :=
  let lost := fun (t : State) => t.withHq { t.hq with
    flushLost := sset (fun _ => 0) t.hq.flushLost x.vi (sget (fun _ => 0) t.hq.flushLost x.vi + 1) }
  let s1 :=
    if flush then
      if s.queueLive x.queue && s.cqSpace x.queue then
        match s.writeComp ⟨x.queue, x.seq, false, 4, none⟩ with
        | (true, t) => t
        | (false, t) => lost t
      else lost s
    else s
  s1.freeSlot x.slot

/-- The registers that an FLR returns to their reset values: HQ_Q_CFG and HQ_OP of a VI (R450). -/
def flrKey (v k : Nat) : Bool :=
  ([RegId.HQ_Q_CFG, .HQ_Q_SQB, .HQ_Q_CQB].any (fun r => r.ctorIdx == keyId k) && queueVi (keyI k) == v) ||
    keyAt [.HQ_OP, .HQ_OP_EST, .HQ_OP_STATE, .HQ_OP_CNT] v k

/-- R449 steps 7 and 8, R450: the reset of a VI ends. -/
def State.viResetEnd (s : State) (r : ViReset) : State :=
  let v := r.vi
  let s1 := s.each (s.hq.slots.filter (fun (x : HqSlot) => x.vi == v)) (fun (x : HqSlot) t =>
    t.flushSlot (r.flush && !r.flr) x)
  let s2 := s1.withHq { s1.hq with
    comps := s1.hq.comps.filter (fun (c : HqComp) => queueVi c.queue != v)
    resets := s1.hq.resets.filter (fun (x : ViReset) => x.vi != v) }
  let s3 := s2.each (s2.liveQueues v) (fun q t => t.setFlag .HQ_Q_CFG_ENABLE q 0 false)
  let s4 := (s3.setFlag .HQ_VI_STATUS_RESETTING v 0 false).setFlag .HQ_VI_STATUS_RESET_DONE v 0 true
  let s5 := if s4.fld .HQ_VI_RESET_VI 0 0 = v then s4.setFlag .HQ_VI_RESET_GO 0 0 false else s4
  if r.flr then s5.resetRegs (flrKey v) else s5.viEvent v

/-- PERSTe_N is low (R620, R626). -/
def State.perstLow (s : State) (e : Nat) : Bool := if e = 0 then s.pins.perst0 else s.pins.perst1

/-- VI_RESET_DONE (R449): the reset of a VI finishes, once the windows it closed are blank and its cache flush has ended; one
that a function-level reset began stays while PERST_N of the VI's port is low (R450, R626). -/
def execViResetDone (v : Nat) (s : State) : Host.Outcome State Fault Refusal :=
  .next <|
    match s.hq.resets.find? (fun (r : ViReset) => r.vi == v) with
    | none => s
    | some r =>
      if s.tm.blanks.any (fun (x : Nat × Nat) => s.fld .WN_CTL_OWNER_VI x.1 x.2 == v) || s.lcSweeping v ||
        (r.flr && s.perstLow (s.viPort v)) then s
      else s.viResetEnd r

/-- R450: a function-level reset of a port's PF: VI0, every VI mapped to the port, the aperture, and VF Enable. -/
def State.pfReset (s : State) (port : Nat) : State :=
  let vis := (List.range 64).filter (fun v => decide (v = 0) || s.viPort v == port)
  ((s.each vis (fun v t => t.viReset v false true)).setReg .HQ_APERTURE 0 0 (resetVal (regKey .HQ_APERTURE 0 0))).emit (.vfDisable port)

/-- FLR (R450, R423): a function-level reset of a port's PF (`fn` 0) or VF; one of a VF that is not live has no effect. -/
def execFlr (port fn : Nat) (s : State) : Host.Outcome State Fault Refusal :=
  .next <|
    match s.fnVi port fn with
    | none => s
    | some v => if fn = 0 then s.pfReset port else s.viReset v false true

/-- PCIE_LINK_LOSS (R451): loss of a port's link acts as an FLR of its PF and is logged as an event. -/
def execPcieLinkLoss (port : Nat) (s : State) : Host.Outcome State Fault Refusal :=
  .next <|
    if nbit s.power.links port then
      let s1 := s.withPower { s.power with links := s.power.links - 2 ^ port }
      (s1.pfReset port).auditEvent 4 port
    else s

end Sys2Proof.Machine
end

