-- ==== Sys2Proof/Machine/Herd.lean ====
section
/-! DEFINITION. The herd: ports, credits and link replay, forwarding, the frames that carry remote operations,
joining, heartbeats, takeover and role swap, broadcasts and herd-wide strokes (R462 to R499). -/
namespace Sys2Proof.Machine

open Sys2Proof

/-- A count of HL_PORT_CNT: 0 FEC_CORRECTED, 1 FEC_UNCORRECTABLE, 2 REPLAYS, 3 FRAMES_OUT, 4 FRAMES_IN, 5 BAD_FRAME,
6 DISCARDED. -/
def State.portCount (s : State) (p e : Nat) : State := s.wrapInc .HL_PORT_CNT_COUNT p e 1
/-- The link bookkeeping of a port (R472). -/
def State.link (s : State) (p : Nat) : LinkState := sget (fun _ => LinkState.reset) s.herd.links p
/-- The state with a port's link bookkeeping replaced. -/
def State.setLink (s : State) (p : Nat) (x : LinkState) : State :=
  s.withHerd { s.herd with links := sset (fun _ => LinkState.reset) s.herd.links p x }

/-! ## Buffers and credits (R471) -/

/-- CREDIT (R471): the next hop returns buffer space of a channel's sub-channel, and frames that waited for it leave. -/
def execCredit (p vc sub : Nat) (header : Bool) (n : Nat) (s : State) : Host.Outcome State Fault Refusal :=
  .next <|
    if s.portUp p then
      let cap := if header then 64 else 512
      (s.setCredits p vc sub header (min cap (s.credits p vc sub header + n))).portRun p
    else s

/-! ## Replies (R476) -/

/-- A reply to a frame, on VC4 with its TAG, as requester 44 of its port (R250). -/
def State.reply (s : State) (f : Frame) (type arg len : Nat) (payload : List PW) : State :=
  (s.sendAs { s.ctlFrame type f.src 0 f.tag arg with vc := 4, len := len, payload := payload } 44).getD s
/-- R476: a REFUSE with a family and a code. -/
def State.replyRefuse (s : State) (f : Frame) (family code : Nat) : State :=
  s.reply f 0x06 (family * 4096 + code % 256) 0 []
/-- Whether a frame is a request, which is answered (R470). -/
def isRequest (f : Frame) : Bool := [1, 2, 3, 7, 9].contains f.type

/-! ## Forwarding (R474, R475) -/

/-- R474, R475: a frame that arrived on a port and is not for this module goes on; one that cannot is discarded, and a
request's originator receives REFUSE, family HERD, code UNREACHABLE. -/
def State.forward (s : State) (p : Nat) (f : Frame) : State :=
  match s.route (some p) f with
  | .here => s
  | .port q g det =>
    let s1 := if det then s.setFlag .HL_EVENT_DETOUR 0 0 true else s
    s1.enterPort q g (transitIdx p) (some (p, f.sub))
  | .unreachable =>
    let s1 := (s.portCount p 6).freeBuffer p f.vc f.sub (frameBeats f)
    if isRequest f then s1.replyRefuse f 4 1 else s1

/-- A frame arrives on a port: a bad one is discarded and counted; a good one is counted; a module in no herd and one that holds its source
LOST discard it (R482, R494); one for another member goes on; else `k` serves it, and says whether it is served or still waits in its
buffer. -/
def State.frameAt (s : State) (p : Nat) (f : Frame) (k : State → Bool × State) : State :=
  if s.portUp p = false then s
  else if badFrame f then (s.portCount p 5).freeBuffer p f.vc f.sub (frameBeats f)
  else
    let s1 := s.portCount p 4
    let free := fun (t : State) => t.freeBuffer p f.vc f.sub (frameBeats f)
    if s.role = 0 ∨ s.herd.lost.contains f.src then (free s1).portCount p 6
    else if f.bcast = false ∧ f.linkLocal = false ∧ f.dest ≠ s.herdId then s1.forward p f
    else match k (free s1) with
      | (true, t) => t
      | (false, _) => (k s).2

/-- A frame that its command serves at once, or leaves as it is. -/
def State.frameIn (s : State) (p : Nat) (f : Frame) (k : State → Option State) : State :=
  s.frameAt p f (fun t => match k t with
    | some u => (true, u)
    | none => (false, t))

/-- FRAME_ROUTE (R474, R475): a frame arrives that is not for this module and is forwarded. -/
def execFrameRoute (p : Nat) (f : Frame) (s : State) : Host.Outcome State Fault Refusal :=
  .next (if f.dest = s.herdId then s else s.frameIn p f (fun t => some t))

/-- BAD_FRAME (R469, R470): a frame of a reserved type or channel, or too long, or with a header that fails its check, is
discarded and counted. -/
def execBadFrame (p : Nat) (s : State) : Host.Outcome State Fault Refusal :=
  .next (if s.portUp p then s.portCount p 5 else s)

/-! ## Transactions (R476, R481, R497, R498) -/

/-- R476: the trap cause of a refusal's family. -/
def familyCause (family : Nat) : Nat := match family with | 1 => 9 | 2 => 8 | 3 => 0xA | _ => 0xC

/-- A transaction is over. -/
def State.txnEnd (s : State) (t : Txn) : State := s.withHerd { s.herd with txns := s.herd.txns.erase t }

/-- R476, R402, R282: a transaction completes as refused: a core traps, a stream's block meets the fault. -/
def State.txnRefused (s0 : State) (t : Txn) (family code : Nat) : State :=
  let s := s0.txnEnd t
  match t.owner with
  | .core core x rd addr =>
    let s1 := s.withSc { s.sc with answers := s.sc.answers.filter (fun (a : SlAnswer) =>
      !(a.core == core && a.ctx == x && a.rd == rd && !a.ready)) }
    s1.slTrap core x (familyCause family) addr (BitVec.ofNat 32 (if family = 4 then t.dest else code)) (s1.slPc core x - 4)
  | .stream e x q off =>
    s.setEntry e x q (fun (n : StEntry) =>
      let place := if t.type = 3 then { n.blk.src with addr := n.blk.srcAt off } else { n.blk.dst with addr := n.blk.dstAt off }
      n.fail ⟨familyKind family, if family = 4 then 0 else code, off, place, 0⟩)
  | .entry e x _ => s.setStCtx e x { s.stCtx e x with fetchFault := some (familyKind family, if family = 4 then 0 else code) }
  | .service => s

/-- Every transaction that satisfies `p` completes as refused. -/
def State.txnsRefused (s : State) (p : Txn → Bool) (family code : Nat) : State :=
  s.each (s.herd.txns.filter p) (fun t u => u.txnRefused t family code)

/-- The transaction a reply names by its TAG, from the member it was sent to. -/
def State.txnOf (s : State) (f : Frame) : Option Txn :=
  s.herd.txns.find? (fun (t : Txn) => t.tag == f.tag && t.dest == f.src)

/-- TRANSACTION_TIMEOUT (R481): a transaction with no reply within HL_TIMEOUT completes UNREACHABLE. -/
def execTransactionTimeout (tag : Nat) (s : State) : Host.Outcome State Fault Refusal :=
  .next <|
    match s.herd.txns.find? (fun (t : Txn) => t.tag == tag && decide (t.deadline ≤ s.now)) with
    | none => s
    | some t => s.txnRefused t 4 1

/-! ## Ports (R465, R466, R472, R497, R631) -/

/-- R497: a port goes down, to STATE `st` (0 DOWN, 1 TRAINING): the requests that left by it complete LINK_DOWN, and the
frames that wait there are discarded; those of other members are counted, and the buffers they held on other ports are free. -/
def State.portDown (s : State) (p st : Nat) : State :=
  let s1 := (s.setFld .HL_PORT_STATUS_STATE p 0 st).setFlag .HL_EVENT_PORT_DOWN 0 0 true
  let s2 := s1.withHerd { s1.herd with
    egress := s1.herd.egress.filter (fun (e : Egress) => e.port != p)
    credits := sdrop (fun k => k / 32 == p) s1.herd.credits
    links := sdrop (fun k => k == p) s1.herd.links }
  let s3 := s2.each (s.herd.egress.filter (fun (e : Egress) => e.port == p)) (fun (e : Egress) t => match e.arrival with
    | none => t
    | some (q, sub) => (t.portCount p 6).freeBuffer q e.frame.vc sub (frameBeats e.frame))
  s3.txnsRefused (fun t => t.port == p) 4 2

/-- PORT_DOWN (R465, R497): a port loses training or a second lane, or fails training. -/
def execPortDown (p : Nat) (s : State) : Host.Outcome State Fault Refusal :=
  .next <|
    let s1 := s.setFld .HL_PORT_STATUS_LANES p 0 0
    if s.portUp p then s1.portDown p 0
    else if s.fld .HL_PORT_STATUS_STATE p 0 = 1 then s1.setFld .HL_PORT_STATUS_STATE p 0 0
    else s

/-- LANE_LOSS (R465): a port loses lane `l`: with three left it retrains and then runs DEGRADED; with two it is DOWN. -/
def execLaneLoss (p l : Nat) (s : State) : Host.Outcome State Fault Refusal :=
  .next <|
    let m := s.fld .HL_PORT_STATUS_LANES p 0
    if s.portUp p ∧ nbit m l then
      let s1 := (s.setFld .HL_PORT_STATUS_LANES p 0 (m - 2 ^ l)).setFlag .HL_EVENT_LANE_LOST 0 0 true
      s1.portDown p (if s.fld .HL_PORT_STATUS_STATE p 0 = 2 then 1 else 0)
    else s

/-- The number of lanes in a mask. -/
def laneCount (m : Nat) : Nat := ((List.range 4).filter (fun k => nbit m k)).length

/-- PORT_TRAINED (R465, R631): a port that is not up completes training with a mask of working lanes: UP on four,
DEGRADED on three; the cells are numbered from 0 and the far end's buffers are empty. -/
def execPortTrained (p lanes neighbour nport : Nat) (s : State) : Host.Outcome State Fault Refusal :=
  .next <|
    let n := laneCount lanes
    if s.power.rails ∧ s.portUp p = false ∧ p < 8 * s.ioDies ∧ s.fld .HL_PORT_CFG_DIR p 0 ≠ 7 ∧ 3 ≤ n then
      let s1 := (s.setFld .HL_PORT_STATUS_STATE p 0 (if n = 4 then 2 else 3)).setFld .HL_PORT_STATUS_LANES p 0 lanes
      let s2 := (s1.setFld .HL_PORT_STATUS_NEIGHBOUR p 0 neighbour).setFld .HL_PORT_STATUS_NPORT p 0 nport
      s2.withHerd { s2.herd with
        credits := sdrop (fun k => k / 32 == p) s2.herd.credits, links := sdrop (fun k => k == p) s2.herd.links }
    else s

/-- SPARE_PORT_TAKEOVER (R466): a trained spare takes the direction it backs once that torus port of its die is DOWN. -/
def execSparePortTakeover (p : Nat) (s : State) : Host.Outcome State Fault Refusal :=
  .next <|
    let d := s.fld .HL_PORT_CFG_BACKS p 0
    let ps := (s.portsOf d).filter (fun q => q / 8 == p / 8 && q != p)
    if s.portUp p ∧ s.fld .HL_PORT_CFG_DIR p 0 = 6 ∧ ps ≠ [] ∧ ps.all (fun q => !s.portUp q) then
      (s.setFld .HL_PORT_CFG_DIR p 0 d).setFlag .HL_EVENT_SPARE_TAKEN 0 0 true
    else s

/-- LINK_REPLAY (R472): a LINK word on a port: the last good cell, or a bad one from which the sender replays; more than
RETRAIN replays in 1 ms retrain the port. -/
def execLinkReplay (p : Nat) (bad : Bool) (cell : Nat) (s : State) : Host.Outcome State Fault Refusal :=
  .next <|
    if s.portUp p then
      let l := s.link p
      if bad then
        let recent := decide (s.now - l.replayFrom < 1000000)
        let n := if recent then l.replays + 1 else 1
        let s1 := (s.portCount p 2).setLink p { l with
          txCell := cell % 32768, replays := n, replayFrom := if recent then l.replayFrom else s.now }
        if s1.fld .HL_PORT_CFG_RETRAIN p 0 < n then s1.portDown p 1 else s1
      else s.setLink p { l with acked := cell % 32768 }
    else s

/-- UNCORRECTABLE_CODEWORD (R472): a receiver meets an uncorrectable codeword (`fec`) or a header that fails its check: it
discards the cells from the first in error and sends a LINK word naming that cell. -/
def execUncorrectableCodeword (p cell : Nat) (fec : Bool) (s : State) : Host.Outcome State Fault Refusal :=
  .next <|
    if s.portUp p then
      let s1 := if fec then s.portCount p 1 else s
      (s1.setLink p { s1.link p with rxCell := cell % 32768 }).emit (.link p true (cell % 32768))
    else s

/-! ## Remote operations at the target (R477 to R480) -/

/-- An access that a frame makes at its target (R477, R478): a READ_REQ reads, a WRITE writes, a POST counts. -/
def State.frameAccess (s : State) (p : Nat) (f : Frame) (len : Nat) (write post : Bool) : HerdOut × State :=
  s.herdAccess f.src f.tag (p / 8) (f.addr % 2 ^ 48) len write post f.payload (if write then f.arg else 0) (vcClass f.vc)

/-- The reply to a request: `ack` names the reply type; none while its access waits. -/
def State.herdReply (f : Frame) (ack len : Nat) (r : HerdOut × State) : Bool × State :=
  match r with
  | (.done ws, t) => (true, t.reply f ack 0 len ws)
  | (.refused fam code, t) => (true, t.replyRefuse f fam code)
  | (.waits, t) => (false, t)

/-- WRITE (R477): admitted or refused whole; WRITE_ACK once every word has committed. -/
def execWrite (p : Nat) (f : Frame) (s : State) : Host.Outcome State Fault Refusal :=
  .next (s.frameAt p f (fun t => State.herdReply f 0x05 0 (t.frameAccess p f f.len true false)))

/-- POST (R477): a count for a block, checked as a write of one byte and answered with WRITE_ACK. -/
def execPost (p : Nat) (f : Frame) (s : State) : Host.Outcome State Fault Refusal :=
  .next (s.frameAt p f (fun t => State.herdReply f 0x05 0 (t.frameAccess p f 1 true true)))

/-- READ_REQ (R478): admitted by a window that permits reads, and answered with READ_RESP. A length outside 1 to 4,096 makes
a bad frame (log entry 157). -/
def execReadReq (p : Nat) (f : Frame) (s : State) : Host.Outcome State Fault Refusal :=
  .next (s.frameAt p f (fun t =>
    if f.arg = 0 ∨ 4096 < f.arg then (true, t.portCount p 5)
    else State.herdReply f 0x04 f.arg (t.frameAccess p f f.arg false false)))

/-- LOCK_REQ (R479, R112, R118): LOCK or UNLOCK at the target's lock unit, in its turn; the result returns in LOCK_RESP. -/
def execLockReq (p : Nat) (f : Frame) (err : Nat) (s : State) : Host.Outcome State Fault Refusal :=
  .next (s.frameIn p f (fun t =>
    let o : LockOwner := ⟨f.src, nfield f.addr 16 6, nfield f.addr 22 5, nfield f.addr 27 4⟩
    let q : LockReq := ⟨nfield f.addr 0 13, 20, o, nbit f.addr 15, err, none⟩
    let (r, u) := State.lockUntil (t.tm.lockQ.length + 1) (t.withTm { t.tm with lockQ := t.tm.lockQ ++ [q] }) q
    some (u.reply f 0x08 r.code 0 [])))

/-- Whether a MSG is taken by the service firmware: one to the service context whose first byte is 0x03 or 0x05 (R556). -/
def toService (f : Frame) : Bool :=
  nfield f.addr 0 6 == 15 * 4 && (match f.payload with
    | w :: _ => w.data.toNat % 256 == 3 || w.data.toNat % 256 == 5
    | [] => false)

/-- R480: a MSG is written into the ring of the herd core's context it names, or refused with MSG_FULL; a core that this
assembly lacks is UNREACHABLE. -/
def State.msgIn (s : State) (f : Frame) : State :=
  let n := nfield f.addr 0 2
  if s.coreOn (18 + n) = false then s.replyRefuse f 4 1
  else match s.deliverMsgWords n (nfield f.addr 2 4) f.src (min f.len 248) f.payload with
    | (true, t) => t
    | (false, t) => t.replyRefuse f 4 4

/-- HOLD_EXPIRY (R203): an access that its channel has held longer than MU_HOLD.LIMIT completes: a read with words poisoned
CHANNEL_BUSY, a write discarded; another module's write is refused, a trace record lost. Fills through the cache, scrub reads and accesses
that a requester's own step makes have the outcome in their own commands. -/
def execHoldExpiry (group : Nat) (s : State) : Host.Outcome State Fault Refusal :=
  .next <|
    match s.hbm.accs.find? (fun (a : SectorAcc) =>
        !a.own && a.group == group && a.held && decide (s.holdLimit (plotStack a.plot) < s.now - a.arrived)) with
    | none => s
    | some a =>
      let k := plotStack a.plot
      let n := 8 * (s.hbm.accs.filter (fun (b : SectorAcc) => !b.own && b.group == group)).length
      let busy := List.replicate n (poisoned .channelBusy (originBusy k a.pc))
      let s1 := s.withHbm { s.hbm with accs := s.hbm.accs.filter (fun (b : SectorAcc) => b.own || b.group != group) }
      let s2 := (s1.countExpiry k).zeroHerd
      match a.req with
      | .bar2 port => if a.write then s2 else s2.emit (.cpl port busy)
      | .trace c => s2.traceLost c
      | .herd src tag _ _ =>
        let f : Frame := { s2.ctlFrame 0x01 s2.herdId 0 tag 0 with src := src }
        if a.write then s2.replyRefuse f 3 0 else s2.reply f 0x04 0 (4 * n) busy
      | r => if a.write then s2 else s2.withHbm { s2.hbm with rets := s2.hbm.rets ++ [⟨group, r, busy⟩] }

/-! ## Replies at the originator -/

/-- R476: the words of a response of `n` bytes; those that did not come, because it was abandoned, are poisoned with kind LINK, the member and
the arrival port. -/
def respWords (p n : Nat) (f : Frame) : List PW :=
  (List.range ((n + 3) / 4)).map (fun k => f.payload.getD k (poisoned .link (originLink true f.src 0 p)))

/-- READ_RESP (R478): the words reach the block, or the list entry, of the stream that asked. -/
def execReadResp (p : Nat) (f : Frame) (s : State) : Host.Outcome State Fault Refusal :=
  .next (s.frameIn p f (fun t =>
    match t.txnOf f with
    | none => some (t.portCount p 6)
    | some x =>
      match x.owner with
      | .stream e c q off =>
        some (((t.txnEnd x).setEntry e c q (fun (n : StEntry) =>
          { n with words := n.words ++ numbered (n.blk.wordIx off) (respWords p f.len f) })).stIssue e c)
      | .entry e c part =>
        let u := t.txnEnd x
        some (u.setStCtx e c { u.stCtx e c with fetched := (u.stCtx e c).fetched ++ [(part, respWords p 32 f)] })
      | _ => some (t.txnEnd x)))

/-- WRITE_ACK (R477): a remote write or POST is complete. -/
def execWriteAck (p : Nat) (f : Frame) (s : State) : Host.Outcome State Fault Refusal :=
  .next (s.frameIn p f (fun t =>
    match t.txnOf f with
    | none => some (t.portCount p 6)
    | some x => some (t.txnEnd x)))

/-- REFUSE (R476): a transaction completes with its family and code. -/
def execRefuse (p : Nat) (f : Frame) (s : State) : Host.Outcome State Fault Refusal :=
  .next (s.frameIn p f (fun t =>
    match t.txnOf f with
    | none => some (t.portCount p 6)
    | some x => some (t.txnRefused x (nfield f.arg 12 4) (nfield f.arg 0 8))))

/-- LOCK_RESP (R479): the result of a remote LOCK or UNLOCK answers the instruction. -/
def execLockResp (p : Nat) (f : Frame) (s : State) : Host.Outcome State Fault Refusal :=
  .next (s.frameIn p f (fun t =>
    match t.txnOf f with
    | none => some (t.portCount p 6)
    | some x =>
      let u := t.txnEnd x
      match x.owner with
      | .core core c rd _ =>
        some (u.withSc { u.sc with answers := u.sc.answers.map (fun (a : SlAnswer) =>
          if a.core = core ∧ a.ctx = c ∧ a.rd = rd ∧ a.ready = false then { a with code := f.arg % 256, ready := true } else a) })
      | _ => some u))

/-! ## The herd table and roles (R482 to R485) -/

/-- R484: serial comparison of epochs: `a` is later than `b`. -/
def epochAfter (a b : Nat) : Bool := serialGe a b && a % 2 ^ 32 != b % 2 ^ 32

/-- The herd's epoch. -/
def State.epoch (s : State) : Nat := s.fld .HD_STATUS_EPOCH 0 0

/-- R482, R25: the module's role changes; the change is audited with the origin that caused it, and FT_SRC follows. -/
def State.setRole (s : State) (a : Acc) (role : Nat) : State :=
  let old := s.reg .HD_STATUS 0 0
  let s1 := s.setFld .HD_STATUS_ROLE 0 0 role
  (s1.auditLog .change a 0 (regObject 0x80C000 true) old (s1.reg .HD_STATUS 0 0) 0).ftModeChange

/-- R482: the module is a member no more. -/
def State.becomeAlone (s : State) (a : Acc) : State :=
  let s1 := s.setRole a 0
  let s2 := ((s1.setFld .HD_STATUS_HERD_ID 0 0 0).setFld .HD_STATUS_SHEPHERD 0 0 0).setFlag .HD_STATUS_SILENT 0 0 false
  s2.withHerd { s2.herd with
    lastEpoch := s.epoch, standby := 0xFFF, swap := .idle, strokeWaits := [], missed := [], lost := [] }

/-- The state of a herd-table entry: 0 ABSENT, 1 MEMBER, 2 LOST (R485). -/
def State.entryState (s : State) (h : Nat) : Nat := s.fld .HD_TABLE_ENTRY_STATE h 0

/-- R485: a MIRROR frame with a herd-table entry goes to the standby, if there is one. -/
def State.mirror (s : State) (h : Nat) : State :=
  if s.herd.standby = 0xFFF ∨ s.herd.standby = s.herdId then s
  else
    let arg := h + s.entryState h * 2 ^ 12 + s.fld .HD_TABLE_ENTRY_ELIGIBLE h 0 * 2 ^ 14
    s.sendOrDrop (s.ctlFrame 0x26 s.herd.standby (s.reg .HD_TABLE h 0).toNat (s.fld .HD_TABLE_ENTRY_EPOCH h 0) arg)

/-- R485: the shepherd changes the state of a herd-table entry: it carries the epoch, the table's version moves on, and the
standby is told. -/
def State.setEntryState (s : State) (h st : Nat) : State :=
  let s1 := ((s.setFld .HD_TABLE_ENTRY_STATE h 0 st).setFld .HD_TABLE_ENTRY_HERD h 0 h).setFld .HD_TABLE_ENTRY_EPOCH h 0 s.epoch
  (s1.withHerd { s1.herd with tableVer := (s1.herd.tableVer + 1) % 2 ^ 16 }).mirror h

/-- The shepherd's standby, 0xFFF for none. -/
def State.setStandby (s : State) (h : Nat) : State :=
  (s.withHerd { s.herd with standby := h }).setFlag .HD_STATUS_NO_STANDBY 0 0 (h == 0xFFF)

/-- R498, R494: a member is lost: its transactions complete NOT_MEMBER, and its frames are discarded from now on. -/
def State.dropMember (s : State) (h : Nat) : State :=
  let s1 := s.withHerd { s.herd with lost := h :: s.herd.lost.filter (fun x => x != h), missed := sdrop (fun k => k == h) s.herd.missed }
  s1.txnsRefused (fun t => t.dest == h) 4 3

/-- R113, R485: the words that a lost or rejoining module holds are released. -/
def State.releaseMember (s : State) (h : Nat) : State :=
  (s.lockDrop (fun q => q.owner.herd == h)).releaseLocks (fun o => o.herd == h)

/-- R485, R595: the shepherd puts a member out of the herd: its entry takes a state, LOST and RELEASE are broadcast, and
both act here too. -/
def State.expelMember (s : State) (h st : Nat) : State :=
  let s1 := s.setEntryState h st
  let s2 := (s1.broadcast 0x20 0 h).broadcast 0x21 0 h
  let s3 := (s2.dropMember h).releaseMember h
  if s3.herd.standby = h then s3.setStandby 0xFFF else s3

/-- MEMBER_LOST (R485): 20 consecutive heartbeats of a member went unacknowledged. -/
def execMemberLost (h : Nat) (s : State) : Host.Outcome State Fault Refusal :=
  .next <|
    if s.role = 3 ∧ s.entryState h = 1 ∧ 20 ≤ sget (fun _ => 0) s.herd.missed h then s.expelMember h 2 else s

/-- R485: with no standby the ELIGIBLE worker of lowest herd ID is assigned. -/
def State.assignStandby (s : State) : State :=
  if s.herd.standby = 0xFFF then
    match (List.range 4096).find? (fun h => s.entryState h == 1 && s.flag .HD_TABLE_ENTRY_ELIGIBLE h 0 && h != s.herdId) with
    | none => s
    | some h => (s.setStandby h).sendOrDrop (s.ctlFrame 0x1B h s.epoch 0 (h + 2 * 2 ^ 12))
  else s

/-- The heartbeat's ADDR (R470). -/
def State.beatAddr (s : State) : Nat := s.epoch + s.herd.standby * 2 ^ 32 + s.herd.tableVer * 2 ^ 44

/-- R484: a heartbeat is broadcast, and counted against every other member. -/
def State.sendBeat (s : State) : State :=
  let ms := s.members.filter (fun h => h != s.herdId)
  let s1 := s.withHerd { s.herd with
    beats := (s.herd.bcastSeq :: s.herd.beats).take 20
    lastBeat := s.now
    missed := ms.foldl (fun (m : Sparse Nat) h => sset (fun _ => 0) m h (sget (fun _ => 0) m h + 1)) s.herd.missed }
  s1.broadcast 0x18 s1.beatAddr 0

/-- HEARTBEAT_SEND (R484, R485): at every 100 µs of FT_NOW, once. -/
def execHeartbeatSend (s : State) : Host.Outcome State Fault Refusal :=
  .next (if s.role = 3 ∧ s.now % 100000 = 0 ∧ (s.herd.beats = [] ∨ s.herd.lastBeat ≠ s.now) then s.assignStandby.sendBeat else s)

/-- BEAT_ACK (R484, R485): a member has answered a heartbeat: those sent after the one it names are still unacknowledged. -/
def execBeatAck (p : Nat) (f : Frame) (s : State) : Host.Outcome State Fault Refusal :=
  .next (s.frameIn p f (fun t =>
    if t.role = 3 ∧ f.addr % 2 ^ 32 = t.epoch then
      let late := (t.herd.beats.findIdx? (fun q => q == f.tag)).getD 20
      some (t.withHerd { t.herd with missed := sset (fun _ => 0) t.herd.missed f.src (min late (sget (fun _ => 0) t.herd.missed f.src)) })
    else some t))

/-! ## Broadcasts (R488) -/

/-- R488: a broadcast frame is taken once: a copy seen before is dropped; else it goes on, on the ports of HL_BCAST other
than its own, and `k` acts. -/
def State.bcastIn (s : State) (p : Nat) (f : Frame) (epoch : Nat) (k : State → State) : State :=
  if s.herd.seen.contains (epoch, f.tag) then s
  else
    let s1 := s.withHerd { s.herd with seen := (epoch, f.tag) :: s.herd.seen }
    let s2 := s1.each ((List.range 16).filter (fun q => nbit (s.fld .HL_BCAST_PORTS 0 0) q && s.torusUp q && q != p))
      (fun q t => t.offerFrame q f)
    k s2

/-- R484: a heartbeat wins over the shepherd now followed. -/
def State.beatWins (s : State) (src epoch : Nat) : Bool :=
  epochAfter epoch s.epoch || (epoch == s.epoch && decide (src ≤ s.shepherdId))

/-- R484: a heartbeat that is followed: the shepherd, epoch, standby and table version it names; a shepherd that it beats
becomes WORKER, and a member that is not in its table ALONE. It is acknowledged. -/
def State.followBeat (s : State) (f : Frame) (member : Bool) : State :=
  let e := f.addr % 2 ^ 32
  let s1 := (s.setFld .HD_STATUS_SHEPHERD 0 0 f.src).setFld .HD_STATUS_EPOCH 0 0 e
  let s2 := (s1.setFlag .HD_STATUS_SILENT 0 0 false).setStandby (nfield f.addr 32 12)
  let s3 := s2.withHerd { s2.herd with lastBeat := s2.now, lastEpoch := e, tableVer := nfield f.addr 44 16 }
  if member = false then s3.becomeAlone (accShepherd f.src)
  else
    let s4 := if s.role = 3 ∧ f.src ≠ s.herdId then s3.setRole (accShepherd f.src) 1 else s3
    s4.sendOrDrop (s4.ctlFrame 0x19 f.src e f.tag 0)

/-- HEARTBEAT (R484, R488): `member` says that the winning shepherd's table holds this module as MEMBER. -/
def execHeartbeat (p : Nat) (f : Frame) (member : Bool) (s : State) : Host.Outcome State Fault Refusal :=
  .next (s.frameIn p { f with bcast := true } (fun t =>
    some (t.bcastIn p { f with bcast := true } (f.addr % 2 ^ 32) (fun u =>
      if u.beatWins f.src (f.addr % 2 ^ 32) then u.followBeat f member else u))))

/-- LOST (R498, R482): a member has been declared lost: its transactions end, or this module is ALONE. -/
def execLost (p : Nat) (f : Frame) (s : State) : Host.Outcome State Fault Refusal :=
  .next (s.frameIn p { f with bcast := true } (fun t =>
    some (t.bcastIn p { f with bcast := true } t.epoch (fun u =>
      let h := f.arg % 4096
      if h = u.herdId then u.becomeAlone (accShepherd f.src) else u.dropMember h))))

/-- RELEASE (R113): every lock word that the named herd ID holds is released. -/
def execRelease (p : Nat) (f : Frame) (s : State) : Host.Outcome State Fault Refusal :=
  .next (s.frameIn p { f with bcast := true } (fun t =>
    some (t.bcastIn p { f with bcast := true } t.epoch (fun u => u.releaseMember (f.arg % 4096)))))

/-! ## Joining (R482, R483) -/

/-- JOIN_SEND (R482): a module in no herd sends JOIN on every port that is up, once per ms. -/
def execJoinSend (s : State) : Host.Outcome State Fault Refusal :=
  .next <|
    if s.role = 0 ∧ s.herd.nextJoin ≤ s.now then
      (s.withHerd { s.herd with nextJoin := s.now + 1000000 }).each ((List.range 16).filter s.torusUp) (fun p t =>
        t.offerFrame p { t.ctlFrame 0x1A 0 (t.reg .HD_SELF 0 0).toNat 0 0 with linkLocal := true })
    else s

/-- The coordinate one step from a herd ID in a direction (R474). -/
def State.neighbourOf (s : State) (h dir : Nat) : Nat :=
  let d := dir / 2
  let n := s.dimSize d
  let c := coordOf h d
  let c1 := if dir % 2 = 0 then (c + 1) % n else (c + n - 1) % n
  h - c * 2 ^ (8 - 4 * d) + c1 * 2 ^ (8 - 4 * d)

/-- R483, R113: the shepherd judges a JOIN that a neighbour's port received: the module is admitted when its serial stands in the
table at the coordinate one step from the neighbour through that port's direction. The lock words that a rejoining one held are released on
every member. -/
def State.judgeJoin (s : State) (neighbour port serial : Nat) : State :=
  let dir := s.fld .HL_PORT_CFG_DIR port 0
  let h := s.neighbourOf neighbour dir
  if dir < 6 ∧ (s.reg .HD_TABLE h 0).toNat = serial ∧ serial ≠ 0 then
    let s1 := s.withHerd { s.herd with lost := s.herd.lost.filter (fun x => x != h), missed := sdrop (fun k => k == h) s.herd.missed }
    let s2 := if s.entryState h = 0 then s1 else (s1.broadcast 0x21 0 h).releaseMember h
    (s2.setEntryState h 1).sendOrDrop (s2.ctlFrame 0x1B h s.epoch 0 (h + 2 ^ 12))
  else s.sendOrDrop (s.ctlFrame 0x1B h s.epoch 0 (h + 2 ^ 15))

/-- JOIN (R483): a member's neighbour carries it to the shepherd, which judges it. -/
def execJoin (p : Nat) (f : Frame) (s : State) : Host.Outcome State Fault Refusal :=
  .next (s.frameIn p { f with src := if f.linkLocal then s.herdId else f.src } (fun t =>
    if f.linkLocal then
      if t.role = 3 then some (t.judgeJoin t.herdId p (f.addr % 2 ^ 64))
      else some (t.sendOrDrop (t.ctlFrame 0x1A t.shepherdId (f.addr % 2 ^ 64) f.tag p))
    else if t.role = 3 then some (t.judgeJoin f.src (f.arg % 16) (f.addr % 2 ^ 64))
    else some t))

/-- R483: a module in no herd is given its herd ID and role, with the ring sizes and broadcast ports that come with it (R483
says that they do; the frame's layout gives them no place: operands). -/
def State.joinHerd (s : State) (f : Frame) (dims bcast : Nat) : State :=
  if nbit f.arg 15 then s.setFlag .HD_STATUS_REJECTED 0 0 true
  else
    let s1 := (s.setFld .HD_STATUS_HERD_ID 0 0 (f.arg % 4096)).setFld .HD_STATUS_SHEPHERD 0 0 f.src
    let s2 := (s1.setFld .HD_STATUS_EPOCH 0 0 (f.addr % 2 ^ 32)).setReg .HL_DIMS 0 0 (BitVec.ofNat 64 (dims % 4096))
    let s3 := (s2.setFld .HL_BCAST_PORTS 0 0 bcast).setFlag .HD_STATUS_SILENT 0 0 false
    let s4 := s3.withHerd { s3.herd with lastBeat := s3.now, lastEpoch := f.addr % 2 ^ 32, lost := [], seen := [] }
    s4.setRole (accShepherd f.src) 1

/-- ASSIGN (R482, R483): a module in no herd joins or is rejected; a worker becomes STANDBY, or a standby WORKER. -/
def execAssign (p : Nat) (f : Frame) (dims bcast : Nat) (s : State) : Host.Outcome State Fault Refusal :=
  .next <|
    if s.role = 0 then
      if s.portUp p then (s.portCount p 4).joinHerd f dims bcast else s
    else s.frameIn p f (fun t =>
      let r := nfield f.arg 12 2
      if nbit f.arg 15 then some t
      else if t.role = 1 ∧ r = 2 then some (t.setRole (accShepherd f.src) 2)
      else if t.role = 2 ∧ r = 1 then some (t.setRole (accShepherd f.src) 1)
      else some t)

/-- EXPEL (R482): the module becomes ALONE. -/
def execExpel (p : Nat) (f : Frame) (s : State) : Host.Outcome State Fault Refusal :=
  .next (s.frameIn p f (fun t => some (t.becomeAlone (accShepherd f.src))))

/-- MIRROR (R485): the standby's copy of a herd-table entry. -/
def execMirror (p : Nat) (f : Frame) (s : State) : Host.Outcome State Fault Refusal :=
  .next (s.frameIn p f (fun t =>
    if t.role = 2 then
      let h := f.arg % 4096
      let t1 := (t.setReg .HD_TABLE h 0 (BitVec.ofNat 64 f.addr)).setFld .HD_TABLE_ENTRY_HERD h 0 h
      let t2 := (t1.setFld .HD_TABLE_ENTRY_STATE h 0 (nfield f.arg 12 2)).setFld .HD_TABLE_ENTRY_ELIGIBLE h 0 (nfield f.arg 14 1)
      some (t2.setFld .HD_TABLE_ENTRY_EPOCH h 0 (f.tag % 2 ^ 32))
    else some t))

/-! ## Silence and takeover (R486, R499) -/

/-- No heartbeat has been heard for 2 ms. -/
def State.silent (s : State) : Bool := decide (2000000 ≤ s.now - s.herd.lastBeat)

/-- HERD_SILENT (R499): a member that hears no heartbeat for 2 ms sets SILENT and keeps its role. -/
def execHerdSilent (s : State) : Host.Outcome State Fault Refusal :=
  .next (if (s.role = 1 ∨ s.role = 2) ∧ s.silent then s.setFlag .HD_STATUS_SILENT 0 0 true else s)

/-- R486: the standby becomes SHEPHERD with the next epoch, sends its first heartbeat and declares the old shepherd LOST. -/
def State.takeOver (s : State) : State :=
  let old := s.shepherdId
  let s1 := (s.setFld .HD_STATUS_EPOCH 0 0 (s.epoch + 1)).setFld .HD_STATUS_SHEPHERD 0 0 s.herdId
  let s2 := (s1.setFlag .HD_STATUS_SILENT 0 0 false).setStandby 0xFFF
  let s3 := s2.withHerd { s2.herd with lastEpoch := s2.epoch, swap := .idle, missed := [], beats := [] }
  let s4 := (s3.setRole (accShepherd s.herdId) 3).auditEvent 6 old
  s4.sendBeat.expelMember old 2

/-- TAKEOVER (R486): a standby hears no heartbeat for 2 ms. -/
def execTakeover (s : State) : Host.Outcome State Fault Refusal :=
  .next (if s.role = 2 ∧ s.silent then s.takeOver else s)

/-! ## HD_CTL and the role swap (R482, R487, R493, R595) -/

/-- HD_CTL reports a result and GO clears. -/
def State.hdResult (s : State) (r : Nat) : State := (s.setFld .HD_CTL_RESULT 0 0 r).setFlag .HD_CTL_GO 0 0 false

/-- R482, R484: FOUND: a module in no herd becomes SHEPHERD at HD_CFG.COORD with the next epoch, its table loaded. -/
def State.hdFound (s : State) (a : Acc) : State :=
  if s.role ≠ 0 then s.hdResult 3
  else if s.regs.any (fun e => keyId e.1 == RegId.HD_TABLE.ctorIdx && e.2 != 0) = false then s.hdResult 4
  else
    let h := s.fld .HD_CFG_COORD 0 0
    let s1 := (s.setFld .HD_STATUS_HERD_ID 0 0 h).setFld .HD_STATUS_SHEPHERD 0 0 h
    let s2 := (s1.setFld .HD_STATUS_EPOCH 0 0 (s.herd.lastEpoch + 1)).setStandby 0xFFF
    let s3 := s2.withHerd { s2.herd with lastEpoch := s2.epoch, lastBeat := s2.now, lost := [], seen := [], missed := [], beats := [] }
    ((s3.setRole a 3).setEntryState h 1).hdResult 0

/-- R487: the shepherd starts a HANDOVER to its standby; `tag` and `by_` name the request it answers, 0 for its own. -/
def State.handOver (s : State) (tag by_ : Nat) : State :=
  let s1 := s.withHerd { s.herd with swap := .handoverSent, swapBy := by_ }
  s1.sendOrDrop (s1.ctlFrame 0x1D s.herd.standby (s.epoch + 1) tag 0)

/-- R487: SWAP: the shepherd hands over, the standby asks for it; 3 NOT_PERMITTED on any other role, 2 NO_STANDBY. -/
def State.hdSwap (s : State) : State :=
  if s.role = 3 then
    if s.herd.standby = 0xFFF then s.hdResult 2 else s.handOver 0 0
  else if s.role = 2 then
    let tag := s.herd.nextTag + 1
    let s1 := s.withHerd { s.herd with swap := .requested, swapBy := tag, nextTag := (tag + 1) % 2 ^ 32 }
    s1.sendOrDrop (s1.ctlFrame 0x1C s.shepherdId s.epoch tag 0)
  else s.hdResult 3

/-- R482: LEAVE: a member becomes ALONE. -/
def State.hdLeave (s : State) (a : Acc) : State :=
  if s.role = 0 then s.hdResult 3 else (s.becomeAlone a).hdResult 0

/-- R595: EXPEL on the shepherd: the member's entry is ABSENT, it is expelled, and LOST and RELEASE are broadcast. -/
def State.hdExpel (s : State) : State :=
  let h := s.fld .HD_CTL_TARGET 0 0
  if s.role ≠ 3 ∨ h = s.herdId then s.hdResult 3
  else ((s.sendOrDrop (s.ctlFrame 0x27 h 0 0 0)).expelMember h 0).hdResult 0

/-- HD_CTL.GO is set: the action acts. -/
def State.hdGo (s0 : State) (a : Acc) : State :=
  let s := s0.setFlag .HD_CTL_GO 0 0 true
  match s.fld .HD_CTL_ACTION 0 0 with
  | 1 => s.hdFound a
  | 2 => s.hdSwap
  | 3 => s.hdLeave a
  | 4 => s.hdExpel
  | _ => s.hdResult 3

/-- SWAP_REQ (R487, R493): the shepherd starts a HANDOVER, unless one is in progress. -/
def execSwapReq (p : Nat) (f : Frame) (s : State) : Host.Outcome State Fault Refusal :=
  .next (s.frameIn p f (fun t =>
    if t.role = 3 ∧ t.herd.swap ≠ .handoverSent ∧ t.herd.standby = f.src then some (t.handOver f.tag (f.src + 1)) else some t))

/-- R487: the standby that a HANDOVER names becomes SHEPHERD of the epoch in it, with the sender as standby, and answers
TAKEN. -/
def State.takeHerd (s : State) (f : Frame) : State :=
  let s1 := (s.setFld .HD_STATUS_EPOCH 0 0 f.addr).setFld .HD_STATUS_SHEPHERD 0 0 s.herdId
  let s2 := (s1.setFlag .HD_STATUS_SILENT 0 0 false).setStandby f.src
  let s3 := s2.withHerd { s2.herd with swap := .idle, lastEpoch := s2.epoch, missed := [], beats := [] }
  (s3.setRole (accShepherd f.src) 3).sendOrDrop (s3.ctlFrame 0x1E f.src f.addr f.tag 0)

/-- HANDOVER (R487, R493): the standby becomes SHEPHERD and answers TAKEN. A request of its own that the HANDOVER does not
answer is withdrawn with COLLIDED. -/
def execHandover (p : Nat) (f : Frame) (s : State) : Host.Outcome State Fault Refusal :=
  .next (s.frameIn p f (fun t =>
    if t.role = 2 then
      some (if t.herd.swap = .requested ∧ t.herd.swapBy ≠ f.tag then (t.takeHerd f).hdResult 1 else t.takeHerd f)
    else some t))

/-- R487: the old shepherd that hears TAKEN follows its sender in the epoch it names, as STANDBY. -/
def State.cedeHerd (s : State) (f : Frame) : State :=
  let s1 := (s.setFld .HD_STATUS_EPOCH 0 0 f.addr).setFld .HD_STATUS_SHEPHERD 0 0 f.src
  let s2 := s1.withHerd { s1.herd with swap := .idle, lastBeat := s1.now, lastEpoch := s1.epoch, standby := s.herdId }
  s2.setRole (accShepherd f.src) 2

/-- TAKEN (R487): the old shepherd becomes STANDBY, and whoever asked for the swap is told. -/
def execTaken (p : Nat) (f : Frame) (s : State) : Host.Outcome State Fault Refusal :=
  .next (s.frameIn p f (fun t =>
    if t.role = 3 ∧ t.herd.swap = .handoverSent then
      let by_ := t.herd.swapBy
      some (if by_ = 0 then (t.cedeHerd f).hdResult 0
        else (t.cedeHerd f).sendOrDrop ((t.cedeHerd f).ctlFrame 0x1F (by_ - 1) 0 f.tag 0))
    else some t))

/-- SWAP_RESULT (R487): the outcome of a swap asked for here. -/
def execSwapResult (p : Nat) (f : Frame) (s : State) : Host.Outcome State Fault Refusal :=
  .next (s.frameIn p f (fun t => some (t.hdResult (f.arg % 256))))

/-! ## Frames of the shepherd (R114, R475, R489) -/

/-- FORCE (R114): a lock word is force-released. -/
def execForce (p : Nat) (f : Frame) (s : State) : Host.Outcome State Fault Refusal :=
  .next (s.frameIn p f (fun t => some (t.forceLock (accShepherd f.src) (f.addr % 8192))))

/-- The stroke a STROKE frame holds (R470). -/
def strokeOf (f : Frame) : StrokeReq :=
  { time := f.addr, arg := f.tag % 2 ^ 32, action := nfield f.arg 0 5, slot := nfield f.arg 8 8, lateOk := nbit f.arg 5,
    replace := nbit f.arg 6, cancel := nbit f.arg 7 }

/-- STROKE (R489): committed as origin SHEPHERD and answered with STROKE_RESULT. -/
def execStroke (p : Nat) (f : Frame) (s : State) : Host.Outcome State Fault Refusal :=
  .next (s.frameIn p f (fun t =>
    let (res, i, u) := t.commitStroke (accShepherd f.src) (strokeOf f)
    some (u.sendOrDrop (u.ctlFrame 0x24 f.src 0 f.tag (res + 256 * i)))))

/-- STROKE_RESULT (R489): totalled in HD_STROKE. -/
def execStrokeResult (p : Nat) (f : Frame) (s : State) : Host.Outcome State Fault Refusal :=
  .next (s.frameIn p f (fun t =>
    match t.herd.strokeWaits.find? (fun (w : StrokeWait) => w.member == f.src && w.tag == f.tag) with
    | none => some t
    | some w =>
      let u := t.withHerd { t.herd with strokeWaits := t.herd.strokeWaits.erase w }
      if f.arg % 16 = 0 then some (u.setFld .HD_STROKE_OK 0 0 (u.fld .HD_STROKE_OK 0 0 + 1))
      else
        let v := if u.fld .HD_STROKE_REFUSED 0 0 = 0 then u.setFld .HD_STROKE_FIRST 0 0 f.src else u
        some (v.setFld .HD_STROKE_REFUSED 0 0 (v.fld .HD_STROKE_REFUSED 0 0 + 1))))

/-- STROKE_RESULT_TIMEOUT (R489): a member that gave no result within 1 ms counts as MISSING. -/
def execStrokeResultTimeout (h : Nat) (s : State) : Host.Outcome State Fault Refusal :=
  .next <|
    match s.herd.strokeWaits.find? (fun (w : StrokeWait) => w.member == h && decide (w.deadline ≤ s.now)) with
    | none => s
    | some w =>
      (s.withHerd { s.herd with strokeWaits := s.herd.strokeWaits.erase w }).setFld .HD_STROKE_MISSING 0 0
        (s.fld .HD_STROKE_MISSING 0 0 + 1)

/-- An HL_ROUTE entry of a ROUTE frame: its 13 bits as the register (R470). -/
def routeEntry (x : Nat) : W64 := BitVec.ofNat 64 (nfield x 0 4 + nfield x 4 1 * 2 ^ 4 + nfield x 5 1 * 2 ^ 31)

/-- ROUTE (R475): up to three HL_ROUTE entries are written and audited once; a count of 0 makes a bad frame. -/
def execRoute (p : Nat) (f : Frame) (s : State) : Host.Outcome State Fault Refusal :=
  .next (s.frameIn p f (fun t =>
    let h := f.addr % 4096
    let n := nfield f.addr 12 2
    if n = 0 then some (t.portCount p 5)
    else
      let old := t.reg .HL_ROUTE h 0
      let u := t.each ((List.range n).filter (fun i => h + i < 4096)) (fun i v =>
        v.setReg .HL_ROUTE (h + i) 0 (routeEntry (nfield f.addr (24 + 13 * i) 13)))
      some (u.auditLog .change (accShepherd f.src) 0 (regObject (0x804000 + 4 * h) false) old (u.reg .HL_ROUTE h 0) 0)))

end Sys2Proof.Machine
end

