-- ==== Sys2Proof/Machine/Integrity.lean ====
section
/-! DEFINITION. Scrub passes, live repair, the split-write diagnostic, self-test, RAS events and automatic repair (R142 to
R161, R593, R594, R606). -/
namespace Sys2Proof.Machine

open Sys2Proof

/-! ## RAS events (R594) -/

/-- R594: an entry of SV_RAS_EVT; the kinds that report a loss also go to the shepherd as a MSG. -/
def State.rasEvent (s : State) (kind unit detail : Nat) : State :=
  let (k, s1) := s.ringNext .SV_RAS_HEAD_NEXT .SV_RAS_HEAD_WRAPS 0 16 (fun k => s.flag .SV_RAS_EVT_VALID k 0)
  let s2 := (s1.setFld .SV_RAS_EVT_FT_FT k 0 s.now).setReg .SV_RAS_EVT k 0 0
  let s3 := ((s2.setFld .SV_RAS_EVT_KIND k 0 kind).setFld .SV_RAS_EVT_UNIT k 0 unit).setFld .SV_RAS_EVT_DETAIL k 0 detail
  let s4 := s3.setFlag .SV_RAS_EVT_VALID k 0 true
  if (kind = 3 ∨ kind = 5 ∨ kind = 6 ∨ kind = 7) ∧ s4.flag .PM_ALERT_DEST_EN 0 0 then
    let payload := bytesOf 1 6 ++ bytesOf 1 kind ++ bytesOf 2 unit ++ bytesOf 4 0 ++ bytesOf 8 s4.now ++ bytesOf 16 0
    match s4.msgToShepherd (s4.fld .PM_ALERT_DEST_CORE 0 0) (s4.fld .PM_ALERT_DEST_CONTEXT 0 0) payload with
    | (true, t) => t.setFlag .PM_EVENT_ALERT_SENT 0 0 true
    | (false, t) => t.setFlag .PM_EVENT_ALERT_DROPPED 0 0 true
  else s4

/-- Kind, and the store it counts in SV_RAS_SUM: 0 TM, 1 steer memory, 2 LC, 3 HBM. -/
def State.rasDone (s : State) (store unit detail : Nat) : State :=
  (s.satInc .SV_RAS_SUM_REPAIRS store 0 1).rasEvent 1 unit detail

/-- R594: a spare pool is spent. -/
def State.rasSpent (s : State) (store unit detail : Nat) : State :=
  (s.satInc .SV_RAS_SUM_SPENT store 0 1).rasEvent 3 unit detail

/-- R606: a repair finds no spare. -/
def State.rasFail (s : State) (store unit detail : Nat) : State := (s.rasEvent 2 unit detail).rasSpent store unit detail

/-- R151: an entry is added to the soft-fuse table. -/
def State.addFuse (s : State) (f : SoftFuse) : State := s.withRas { s.ras with fuses := s.ras.fuses ++ [f] }
/-- R151: the table is full. -/
def State.fusesFull (s : State) : Bool := decide (4096 ≤ s.ras.fuses.length)

/-! ## Live repair (R150 to R153, R244) -/

/-- The word a repair writes: corrected, an uncorrectable one as its tag, a poisoned one as it is (R152). -/
def repairWord (raw : W40) (k : PoisonKind) (origin : Nat) : W40 :=
  let d := decodeWord raw
  match d.cls with
  | .ue => encodeWord (poisoned k origin)
  | _ => encodeWord d.word

/-- The spares of a pool that entries of the factory's fuse map and of the soft-fuse table name (R150, R151). -/
def State.sparesUsed (s : State) (kind unit bank : Nat) : List Nat :=
  ((s.ras.factory ++ s.ras.fuses).filter (fun (f : SoftFuse) => f.kind == kind && f.unit == unit && f.bank == bank)).map
    (fun (f : SoftFuse) => f.spare)

/-- The DETAIL of a row: bank and row. -/
def rasDetail (bank row : Nat) : Nat := row % 2 ^ 14 + bank * 2 ^ 14

/-- After a repair: the event, and SPARES_SPENT with the pool's last spare. -/
def State.repairDone (s : State) (store unit bank detail limit : Nat) (kind : Nat) : State :=
  let s1 := s.rasDone store unit detail
  if limit ≤ (s1.sparesUsed kind unit bank).eraseDups.length then s1.rasSpent store unit detail else s1

/-- R152: a row of TM is copied into a spare, corrected, and remapped in one bank cycle in FAB's place; the merge buffers of the row
are flushed before. What its reads find is counted and logged (R124, R141). -/
def State.moveTmRow (s : State) (c bank row spare : Nat) : State :=
  let s1 := (s.flushIf c (fun e => tmRow (e.line * 64) == row && e.bank == bank)).placeAccess c bank row
  let old := s1.mappedRow c bank row
  let ws := (List.range 16).map (fun k =>
    (tmKey c bank (4096 + spare) k,
      repairWord (sget (fun _ => blankWord) s1.tm.words (tmKey c bank old k)) .ueTm (originTm c bank row k)))
  let s2 := s1.each (List.range 16) (fun k t => (t.tmFetch c (tmOffset bank row k)).2)
  s2.withTm { s2.tm with
    words := ssetAll (fun _ => blankWord) s2.tm.words ws
    rowMap := sset (fun _ => 0) s2.tm.rowMap ((c * 64 + bank) * 8192 + row) (spare + 1) }

/-- A line of steer memory rewritten in its spare: corrected, an uncorrectable word as its tag (R142, R152). -/
def State.moveSteerLine (s : State) (c line : Nat) : State :=
  s.each (List.range 16) (fun k t =>
    let w := line * 16 + k
    let u := (t.tallyWord (dieOf c) 1 (steerAddr c w) .ueTm (originSteer c w) (t.steerRaw c w)).2
    u.setSteerRaw c w (repairWord (u.steerRaw c w) .ueTm (originSteer c w)))

/-- R152: a TM row repair: its result, and the state. Bank 0x3F also stands for steer memory (R142): a request for it repairs the line of
steer memory with that index, and below 4,096 the row of TM bank 63 too (log entry 150). -/
def State.repairTm (s : State) (c bank row spare : Nat) : Nat × State :=
  let store := if bank = 63 then 1 else 0
  if s.clusterOn c = false ∨ nbit s.tm.hold c ∨ s.tmReady c = false then (3, s)
  else if 8 ≤ spare then (1, s.rasFail store c (rasDetail bank row))
  else if s.fusesFull then (2, s.rasEvent 2 c (rasDetail bank row))
  else if (s.sparesUsed 0 c bank).contains spare then (4, s.rasEvent 2 c (rasDetail bank row))
  else
    let s1 := if row < 4096 then s.moveTmRow c bank row spare else s
    let s2 := if bank = 63 ∧ row < 8192 then s1.moveSteerLine c row else s1
    (0, (s2.addFuse ⟨0, c, bank, 0, row, spare, s.now⟩).repairDone store c bank (rasDetail bank row) 8 0)

/-- R244: a line of the LC is switched to a spare frame; the frame holds no copy. ROW is set × 16 + way. -/
def State.repairLc (s : State) (slice row spare : Nat) : Nat × State :=
  if s.spineOn (slice / 32) = false then (3, s)
  else if s.fusesFull then (2, s.rasEvent 2 slice row)
  else if (s.sparesUsed 1 slice 0).contains spare then (4, s.rasEvent 2 slice row)
  else
    let s1 := s.lcDrop (fun l => if l.slice = slice ∧ l.set = row / 16 ∧ l.way = row % 16 then 15 else 0)
    let s2 := s1.withLc { s1.lc with spares := sset (fun _ => 0) s1.lc.spares (slice * 16 + spare) (row + 1) }
    (0, (s2.addFuse ⟨1, slice, 0, 0, row, spare, s.now⟩).repairDone 2 slice 0 row 16 1)

/-- R153, R250: a row of a PROT plot is read and written back with correction, an uncorrectable sector poisoned; a RAW row as it is. What its
reads find is counted and logged (R138, R141); it is requester 42 of the stack's front, and opens the row once (R182). -/
def State.rewriteRow (s0 : State) (stack pc bank row : Nat) : State :=
  let p := 48 * stack + bank
  let s := (s0.trBulk (frontArb stack) 42 64).activate stack pc bank 1
  if s.plCtl .PL_CTL_PROT p = 1 then
    s.each (List.range 32) (fun k t =>
      let (ws, u) := t.readSector p pc row k
      u.setSectorRaw stack pc bank row k (encodeSector ws))
  else s

/-- R153: soft post-package repair of a row whose channel is in MEM. -/
def State.softRepair (s : State) (stack pc bank row : Nat) : Nat × State :=
  let u := stack * 64 + pc
  let used := (s.ras.fuses.filter (fun (f : SoftFuse) => f.kind == 2 && f.unit == u && f.hbank == bank)).length
  if Config.hbmSpares u bank ≤ used then (1, s.rasFail 3 (48 * stack + bank) (rasDetail pc row))
  else if s.fusesFull then (2, s.rasEvent 2 (48 * stack + bank) (rasDetail pc row))
  else
    let s1 := (s.rewriteRow stack pc bank row).addFuse ⟨2, u, pc, bank, row, used, s.now⟩
    let s2 := s1.rasDone 3 (48 * stack + bank) (rasDetail pc row)
    (0, if Config.hbmSpares u bank ≤ used + 1 then s2.rasSpent 3 (48 * stack + bank) (rasDetail pc row) else s2)

/-- IN_REPAIR.GO clears with a result. -/
def State.repairResult (s : State) (d r : Nat) : State := (s.setFld .IN_REPAIR_RESULT d 0 r).setFlag .IN_REPAIR_GO d 0 false

/-- R152, R244: IN_REPAIR.GO of kind TM row. -/
def State.repairTmGo (s : State) (d : Nat) : State :=
  let c := s.fld .IN_REPAIR_UNIT d 0
  if 18 ≤ c ∨ dieOf c ≠ d then s.repairResult d 3
  else
    let (r, s1) := s.repairTm c (s.fld .IN_REPAIR_BANK d 0) (s.fld .IN_REPAIR_ROW d 0) (s.fld .IN_REPAIR_SPARE d 0)
    s1.repairResult d r

/-- IN_REPAIR.GO of kind LC line. -/
def State.repairLcGo (s : State) (d : Nat) : State :=
  let i := s.fld .IN_REPAIR_UNIT d 0
  if 64 ≤ i ∨ i / 32 ≠ d then s.repairResult d 3
  else
    let (r, s1) := s.repairLc i (s.fld .IN_REPAIR_ROW d 0) (s.fld .IN_REPAIR_SPARE d 0)
    s1.repairResult d r

/-- IN_REPAIR.GO of kind HBM row (R153): it waits while its channel is not in MEM. -/
def State.repairHbmGo (s : State) (d : Nat) : State :=
  let k := s.fld .IN_REPAIR_UNIT d 0
  let pc := s.fld .IN_REPAIR_BANK d 0
  let bank := s.fld .IN_REPAIR_HBANK d 0
  let row := s.fld .IN_REPAIR_ROW d 0
  if 8 ≤ k ∨ stackDie k ≠ d ∨ s.stackOn k = false ∨ 48 ≤ bank ∨ 12288 ≤ row then s.repairResult d 3
  else if s.chMode k pc ≠ 0 then
    (s.withRas { s.ras with deferred := s.ras.deferred ++ [⟨2, k * 64 + pc, pc, bank, row, 0, s.now⟩] }).setFlag
      .IN_REPAIR_GO d 0 true
  else
    let (r, s1) := s.softRepair k pc bank row
    s1.repairResult d r

/-- R152, R153, R244: IN_REPAIR.GO. KIND 3 names no unit and is refused as OFF. -/
def State.repairGo (s : State) (d : Nat) : State :=
  match s.fld .IN_REPAIR_KIND d 0 with
  | 0 => s.repairTmGo d
  | 1 => s.repairLcGo d
  | 2 => s.repairHbmGo d
  | _ => s.repairResult d 3

/-- HBM_REPAIR_DEFERRED_START (R153): a repair that waited for its channel starts when the channel is back in MEM. -/
def execHbmRepairDeferredStart (stack pc : Nat) (s : State) : Host.Outcome State Fault Refusal :=
  .next <|
    match s.ras.deferred.find? (fun (f : SoftFuse) => f.unit == stack * 64 + pc) with
    | none => s
    | some f =>
      if s.chMode stack pc ≠ 0 then s
      else
        let s1 := s.withRas { s.ras with deferred := s.ras.deferred.erase f }
        if s.stackOn stack then
          let (r, s2) := s1.softRepair stack pc f.hbank f.row
          s2.repairResult (stackDie stack) r
        else s1.repairResult (stackDie stack) 3

/-! ## Scrubbing (R143 to R146, R154 to R158, R161) -/

/-- What a slot's target is: KIND and UNIT, if its spine reaches it (R143). -/
inductive ScrubTarget where
  | tm (c : Nat)
  | steer (c : Nat)
  | lc (slice : Nat)
  | hbm (p : Nat)
  | none
deriving DecidableEq, Repr

/-- The target a slot names. -/
def State.scrubTarget (s : State) (d n : Nat) : ScrubTarget :=
  let u := s.fld .IN_SCRUB_CTL_UNIT d n
  match s.fld .IN_SCRUB_CTL_KIND d n with
  | 0 => if u < 18 ∧ dieOf u = d then .tm u else .none
  | 1 => if u < 18 ∧ dieOf u = d then .steer u else .none
  | 2 => if u < 64 ∧ u / 32 = d then .lc u else .none
  | _ => if u < 384 ∧ stackDie (plotStack u) = d then .hbm u else .none

/-- Whether a target's domain is on. -/
def State.scrubOn (s : State) : ScrubTarget → Bool
  | .tm c => s.clusterOn c
  | .steer c => s.clusterOn c
  | .lc i => s.spineOn (i / 32) && s.flag .LC_SLICE_STATUS_IN_SERVICE (i / 32) (i % 32)
  | .hbm p => s.stackOn (plotStack p)
  | .none => false

/-- R143, R601: a pass starts: 0 started, 2 BUSY, 3 OFF (also for a cluster being copied). -/
def State.scrubStart (s : State) (d n : Nat) : Nat × State :=
  if s.spineOn d = false then (3, s)
  else if s.flag .IN_SCRUB_CTL_RUNNING d n then (2, s)
  else
    let t := s.scrubTarget d n
    let copying : Bool := match t with
      | .tm c => nbit s.tm.hold c
      | .steer c => nbit s.tm.hold c
      | _ => false
    if s.scrubOn t = false ∨ copying then (3, s)
    else
      let run : ScrubRun := ⟨d, n, s.fld .IN_SCRUB_BASE_BASE d n * 256, s.now, 0, 0, 0, 0, 0, 0, 0, []⟩
      (0, (s.withRas { s.ras with runs := s.ras.runs ++ [run] }).setFlag .IN_SCRUB_CTL_RUNNING d n true)

/-- The bytes that a pass's accesses cover: one TM row or steer line of 64 B, one sector of 32 B, one line of 128 B. -/
def scrubStep : ScrubTarget → Nat
  | .tm _ => 64
  | .steer _ => 64
  | .lc _ => 128
  | .hbm _ => 32
  | .none => 64

/-- The first byte after a pass's range, within its target. -/
def State.scrubStop (s : State) (d n : Nat) (t : ScrubTarget) : Nat :=
  let size := match t with
    | .tm _ => 0x1000000
    | .steer _ => 0x80000
    | .lc _ => 786432
    | .hbm _ => plotSize
    | .none => 0
  min (s.fld .IN_SCRUB_LIMIT_LIMIT d n * 256 + 256) size

/-- A saturating 32-bit count (R146). -/
def sat32 (n : Nat) : Nat := min n 0xFFFFFFFF

/-- An event put in its place by address, after those of the same address. -/
def insertHit (h : ScrubHit) : List ScrubHit → List ScrubHit
  | [] => [h]
  | x :: t => if h.addr < x.addr then h :: x :: t else x :: insertHit h t

/-- A pass with one more event: the first 16 in address order are kept (R146). -/
def ScrubRun.hit (r : ScrubRun) (addr cls : Nat) : ScrubRun := { r with hits := (insertHit ⟨addr, cls⟩ r.hits).take 16 }

/-- R146: a decoded word or sector is counted: `n` words of blank or poison. -/
def ScrubRun.tally (r : ScrubRun) (addr : Nat) (cls : DecClass) (poison : Bool) (tag : W32) (n : Nat) : ScrubRun :=
  match cls with
  | .ue => { r.hit addr 3 with ue := sat32 (r.ue + 1) }
  | c =>
    let r1 : ScrubRun :=
      if poison then
        (if tag.toNat / 2 ^ 28 = 0 then { r with blank := sat32 (r.blank + n) } else { r with poison := sat32 (r.poison + n) })
      else r
    match c with
    | .data => { r1.hit addr 1 with data := sat32 (r1.data + 1) }
    | .check => { r1.hit addr 2 with check := sat32 (r1.check + 1) }
    | _ => r1

/-- One word scrubbed: what the pass counts, and what CORRECT mode stores (R145). -/
def scrubWord (r : ScrubRun) (correct : Bool) (raw : W40) (addr : Nat) (k : PoisonKind) (origin : Nat) : ScrubRun × W40 :=
  let d := decodeWord raw
  let r1 := r.tally addr d.cls d.word.poison d.word.data 1
  (r1, if correct then (match d.cls with
    | .ok => raw
    | .ue => encodeWord (poisoned k origin)
    | _ => encodeWord d.word) else raw)

/-- A row of TM or a line of steer memory scrubbed: 16 words. -/
def State.scrubWords (s : State) (run : ScrubRun) (correct steer : Bool) (c : Nat) : List Nat → ScrubRun × State
  | [] => (run, s)
  | a :: t =>
    let (raw, addr, origin) :=
      if steer then (s.steerRaw c (a / 4), steerAddr c (a / 4), originSteer c (a / 4))
      else (s.tmRaw c a, s.tmDpa c a, tmOrigin c a)
    let (r1, raw1) := scrubWord run correct raw addr .ueTm origin
    let (_, s1) := if steer then s.tallyWord (dieOf c) 1 addr .ueTm origin raw else s.tallyTm c a raw
    let s2 := if raw1 = raw then s1 else if steer then s1.setSteerRaw c (a / 4) raw1 else s1.setTmRaw c a raw1
    s2.scrubWords r1 correct steer c t

/-- A line of the cache scrubbed: its valid sectors; in CORRECT mode a line with any error is invalidated. -/
def State.scrubLine (s : State) (run : ScrubRun) (correct : Bool) (l : LcLine) : ScrubRun × State :=
  let ks := (List.range 32).filter (fun k => nbit l.valid (k / 8))
  let step := fun (acc : ScrubRun × State × Bool) (k : Nat) =>
    let raw := l.data.getD k 0
    let addr := l.la * 128 + 4 * k
    let origin := originLc l.slice l.set l.way (k / 8)
    let (r1, _) := scrubWord acc.1 false raw addr .ueLc origin
    let (_, s1) := acc.2.1.tallyWord (l.slice / 32) 2 addr .ueLc origin raw
    (r1, s1, acc.2.2 || (decodeWord raw).cls != .ok)
  let (r, s1, bad) := ks.foldl step (run, s, false)
  (r, if bad && correct then s1.lcDrop (fun x => if x.slice = l.slice ∧ x.set = l.set ∧ x.way = l.way then 15 else 0) else s1)

/-- A sector of a plot scrubbed. `skip` says that a write to it was granted between the read and the write-back; `ue` says
that the on-die ECC finds the sector uncorrectable from now on. A sector of a RAW plot, which has no code and can hold no poison, is read
and not written back (log entry 150). -/
def State.scrubSector (s0 : State) (run : ScrubRun) (correct : Bool) (p off : Nat) (ue skip : Bool) : ScrubRun × State :=
  let loc := s0.plotLoc p off
  let k := plotStack p
  let sec := loc.byte / 32
  let addr := plotDpa p off
  let s := s0.strikeSector p loc.pc loc.row sec ue
  let bad := s.sectorBad k loc.pc (plotBank p) loc.row sec
  if s.plCtl .PL_CTL_PROT p ≠ 1 then
    (if bad then run.tally addr .ue false 0 8 else run, (s.readSector p loc.pc loc.row sec).2)
  else
    let d0 := decodeSector (s.sectorRaw k loc.pc (plotBank p) loc.row sec)
    let cls : DecClass := if bad then .ue else d0.cls
    let first := d0.words.headD ⟨0, false⟩
    let r1 := run.tally addr cls first.poison first.data 8
    let (_, s1) := s.readSector p loc.pc loc.row sec
    if correct = false ∨ cls = .ok then (r1, s1)
    else if skip then ({ r1 with skipped := sat32 (r1.skipped + 1) }, s1)
    else
      let w := if cls = .ue then encodeSector (List.replicate 8 (poisoned .ueHbm (originHbm p loc.pc loc.row)))
        else encodeSector d0.words
      let s2 := s1.setSectorRaw k loc.pc (plotBank p) loc.row sec w
      (r1, if cls = .ue then s2.lcWrite addr (addr + 31) else s2)

/-- The bytes of a target's row, as stored, for its CRC (R139). -/
def State.scrubBytes (s : State) (t : ScrubTarget) (off len : Nat) : List Nat :=
  match t with
  | .tm c => (List.range (len / 4)).flatMap (fun k => bytesN 4 (decodeWord (s.tmRaw c (off + 4 * k))).word.data.toNat)
  | .steer c => (List.range (len / 4)).flatMap (fun k => bytesN 4 (decodeWord (s.steerRaw c (off / 4 + k))).word.data.toNat)
  | .hbm p =>
    (rangeFrom (off / 32) ((off + len - 1) / 32 + 1 - off / 32)).flatMap (fun i =>
      let l := s.plotLoc p (i * 32)
      let raw := s.sectorRaw (plotStack p) l.pc (plotBank p) l.row (l.byte / 32)
      let ws := if s.plCtl .PL_CTL_PROT p = 1 then (decodeSector raw).words else dataWords 8 ((sectorSyms raw).take 32)
      ((List.range 32).zip (wordsBytes ws)).filterMap (fun (b, x) =>
        if off ≤ i * 32 + b ∧ i * 32 + b < off + len then some x else none))
  | _ => []

/-- R143: the row length in bytes, or 0 for no row check. -/
def State.scrubRowLen (s : State) (d n : Nat) : Nat :=
  let r := s.fld .IN_SCRUB_CTL_ROWLEN d n
  if r < 8 ∨ 1024 < r then 0 else 4 * r

/-- R139, R146: the rows that end within an access are checked: those wholly inside the range, from BASE × 256 on. -/
def State.scrubRows (s : State) (run : ScrubRun) (t : ScrubTarget) (base from_ to_ : Nat) : ScrubRun × State :=
  let n := s.scrubRowLen run.die run.slot
  match t with
  | .lc _ => (run, s)
  | .none => (run, s)
  | _ =>
    if n = 0 then (run, s)
    else
      let ends := (rangeFrom ((from_ - base) / n) ((to_ - base) / n - (from_ - base) / n)).map (fun k => base + k * n)
      ends.foldl (fun (acc : ScrubRun × State) (row : Nat) =>
        if rowCrcOk (acc.2.scrubBytes t row n) then acc
        else
          let addr := match t with
            | .tm c => acc.2.tmDpa c row
            | .steer c => steerAddr c (row / 4)
            | .hbm p => plotDpa p row
            | _ => 0
          ({ acc.1.hit addr 4 with crc := sat32 (acc.1.crc + 1) }, acc.2.ecc run.die 5 5 1)) (run, s)

/-- What a scrub pass is at a stack's front: requester 40, in class BULK (R144, R250). -/
def scrubFront (d n : Nat) : Front := ⟨.scrub (256 * d + n), 0, 0⟩

/-- SCRUB_ACCESS (R144, R145): a pass reads its next row, line or sector and in CORRECT mode writes it back. A row of TM is one bank
access in FAB's place, and waits while the cluster clears. A sector of a channel that is not in MEM waits, and is skipped once it has waited
for the hold limit (R203). -/
def execScrubAccess (d n : Nat) (ue skip : Bool) (s : State) : Host.Outcome State Fault Refusal :=
  .next <|
    match s.ras.runs.find? (fun (r : ScrubRun) => r.die == d && r.slot == n) with
    | none => s
    | some run =>
      let t := s.scrubTarget d n
      let stop := s.scrubStop d n t
      if s.scrubOn t = false ∨ stop ≤ run.pos then s
      else
        let correct := s.flag .IN_SCRUB_CTL_MODE d n
        let next := (run.pos / scrubStep t + 1) * scrubStep t
        let words := (List.range 16).map (fun k => run.pos / 64 * 64 + 4 * k)
        let clear : Bool := match t with
          | .tm c => s.tmReady c
          | .steer c => s.tmReady c
          | _ => true
        let (adm, s0) := match t with
          | .hbm p => s.admitParts (scrubFront d n) p [s.plotLoc p run.pos] false
          | _ => (.go, s)
        if adm = .waits ∨ clear = false then s0
        else
          let (r1, s1) :=
            if adm ≠ .go then ({ run with skipped := sat32 (run.skipped + 1) }, s0)
            else match t with
              | .tm c => (s0.placeAccess c (tmBank (run.pos / 64 * 64)) (tmRow (run.pos / 64 * 64))).scrubWords run correct false c words
              | .steer c => s0.scrubWords run correct true c words
              | .lc i => (match s0.lcAt i (run.pos / 128 / 12) (run.pos / 128 % 12) with
                | some l => s0.scrubLine run correct l
                | none => (run, s0))
              | .hbm p => s0.scrubSector run correct p (run.pos / 32 * 32) ue skip
              | .none => (run, s0)
          let base := s.fld .IN_SCRUB_BASE_BASE d n * 256
          let (r2, s2) := s1.scrubRows r1 t base (max base run.pos) (min next stop)
          s2.withRas { s2.ras with runs := s2.ras.runs.replace run { r2 with pos := next } }

/-- R146: the 24 words of a summary. -/
def ScrubRun.summary (r : ScrubRun) (end_ now : Nat) : List Nat :=
  [r.start, now, r.data + r.check * 2 ^ 32, r.ue + r.blank * 2 ^ 32, r.poison + r.crc * 2 ^ 32,
    r.skipped + end_ * 2 ^ 32, 0, 0] ++
    (List.range 16).map (fun k => match r.hits[k]? with
      | some h => h.addr % 2 ^ 48 + h.cls * 2 ^ 48 + 2 ^ 63
      | none => 0)

/-! ## Automatic repair (R593) -/

/-- The repair that an address asks for: kind (0 TM or steer, 1 LC, 2 HBM), unit, bank, HBM bank and row. -/
structure RepairSite where
  kind : Nat
  unit : Nat
  bank : Nat
  hbank : Nat
  row : Nat
deriving DecidableEq, Repr

/-- The row behind a recorded address; `lc` says that it was recorded for a line of a slice. -/
def State.repairSite (s : State) (addr : Nat) (lc : Option Nat) : Option RepairSite :=
  match lc with
  | some slice =>
    (s.lcLine slice (addr / 128)).map (fun (l : LcLine) => ⟨1, slice, 0, 0, l.set * 16 + l.way⟩)
  | none =>
    if 0xF00000000000 ≤ addr then
      let c := (addr - 0xF00000000000) / 0x100000
      if c < 18 then some ⟨0, c, 63, 0, (addr % 0x100000) / 64⟩ else none
    else match s.dpaTarget addr with
      | .tm l off => some ⟨0, s.physCluster l, tmBank off, 0, tmRow off⟩
      | .plot p off =>
        let loc := s.plotLoc p off
        some ⟨2, plotStack p, loc.pc, plotBank p, loc.row⟩
      | .unmapped => none

/-- The number of a site, for its history. -/
def RepairSite.key (r : RepairSite) : Nat := (((r.kind * 512 + r.unit) * 64 + r.bank) * 64 + r.hbank) * 16384 + r.row

/-- R593: whether SV_RAS_CFG lets the service firmware repair a kind. -/
def State.autoOn (s : State) (kind : Nat) : Bool :=
  match kind with
  | 0 => s.flag .SV_RAS_CFG_AUTO_TM 0 0
  | 1 => s.flag .SV_RAS_CFG_AUTO_LC 0 0
  | _ => s.flag .SV_RAS_CFG_AUTO_HBM 0 0

/-- The lowest free spare of a pool of `n`. -/
def State.lowestSpare (s : State) (kind unit bank n : Nat) : Nat :=
  match (List.range n).find? (fun k => !(s.sparesUsed kind unit bank).contains k) with
  | some k => k
  | none => n

/-- R593: an automatic repair through the path of IN_REPAIR, naming the lowest free spare, audited as the service
firmware's. -/
def State.autoRepair (s : State) (r : RepairSite) : State :=
  let d := match r.kind with
    | 0 => dieOf r.unit
    | 1 => r.unit / 32
    | _ => stackDie r.unit
  let s0 := s.auditLog .change (accService s) 0 (regObject (0x34C3100 + d * 0x100000) true) 0 (BitVec.ofNat 64 r.key) 0
  match r.kind with
  | 0 => (s0.repairTm r.unit r.bank r.row (s0.lowestSpare 0 r.unit r.bank 8)).2
  | 1 =>
    let k := s0.lowestSpare 1 r.unit 0 16
    if 16 ≤ k then s0.rasFail 2 r.unit r.row else (s0.repairLc r.unit r.row k).2
  | _ =>
    if s0.chMode r.unit r.bank ≠ 0 then
      s0.withRas { s0.ras with deferred := s0.ras.deferred ++ [⟨2, r.unit * 64 + r.bank, r.bank, r.hbank, r.row, 0, s.now⟩] }
    else (s0.softRepair r.unit r.bank r.hbank r.row).2

/-- R593: the service firmware reads a summary: a row reported DATA or CHECK in PASSES consecutive summaries that cover
it, or with an uncorrectable event, is repaired. A row of the slot's unit that is not reported starts again. -/
def State.readSummary (s : State) (run : ScrubRun) : State :=
  let t := s.scrubTarget run.die run.slot
  let lc := match t with | .lc i => some i | _ => none
  let hits := run.hits.filterMap (fun (h : ScrubHit) =>
    if h.cls = 4 then none else (s.repairSite h.addr lc).map (fun r => (r, h.cls == 3)))
  let sites := (hits.map (fun e => e.1)).eraseDups
  let need := max 1 (s.fld .SV_RAS_CFG_PASSES 0 0)
  let covers := fun (k : Nat) => match t with
    | .tm c => k / 16384 / 64 / 64 == c
    | .steer c => k / 16384 / 64 / 64 == c
    | .lc i => k / 16384 / 64 / 64 == 512 + i
    | .hbm p => k / 16384 / 64 / 64 == 1024 + plotStack p && (k / 16384) % 64 == plotBank p
    | .none => false
  let count := fun (r : RepairSite) => ((s.ras.hist.find? (fun e => e.1 == r.key)).map (fun e => e.2)).getD 0 + 1
  let s1 := s.withRas { s.ras with
    hist := s.ras.hist.filter (fun e => !(covers e.1)) ++ sites.map (fun r => (r.key, count r)) }
  s1.each (sites.filter (fun r => s.autoOn r.kind &&
      (decide (need ≤ count r) || hits.any (fun e => e.1 == r && e.2)))) (fun r u =>
    (u.autoRepair r).withRas { (u.autoRepair r).ras with hist := (u.autoRepair r).ras.hist.filter (fun e => e.1 != r.key) })

/-- R593: the service firmware reads the UE log entries it has not acted on. -/
def State.readUeLog (s : State) (d : Nat) : State :=
  s.each (List.range 16) (fun j t =>
    let a := t.fld .IN_UE_LOG_ADDR_ADDR d j
    let mark := (a, t.fld .IN_UE_LOG_FT_FT d j)
    if t.flag .IN_UE_LOG_TAG_VALID d j ∧ t.ras.handled.contains mark = false then
      let t1 := t.withRas { t.ras with handled := mark :: t.ras.handled }
      let kind := t.fld .IN_UE_LOG_TAG_TAG d j / 2 ^ 28
      let lc := if kind = 3 then some (nfield (t.fld .IN_UE_LOG_TAG_TAG d j) 22 6) else none
      match t1.repairSite a lc with
      | some r => if t1.autoOn r.kind then t1.autoRepair r else t1
      | none => t1
    else t)

/-- A pass ends: its summary is written, DONE is set, and the service firmware reads it. -/
def State.scrubEnd (s : State) (run : ScrubRun) (code : Nat) : State :=
  let ws := run.summary code s.now
  let s1 := s.each (List.range 24) (fun k t => t.setReg .IN_SCRUB_SUM run.die (run.slot * 24 + k) (BitVec.ofNat 64 (ws.getD k 0)))
  let s2 := (s1.setFlag .IN_SCRUB_CTL_RUNNING run.die run.slot false).setFlag .IN_SCRUB_CTL_DONE run.die run.slot true
  let s3 := (s2.withRas { s2.ras with runs := s2.ras.runs.filter (fun x => x != run) }).dropOwn
    (fun r => r == (scrubFront run.die run.slot).req)
  (s3.readSummary run).readUeLog run.die

/-- R156: IN_SCRUB_CTL.STOP ends a running pass with end code 1. -/
def State.scrubStopGo (s : State) (d n : Nat) : State :=
  match s.ras.runs.find? (fun (r : ScrubRun) => r.die == d && r.slot == n) with
  | some run => s.scrubEnd run 1
  | none => s

/-- The passes whose target satisfies `p` end with a code (R158, R161, R586, R590). -/
def State.scrubEndIf (s : State) (code : Nat) (p : ScrubTarget → Bool) : State :=
  s.each (s.ras.runs.filter (fun (r : ScrubRun) => p (s.scrubTarget r.die r.slot))) (fun r t => t.scrubEnd r code)

/-- SCRUB_PASS_END (R146, R158, R161): a pass ends: complete, its target's domain off, or its stack above 105 °C. -/
def execScrubPassEnd (d n : Nat) (s : State) : Host.Outcome State Fault Refusal :=
  .next <|
    match s.ras.runs.find? (fun (r : ScrubRun) => r.die == d && r.slot == n) with
    | none => s
    | some run =>
      let t := s.scrubTarget d n
      let hot : Bool := match t with
        | .hbm p => s.stackLevel (plotStack p) == 3
        | _ => false
      if s.scrubOn t = false then s.scrubEnd run 2
      else if hot then s.scrubEnd run 3
      else if s.scrubStop d n t ≤ run.pos then s.scrubEnd run 0
      else s

/-! ## Split writes (R147) -/

/-- R147: the word a split write stores. -/
def State.diagWord (s : State) (d : Nat) : W40 :=
  let chk := s.fld .IN_DIAG_CHK_CHK d 0
  rawWord (BitVec.ofNat 32 (s.fld .IN_DIAG_DATA_DATA d 0)) (nbit chk 7) (chk % 128)

/-- R147: IN_DIAG.GO: chosen data, poison and check bits are stored without encoding. A word of TM takes FAB's place at its bank and
waits while the cluster clears; a sector is a BULK write of requester 42, which waits for its channel (R202, R250); GO stays set until then. -/
def State.splitWrite (s : State) (d : Nat) : State :=
  let u := s.fld .IN_DIAG_ADDR_UNIT d 0
  let a := s.fld .IN_DIAG_ADDR_ADDRESS d 0
  let fin := fun (t : State) (r : Nat) => (t.setFld .IN_DIAG_RESULT d 0 r).setFlag .IN_DIAG_GO d 0 false
  if s.flag .IN_DIAG_EN d 0 = false then fin s 3
  else match s.fld .IN_DIAG_ADDR_KIND d 0 with
    | 0 =>
      if 18 ≤ u ∨ dieOf u ≠ d ∨ 0x1000000 ≤ a ∨ a % 4 ≠ 0 then fin s 2
      else if s.clusterOn u = false then fin s 1
      else if s.tmReady u = false then s.setFlag .IN_DIAG_GO d 0 true
      else fin (((s.flushIf u (fun e => e.line == lineOf a)).placeAccess u (tmBank a) (tmRow a)).setTmRaw u a (s.diagWord d)) 0
    | 1 =>
      if 18 ≤ u ∨ dieOf u ≠ d ∨ 0x80000 ≤ a ∨ a % 4 ≠ 0 then fin s 2
      else if s.clusterOn u = false then fin s 1
      else fin (s.setSteerRaw u (a / 4) (s.diagWord d)) 0
    | 2 =>
      if 64 ≤ u ∨ u / 32 ≠ d ∨ 786432 ≤ a ∨ a % 4 ≠ 0 then fin s 2
      else if s.spineOn d = false then fin s 1
      else
        let hit := fun (l : LcLine) => l.slice == u && l.set * 12 + l.way == a / 128
        fin (s.withLc { s.lc with lines := s.lc.lines.map (fun (l : LcLine) =>
          if hit l then { l with data := l.data.set (a % 128 / 4) (s.diagWord d) } else l) }) 0
    | _ =>
      if 384 ≤ u ∨ stackDie (plotStack u) ≠ d ∨ plotSize ≤ a ∨ a % 32 ≠ 0 then fin s 2
      else if s.stackOn (plotStack u) = false then fin s 1
      else if s.plCtl .PL_CTL_PROT u ≠ 1 then fin s 2
      else if s.chMode (plotStack u) (s.plotLoc u a).pc ≠ 0 then s.setFlag .IN_DIAG_GO d 0 true
      else
        let l := s.plotLoc u a
        let data := (List.range 8).flatMap (fun k => bytesN 4 (s.fld .IN_DIAG_DATA_DATA d k))
        let s0 := s.trMove (frontArb (plotStack u)) l.pc 42 0 .unit 0
        let s1 := (s0.activate (plotStack u) l.pc (plotBank u) 1).lcWrite (plotDpa u a) (plotDpa u a + 31)
        fin (s1.setSectorRaw (plotStack u) l.pc (plotBank u) l.row (l.byte / 32)
          (sectorOf data (bytesN 4 (s.fld .IN_DIAG_CHK_CHK d 0)))) 0

/-- A split write that waited is made. -/
def State.splitRetry (s : State) (d : Nat) : State := if s.flag .IN_DIAG_GO d 0 then s.splitWrite d else s

/-- R159: every error and bite counter of a spine at zero. -/
def State.clearErrors (s : State) (d : Nat) : State := s.resetRegs (keyAt [.IN_ECNT, .IN_BITE] d)

/-! ## Self-test (R148, R149) -/

/-- R148, R149: the self-test of one unit: `ok` says that each of its checkers gave every result of `wordCheckerOk`,
`sectorCheckerOk` or `crcCheckerOk`; IN_ST_STATUS keeps a failure. `bit` is its
place in the status of spine `d`. -/
def State.selfTest (s : State) (d bit : Nat) (ok : Bool) : State :=
  let v := s.reg .IN_ST_STATUS d 0
  let v1 := setBits v bit 1 (b2n (!ok))
  s.setReg .IN_ST_STATUS d 0 (setBits v1 0 1 (b2n (getBits v1 1 54 == 0)))

end Sys2Proof.Machine
end

