-- ==== Sys2Proof/Machine/Power.lean ====
section
/-! DEFINITION. Power: operating points and steps, the cap and its shares, estimates, calibration, rail limits, modes,
phases and throttle reasons (R500 to R531). Powers are in units of 0.1 W. -/
namespace Sys2Proof.Machine

open Sys2Proof

/-- The record of a power group. -/
def State.pmG (s : State) (g : Nat) : PmGroup := sget (fun _ => PmGroup.reset) s.pm.groups g

/-- The state with the record of a power group replaced. -/
def State.setPmG (s : State) (g : Nat) (x : PmGroup) : State :=
  s.withPm { s.pm with groups := sset (fun _ => PmGroup.reset) s.pm.groups g x }

/-- A number of 0.1 W, or other unit, as a field of `w` bits shows it: rounded down (log entry 40); a value outside the
field is a free value. -/
def State.shown (s : State) (w : Nat) (x : Rat) : Nat × State :=
  if 0 ≤ x ∧ x < ((2 ^ w : Nat) : Rat) then (x.floor.toNat, s) else s.free w

/-- A quotient; the spec states none for a divisor of zero, which gives a free value. -/
def State.ratio (s : State) (a b : Rat) : Rat × State :=
  if b = 0 then
    let (n, t) := s.free 16
    ((n : Rat) / 16384, t)
  else (a / b, s)

/-! ## Temperatures the power manager uses (R532, R533, R549) -/

/-- Whether the domain of sensor `i` is present and on: clusters 0 to 17, spines 18 and 19, I/O dies 20 and 21, stacks 22
to 29 (R532). -/
def State.sensorOn (s : State) (i : Nat) : Bool :=
  if i < 18 then nbit s.power.clusters i
  else if i < 20 then nbit s.power.spines (i - 18)
  else if i < 22 then s.power.rails && decide (i - 20 < s.fld .SV_ASSEMBLY_IODIES 0 0)
  else nbit s.power.stackBits (i - 22) && s.stackPresent (i - 22)

/-- TH_SENSOR.VALID as it reads: a sensor of a domain that is off reads 0 (R532). -/
def State.sensorValid (s : State) (i : Nat) : Bool := s.flag .TH_SENSOR_VALID i 0 && s.sensorOn i

/-- TH_CFG.SOFT_TJ as it acts, 85 to 105 °C. -/
def State.softTj (s : State) : Nat := max 85 (min 105 (s.inForce .TH_CFG_SOFT_TJ 0 0))

/-- A sensor's reading in 0.25 °C units; a BAD core-die sensor is taken as reading SOFT_TJ (R549). -/
def State.sensorTemp (s : State) (i : Nat) : Nat :=
  if s.flag .TH_SENSOR_BAD i 0 ∧ i < 20 then 4 * s.softTj else s.fld .TH_SENSOR_TEMP i 0

/-- The hottest valid reading among some sensors, in 0.25 °C units; 0 where none is valid. -/
def State.hottestOf (s : State) (l : List Nat) : Nat :=
  (l.filter s.sensorValid).foldl (fun (m : Nat) i => max m (s.sensorTemp i)) 0

/-- The hottest core-die sensor (R532). -/
def State.hottestCore (s : State) : Nat := s.hottestOf (List.range 20)

/-! ## Points, shares and wanted points -/

/-- The voltage of a point of a group in mV (R502). -/
def State.pointMv (s : State) (g n : Nat) : Nat := 5 * s.fld .PM_VF_VFUSE g n + 35

/-- R508: the predicted estimate at the next point as a factor: (f′ / f) × (V′ / V)². -/
def State.riseFactor (s : State) (g n : Nat) : Rat :=
  let f : Rat := s.fld .PM_VF_FREQ g n
  let f' : Rat := s.fld .PM_VF_FREQ g (n + 1)
  let v : Rat := s.pointMv g n
  let v' : Rat := s.pointMv g (n + 1)
  f' / f * (v' / v) * (v' / v)

/-- PM_SPLIT's field of a group, or the default where SPLIT_BAD is set (R506). -/
def State.splitOf (s : State) (g : Nat) : Nat :=
  if s.flag .PM_STATUS_SPLIT_BAD 0 0 then [42, 22, 14, 14, 8].getD g 0 else getBits (s.reg .PM_SPLIT 0 0) (8 * g) 8

/-- R525: the cap a window end uses: the old one where CAPSET fired on the same edge. -/
def State.capUsed (s : State) : Nat :=
  match s.pm.capEdge with
  | some (t, old) => if t = s.now then old else s.fld .PM_CAP_WATTS 0 0
  | none => s.fld .PM_CAP_WATTS 0 0

/-- R506, R510, R512: a group's share. -/
def State.shareOf (s : State) (g : Nat) : Rat :=
  let base : Rat := (s.capUsed * s.splitOf g : Nat)
  base / 10 * s.pm.scale * (if s.flag .PM_STATUS_CAL_LOST 0 0 then 19 / 20 else 1)

/-- Whether both rails of a DVFS group are at full duty (R513). -/
def State.railsFull (s : State) (g : Nat) : Bool :=
  s.fld .PM_RAIL_WIN_DUTY (2 * g) 0 == 8 && s.fld .PM_RAIL_WIN_DUTY (2 * g + 1) 0 == 8

/-- R514, R516: a group's wanted point; PM start's table limit holds in both modes (R503). -/
def State.wanted (s : State) (g : Nat) : Nat :=
  let w :=
    if s.flag .PM_STATUS_MODE 0 0 then min 12 (s.pm.ox.getD g 0)
    else
      let n := s.fld .PM_STATUS_PHASE 0 0
      let p := if s.flag .PM_STATUS_PHASE_VALID 0 0 then getBits (s.reg .PM_PHASE n 0) (4 * g) 4 else s.fld .PM_GROUP_DEFAULT_OP g 0
      let p := min p (s.fld .PM_GROUP_MAXOP g 0)
      if p ≤ 12 ∨ (s.hottestCore < 4 * s.fld .PM_CFG_BOOST_TJ 0 0 ∧ s.railsFull g) then p else 12
  min w (s.pmG g).vfMax

/-- The lower of a group's point in force and its target. -/
def State.lowPoint (s : State) (g : Nat) : Nat := min (s.fld .PM_GROUP_CUR_OP g 0) (s.fld .PM_GROUP_TARGET_OP g 0)

/-! ## Throttle reasons (R517, R519, R521) -/

/-- R519: CAP_MODULE, CAP_GROUP, RAIL_CURRENT, THERMAL_SOFT, THERMAL_STACK, CAP_BELOW_FLOOR and OX_BROKEN follow their
conditions. A share holds a group from the decision that finds it so until the group is at its wanted point. -/
def State.reasons (s : State) : State :=
  let s1 := s.each (List.range 3) (fun g t =>
    if s.lowPoint g < s.wanted g then t else t.setPmG g { t.pmG g with capHeld := false })
  let below := fun (g : Nat) => decide (s1.lowPoint g < s1.wanted g)
  let gated := s1.fld .PM_GROUP_GATE 3 0 != 0 || s1.fld .PM_GROUP_GATE 4 0 != 0
  let rail := (List.range 9).any (fun r => s1.fld .PM_RAIL_WIN_DUTY r 0 != 8)
  let broken := s1.flag .PM_STATUS_MODE 0 0 && (List.range 3).any (fun g =>
    decide (s1.fld .PM_GROUP_CUR_OP g 0 < s1.wanted g) && ((s1.pmG g).capHeld || s1.pm.soft || s1.alertForced) || !s1.railsFull g)
  let s2 := (((s1.throttle 0 (s1.pm.scale != 1)).throttle 1 ((List.range 3).any (fun g => (s1.pmG g).capHeld) || gated)).throttle
    2 rail).throttle 3 (s1.pm.soft && (List.range 3).any below)
  let s3 := ((s2.throttle 4 (s1.pm.gates.length != 0)).throttle 7 s1.pm.floor).throttle 9 broken
  s3.setFlag .PM_STATUS_OX_BROKEN 0 0 broken

/-! ## Steps (R504, R523, R529) -/

/-- R504: a step from the point in force to a target starts; R523: a target lowered while the group steps upward stops
the ramp, and the frequency changes to the new target at once. -/
def State.startStep (s : State) (g target : Nat) : State :=
  let cur := s.fld .PM_GROUP_CUR_OP g 0
  let x := s.pmG g
  let go := fun (up : Bool) =>
    ((s.setFld .PM_GROUP_TARGET_OP g 0 target).setFlag .PM_GROUP_STEPPING g 0 true).setPmG g
      { x with step := some up, half := false, busy := true }
  match x.step with
  | none => if target = cur then s.setFld .PM_GROUP_TARGET_OP g 0 cur else go (decide (cur < target))
  | some up => if up ∧ target < s.fld .PM_GROUP_TARGET_OP g 0 then go false else s

/-- R504: the second change of a step ends. -/
def State.endStep (s : State) (g : Nat) : State :=
  let s1 := (s.setFld .PM_GROUP_CUR_OP g 0 (s.fld .PM_GROUP_TARGET_OP g 0)).setFlag .PM_GROUP_STEPPING g 0 false
  s1.setPmG g { s.pmG g with step := none, half := false }

/-- DVFS_STEP_COMPLETE (R504): a group's step ends: both its changes (`whole`), or the first of them alone. Upward the
voltage comes first, and STEPPING reads 0 once its ramp ends; downward the frequency comes first. -/
def execDvfsStepComplete (g : Nat) (whole : Bool) (s : State) : Host.Outcome State Fault Refusal :=
  .next <|
    match (s.pmG g).step with
    | none => s
    | some up =>
      if whole || (s.pmG g).half then (s.endStep g).reasons
      else
        let s1 := s.setPmG g { s.pmG g with half := true }
        if up then s1.setFlag .PM_GROUP_STEPPING g 0 false
        else (s1.setFld .PM_GROUP_CUR_OP g 0 (s.fld .PM_GROUP_TARGET_OP g 0)).reasons

/-- REGULATOR_TIMEOUT (R529): a voltage ramp misses its target: an upward step is abandoned at the old point, and no
further one is made for 1 ms; a downward step counts as complete. -/
def execRegulatorTimeout (g : Nat) (s : State) : Host.Outcome State Fault Refusal :=
  .next <|
    match (s.pmG g).step with
    | none => s
    | some up =>
      if up then
        if (s.pmG g).half then s
        else
          let s1 := (s.setFld .PM_GROUP_TARGET_OP g 0 (s.fld .PM_GROUP_CUR_OP g 0)).setFlag .PM_EVENT_REG_TIMEOUT 0 0 true
          ((s1.endStep g).setPmG g { (s1.endStep g).pmG g with noUpTill := s.now + 1000000 }).reasons
      else ((s.endStep g).setFlag .PM_EVENT_REG_TIMEOUT 0 0 true).reasons

/-! ## PM start (R503, R506) -/

/-- R503: the first point of a group's table that fails its check. -/
def State.vfFail (s : State) (g : Nat) : Option Nat :=
  (List.range 16).find? (fun n =>
    decide (s.pointMv g n < 500 ∨ 1100 < s.pointMv g n) ||
      (decide (n ≠ 0) && decide (s.fld .PM_VF_VFUSE g n < s.fld .PM_VF_VFUSE g (n - 1))))

/-- R503, R506: the power manager starts, once: the tables are checked, and the split. -/
def State.pmStart (s : State) : State :=
  if s.flag .PM_STATUS_RUNNING 0 0 then s
  else
    let bad := (List.range 3).any (fun g => (s.vfFail g).isSome)
    let s1 := if bad then s.setFlag .PM_EVENT_VF_BAD 0 0 true else s
    if (List.range 3).any (fun g => s.vfFail g == some 0) then s1
    else
      let s2 := s1.each (List.range 3) (fun g t => t.setPmG g { t.pmG g with vfMax := ((s.vfFail g).getD 16) - 1 })
      let total := ((List.range 5).map (fun g => getBits (s.reg .PM_SPLIT 0 0) (8 * g) 8)).foldl (· + ·) 0
      ((s2.setFlag .PM_STATUS_SPLIT_BAD 0 0 (total != 100)).setFlag .PM_STATUS_RUNNING 0 0 true).reasons

/-- R554: the service firmware is being restarted, or hands over to another image. -/
def State.fwDown (s : State) : Bool := decide (s.now < s.svc.down)

/-! ## The window end (R506 to R510, R533, R534) -/

/-- R507: a group's estimate from the window's energy, Σ N × E × (V / V_ref)² + K, in nJ; a discarded one counts as the
share (R530). -/
def State.estimate (s : State) (g energy : Nat) : Rat :=
  if (s.pmG g).parity then s.shareOf g
  else s.pm.loss * ((s.fld .PM_CAL_GAIN g 0 : Nat) : Rat) / 16384 * (energy : Rat) / 1000

/-- R533: soft throttling engages at SOFT_TJ and is released below SOFT_TJ − 3 °C. -/
def State.softUpdate (s : State) : State :=
  let h := s.hottestCore
  if 4 * s.softTj ≤ h then
    let s1 := s.withPm { s.pm with soft := true }
    if s.pm.soft then s1 else s1.setFlag .TH_EVENT_SOFT_ENTER 0 0 true
  else if h < 4 * (s.softTj - 3) then s.withPm { s.pm with soft := false }
  else s

/-- R508, R514, R533: the target of a group that is not stepping, and whether its share holds it back: over its share it
goes one point lower; in a clean window it may rise; a wanted point below it is gone to in one step; soft throttling
lowers it or keeps it from rising. -/
def State.decide508 (s : State) (g : Nat) (est : Rat) : Nat × Bool :=
  let x := s.pmG g
  let cur := s.fld .PM_GROUP_CUR_OP g 0
  let w := s.wanted g
  let share := s.shareOf g
  let limit := share * (1 - ((s.fld .PM_CFG_HYST 0 0 : Nat) : Rat) / 100)
  let may := decide (cur < w) && !x.busy && decide (x.noUpTill ≤ s.now) && !x.parity
  let fits := decide (est * s.riseFactor g cur ≤ limit)
  let excess := decide (share < est) && !x.parity
  let t0 := if excess then cur - 1 else if may && fits then cur + 1 else cur
  let t1 := min t0 w
  let t2 :=
    if s.pm.soft then if 4 * s.softTj ≤ s.hottestCore then min t1 (cur - 1) else min t1 cur
    else t1
  (t2, excess || (may && !fits))

/-- R508, R531: a DVFS group at a window end; one whose clusters are all off keeps its point, and an alert overrides. -/
def State.windowDvfs (s : State) (g : Nat) (est : Rat) : State :=
  let x := s.pmG g
  let s1 :=
    if x.step ≠ none ∨ s.alertForced ∨ s.power.clusters = 0 then s
    else
      let (t, held) := s.decide508 g est
      let s2 := s.setPmG g { x with capHeld := x.capHeld || held }
      s2.startStep g t
  s1.setPmG g { s1.pmG g with busy := (s1.pmG g).step != none, parity := false, sum := (s1.pmG g).sum + est }

/-- R509: MEM or IO at a window end: one more sixteenth is gated over the share; one is released where the estimate with
one fewer gated, taken in proportion to the cycles kept, would leave the margin (log entry 41). -/
def State.windowGate (s : State) (g : Nat) (est : Rat) : State :=
  let x := s.pmG g
  let n := s.fld .PM_GROUP_GATE g 0
  let share := s.shareOf g
  let limit := share * (1 - ((s.fld .PM_CFG_HYST 0 0 : Nat) : Rat) / 100)
  let fewer := est * ((17 - n : Nat) : Rat) / ((16 - n : Nat) : Rat)
  let m := if x.parity then n else if share < est then min 12 (n + 1) else if n ≠ 0 ∧ fewer ≤ limit then n - 1 else n
  (s.setFld .PM_GROUP_GATE g 0 m).setPmG g { x with parity := false, sum := x.sum + est }

/-- The state with a stack's thermal gate replaced. -/
def State.setStackGate (s : State) (k n : Nat) : State :=
  s.withPm { s.pm with gates := sset (fun _ => 0) s.pm.gates k n }

/-- R534: a stack's thermal gate at a window end: it rises while the stack is HOT and at or above 100 °C, and falls after
the stack has left HOT. -/
def State.windowStack (s : State) (k : Nat) : State :=
  let lvl := s.fld .MU_THERM_LEVEL k 0
  let n := s.stackGate k
  if lvl = 2 ∧ 400 ≤ s.sensorTemp (22 + k) then s.setStackGate k (min 12 (n + 1))
  else if lvl < 2 then s.setStackGate k (n - 1)
  else s

/-- A group's estimate and share are shown (PM_EST). -/
def State.showEst (s : State) (g : Nat) (est : Rat) : State :=
  let (e, s1) := if (s.pmG g).parity then (s.fld .PM_EST_EST g 0, s) else s.shown 16 est
  let (h, s2) := s1.shown 16 (s1.shareOf g)
  (s2.setFld .PM_EST_EST g 0 e).setFld .PM_EST_SHARE g 0 h

/-- R506 to R509, R513, R517, R521, R533, R534: a 10 µs window ends with the five groups' energies in it, in nJ. -/
def State.windowEnd (s : State) (mx tm vx mem io : Nat) : State :=
  let s0 := (if s.isPending .TH_CFG 0 0 then s.applyShadow .TH_CFG 0 0 else s).softUpdate
  let est := ([mx, tm, vx, mem, io].zipIdx).map (fun (e, g) => s0.estimate g e)
  let e := fun (g : Nat) => est.getD g 0
  let floor := (List.range 3).any (fun g => s0.fld .PM_GROUP_CUR_OP g 0 == 0 && decide (s0.shareOf g < e g)) ||
    (s0.pm.excess && (List.range 3).all (fun g => s0.fld .PM_GROUP_CUR_OP g 0 == 0))
  let s1 := s0.each (List.range 5) (fun g t => t.showEst g (e g))
  let (total, s2) := s1.shown 16 (e 0 + e 1 + e 2 + e 3 + e 4)
  let s3 := s2.setFld .PM_POWER_EST 0 0 total
  let s4 := s3.each (List.range 3) (fun g t => t.windowDvfs g (e g))
  let s5 := (s4.windowGate 3 (e 3)).windowGate 4 (e 4)
  let s6 := s5.each (List.range 8) (fun k t => t.windowStack k)
  (s6.withPm { s6.pm with floor := floor }).reasons

/-- ESTIMATE_WINDOW (R506 to R509, R554): a 10 µs window ends while the power manager runs; while the service firmware does not, nothing is
decided. The operands are the five groups'
energies in it, in nJ, as R507 sums them. -/
def execEstimateWindow (mx tm vx mem io : Nat) (s : State) : Host.Outcome State Fault Refusal :=
  .next (if s.flag .PM_STATUS_RUNNING 0 0 = false ∨ s.fwDown then s else s.windowEnd mx tm vx mem io)

/-- ACTIVITY_PARITY_ERROR (R530): a group's estimate of this window is discarded. -/
def execActivityParityError (g : Nat) (s : State) : Host.Outcome State Fault Refusal :=
  .next <|
    if s.flag .PM_STATUS_RUNNING 0 0 then
      (s.setPmG g { s.pmG g with parity := true }).setFlag .PM_EVENT_CAL_FAIL 0 0 true
    else s

/-! ## Calibration (R510 to R512) -/

/-- Σ V × I × 20 µs over the samples of a rail, in µJ; a sample is a voltage in mV and a current in mA. -/
def railEnergy (l : List (Nat × Nat)) : Rat := ((l.foldl (fun (m : Nat) x => m + x.1 * x.2) 0 : Nat) : Rat) * 20 / 1000000

/-- The power group of a rail; rail 9 is VDD_SVC (R500, R511). -/
def railGroup (r : Nat) : Nat := if r < 6 then r / 2 else if r < 8 then 3 else 4

/-- R511 steps 4 and 5: a group's gain and error from its measured energy and its estimate sum, both in µJ. -/
def State.calGroup (s : State) (g : Nat) (m : Rat) : State :=
  let e := (s.pmG g).sum
  let ml := m * s.pm.loss
  let (q, s1) := s.ratio ml e
  let gain := ((s.fld .PM_CAL_GAIN g 0 : Nat) : Rat) / 16384 * (1 + (q - 1) / 2)
  let held := max (3 / 4) (min (133 / 100) gain)
  let (d, s2) := s1.ratio (e - ml) ml
  let err := (d * 10000).floor
  let (x, s3) := if -32768 ≤ err ∧ err < 32768 then (wrapInt 16 err, s2) else s2.free 16
  (s3.setFld .PM_CAL_GAIN g 0 (held * 16384).floor.toNat).setFld .PM_CAL_ERR g 0 x

/-- R510: the shares are scaled for the next period where the measured power exceeds the cap by more than 1 %, and return
to their split values after a period within the cap. -/
def State.scaleShares (s : State) (watts : Rat) : State :=
  let cap : Rat := s.fld .PM_CAP_WATTS 0 0
  let excess := decide (cap * 101 / 100 < watts)
  let scale := if excess then cap / watts else if watts ≤ cap then 1 else s.pm.scale
  let floor := excess && (List.range 3).all (fun g => s.fld .PM_GROUP_CUR_OP g 0 == 0)
  s.withPm { s.pm with scale := scale, excess := excess, floor := s.pm.floor || floor }

/-- R512: a period with missing or bad samples is skipped. -/
def State.calSkip (s : State) : State :=
  let n := s.pm.skips + 1
  let s1 := ((s.setFlag .PM_EVENT_CAL_FAIL 0 0 true).setFlag .PM_STATUS_CAL_STALE 0 0 true).withPm { s.pm with skips := n }
  if 10 ≤ n then s1.setFlag .PM_STATUS_CAL_LOST 0 0 true else s1

/-- The sums of the window estimates start anew. -/
def State.clearSums (s : State) : State := s.each (List.range 5) (fun g t => t.setPmG g { t.pmG g with sum := 0 })

/-- R510, R511: a period with all its samples: the loss factor, the groups' gains and errors, the measured power and the
scale of the shares. -/
def State.calibrate (s : State) (input : List (Nat × Nat)) (rails : List (List (Nat × Nat))) : State :=
  let e := rails.map railEnergy
  let m := fun (g : Nat) => ((List.range 10).filter (fun r => railGroup r == g)).foldl (fun (a : Rat) r => a + e.getD r 0) 0
  let min_ := railEnergy input
  let (q, s1) := s.ratio min_ (m 0 + m 1 + m 2 + m 3 + m 4)
  let s2 := s1.withPm { s1.pm with loss := s1.pm.loss + (q - s1.pm.loss) / 2, skips := 0 }
  let s3 := s2.each (List.range 5) (fun g t => t.calGroup g (m g))
  let s4 := (s3.setFlag .PM_STATUS_CAL_STALE 0 0 false).setFlag .PM_STATUS_CAL_LOST 0 0 false
  let (w, s5) := s4.shown 16 (min_ / 100)
  ((s5.setFld .PM_POWER_MEAS 0 0 w).scaleShares (min_ / 1000)).clearSums.reasons

/-- CALIBRATION_PERIOD (R510 to R512): a 1 ms period ends. `input` holds the samples of the 54 V input and `rails` those of
rails 0 to 8 and of VDD_SVC (the service firmware makes it, while it runs: R554); `bad` says that a sample was saturated or out of its sensor's range. -/
def execCalibrationPeriod (input : List (Nat × Nat)) (rails : List (List (Nat × Nat))) (bad : Bool) (s : State) :
    Host.Outcome State Fault Refusal :=
  .next <|
    if s.flag .PM_STATUS_RUNNING 0 0 = false ∨ s.fwDown then s
    else if bad ∨ input.length ≠ 50 ∨ rails.length ≠ 10 ∨ rails.any (fun l => l.length != 50) then s.calSkip.clearSums.reasons
    else s.calibrate input rails

/-! ## Rail limits (R513) -/

/-- RAIL_LIMIT_WINDOW (R513): a rail's mean current of a 10 µs window, in units of 0.25 A: over the limit one more eighth is
lost, below 90 % of it one is restored. MEM and IO rails gate at most 12 sixteenths, as R509 does. -/
def execRailLimitWindow (r mean : Nat) (s : State) : Host.Outcome State Fault Refusal :=
  .next <|
    if s.power.rails = false then s
    else
      let d := s.fld .PM_RAIL_WIN_DUTY r 0
      let l := s.fld .PM_RAIL_ILIMIT r 0
      let least := if r < 6 then 1 else 2
      let n := if l < mean then max least (d - 1) else if 10 * mean < 9 * l then min 8 (d + 1) else d
      ((s.setFld .PM_RAIL_WIN_I_WIN r 0 mean).setFld .PM_RAIL_WIN_DUTY r 0 n).reasons

/-! ## Phases and modes (R514 to R516, R526) -/

/-- R36, R504: the steps to lower wanted points begin; a rise waits for a window end (R508; log entry 42). While the service firmware does
not run, targets stay where they are (R554). -/
def State.followWanted (s : State) : State :=
  if s.flag .PM_STATUS_RUNNING 0 0 ∧ s.alertForced = false ∧ s.fwDown = false then
    (s.each (List.range 3) (fun g t => if t.wanted g < t.lowPoint g ∨ ((t.pmG g).step = some true ∧ t.wanted g < t.fld .PM_GROUP_TARGET_OP g 0)
      then t.startStep g (t.wanted g) else t)).reasons
  else s.reasons

/-- R515: an accepted naming of a phase. -/
def State.namePhase (s : State) (n : Nat) : State :=
  ((s.setFld .PM_STATUS_PHASE 0 0 n).setFlag .PM_STATUS_PHASE_VALID 0 0 true).followWanted

/-- R515: a PHASE instruction of a VI: false where it is answered UNDEFINED. -/
def State.phaseByVi (s : State) (vi n : Nat) : Bool × State :=
  if s.flag .PM_PHASE_VALID n 0 ∧ nbit (s.fld .PM_PHASE_VI_VIS 0 0) vi then (true, s.namePhase n) else (false, s)

/-- R516: Ox mode begins at the points of an OXENTER argument. -/
def State.oxEnter (s : State) (arg : Nat) : State :=
  ((s.setFlag .PM_STATUS_MODE 0 0 true).withPm { s.pm with ox := [nfield arg 0 4, nfield arg 4 4, nfield arg 8 4] }).followWanted

/-- R516: Ox mode ends. -/
def State.oxLeave (s : State) : State := (s.setFlag .PM_STATUS_MODE 0 0 false).followWanted

/-- R505, R525: CAPSET sets the cap; a window end on the same edge still uses the old one. -/
def State.capSet (s : State) (watts : Nat) : State :=
  (s.withPm { s.pm with capEdge := some (s.now, s.capUsed) }).setFld .PM_CAP_WATTS 0 0 watts

end Sys2Proof.Machine
end

