-- ==== Sys2Proof/Machine/Domains.lean ====
section
/-! DEFINITION. Power domains: what each loses when it goes off and how it wakes (R46, R47, R61, R84, R94, R115, R148, R183,
R247, R268, R339, R426), and the loss of the main rails (R535, R542, R632). -/
namespace Sys2Proof.Machine

open Sys2Proof

/-- The registers that lie in a power domain's block. -/
def domRegs (d : BlockDom) : List RegId := (places.filter (fun p => p.dom == d)).map (fun p => p.id)

/-- Whether the main rails and the clocks behind them are up. -/
def State.mainsOn (s : State) : Bool := s.power.rails && s.power.clocks

/-- A bit mask without bit `k`. -/
def dropBit (m k : Nat) : Nat := if nbit m k then m - 2 ^ k else m
/-- A bit mask with bit `k`. -/
def addBit (m k : Nat) : Nat := if nbit m k then m else m + 2 ^ k

/-! ## Clusters -/

/-- R61, R98, R298, R339: everything a cluster domain holds is lost: tensor and steer memory, contexts, streams, engine
work and registers; locks that its core held are released (R113), its trace unit writes SLEEP (R46), and scrubs of it end
(R161). -/
def State.clusterDrop (s : State) (c : Nat) : State :=
  let s0 := s.trGiveUp (fun (r : TrReq) => match r.owner with
    | .core x _ => x == c
    | _ => false) 1
  let s1 := (((s0.traceSleep c 1).coreOff c).stEngineOff c).engOff c
  let s2 := s1.withTm { s1.tm with
    words := sdrop (fun k => k / 8388608 == c) s1.tm.words
    issues := s1.tm.issues.filter (fun (x : TmIssue) => x.c != c)
    merge := s1.tm.merge.filter (fun (x : MergeEntry) => x.c != c)
    returns := s1.tm.returns.filter (fun (x : PortReturn) => x.c != c)
    hot := sdrop (fun k => k / 64 == c) s1.tm.hot
    cycBanks := s1.tm.cycBanks.filter (fun (x : Nat × Nat) => x.1 != c)
    cycLost := s1.tm.cycLost.filter (fun (x : Nat × Nat) => x.1 != c)
    fab := s1.tm.fab.filter (fun (x : FabAcc) => x.c != c)
    fabQ := s1.tm.fabQ.filter (fun (x : FabLine) => x.c != c)
    cntErr := sdrop (fun k => k / 256 == c) s1.tm.cntErr
    cntHeld := s1.tm.cntHeld.filter (fun (x : Nat × Nat) => x.1 != c)
    fabHeld := s1.tm.fabHeld.filter (fun (x : FabHeld) => x.c != c)
    blanks := s1.tm.blanks.filter (fun (x : Nat × Nat) => x.1 != c)
    hold := dropBit s1.tm.hold c
    refuseNext := sdrop (fun k => k == c) s1.tm.refuseNext }
  let s3 := (s2.resetRegs (keyAt (domRegs .cluster) c)).withPower { s2.power with clusters := dropBit s2.power.clusters c }
  s3.scrubEndIf 2 (fun t => t == .tm c || t == .steer c)

/-- CLUSTER_DOMAIN_OFF (R61, R94, R339): the cluster's merge buffers are fenced, and once every write has committed the domain goes
off. -/
def execClusterDomainOff (c : Nat) (s : State) : Host.Outcome State Fault Refusal :=
  .next <|
    if s.clusterOn c = false ∨ s.tm.issues.any (fun (x : TmIssue) => x.c == c && x.write) then s
    else (s.fencePorts c (List.range 9)).clusterDrop c

/-- Whether a cluster is retired (R589). -/
def State.clusterRetired (s : State) (c : Nat) : Bool := nbit (s.fld .SV_SPARE_STATUS_RETIRED (dieOf c) 0) (c % 9)

/-- R84, R127: a cluster domain is on, its memory blank and its registers at their reset values, and CLEARING is 1; its
trace unit writes WAKE and SYNC (R46). -/
def State.clusterWake (s : State) (c : Nat) : State :=
  if s.mainsOn ∧ s.clusterOn c = false ∧ s.clusterRetired c = false then
    let s1 := (s.withPower { s.power with clusters := addBit s.power.clusters c }).resetRegs (keyAt (domRegs .cluster) c)
    (s1.setFlag .TM_STATUS_CLEARING c 0 true).traceWake c 1
  else s

/-- CLUSTER_DOMAIN_WAKE (R84). -/
def execClusterDomainWake (c : Nat) (s : State) : Host.Outcome State Fault Refusal := .next (s.clusterWake c)

/-- R84, R148, R149: a cluster's clear and self-test end: it opens and serves what the spine held, or is held out of service,
which leaves its domain off. -/
def State.clearDone (s : State) (c : Nat) (ok : Bool) : State :=
  if s.clusterOn c ∧ s.flag .TM_STATUS_CLEARING c 0 then
    let s1 := s.selfTest (dieOf c) (c + 1) ok
    if ok then (((s1.setFlag .TM_STATUS_CLEARING c 0 false).setFlag .TM_STATUS_CLEAR_DONE c 0 true).serveHeld c).splitRetry (dieOf c)
    else s1.clusterDrop c
  else s

/-- TM_CLEAR_DONE (R84, R148): the clear ends; `ok` is what the checkers' self-test found. -/
def execTmClearDone (c : Nat) (ok : Bool) (s : State) : Host.Outcome State Fault Refusal := .next (s.clearDone c ok)

/-! ## Spines -/

/-- R115, R247, R47: a spine domain goes off: its cache slices leave service, its trace units stop, scrubs of its slices
end, and its registers are lost. -/
def State.spineDrop (s : State) (d : Nat) : State :=
  let s1 := s.each (rangeFrom (32 * d) 32) (fun i t => t.lcService i false)
  let s2 := s1.scrubEndIf 2 (fun t => match t with | .lc i => i / 32 == d | _ => false)
  let s3 := s2.withRas { s2.ras with runs := s2.ras.runs.filter (fun (r : ScrubRun) => r.die != d) }
  (s3.resetRegs (keyAt ((domRegs .spine).filter (fun r => !((domRegs .stack).contains r || [RegId.TR_REQ, .TR_TROUGH, .TR_BEATS,
    .TR_BEATS_WRAPS, .TR_STATUS, .TR_CNT, .TR_CNT_CLR, .TR_ABANDON_FT, .TR_ABANDON, .TR_ABANDON_HEAD].contains r))) d)).withPower
    { s3.power with spines := dropBit s3.power.spines d }

/-- SPINE_DOMAIN_OFF (R115, R47, R247). -/
def execSpineDomainOff (d : Nat) (s : State) : Host.Outcome State Fault Refusal :=
  .next (if s.spineOn d then s.spineDrop d else s)

/-- R115, R47, R127, R148, R247: a spine domain wakes: every lock word free with ORPHANED set, every trace unit inactive, and
every slice that is not retired and passes its self-test in service; `fail` has a bit for each slice that fails. -/
def State.spineWake (s : State) (d fail : Nat) : State :=
  if s.mainsOn ∧ s.spineOn d = false then
    let s1 := ((s.withPower { s.power with spines := addBit s.power.spines d }).wakeLocks d).traceReset d
    let s2 := s1.each (List.range 32) (fun i t => t.selfTest d (19 + i) (!(nbit fail i)))
    s2.each (List.range 32) (fun i t =>
      if nbit fail i ∨ nbit (t.fld .SV_RETIRED_SLICES_SLICES 0 0) (32 * d + i) then t else t.lcService (32 * d + i) true)
  else s

/-- SPINE_DOMAIN_WAKE (R115). -/
def execSpineDomainWake (d fail : Nat) (s : State) : Host.Outcome State Fault Refusal := .next (s.spineWake d fail)

/-! ## Stacks -/

/-- R183, R189, R268: a stack-base domain goes off: its data, its plots and its front's troughs are gone, and scrubs of its
plots end with code 2. -/
def State.stackDrop (s : State) (k : Nat) : State :=
  let s1 := s.muStackGone k
  let s2 := (s1.clearStack k).trReset (frontArb k)
  let s3 := s2.scrubEndIf 2 (fun t => match t with | .hbm p => plotStack p == k | _ => false)
  let s4 := s3.withRas { s3.ras with deferred := s3.ras.deferred.filter (fun (f : SoftFuse) => plotStack f.unit != k) }
  (s4.setStackGate k 0).withPower { s4.power with stackBits := dropBit s4.power.stackBits k }

/-- R183, R190, R268: a stack is powered, trained and initialised with every plot OFF, its front's feed-window count at 0; `ok` is whether training succeeded. A stack
that fails it is held out. -/
def State.stackUp (s : State) (k : Nat) (ok : Bool) : State :=
  if s.mainsOn ∧ s.stackPresent k ∧ nbit s.power.stackBits k = false ∧ nbit (s.fld .SV_RETIRED_STACKS_STACKS 0 0) k = false then
    if ok then
      let s1 := ((s.clearStack k).trReset (frontArb k)).trStart (frontArb k)
      s1.withPower { s1.power with stackBits := addBit s1.power.stackBits k }
    else s
  else s

/-- A stack that is off is initialised and its sector decoders are tested: one that fails either is held out (R149, R190). -/
def State.stackInit (s : State) (k : Nat) (ok test : Bool) : State :=
  if nbit s.power.stackBits k then s
  else
    let s1 := if ok && s.mainsOn && s.stackPresent k then s.selfTest (k / 4) (51 + k % 4) test else s
    s1.stackUp k (ok && test)

/-- STACK_INIT (R183, R148): `ok` is whether training succeeded, `test` what the self-test of its sector decoders found. Hard
repairs of its rows keep the addresses as they were (R153). -/
def execStackInit (k : Nat) (ok test : Bool) (s : State) : Host.Outcome State Fault Refusal := .next (s.stackInit k ok test)

/-! ## I/O dies and the main rails -/

/-- The herd registers that a main power cycle keeps (R626; log entry 43). -/
def herdRoleRegs : List RegId := [.HD_STATUS, .HD_CFG, .HD_SELF, .HD_STROKE, .HD_TABLE, .HD_TABLE_ENTRY]

/-- The arbiters of the I/O dies: egress ports and DMA paths. -/
def ioArbs : List Nat := (List.range 2).flatMap (fun d => rangeFrom (13 * d + 4) 9)

/-- The I/O domains go off: the ports are DOWN and their requests complete, the herd cores and the I/O dies' streams are
gone, and so are the host queues and every register there but the herd's roles. -/
def State.ioDrop (s : State) : State :=
  let s1 := s.each ((List.range 16).filter (fun p => s.fld .HL_PORT_STATUS_STATE p 0 != 0)) (fun p t => t.portDown p 0)
  let s2 := s1.each ((List.range 2).filter (fun e => nbit s.power.links e)) (fun e t => t.auditEvent 4 e)
  let s3 := (s2.each (rangeFrom 18 4) (fun c t => t.coreOff c)).each [18, 19] (fun e t => t.stEngineOff e)
  let s4 := s3.withHq HqState.reset
  let s5 := s4.withHbm { s4.hbm with tlb := [], waits := [], invs := [], priFail := [], accs := s4.hbm.accs.filter (fun a => match a.req with
    | .bar2 _ => false
    | .herd _ _ _ _ => false
    | _ => true) }
  let s6 := s5.withLc { s5.lc with ops := [] }
  let s7 := s6.withHerd { s6.herd with egress := [], txns := [], credits := [], links := [], beats := [], nextJoin := 0 }
  let gone := ((domRegs .hq) ++ (domRegs .hl) ++ (domRegs .ioe) ++ (domRegs .stack0) ++ (domRegs .spine0)).filter (fun r =>
    !(herdRoleRegs.contains r || (domRegs .cluster).contains r))
  let s8 := (s7.each ioArbs (fun a t => t.trReset a)).resetRegs (fun k => gone.any (fun r => r.ctorIdx == keyId k))
  s8.withPower { s8.power with links := 0 }

/-- R535, R542, R632: the clocks but SVCK and FTCK stop and the main rails are removed: every domain but SVC loses what it
holds, and the power manager, which has nothing left to manage, stops (log entry 44). -/
def State.railsDown (s : State) : State :=
  let s1 := s.each ((List.range 18).filter s.clusterOn) (fun c t => t.clusterDrop c)
  let s2 := s1.each ((List.range 8).filter (fun k => nbit s.power.stackBits k)) (fun k t => t.stackDrop k)
  let s3 := s2.each ((List.range 2).filter s.spineOn) (fun d t => t.spineDrop d)
  let s4 := s3.ioDrop
  let s5 := (s4.withPower { s4.power with rails := false, clocks := false }).withPins { s4.pins with pwrGood := false }
  let s6 := s5.each (List.range 3) (fun g t =>
    ((t.setFld .PM_GROUP_CUR_OP g 0 0).setFld .PM_GROUP_TARGET_OP g 0 0).setFlag .PM_GROUP_STEPPING g 0 false)
  let s7 := s6.each (List.range 9) (fun r t => t.setFld .PM_RAIL_WIN_DUTY r 0 8)
  let s8 := (s7.setFlag .PM_STATUS_RUNNING 0 0 false).withPm { s7.pm with
    groups := [], scale := 1, excess := false, floor := false, soft := false, gates := [] }
  (((s8.setFld .PM_GROUP_GATE 3 0 0).setFld .PM_GROUP_GATE 4 0 0).throttle 8 false).reasons

end Sys2Proof.Machine
end

