-- ==== Sys2Proof/Machine/Avail.lean ====
section
/-! DEFINITION. Repair in service: the spare clusters, and retiring and reinstating stacks and cache slices (R584 to R606). -/
namespace Sys2Proof.Machine

open Sys2Proof

/-! ## Spare clusters (R584 to R589) -/

/-- SV_SPARE_STATUS.STATE of a die: 0 NONE, 1 DARK, 2 PREPARING, 3 PREPARED, 4 COPYING (R585). -/
def State.spareState (s : State) (d : Nat) : Nat := s.fld .SV_SPARE_STATUS_STATE d 0
/-- The physical cluster that is a die's spare (R584). -/
def State.sparePhys (s : State) (d : Nat) : Nat := 9 * d + s.fld .SV_SPARE_STATUS_SPARE d 0
/-- The logical cluster SV_SPARE_CMD names. -/
def State.spareLogical (s : State) (d : Nat) : Nat := 8 * d + s.fld .SV_SPARE_CMD_LOGICAL d 0

/-- SV_SPARE_CMD.GO clears with a result. -/
def State.spareResult (s : State) (d r : Nat) : State :=
  (s.setFld .SV_SPARE_CMD_RESULT d 0 r).setFlag .SV_SPARE_CMD_GO d 0 false

/-- R589: a cluster is retired for good: its bit, a soft-fuse entry, and its domain off. -/
def State.retireCluster (s : State) (p : Nat) : State :=
  let d := dieOf p
  let r := s.fld .SV_SPARE_STATUS_RETIRED d 0
  let s1 := (s.setFld .SV_SPARE_STATUS_RETIRED d 0 (addBit r (p % 9))).addFuse ⟨3, p, 0, 0, 0, 0, s.now⟩
  if s1.clusterOn p then s1.clusterDrop p else s1

/-- R4, R586: SV_CLMAP names physical cluster `p` for logical cluster `l`. -/
def State.setClmap (s : State) (l p : Nat) : State :=
  s.setReg .SV_CLMAP 0 0 (setBits (s.reg .SV_CLMAP 0 0) (4 * (l % 16)) 4 (p % 9))

/-- R588: a logical cluster that no healthy cluster can serve is LOST: its cluster is out of service. -/
def State.loseCluster (s : State) (l : Nat) : State :=
  let d := l / 8
  let p := s.physCluster l
  let s1 := s.setFld .SV_SPARE_STATUS_LOST d 0 (addBit (s.fld .SV_SPARE_STATUS_LOST d 0) (l % 8))
  let s2 := if s1.clusterOn p then s1.clusterDrop p else s1
  s2.rasEvent 5 p 0

/-- R586: whether a cluster has work that keeps a MIGRATE from starting. -/
def State.clusterBusy (s : State) (p : Nat) : Bool :=
  (List.range 16).any (fun x => !(s.ctxState p x == 0 || s.ctxState p x == 4)) ||
    (List.range 3).any (fun k => (s.engQueue p k).length != 0) ||
    (List.range 16).any (fun x => !(s.stState p x == 0 || s.stState p x == 2)) ||
    s.mule.queues.any (fun q => q.2.core == some p)

/-- SV_SPARE_CMD PREPARE (R585): the spare powers up and clears; GO clears when its self-test has ended. -/
def State.sparePrepare (s : State) (d : Nat) : State :=
  match s.spareState d with
  | 0 => s.spareResult d 1
  | 1 =>
    if s.mainsOn then (s.clusterWake (s.sparePhys d)).setFld .SV_SPARE_STATUS_STATE d 0 2
    else s.spareResult d 5
  | _ => s.spareResult d 2

/-- Whether no healthy spare is left for the logical cluster that a MIGRATE or FRESH needs one for (R588). -/
def State.spareLost (s : State) (d : Nat) : State := (s.loseCluster (s.spareLogical d)).spareResult d 1

/-- SV_SPARE_CMD MIGRATE (R586 steps 1 and 2): FAB requests for the logical cluster are held, scrubs of its cluster end, and
the copy begins; GO clears at its end. -/
def State.spareMigrate (s : State) (d : Nat) : State :=
  let l := s.spareLogical d
  let p := s.physCluster l
  match s.spareState d with
  | 0 => s.spareLost d
  | 3 =>
    if s.clusterOn p = false then s.spareResult d 5
    else if s.clusterBusy p then s.spareResult d 2
    else
      let s1 := s.withTm { s.tm with hold := addBit s.tm.hold p }
      let s2 := s1.withRas { s1.ras with moving := sset (fun _ => 0) s1.ras.moving d (l + 1) }
      (s2.scrubEndIf 2 (fun t => t == .tm p || t == .steer p)).setFld .SV_SPARE_STATUS_STATE d 0 4
  | 4 => s.spareResult d 2
  | _ => s.spareResult d 3

/-- The accesses held at the spine for a cluster are held for the one that serves its logical cluster from now on (R586, R600). -/
def State.heldTo (s : State) (p q : Nat) : State :=
  s.withTm { s.tm with fabHeld := s.tm.fabHeld.map (fun (h : FabHeld) => if h.c = p then { h with c := q } else h) }

/-- SV_SPARE_CMD FRESH (R587): the prepared spare serves the logical cluster at once, without a copy, and the old cluster is
retired; what the spine held for it is refused by the spare's closed windows. -/
def State.spareFresh (s : State) (d : Nat) : State :=
  let l := s.spareLogical d
  let p := s.physCluster l
  match s.spareState d with
  | 0 => s.spareLost d
  | 3 =>
    let sp := s.sparePhys d
    let s0 := (s.setClmap l sp).heldTo p sp
    let s1 := ((s0.retireCluster p).serveHeld sp).setFld .SV_SPARE_STATUS_STATE d 0 0
    ((s1.setFld .SV_SPARE_FT_FT d 0 s.now).rasEvent 4 p sp).spareResult d 0
  | 4 => s.spareResult d 2
  | _ => s.spareResult d 3

/-- SV_SPARE_CMD CANCEL (R585, R603). -/
def State.spareCancel (s : State) (d : Nat) : State :=
  match s.spareState d with
  | 0 => s.spareResult d 1
  | 3 => ((s.clusterDrop (s.sparePhys d)).setFld .SV_SPARE_STATUS_STATE d 0 1).spareResult d 0
  | 1 => s.spareResult d 3
  | _ => s.spareResult d 2

/-- SV_SPARE_CMD.GO: the ACTION it names; another value names none, and GO clears. -/
def State.spareGo (s : State) (d : Nat) : State :=
  match s.fld .SV_SPARE_CMD_ACTION d 0 with
  | 1 => s.sparePrepare d
  | 2 => s.spareMigrate d
  | 3 => s.spareFresh d
  | 4 => s.spareCancel d
  | _ => s.setFlag .SV_SPARE_CMD_GO d 0 false

/-- SPARE_PREPARED (R585): the spare's self-test ends; one that fails it is retired. -/
def execSparePrepared (d : Nat) (ok : Bool) (s : State) : Host.Outcome State Fault Refusal :=
  .next <|
    if s.spareState d = 2 then
      let p := s.sparePhys d
      if ok then ((s.clearDone p true).setFld .SV_SPARE_STATUS_STATE d 0 3).spareResult d 0
      else
        let s1 := ((s.selfTest d (p + 1) false).retireCluster p).setFld .SV_SPARE_STATUS_STATE d 0 0
        (s1.rasEvent 3 p 0).spareResult d 4
    else s

/-! ## The copy (R586, R605) -/

/-- The registers of a cluster that a migration copies (R586 step 4). -/
def moveRegs : List RegId :=
  [.TM_CFG, .TMX_HOT_CFG, .WN_RANGE, .WN_SRC, .WN_CTL, .WN_CNT, .ST_CTX_CFG, .ST_CTX_CRUMB, .ST_CRUMB, .ST_CTX_STATUS,
   .SC_CORE_CFG, .SC_CORE_QUANTUM, .SC_CTX_CFG, .SC_CTX_STATUS, .SC_CTX_TRAP, .SC_CTX_TRAP_CAUSE, .SC_CTX_TRAP_INFO,
   .SC_CTX_TRAP_TAG, .SC_CTX_ALARM, .GT_CFG]

/-- The entries of a store whose place `k / n` is `p`, at place `q` too, in place of what `q` held. -/
def movePlace {α : Type} [DecidableEq α] (d : Nat → α) (n p q : Nat) (m : Sparse α) : Sparse α :=
  ssetAll d (sdrop (fun k => k / n == q) m) ((m.filter (fun e => e.1 / n == p)).map (fun e => (q * n + e.1 % n, e.2)))

/-- Registers of first index `p` copied to first index `q`, as written and in force, in place of what `q` held. -/
def State.moveRegs (s : State) (p q : Nat) : State :=
  let hit := fun (k : Nat) => keyAt Machine.moveRegs p k
  let dest := fun (k : Nat) => keyId k * 2 ^ 40 + q * 2 ^ 20 + keyJ k
  let old := fun (k : Nat) => keyAt Machine.moveRegs q k
  let s1 := s.withRegs (ssetAll resetVal (sdrop old s.regs) ((s.regs.filter (fun e => hit e.1)).map (fun e => (dest e.1, e.2))))
  let s2 := s1.withApplied (ssetAll resetVal (sdrop old s1.applied) ((s1.applied.filter (fun e => hit e.1)).map (fun e => (dest e.1, e.2))))
  s2.withShadowPend (s2.shadowPend.filter (fun k => !(old k)) ++ (s2.shadowPend.filter hit).map dest)

/-- R586 step 3: every word of tensor and steer memory, read with decoding: a corrected word is written corrected, an
uncorrectable one as its tag. -/
def State.moveMemory (s : State) (p q : Nat) : State :=
  let s0 := s.fencePorts p (List.range 9)
  let offs := ((s0.tm.words.filter (fun e => e.1 / 8388608 == p || e.1 / 8388608 == q)).map (fun e =>
    (s0.tmKeyOffset e.1).2)).eraseDups.filter (fun a => decide (a < 2 ^ 24))
  let s1 := s0.each offs (fun a t => ((t.tmFetch p a).2).setTmRaw q a (repairWord (t.tmRaw p a) .ueTm (tmOrigin p a)))
  let ws := (s1.tm.steer.filter (fun e => e.1 / 131072 == p || e.1 / 131072 == q)).map (fun e => e.1 % 131072)
  s1.each ws (fun w t => ((t.steerWord p w).2).setSteerRaw q w (repairWord (t.steerRaw p w) .ueTm (originSteer p w)))

/-- R586 step 4: contexts and halted streams, and the errors that stand in arrival counters (R121). -/
def State.moveContexts (s : State) (p q : Nat) : State :=
  let s1 := s.withSc { s.sc with
    g := movePlace (fun _ => SlG.mk 0 true) 512 p q s.sc.g
    d := movePlace (fun _ => SlD.mk 0 true) 256 p q s.sc.d
    p := movePlace (fun _ => SlP.mk false true 0) 128 p q s.sc.p
    pcs := movePlace (fun _ => 0) 16 p q s.sc.pcs }
  let s2 := s1.withSt (movePlace (fun _ => StCtx.reset) 32 p q s1.st)
  s2.withTm { s2.tm with
    cntErr := movePlace (fun _ => 0) 256 p q s2.tm.cntErr
    cntHeld := s2.tm.cntHeld.map (fun e => if e.1 = p then (q, e.2) else e) }

/-- R586 step 5: lock words whose owner core is `p` name core `q`. -/
def State.moveLocks (s : State) (p q : Nat) : State :=
  s.each (s.heldLocks (fun o => o.herd == s.herdId && o.core == p)) (fun (d, w) t => t.setFld .LK_WORD_CORE d w q)

/-- MIGRATE_SWITCH (R586 steps 3 to 6, R605): once every window of the cluster reads INFLIGHT 0, the copy is made, SV_CLMAP
names the spare, and FAB is released; blank writes still to come to the cluster (R101) come first. `fault` is a control fault in the spare, which abandons the migration. -/
def execMigrateSwitch (d : Nat) (fault : Bool) (s : State) : Host.Outcome State Fault Refusal :=
  .next <|
    if s.spareState d ≠ 4 then s
    else
      let l := sget (fun _ => 0) s.ras.moving d - 1
      let p := s.physCluster l
      let q := s.sparePhys d
      let done := fun (t : State) (r : Nat) =>
        ((t.withRas { t.ras with moving := sset (fun _ => 0) t.ras.moving d 0 }).setFld .SV_SPARE_STATUS_STATE d 0 0).spareResult d r
      if fault then
        let s1 := (s.withTm { s.tm with hold := dropBit s.tm.hold p }).serveHeld p
        (done (s1.retireCluster q) 6).rasEvent 3 q 0
      else if s.tm.fab.any (fun (a : FabAcc) => a.c == p) ∨ s.tm.blanks.any (fun b => b.1 == p) then s
      else
        let s1 := (((s.moveMemory p q).moveRegs p q).moveContexts p q).moveLocks p q
        let s2 := s1.setClmap l q
        let s3 := (s2.withTm { s2.tm with hold := dropBit s2.tm.hold p }).heldTo p q
        let s4 := (s3.serveHeld q).retireCluster p
        ((done s4 0).setFld .SV_SPARE_FT_FT d 0 s.now).rasEvent 4 p q

/-! ## Stacks and slices (R590 to R592, R602) -/

/-- SV_RETIRE.GO clears with a result. -/
def State.retireResult (s : State) (r : Nat) : State :=
  (s.setFld .SV_RETIRE_RESULT 0 0 r).setFlag .SV_RETIRE_GO 0 0 false

/-- R590: the accesses that a stack's channels hold are released and refused with OFF (R180). One that its requester's own step makes is
refused when that step looks again. -/
def State.refuseHeld (s : State) (k : Nat) : State :=
  let groups := (s.hbm.accs.filter (fun (a : SectorAcc) => plotStack a.plot == k && a.held && !a.own)).map (fun a => a.group)
  let firsts := s.hbm.accs.filter (fun (a : SectorAcc) => groups.contains a.group && !a.own)
  let s1 := s.withHbm { s.hbm with accs := s.hbm.accs.filter (fun (a : SectorAcc) =>
    !(groups.contains a.group && !a.own) && !(a.own && plotStack a.plot == k)) }
  s1.each groups.eraseDups (fun g t =>
    match firsts.find? (fun (a : SectorAcc) => a.group == g) with
    | none => t
    | some a =>
      match a.req with
      | .trace c => t.traceLost c
      | _ => (t.plotFault a.la 8 a.vi a.write a.phys).groupEnd a)

/-- R590: the accesses already at the controller complete. -/
def State.finishAccs (s : State) (k : Nat) : State :=
  s.each (s.hbm.accs.filter (fun (a : SectorAcc) => plotStack a.plot == k && !a.held && !a.own)) (fun a t => t.serveAcc a)

/-- R590: a stack is retired on one edge, and its domain goes off. -/
def State.stackRetire (s : State) (k : Nat) : State :=
  let s1 := (s.refuseHeld k).finishAccs k
  let s2 := s1.each (s1.muOpenOn k) (fun w t => (t.muClose w 0x13).2)
  let s3 := s2.each ((List.range 256).filter (fun h => plotStack (s2.fld .WN_HW_CTL_PLOT h 0) == k)) (fun h t =>
    t.setFlag .WN_HW_CTL_OPEN h 0 false)
  let s4 := if s3.hbm.rangeFill.any (fun x => x.1 == k) then (s3.setFld .PL_FILL_RESULT k 0 3).setFlag .PL_FILL_GO k 0 false else s3
  let s5 := s4.lcDropStack k
  let s6 := s5.setFld .SV_RETIRED_STACKS_STACKS 0 0 (addBit (s5.fld .SV_RETIRED_STACKS_STACKS 0 0) k)
  (if nbit s6.power.stackBits k then s6.stackDrop k else s6).rasEvent 6 k 0

/-- R591: a slice leaves service for good. -/
def State.sliceRetire (s : State) (i : Nat) : State :=
  let s1 := s.setFld .SV_RETIRED_SLICES_SLICES 0 0 (addBit (s.fld .SV_RETIRED_SLICES_SLICES 0 0) i)
  (if s1.spineOn (i / 32) then s1.lcService i false else s1).rasEvent 7 i 0

/-- R592: a retired stack is powered, trained and initialised again; `ok` is whether that succeeded. -/
def State.stackReinstate (s : State) (k : Nat) (ok : Bool) : State :=
  if s.stackPresent k = false then s.retireResult 1
  else if nbit (s.fld .SV_RETIRED_STACKS_STACKS 0 0) k = false then s.retireResult 3
  else if s.mainsOn = false then s.retireResult 2
  else if ok then
    let s1 := s.setFld .SV_RETIRED_STACKS_STACKS 0 0 (dropBit (s.fld .SV_RETIRED_STACKS_STACKS 0 0) k)
    let s2 := s1.withRas { s1.ras with fuses := s1.ras.fuses.filter (fun (f : SoftFuse) => !(f.kind == 4 && f.unit == k)) }
    ((s2.stackUp k true).rasEvent 8 k 0).retireResult 0
  else s.retireResult 5

/-- R592: a retired slice is cleared and tested again; `ok` is what its self-test found. -/
def State.sliceReinstate (s : State) (i : Nat) (ok : Bool) : State :=
  if nbit (s.fld .SV_RETIRED_SLICES_SLICES 0 0) i = false then s.retireResult 3
  else if s.spineOn (i / 32) = false then s.retireResult 2
  else
    let s0 := s.selfTest (i / 32) (19 + i % 32) ok
    if ok then
      let s1 := s0.setFld .SV_RETIRED_SLICES_SLICES 0 0 (dropBit (s0.fld .SV_RETIRED_SLICES_SLICES 0 0) i)
      let s2 := s1.withRas { s1.ras with fuses := s1.ras.fuses.filter (fun (f : SoftFuse) => !(f.kind == 5 && f.unit == i)) }
      ((s2.lcService i true).rasEvent 8 i 0).retireResult 0
    else s0.retireResult 5

/-- SV_RETIRE.GO (R590 to R592): `ok` is what training or the self-test of a reinstatement finds. -/
def State.retireGo (s : State) (ok : Bool) : State :=
  let u := s.fld .SV_RETIRE_UNIT 0 0
  let persist := s.flag .SV_RETIRE_PERSIST 0 0
  let slice := s.fld .SV_RETIRE_KIND 0 0 == 1
  match s.fld .SV_RETIRE_KIND 0 0, s.fld .SV_RETIRE_ACTION 0 0 with
  | 0, 1 =>
    if 8 ≤ u ∨ s.stackPresent u = false then s.retireResult 1
    else if nbit (s.fld .SV_RETIRED_STACKS_STACKS 0 0) u then s.retireResult 3
    else if persist ∧ s.fusesFull then s.retireResult 4
    else (s.stackRetire u |> fun t => if persist then t.addFuse ⟨4, u, 0, 0, 0, 0, s.now⟩ else t).retireResult 0
  | 1, 1 =>
    if nbit (s.fld .SV_RETIRED_SLICES_SLICES 0 0) u then s.retireResult 3
    else if persist ∧ s.fusesFull then s.retireResult 4
    else (s.sliceRetire u |> fun t => if persist then t.addFuse ⟨5, u, 0, 0, 0, 0, s.now⟩ else t).retireResult 0
  | _, 2 => if slice then s.sliceReinstate u ok else if 8 ≤ u then s.retireResult 1 else s.stackReinstate u ok
  | _, _ => s.setFlag .SV_RETIRE_GO 0 0 false

end Sys2Proof.Machine
end

