-- ==== Sys2Proof/Machine/Heat.lean ====
section
/-! DEFINITION. Heat, trips, alerts and hold-up (R532 to R552), and what a reset of the SVC domain keeps (R626). -/
namespace Sys2Proof.Machine

open Sys2Proof

/-! ## Sensors and stack levels (R181, R208, R209, R532, R534, R549) -/

/-- R208: the level a stack is in at a reading in 0.25 °C units, given the level it was in: each is entered rising and left
falling at its own temperature. -/
def thermLevel (lvl t : Nat) : Nat :=
  if 420 < t ∨ (lvl = 3 ∧ 408 < t) then 3
  else if 380 ≤ t ∨ (2 ≤ lvl ∧ 368 < t) then 2
  else if 340 ≤ t ∨ (1 ≤ lvl ∧ 328 < t) then 1
  else 0

/-- R158, R209, R534: a stack's level changes: HOT sets the thermal gate to 4; STOP sets it to 12, closes the windows of the
stack and ends its scrubs. -/
def State.setLevel (s : State) (k lvl : Nat) : State :=
  let old := s.fld .MU_THERM_LEVEL k 0
  if old = lvl then s
  else
    let s1 := s.setFld .MU_THERM_LEVEL k 0 lvl
    if lvl = 2 then s1.setStackGate k 4
    else if lvl = 3 then
      let s2 := ((s1.satInc .MU_THERM_STOPS k 0 1).setStackGate k 12).muStopStack k
      s2.scrubEndIf 3 (fun t => match t with | .hbm p => plotStack p == k | _ => false)
    else s1

/-- R181, R208, R549: a stack's level and refresh rate follow its sensor; a BAD sensor holds the stack at HOT or above. -/
def State.stackHeat (s : State) (k : Nat) : State :=
  let t := s.fld .TH_SENSOR_TEMP (22 + k) 0
  let l := thermLevel (s.fld .MU_THERM_LEVEL k 0) t
  let fast := if 340 ≤ t then true else if t ≤ 328 then false else s.flag .PL_THERM_RATE2X k 0
  let s1 := (s.setFld .PL_THERM_TEMP k 0 (t / 4)).setFlag .PL_THERM_RATE2X k 0 fast
  (s1.setLevel k (if s.flag .TH_SENSOR_BAD (22 + k) 0 then max 2 l else l)).reasons

/-- SENSOR_SAMPLE (R532, R181, R208): sensor `i` is sampled at `temp` in units of 0.25 °C. -/
def execSensorSample (i temp : Nat) (s : State) : Host.Outcome State Fault Refusal :=
  .next <|
    if s.power.svcOn = false then s
    else
      let s1 := (s.setFld .TH_SENSOR_TEMP i 0 temp).setFlag .TH_SENSOR_VALID i 0 (s.sensorOn i)
      if 22 ≤ i ∧ s.sensorOn i then s1.stackHeat (i - 22) else s1

/-- SENSOR_BAD (R549): a sensor of a domain that is on reads out of range, or has not changed for 100 ms. -/
def execSensorBad (i : Nat) (s : State) : Host.Outcome State Fault Refusal :=
  .next <|
    if s.sensorOn i then
      let s1 := (s.setFlag .TH_SENSOR_BAD i 0 true).setFlag .TH_EVENT_SENSOR_BAD 0 0 true
      if 22 ≤ i then s1.stackHeat (i - 22) else s1
    else s

/-! ## Shutdown records (R542, R544) -/

/-- Bytes 0 to 15 of a shutdown record: the causes (bit 0 TRIP, bit 1 POWER_LOSS), the tripping sensor or 0xFF, and the hottest
reading, taken now. -/
def State.recordHead (s : State) (cause sensor : Nat) : List Byte :=
  bytesOf 8 s.now ++ bytesOf 2 (cause + 256 * sensor) ++ bytesOf 2 (s.hottestOf (List.range 30))
    ++ bytesOf 2 (s.fld .TH_HU_STATUS_VOLT 0 0) ++ bytesOf 1 (s.fld .TH_HU_STATUS_SOC 0 0)
    ++ bytesOf 1 (s.fld .TH_HU_STATUS_READY 0 0)

/-- The shutdown record goes to NOR: 64 B, after the audit entries that are there (R542). -/
def State.writeRecord (s : State) (head : List Byte) : State :=
  s.withPm { s.pm with
    shutdown := some (head ++ bytesOf 8 s.audit.mirrored ++ bytesOf 40 0)
    shutSeq := s.audit.mirrored }

/-! ## The trip (R535, R536, R543, R550, R644) -/

/-- THERMAL_TRIP (R535): the comparator of a valid sensor reads 115 °C or more: the trip latches, the clocks stop, THERMTRIP_N
is asserted, the main rails go, and the audit entry and the shutdown record are written. -/
def execThermalTrip (i temp : Nat) (s : State) : Host.Outcome State Fault Refusal :=
  .next <|
    if s.power.tripped ∨ s.power.rails = false ∨ s.sensorOn i = false ∨ s.flag .TH_SENSOR_BAD i 0 ∨ temp < 460 then s
    else
      let s1 := s.setFld .TH_SENSOR_TEMP i 0 temp
      let head := s1.recordHead 1 i
      let s2 := ((s1.setFld .TH_TRIP_FT_FT 0 0 s.now).setFld .TH_TRIP_SENSOR 0 0 i).setFld .TH_TRIP_TEMP 0 0 temp
      let s3 := (s2.setFlag .TH_TRIP_VALID 0 0 true).setFlag .TH_EVENT_TRIP 0 0 true
      let st := s.fld .SV_BOOT_STAGE 0 0
      let s4 := if 4 ≤ st ∧ st ≤ 10 then s3.setFld .SV_BOOT_RESULT 0 0 7 else s3
      let s5 := (s4.withPower { s4.power with tripped := true, tripFt := s.now }).withPins { s4.pins with thermtrip := true }
      (s5.railsDown.auditEvent 3 i).writeRecord head

/-- RAIL_STUCK (R550): a rail is still up 1 ms after the latch. -/
def execRailStuck (s : State) : Host.Outcome State Fault Refusal :=
  .next (if s.power.tripped ∧ s.pins.thermtrip then s.setFlag .TH_EVENT_RAIL_STUCK 0 0 true else s)

/-! ## Alerts (R537, R538, R543, R545, R546) -/

/-- R537: every DVFS group is forced to OP0: its frequency at once, its voltage ramping down after it. -/
def State.forceOp0 (s : State) : State :=
  s.each (List.range 3) (fun g t =>
    let x := t.pmG g
    let moving := t.fld .PM_GROUP_CUR_OP g 0 != 0 || x.step != none
    let t1 := (t.setFld .PM_GROUP_CUR_OP g 0 0).setFld .PM_GROUP_TARGET_OP g 0 0
    if moving then (t1.setFlag .PM_GROUP_STEPPING g 0 true).setPmG g { x with step := some false, half := true, busy := true }
    else t1)

/-- R537, R538: an alert input asserts: the forced state holds and the alert's reason is active; a hold of its own that runs
is over (R545). -/
def State.alert (s : State) (n : Nat) : State :=
  let s1 := ((s.setFlag .TH_ALERT_HOLD 0 0 true).setFlag .TH_EVENT_ALERT 0 0 true).withPm { s.pm with
    holds := s.pm.holds.filter (fun (h : Nat × Nat) => h.1 != n) }
  (s1.forceOp0.throttle (5 + n) true).reasons

/-- REG_ALERT (R537, R538): REG_ALERT_N falls; `rail` is the first rail whose regulator reports a fault, 15 for none. -/
def execRegAlert (rail : Nat) (s : State) : Host.Outcome State Fault Refusal :=
  .next <|
    if s.power.svcOn = false ∨ s.pins.regAlert then s
    else
      let s1 := (s.withPins { s.pins with regAlert := true }).setFlag .TH_ALERT_REG 0 0 true
      (s1.setFld .TH_ALERT_RAIL 0 0 rail).alert 0

/-- EXT_ALERT (R537): EXT_ALERT_N falls. -/
def execExtAlert (s : State) : Host.Outcome State Fault Refusal :=
  .next <|
    if s.power.svcOn = false ∨ s.pins.extAlert then s
    else ((s.withPins { s.pins with extAlert := true }).setFlag .TH_ALERT_EXT 0 0 true).alert 1

/-- R537: an alert input is released, and its hold of 100 µs begins. -/
def State.alertHold (s : State) (n : Nat) : State := s.withPm { s.pm with holds := s.pm.holds ++ [(n, s.now + 100000)] }

/-- REG_ALERT_RELEASE (R537): REG_ALERT_N rises. -/
def execRegAlertRelease (s : State) : Host.Outcome State Fault Refusal :=
  .next <|
    if s.pins.regAlert then
      ((s.withPins { s.pins with regAlert := false }).setFlag .TH_ALERT_REG 0 0 false).alertHold 0
    else s

/-- EXT_ALERT_RELEASE (R537): EXT_ALERT_N rises. -/
def execExtAlertRelease (s : State) : Host.Outcome State Fault Refusal :=
  .next <|
    if s.pins.extAlert then
      ((s.withPins { s.pins with extAlert := false }).setFlag .TH_ALERT_EXT 0 0 false).alertHold 1
    else s

/-- ALERT_HOLD_END (R538): the hold of REG_ALERT_N (0) or EXT_ALERT_N (1) ends; the forced state lifts with the last one. -/
def execAlertHoldEnd (n : Nat) (s : State) : Host.Outcome State Fault Refusal :=
  .next <|
    match s.pm.holds.find? (fun (h : Nat × Nat) => h.1 == n && decide (h.2 ≤ s.now)) with
    | none => s
    | some h =>
      let s1 := (s.withPm { s.pm with holds := s.pm.holds.erase h }).throttle (5 + n) false
      let still := s1.pins.regAlert || s1.pins.extAlert || s1.pm.holds.length != 0
      (s1.setFlag .TH_ALERT_HOLD 0 0 still).reasons

/-! ## The hold-up store (R539 to R541) -/

/-- TH_HU_CFG.READY_V as it acts, in 0.1 V. -/
def State.readyV (s : State) : Nat := max 300 (min 460 (s.fld .TH_HU_CFG_READY_V 0 0))

/-- HU_READY (R539): the store's voltage (10 mV units), charge gauge and charger; readiness follows the voltage alone. -/
def execHuReady (volt soc : Nat) (charging : Bool) (s : State) : Host.Outcome State Fault Refusal :=
  .next <|
    if s.power.svcOn = false then s
    else
      let s1 := ((s.setFld .TH_HU_STATUS_VOLT 0 0 volt).setFld .TH_HU_STATUS_SOC 0 0 soc).setFlag .TH_HU_STATUS_CHARGING 0 0 charging
      s1.setFlag .TH_HU_STATUS_READY 0 0 (decide (10 * s.readyV ≤ volt))

/-- GAUGE_DISAGREE (R540): what the gauge implies has differed from voltage readiness for 1 s. -/
def execGaugeDisagree (s : State) : Host.Outcome State Fault Refusal :=
  .next <|
    if decide (56 ≤ s.fld .TH_HU_STATUS_SOC 0 0) ≠ s.flag .TH_HU_STATUS_READY 0 0 then
      (s.setFlag .TH_HU_STATUS_GAUGE_DISAGREE 0 0 true).setFlag .TH_EVENT_GAUGE_DISAGREE 0 0 true
    else s

/-- GAUGE_REZERO (R540): a full charge: SOC becomes 100. -/
def execGaugeRezero (s : State) : Host.Outcome State Fault Refusal :=
  .next <|
    if 4750 ≤ s.fld .TH_HU_STATUS_VOLT 0 0 then
      ((s.setFld .TH_HU_STATUS_SOC 0 0 100).setFlag .TH_HU_STATUS_GAUGE_DISAGREE 0 0 false).satInc .TH_HU_STATUS_REZEROS 0 0 1
    else s

/-- HU_FAULT (R541): the store is not ready 10 s after charging began. -/
def execHuFault (s : State) : Host.Outcome State Fault Refusal :=
  .next (if s.power.svcOn ∧ s.flag .TH_HU_STATUS_READY 0 0 = false then s.setFlag .TH_EVENT_HU_FAULT 0 0 true else s)

/-! ## What the SVC domain keeps (R56, R557, R561, R583, R626) -/

/-- The life-cycle state that two fuse copies spell, and whether the read is inconsistent (R557). -/
def lifeOf (f1 f2 : Nat) : Nat × Bool :=
  let code := fun (f : Nat) => [0x0000, 0x00FF, 0x0FFF, 0x3FFF, 0xFFFF].findIdx? (· == f)
  match code f1, code f2 with
  | some a, some b => (max a b, a != b)
  | some a, none => (a, true)
  | none, some b => (b, true)
  | none, none => (4, true)

/-- What is fused or numbered for good: registers that no reset changes. -/
def fusedRegs : List RegId := [.SV_ID, .SV_ASSEMBLY, .HD_SELF, .PM_VF, .AU_SEQ, .AU_ACKED]

/-- R626: the state after a reset of everything: NOR, the fuses, the audit log's NOR part (`cold`: all of it, mirrored, and the
hold-up store's readings) and the levels on the input pins are kept. -/
def State.svcReset (s : State) (cold : Bool) : State :=
  let seq := if cold then s.fld .AU_SEQ_SEQ 0 0 else s.audit.mirrored
  let kept := fun (k : Nat) => fusedRegs.any (fun r => r.ctorIdx == keyId k) ||
    (cold && RegId.TH_HU_STATUS.ctorIdx == keyId k)
  let life := lifeOf s.svc.fuse1 s.svc.fuse2
  let img := fun (n : Nat) (b : List Byte) => match s.svc.load with
    | some l => if l.image = n then [] else b
    | none => b
  let au := s.audit.mirrorTo seq
  let ents := au.entries.filter (fun (e : AuditEntry) => cold || decide (au.norFrom ≤ e.seq ∧ e.seq ≤ seq))
  let sv : SvcState := { SvcState.reset with
    fuse1 := s.svc.fuse1
    fuse2 := s.svc.fuse2
    perm := life.1
    ownerRec := s.svc.ownerRec
    imgA := img 0 s.svc.imgA
    imgB := img 1 s.svc.imgB
    last := s.svc.last }
  let pins_ : Pins := { s.pins with
    pwrGood := false
    thermtrip := false
    smbAlert := false
    mbxBusy := false }
  let r : State := { State.reset with
    regs := s.regs.filter (fun e => kept e.1)
    pending := s.pending
    out := s.out
    freeIdx := s.freeIdx
    audit := { au with entries := ents, flight := [] }
    ras := { RasState.reset with fuses := s.ras.fuses }
    pm := { PmState.reset with shutdown := s.pm.shutdown, shutSeq := s.pm.shutSeq }
    svc := sv
    pins := pins_ }
  let r0 := (r.setFld .SV_FW_STATUS_VER_A 0 0 (s.fld .SV_FW_STATUS_VER_A 0 0)).setFld .SV_FW_STATUS_VER_B 0 0
    (s.fld .SV_FW_STATUS_VER_B 0 0)
  let r1 := ((r0.setFld .AU_SEQ_SEQ 0 0 seq).setFld .LF_STATUS_STATE 0 0 life.1).setFlag .LF_STATUS_FUSE_BAD 0 0 life.2
  (r1.setFlag .AU_STATUS_NEAR_FULL 0 0 (decide (942797 ≤ r1.unexported))).setFlag .AU_STATUS_FULL 0 0 (decide (1047552 ≤ r1.unexported))

/-! ## Power loss (R542, R544, R552, R624) -/

/-- R542 steps 1 and 2: the clocks stop and the main rails go; the save to NOR begins. -/
def State.powerLoss (s : State) : State :=
  if s.power.svcOn ∧ s.power.saving = false then
    let both := s.power.tripped && s.power.tripFt == s.now
    let head := s.recordHead (if both then 3 else 2) (if both then s.fld .TH_TRIP_SENSOR 0 0 else 0xFF)
    let s1 := (s.setFlag .TH_EVENT_POWER_LOSS 0 0 true).withPins { s.pins with p54 := false }
    let s2 := s1.railsDown
    (s2.withPm { s2.pm with saveRec := head }).withPower { s2.power with saving := true }
  else s

/-- POWER_LOSS (R542): the 54 V input has stayed below 38 V for 5 µs. -/
def execPowerLoss (s : State) : Host.Outcome State Fault Refusal := .next s.powerLoss

/-- INPUT_OVERVOLTAGE (R624): input above 63 V for 5 µs opens the hot-swap switch and acts as a power loss. -/
def execInputOvervoltage (s : State) : Host.Outcome State Fault Refusal := .next s.powerLoss

/-- SHUTDOWN_SAVE_DONE (R542, R552): the save ends and VDD_SVC is removed: everything but NOR is lost. `whole` says that the
store's energy lasted; where it did not, `entries` of the unmirrored audit entries were written and no record was. -/
def execShutdownSaveDone (whole : Bool) (entries : Nat) (s : State) : Host.Outcome State Fault Refusal :=
  .next <|
    if s.power.saving = false then s
    else
      let seq := s.fld .AU_SEQ_SEQ 0 0
      let q := if whole then seq else min seq (s.audit.mirrored + entries)
      let s1 := s.withAudit (s.audit.mirrorTo q)
      let s2 := if whole then s1.writeRecord s1.pm.saveRec else s1
      let s3 := s2.svcReset false
      s3.withPower { s3.power with svcOn := false }

end Sys2Proof.Machine
end

