-- ==== Sys2Proof/Machine/Service.lean ====
section
/-! DEFINITION. The service domain: life cycle, the Nest, audit export, firmware images, debug unlock, the SPI mailbox and
MCTP (R553 to R583). Register accesses over MCTP are with the other register accesses. -/
namespace Sys2Proof.Machine

open Sys2Proof

/-- The service firmware does not run for a free time of at most `most` ns (R554; log entry 46). -/
def State.fwStop (s : State) (most : Nat) (handover : Bool) : State :=
  let (n, t) := s.free 23
  t.withSvc { t.svc with down := s.now + n % (most + 1), handover := handover }

/-- WATCHDOG_RESTART (R554): the service firmware restarts, within 5 ms. -/
def execWatchdogRestart (s : State) : Host.Outcome State Fault Refusal :=
  .next (if s.power.svcOn then ((s.satInc .SV_SVC_STATUS_RESTARTS 0 0 1).auditEvent 2 0).fwStop 5000000 false else s)

/-- R554, R577: an MCTP request: answered BUSY while the service firmware does not run, else served. -/
def State.mctp (s : State) (serve : State → State) : State :=
  if s.power.svcOn = false then s else if s.fwDown then s.emit (.mctp 4 []) else serve s

/-! ## The Nest (R560 to R564, R578, R582) -/

/-- The key of a 64-B unit of the Nest. -/
def nestKey (slot off : Nat) : Nat := slot * 64 + off

/-- A 64-B unit of the Nest. -/
def State.nestUnit (s : State) (slot off : Nat) : BitVec 512 := sget (fun _ => 0) s.svc.nest (nestKey slot off)

/-- A 64-B unit is written, and its slot is empty no more. -/
def State.nestPut (s : State) (slot off : Nat) (v : BitVec 512) : State :=
  s.withSvc { s.svc with
    nest := sset (fun _ => 0) s.svc.nest (nestKey slot off) v
    full := if s.svc.full.contains slot then s.svc.full else slot :: s.svc.full
    corrupt := s.svc.corrupt.filter (fun x => x != slot) }

/-- A slot is emptied. -/
def State.nestEmpty (s : State) (slot : Nat) : State :=
  s.withSvc { s.svc with
    nest := sdrop (fun k => k / 64 == slot) s.svc.nest
    full := s.svc.full.filter (fun x => x != slot)
    corrupt := s.svc.corrupt.filter (fun x => x != slot) }

/-- R561: a valid owner-key record is copied into slot 0. -/
def State.nestRestore (s : State) : State :=
  match s.svc.ownerRec with
  | some (off, v) => s.nestPut 0 off v
  | none => s

/-- R564, R578: a wipe starts, for a cause of NS_STATUS.LAST_CAUSE; a cause that meets a running wipe is logged and joins it.
`erase` says that the owner-key record goes too. -/
def State.nestWipe (s : State) (cause : Nat) (erase : Bool) : State :=
  let s1 := s.auditEvent 1 cause
  let s2 := s1.setFld .NS_STATUS_LAST_CAUSE 0 0 cause
  match s2.svc.wipe with
  | some e => s2.withSvc { s2.svc with wipe := some (e || erase) }
  | none =>
    let s3 := ((s2.setFlag .NS_STATUS_WIPING 0 0 true).satInc .NS_STATUS_WIPES 0 0 1).setFld .NS_STATUS_FT_FT 0 0 s.now
    let s4 := s3.resetRegs (fun k => RegId.NS_OWNER.ctorIdx == keyId k)
    s4.withSvc { s4.svc with nest := [], full := [], corrupt := [], meas := 0, wipe := some erase }

/-- NEST_WIPE_DONE (R561, R573): a wipe ends: slot 0 is restored from its record, or the record is erased; debug access opens
where an unlock caused the wipe. -/
def execNestWipeDone (s : State) : Host.Outcome State Fault Refusal :=
  .next <|
    match s.svc.wipe with
    | none => s
    | some erase =>
      let s1 := s.setFlag .NS_STATUS_WIPING 0 0 false
      let s2 := s1.withSvc { s1.svc with
        wipe := none, openAfter := false, ownerRec := if erase then none else s1.svc.ownerRec }
      let s3 := s2.nestRestore
      if s.svc.openAfter then s3.setFlag .LF_STATUS_DEBUG_OPEN 0 0 true else s3

/-- TAMPER (R564): TAMPER_N asserts. -/
def execTamper (s : State) : Host.Outcome State Fault Refusal :=
  .next <|
    let s1 := s.withPins { s.pins with tamper := true }
    if s.power.svcOn then s1.nestWipe 1 true else s1

/-- R561: the Nest answers WIPING while it is wiped, and while the boot has not cleared it (stage 2). -/
def State.nestBusy (s : State) : Bool := s.svc.wipe.isSome || decide (s.fld .SV_BOOT_STAGE 0 0 < 3)

/-- R562: whether a sender acts on a slot: VI0, SERVICE_FW and the BMC on any, a core on those its context's VI owns. -/
def State.nestMay (s : State) (a : Acc) (slot : Nat) : Bool :=
  match a.origin with
  | .vi 0 => true
  | .serviceFw => true
  | .bmc => true
  | .steer _ => decide (16 ≤ slot) && s.flag .NS_OWNER_EN slot 0 && s.fld .NS_OWNER_VI slot 0 == a.vi
  | .herdCore _ => decide (16 ≤ slot) && s.flag .NS_OWNER_EN slot 0 && s.fld .NS_OWNER_VI slot 0 == a.vi
  | _ => false

/-- NS_DATA as one number. -/
def State.nsData (s : State) : BitVec 512 :=
  BitVec.ofNat 512 ((List.range 16).foldl (fun (n : Nat) i => n + s.fld .NS_DATA_DATA i 0 * 2 ^ (32 * i)) 0)

/-- NS_DATA holds a 64-B unit. -/
def State.setNsData (s : State) (v : BitVec 512) : State :=
  s.each (List.range 16) (fun i t => t.setFld .NS_DATA_DATA i 0 (v.toNat >>> (32 * i)))

/-- NS_CMD.GO clears with a result. -/
def State.nsResult (s : State) (r : Nat) : State := (s.setFld .NS_CMD_RESULT 0 0 r).setFlag .NS_CMD_GO 0 0 false

/-- R562: a Nest change is audited, with its values written as 0. -/
def State.nestAudit (s : State) (a : Acc) (slot : Nat) : State := s.auditLog .change a 0 (slot + 3 * 2 ^ 26) 0 0 0

/-- NS_CMD READ (R562, R582). -/
def State.nestRead (s : State) (a : Acc) (slot off : Nat) : State :=
  if slot ≥ 2 ∧ s.nestMay a slot = false then s.nsResult 2
  else if s.svc.corrupt.contains slot then s.nsResult 4
  else if s.svc.full.contains slot then (s.setNsData (s.nestUnit slot off)).nsResult 0
  else (s.setNsData 0).nsResult 1

/-- Whether the life-cycle state refuses writes of a slot (R559), or slot 0 holds a key already (R560). -/
def State.nestLocked (s : State) (slot : Nat) : Bool :=
  (decide (16 ≤ slot) && decide (3 ≤ s.svc.perm)) || (slot == 0 && s.svc.full.contains 0)

/-- NS_CMD WRITE (R560 to R562): a write of the owner key puts it in its NOR record too. -/
def State.nestWrite (s : State) (a : Acc) (slot off : Nat) : State :=
  if s.nestMay a slot = false then s.nsResult 2
  else if s.nestLocked slot ∨ s.logRefuses then s.nsResult 5
  else
    let v := s.nsData
    let s1 := (s.nestPut slot off v).nestAudit a slot
    (if slot = 0 then s1.withSvc { s1.svc with ownerRec := some (off, v) } else s1).nsResult 0

/-- NS_CMD EMPTY_SLOT (R562): slot 0 is never emptied so (R561). -/
def State.nestEmptySlot (s : State) (a : Acc) (slot : Nat) : State :=
  if s.nestMay a slot = false then s.nsResult 2
  else if slot = 0 ∨ s.nestLocked slot ∨ s.logRefuses then s.nsResult 5
  else ((s.nestEmpty slot).nestAudit a slot).nsResult 0

/-- NS_CMD.GO (R562 to R564): the operation it names, for a sender. -/
def State.nestGo (s : State) (a : Acc) : State :=
  let slot := s.fld .NS_CMD_SLOT 0 0
  let off := s.fld .NS_CMD_OFFSET 0 0
  if s.nestBusy then s.nsResult 3
  else match s.fld .NS_CMD_OP 0 0 with
    | 0 => s.nestRead a slot off
    | 1 => s.nestWrite a slot off
    | 2 => s.nestEmptySlot a slot
    | 3 =>
      match a.origin with
      | .vi 0 => (s.nestWipe 6 false).nsResult 0
      | .serviceFw => (s.nestWipe 6 false).nsResult 0
      | _ => s.nsResult 5
    | _ => s.nsResult 5

/-- R571, R572: an image's measurement goes to slot 1, one in each 64-B unit. -/
def State.measure (s : State) (img : List Byte) : State :=
  let s1 := s.nestPut 1 (s.svc.meas % 64) ((Config.sha384 img).setWidth 512)
  s1.withSvc { s1.svc with meas := s1.svc.meas + 1 }

/-! ## The audit log's export (R566 to R569, R579, R582) -/

/-- AUDIT_MIRROR (R566, R582): the next entry is programmed to the NOR ring; `err` is a program or erase error. -/
def execAuditMirror (err : Bool) (s : State) : Host.Outcome State Fault Refusal :=
  .next <|
    if s.power.svcOn ∧ s.fwDown = false ∧ s.audit.mirrored < s.fld .AU_SEQ_SEQ 0 0 then
      if err then s.setFlag .AU_STATUS_NOR_ERR 0 0 true else s.withAudit (s.audit.mirrorTo (s.audit.mirrored + 1))
    else s

/-- R567, R568, R579: entries up to `seq` are acknowledged; a number below AU_ACKED or above AU_SEQ has no effect. -/
def State.auditAck (s : State) (seq : Nat) : State :=
  let old := s.fld .AU_ACKED_SEQ 0 0
  if seq < old ∨ s.fld .AU_SEQ_SEQ 0 0 < seq then s
  else
    let s1 := s.setFld .AU_ACKED_SEQ 0 0 seq
    let s2 := s1.withAudit { s1.audit with
      pushed := max s1.audit.pushed seq, flight := s1.audit.flight.filter (fun (q : Nat) => decide (seq < q)) }
    let s3 := if old / 1024 < seq / 1024 then s2.setFlag .AU_STATUS_FULL 0 0 false else s2
    if s3.unexported < 942797 then
      (s3.setFlag .AU_STATUS_NEAR_FULL 0 0 false).withPins { s3.pins with smbAlert := false }
    else s3

/-- An entry of the log by its number, while SRAM or NOR holds it (R566, R569). -/
def State.auditEntry (s : State) (q : Nat) : Option AuditEntry :=
  if s.audit.norFrom ≤ q ∨ s.fld .AU_SEQ_SEQ 0 0 < q + 65536 then
    s.audit.entries.find? (fun (e : AuditEntry) => e.seq == q)
  else none

/-- AUDIT_EXPORT_PUSH (R567): while EN is 1, the next one to three mirrored entries go to the shepherd in one MSG; at most 64
such frames are unacknowledged. -/
def execAuditExportPush (s : State) : Host.Outcome State Fault Refusal :=
  .next <|
    let from_ := s.audit.pushed + 1
    let n := min 3 (s.audit.mirrored - s.audit.pushed)
    if s.flag .AU_EXPORT_DEST_EN 0 0 = false ∨ s.fwDown ∨ n = 0 ∨ 64 ≤ s.audit.flight.length then s
    else
      let es := (rangeFrom from_ n).filterMap s.auditEntry
      let payload := bytesOf 8 (2 + 256 * es.length) ++ es.flatMap AuditEntry.all
      match s.msgToShepherd (s.fld .AU_EXPORT_DEST_CORE 0 0) (s.fld .AU_EXPORT_DEST_CONTEXT 0 0) payload with
      | (true, t) => t.withAudit { t.audit with
          pushed := t.audit.pushed + n, flight := t.audit.flight ++ [t.audit.pushed + n] }
      | (false, t) => t

/-- R569: AU_RD_SEQ fetches an entry into AU_RD_DATA: 0 VALID, 2 GONE, 3 FUTURE. -/
def State.auditFetch (s : State) : State :=
  let q := s.fld .AU_RD_SEQ_SEQ 0 0
  if s.fld .AU_SEQ_SEQ 0 0 < q then s.setFld .AU_RD_STATUS_STATE 0 0 3
  else match s.auditEntry q with
    | none => s.setFld .AU_RD_STATUS_STATE 0 0 2
    | some e =>
      let b := e.all
      (s.each (List.range 8) (fun k t => t.setReg .AU_RD_DATA k 0 (BitVec.ofNat 64 (ofBytes ((b.drop (8 * k)).take 8))))).setFld
        .AU_RD_STATUS_STATE 0 0 0

/-- READ_AUDIT (R577): up to 15 entries from a number. -/
def execReadAudit (seq n : Nat) (s : State) : Host.Outcome State Fault Refusal :=
  .next <| s.mctp fun s =>
    if 15 < n then s.emit (.mctp 2 [])
    else s.emit (.mctp 0 (((rangeFrom seq n).filterMap s.auditEntry).flatMap AuditEntry.all))

/-- ACK_AUDIT (R567): the BMC acknowledges entries. -/
def execAckAudit (seq : Nat) (s : State) : Host.Outcome State Fault Refusal :=
  .next (s.mctp (fun s => (s.auditAck seq).emit (.mctp 0 [])))

/-! ## Device memory the service firmware reads -/

/-- What the service firmware's read of device memory comes to. -/
inductive SvcRead where
  | bytes (b : List Byte)
  | refused
  | waits
deriving DecidableEq, Repr

/-- `len` bytes at a device physical address, read as VI0. -/
def State.svcRead (s : State) (addr len : Nat) : SvcRead × State :=
  match s.physRead ⟨0x1000, ⟨.service, 1, 0⟩, none, addr, true⟩ addr len with
  | (.done ws, t) => (.bytes (((ws.flatMap (fun w => bytesOf 4 w.data.toNat)).drop (addr % 4)).take len), t)
  | (.waits, t) => (.waits, t)
  | (_, t) => (.refused, t)

/-! ## Firmware (R570 to R572, R580, R583) -/

/-- The STATE field of a region. -/
def fwState (i : Nat) : Fld := if i = 0 then .SV_FW_STATUS_STATE_A else .SV_FW_STATUS_STATE_B
/-- The version field of a region. -/
def fwVer (i : Nat) : Fld := if i = 0 then .SV_FW_STATUS_VER_A else .SV_FW_STATUS_VER_B
/-- The image in a region. -/
def State.fwImage (s : State) (i : Nat) : List Byte := if i = 0 then s.svc.imgA else s.svc.imgB
/-- The state with a region's image replaced. -/
def State.setFwImage (s : State) (i : Nat) (b : List Byte) : State :=
  s.withSvc (if i = 0 then { s.svc with imgA := b } else { s.svc with imgB := b })

/-- ROM mode: no image runs (R572, R574). -/
def State.romMode (s : State) : Bool := s.fld .SV_BOOT_RESULT 0 0 == 1 || s.fld .SV_BOOT_RESULT 0 0 == 2

/-- R570, R580: why a load into a region is refused: 1 ACTIVE, 2 BUSY, 0 not at all. -/
def State.fwRefusal (s : State) (i : Nat) (mctp : Bool) : Nat :=
  let armed := (List.range 256).any (fun k => s.fld .FT_STK_STATE_STATE k 0 == 1 && s.fld .FT_STK_STATE_ACTION k 0 == 0xA &&
    s.fld .FT_STK_ARG_ARG k 0 % 2 == i)
  let busy := match s.svc.load with
    | some l => !(mctp && l.mctp && l.image == i)
    | none => false
  if s.romMode = false ∧ s.fld .SV_FW_STATUS_RUN 0 0 = i then 1 else if armed || busy then 2 else 0

/-- SV_FW_LEN.GO (R570): a load from device memory starts, or is refused. -/
def State.fwLoadGo (s : State) : State :=
  let i := s.fld .SV_FW_LOAD_IMAGE 0 0
  let addr := s.fld .SV_FW_LOAD_ADDR 0 0
  let fail := fun (r : Nat) => (s.setFld .SV_FW_LEN_RESULT 0 0 r).setFlag .SV_FW_LEN_GO 0 0 false
  let bad : Bool := match s.dpaTarget addr with
    | .unmapped => true
    | _ => false
  if s.fwRefusal i false ≠ 0 then fail (s.fwRefusal i false)
  else if bad then fail 3
  else
    let s1 := (s.setFld (fwState i) 0 0 1).setFlag .SV_FW_LEN_GO 0 0 true
    s1.withSvc { s1.svc with load := some ⟨i, false, addr, s.fld .SV_FW_LEN_LEN 0 0⟩ }

/-- R570: a load ends with an image: the region is STAGED, with the version the image carries; SV_FW_DIGEST reads as its
digest. -/
def State.fwStaged (s : State) (i : Nat) (b : List Byte) (ver : Nat) : State :=
  ((s.setFwImage i b).setFld (fwState i) 0 0 2).setFld (fwVer i) 0 0 ver

/-- FW_LOAD_DONE (R570, R583): the load ends; `err` is a NOR error, which leaves the region EMPTY; `ver` is the version that
the image carries (log entry 45). A read of the image that a channel holds is looked at again by the command that follows. -/
def execFwLoadDone (err : Bool) (ver : Nat) (s : State) : Host.Outcome State Fault Refusal :=
  .next <|
    match s.svc.load with
    | none => s
    | some l =>
      let fin := fun (t : State) (r : Nat) =>
        ((t.withSvc { t.svc with load := none }).setFld .SV_FW_LEN_RESULT 0 0 r).setFlag .SV_FW_LEN_GO 0 0 false
      let empty := fun (t : State) => (t.setFwImage l.image []).setFld (fwState l.image) 0 0 0
      if err then fin (empty s) 5
      else if l.mctp then fin (s.fwStaged l.image (s.fwImage l.image) ver) 0
      else match s.svcRead l.addr l.len with
        | (.bytes b, t) => fin (t.fwStaged l.image b ver) 0
        | (.waits, t) => t
        | (.refused, t) => fin (empty t) 3

/-- FW_STAGE (R570): a chunk of an image arrives by MCTP; offset 0 begins a load. -/
def execFwStage (image off : Nat) (chunk : List Byte) (s : State) : Host.Outcome State Fault Refusal :=
  .next <| s.mctp fun s =>
    if 960 < chunk.length ∨ 16777216 < off + chunk.length then s.emit (.mctp 2 [])
    else if s.fwRefusal image true ≠ 0 then s.emit (.mctp 4 [])
    else
      let b := (s.fwImage image).take off
      let b := b ++ List.replicate (off - b.length) 0 ++ chunk
      let s1 := (s.setFwImage image (if off = 0 then chunk else b)).setFld (fwState image) 0 0 1
      (s1.withSvc { s1.svc with load := some ⟨image, true, 0, 0⟩ }).emit (.mctp 0 [])

/-- FW_VERIFY_DONE (R571): the verification of a committed image ends: it is VERIFIED and loaded into the idle bank, or BAD;
`signed` is whether its signature verifies by a key that the life-cycle state accepts (R559; log entry 45). -/
def execFwVerifyDone (image : Nat) (signed : Bool) (s : State) : Host.Outcome State Fault Refusal :=
  .next <|
    if s.fld (fwState image) 0 0 = 3 then
      if signed then
        let s1 := s.setFld (fwState image) 0 0 4
        s1.withSvc { s1.svc with bank := some image }
      else s.setFld (fwState image) 0 0 5
    else s

/-- R571: FWACTIVATE on its firing edge: 0 success, with a handover of at most 100 µs, or the reason it fails. -/
def State.fwActivate (s : State) (arg : Nat) : Nat × State :=
  let i := arg % 2
  let v := nfield arg 16 16
  let st := s.fld (fwState i) 0 0
  if st = 5 then (1, s.nestWipe 3 true)
  else if st ≠ 4 ∨ s.svc.bank ≠ some i then (2, s)
  else if s.fld (fwVer i) 0 0 ≠ v then (3, s)
  else if v < s.fld .SV_FW_FLOOR_FLOOR 0 0 then (4, s)
  else
    let s1 := (s.setFld .SV_FW_STATUS_RUN 0 0 i).setFld .SV_FW_STATUS_RUN_VER 0 0 v
    let s2 := s1.withSvc { s1.svc with last := i, bank := none }
    (0, ((s2.measure (s2.fwImage i)).auditEvent 8 i).fwStop 100000 true)

/-! ## Life cycle and debug (R557 to R559, R573) -/

/-- R558: a fresh nonce, valid for 60 s or one use. -/
def State.freshNonce (s : State) : List Byte × State :=
  let (n, t) := s.free 256
  let b := bytesOf 32 n
  let t1 := t.each (List.range 4) (fun k u => u.setReg .LF_CHALLENGE k 0 (BitVec.ofNat 64 (n >>> (64 * k))))
  (b, t1.withSvc { t1.svc with nonce := some (b, s.now) })

/-- The owner public key, from Nest slot 0 (R558, R560). -/
def State.ownerKey (s : State) : Option (List Byte) :=
  if s.svc.full.contains 0 then
    (s.svc.nest.find? (fun e => e.1 / 64 == 0)).map (fun e => bytesOf 64 e.2.toNat)
  else none

/-- The keys that may sign, with their credentials: 1 Aladal, 2 owner. -/
def State.keysFor (s : State) (aladal owner : Bool) : List (Nat × List Byte) :=
  (if aladal then [(1, Config.aladalKey 0)] else []) ++
    (if owner then (match s.ownerKey with | some k => [(2, k)] | none => []) else [])

/-- R558: which keys sign a transition: Aladal's, the owner's; `none` where there is no such transition. -/
def lifeSigners (old new : Nat) : Option (Bool × Bool) :=
  match old, new with
  | 0, 1 => some (true, false)
  | 1, 2 => some (false, true)
  | 1, 3 => some (false, true)
  | 2, 3 => some (false, true)
  | 4, _ => none
  | _, 4 => some (true, true)
  | _, _ => none

/-- R558, R573: an authorisation is checked: 0 and the credential, 1 BAD_SIGNATURE, 3 STALE_CHALLENGE. A nonce that it names
is used up. -/
def State.authCheck (s : State) (auth : List Byte) (target : Nat) (keys : List (Nat × List Byte)) : Nat × Nat × State :=
  let fresh : Bool := match s.svc.nonce with
    | some (n, t) => (auth.drop 32).take 32 == n && decide (s.now ≤ t + 60000000000)
    | none => false
  if auth.length ≠ 160 ∨ fresh = false then (3, 0, s)
  else
    let s1 := s.withSvc { s.svc with nonce := none }
    let head := auth.take 64
    let plain := auth.take 8 == bytesOf 8 (s.reg .HD_SELF 0 0).toNat && (auth.drop 8).take 1 == [BitVec.ofNat 8 target] &&
      ((auth.drop 9).take 23).all (fun b => b == 0)
    if plain = false then (1, 0, s1)
    else match keys.find? (fun k => Config.ecdsaVerify k.2 head (auth.drop 64)) with
      | some k => (0, k.1, s1)
      | none => (1, 0, s1)

/-- R557: the code of a life-cycle state. -/
def lifeCode (n : Nat) : Nat := [0x0000, 0x00FF, 0x0FFF, 0x3FFF, 0xFFFF].getD n 0xFFFF

/-- R558: a transition is requested with an authorisation: 0 DONE, 1 BAD_SIGNATURE, 2 NOT_ALLOWED, 3 STALE_CHALLENGE,
4 NO_KEY. On success both fuse copies are burned, the Nest is wiped and the transition is audited. -/
def State.lifeRequest (s : State) (a : Acc) (target : Nat) (auth : List Byte) : Nat × State :=
  let old := s.fld .LF_STATUS_STATE 0 0
  match lifeSigners old target with
  | none => (2, s)
  | some (aladal, owner) =>
    let keys := s.keysFor aladal owner
    if keys.length = 0 then (4, s)
    else match s.authCheck auth target keys with
      | (0, cred, t) =>
        let t1 := (t.withSvc { t.svc with fuse1 := lifeCode target, fuse2 := lifeCode target }).setFld .LF_STATUS_STATE 0 0 target
        let t2 := t1.auditLog .change a cred (2 * 2 ^ 26) (BitVec.ofNat 64 old) (BitVec.ofNat 64 target) 0
        (0, t2.nestWipe 5 (decide (target = 3 ∨ target = 4 ∨ old = 0)))
      | (r, _, t) => (r, t)

/-- LF_REQ.GO (R558): the authorisation is read at LF_AUTH_ADDR. While a channel holds that read the request stands, and a write of GO
looks at it again (log entry 158). -/
def State.lfGo (s : State) (a : Acc) : State :=
  let fin := fun (r : Nat × State) => (r.2.setFld .LF_REQ_RESULT 0 0 r.1).setFlag .LF_REQ_GO 0 0 false
  match s.svcRead (s.fld .LF_AUTH_ADDR_ADDR 0 0) 160 with
  | (.bytes b, t) => fin (t.lifeRequest a (s.fld .LF_REQ_TARGET 0 0) b)
  | (.waits, t) => t
  | (.refused, t) => fin (1, t)

/-- LF_REQUEST (R558): a transition by MCTP, with the authorisation in its payload. -/
def execLfRequest (target : Nat) (auth : List Byte) (s : State) : Host.Outcome State Fault Refusal :=
  .next <| s.mctp fun s =>
      let (r, t) := s.lifeRequest (accBmc s) target auth
      t.emit (.mctp (if r = 0 then 0 else 3) [BitVec.ofNat 8 r])

/-- GET_CHALLENGE (R573): a fresh nonce by MCTP. -/
def execGetChallenge (s : State) : Host.Outcome State Fault Refusal :=
  .next <| s.mctp fun s =>
    let (b, t) := s.freshNonce
    t.emit (.mctp 0 b)

/-- R573, R559: an unlock token: it wipes the Nest, and debug access opens at the wipe's end. A token that fails is counted;
after 8 failures tokens are refused. -/
def State.debugUnlock (s : State) (a : Acc) (token : List Byte) : Bool × State :=
  let keys := match s.svc.perm with
    | 0 => s.keysFor true false
    | 1 => s.keysFor false true
    | 2 => s.keysFor false true
    | 3 => s.keysFor true false
    | _ => []
  if 8 ≤ s.fld .LF_STATUS_UNLOCK_FAILS 0 0 ∨ s.svc.perm = 4 then (false, s)
  else match s.authCheck token 0xD0 keys with
    | (0, cred, t) =>
      let t1 := (t.auditLog .change a cred (2 * 2 ^ 26) 0 0xD0 0).nestWipe 2 true
      (true, t1.withSvc { t1.svc with openAfter := true })
    | (_, _, t) => (false, t.satInc .LF_STATUS_UNLOCK_FAILS 0 0 1)

/-- R573: a token from the BMC, or over JTAG, is judged and answered. -/
def State.unlockBy (s : State) (jtag : Bool) (token : List Byte) : State :=
  match s.debugUnlock (if jtag then accService s else accBmc s) token with
  | (ok, t) =>
    if jtag then t.withPower { t.power with tapReset := false } else t.emit (.mctp (if ok then 0 else 3) [])

/-- DEBUG_UNLOCK (R573): a token from the BMC, or over JTAG; one that meets a handover is served after it (R580). -/
def execDebugUnlock (jtag : Bool) (token : List Byte) (s : State) : Host.Outcome State Fault Refusal :=
  .next <|
    if s.power.svcOn = false then s
    else if s.fwDown ∧ (jtag ∨ s.svc.handover) then s.withSvc { s.svc with unlocks := s.svc.unlocks ++ [(jtag, token)] }
    else s.mctp (fun t => t.unlockBy jtag token)

/-! ## The SPI mailbox (R574, R575) -/

/-- A mailbox word; one that nothing has written reads 0 (log entry 47). -/
def State.mbxWord (s : State) (w : Nat) : W32 := sget (fun _ => 0) s.svc.mbx (w % 16384)

/-- The state with a mailbox word replaced. -/
def State.setMbx (s : State) (w : Nat) (v : W32) : State :=
  s.withSvc { s.svc with mbx := sset (fun _ => 0) s.svc.mbx (w % 16384) v }

/-- R575: the internal writes that met a transfer land, and MBX_BUSY_N is low at its end where there was one. -/
def State.mbxCollide (s : State) (addr : Nat) (coll : List (Nat × W32)) : State :=
  let s1 := s.each coll (fun e t => (t.setMbx (addr / 4 + e.1) e.2).satInc .MB_STATUS_COLLISIONS 0 0 1)
  s1.withPins { s1.pins with mbxBusy := coll.length != 0 }

/-- The words an SPI READ shifts out: a word that met an internal write has an arbitrary value. -/
def State.spiWords (s : State) (addr : Nat) (coll : List (Nat × W32)) : List Nat → List Byte × State
  | [] => ([], s)
  | k :: t =>
    let (n, s1) := if coll.any (fun e => e.1 == k) then s.free 32 else ((s.mbxWord (addr / 4 + k)).toNat, s)
    let (r, s2) := s1.spiWords addr coll t
    (bytesOf 4 n ++ r, s2)

/-- SPI_READ (R574, R575): `n` words from an address, wrapping at 64 KiB; `coll` holds the words that an internal write met,
by their place in the transfer, and what it wrote. -/
def execSpiRead (addr n : Nat) (coll : List (Nat × W32)) (s : State) : Host.Outcome State Fault Refusal :=
  .next <|
    if s.power.svcOn = false then s
    else
      let (b, t) := s.spiWords addr coll (List.range n)
      (t.mbxCollide addr coll).emit (.spi b)

/-- SPI_WRITE (R574, R575): words from an address on; where one meets an internal write, that write stands. -/
def execSpiWrite (addr : Nat) (words : List W32) (coll : List (Nat × W32)) (s : State) : Host.Outcome State Fault Refusal :=
  .next <|
    if s.power.svcOn = false then s
    else (s.each words.zipIdx (fun e t => t.setMbx (addr / 4 + e.2) e.1)).mbxCollide addr coll

/-- SPI_STATUS (R574). -/
def execSpiStatus (s : State) : Host.Outcome State Fault Refusal :=
  .next <|
    if s.power.svcOn then
      let b := s.fld .MB_STATUS_DEV_DB 0 0 + 2 * s.fld .MB_STATUS_BMC_DB 0 0 + 4 * b2n s.romMode
      s.emit (.spi [BitVec.ofNat 8 b])
    else s

/-- SPI_RING (R574): the service firmware's doorbell. -/
def execSpiRing (_b : Nat) (s : State) : Host.Outcome State Fault Refusal :=
  .next (if s.power.svcOn then s.setFlag .MB_STATUS_DEV_DB 0 0 true else s)

/-! ## MCTP (R576, R577) -/

/-- MCTP_CONTROL (R576, R623): a control message is answered as MCTP states; Set Endpoint ID (1) assigns the endpoint ID (log
entry 48). -/
def execMctpControl (cmd eid : Nat) (s : State) : Host.Outcome State Fault Refusal :=
  .next <| s.mctp fun s =>
    let s1 := if cmd = 1 then s.withSvc { s.svc with eid := eid } else s
    let (c, s2) := s1.free 8
    s2.emit (.mctp c [])

/-- A register's bytes. -/
def State.regBytes (s : State) (id : RegId) : List Byte := bytesOf (id.info.width / 8) (s.reg id 0 0).toNat

/-- GET_IDENTITY (R577). -/
def execGetIdentity (s : State) : Host.Outcome State Fault Refusal :=
  .next <| s.mctp fun s =>
    s.emit (.mctp 0 ([RegId.SV_ID, .SV_ASSEMBLY, .HD_SELF, .SV_FW_STATUS, .LF_STATUS].flatMap s.regBytes))

/-- GET_TELEMETRY (R577): PM_POWER, PM_STATUS.ACTIVE, the hottest valid sensor, TH_HU_STATUS. -/
def execGetTelemetry (s : State) : Host.Outcome State Fault Refusal :=
  .next <| s.mctp fun s =>
    s.emit (.mctp 0 (s.regBytes .PM_POWER ++ bytesOf 2 s.power.thrActive ++ bytesOf 2 (s.hottestOf (List.range 30)) ++
      s.regBytes .TH_HU_STATUS))

/-- FW_STATUS (R577). -/
def execFwStatus (s : State) : Host.Outcome State Fault Refusal :=
  .next (s.mctp (fun s => s.emit (.mctp 0 (s.regBytes .SV_FW_STATUS))))

/-- SET_POWER_LIMIT (R505, R577): the service firmware commits a CAPSET stroke with LATE_OK at the next FT_NOW. -/
def execSetPowerLimit (watts : Nat) (s : State) : Host.Outcome State Fault Refusal :=
  .next <| s.mctp fun s =>
    let (r, _, t) := s.commitStroke (accService s)
      { time := s.now + 4, arg := watts, action := 6, slot := 0xFF, lateOk := true, replace := false, cancel := false }
    t.emit (.mctp (match r with | 0 => 0 | 4 => 2 | 5 => 4 | 8 => 5 | _ => 3) [])

end Sys2Proof.Machine
end

