-- ==== Sys2Proof/Machine/Boot.lean ====
section
/-! DEFINITION. Resets of the module, the boot and its stages, the main rails and the PCIe links (R588, R620 to R649). -/
namespace Sys2Proof.Machine

open Sys2Proof

/-- SV_BOOT.STAGE. -/
def State.bootStage (s : State) : Nat := s.fld .SV_BOOT_STAGE 0 0
/-- SV_BOOT.RESULT. -/
def State.bootResult (s : State) : Nat := s.fld .SV_BOOT_RESULT 0 0
/-- A stage begins. -/
def State.setStage (s : State) (n : Nat) : State := s.setFld .SV_BOOT_STAGE 0 0 n
/-- A stage fails: the boot stops with its code (R628). -/
def State.bootFail (s : State) (r : Nat) : State := s.setFld .SV_BOOT_RESULT 0 0 r

/-! ## Stages 1 and 2: fuses, ROM, Nest (R557, R559, R561, R564, R572, R646) -/

/-- R557, R564: the fuses are read; an inconsistent read is a tamper event. -/
def State.bootFuses (s : State) : State :=
  let life := lifeOf s.svc.fuse1 s.svc.fuse2
  let s1 := (s.setFld .LF_STATUS_STATE 0 0 life.1).setFlag .LF_STATUS_FUSE_BAD 0 0 life.2
  let s2 := s1.withSvc { s1.svc with perm := life.1 }
  if life.2 then s2.nestWipe 4 true else s2

/-- R572: what a region shows once the ROM has looked at it: EMPTY, VERIFIED, BAD, or STAGED where it was not looked at. -/
def State.bootRegion (s : State) (i : Nat) (tried ok : Bool) : State :=
  s.setFld (fwState i) 0 0 (if s.fwImage i = [] then 0 else if tried = false then 2 else if ok then 4 else 5)

/-- R571, R572: the ROM starts an image: it is the one that runs, and it is measured. -/
def State.bootImage (s : State) (i : Nat) : State :=
  ((s.setFld .SV_FW_STATUS_RUN 0 0 i).setFld .SV_FW_STATUS_RUN_VER 0 0 (s.fld (fwVer i) 0 0)).measure (s.fwImage i)

/-- R559, R561, R572, R646: the Nest is clear, or is being wiped, and slot 0 is restored; the ROM verifies the image last
activated, and the other one if that one fails. -/
def State.bootRom (s : State) (b : BootIn) : State :=
  let s0 := if s.pins.tamper then s.nestWipe 1 true else s
  let restored := fun (t : State) => if t.svc.wipe.isSome then t else t.nestRestore
  if s0.svc.perm = 4 then (restored s0).bootFail 2
  else
    let first := s0.svc.last
    let other := 1 - first
    let good := fun (i : Nat) => nbit b.images i && decide (s0.fwImage i ≠ [])
    if good first then
      restored (((s0.bootRegion first true true).bootRegion other false false).bootImage first) |>.setStage 3
    else
      let s1 := s0.nestWipe 3 true
      if good other then
        restored (((s1.bootRegion first true false).bootRegion other true true).bootImage other) |>.setStage 3
      else
        (((s1.nestWipe 3 true).bootRegion first true false).bootRegion other true false).bootFail 1

/-! ## Stages 4 to 7: rails, PLLs, thermal check, power manager (R503, R629, R631, R648, R649) -/

/-- R648: every main rail comes into regulation, or all are removed. -/
def State.bootRails (s : State) (b : BootIn) : State :=
  let s1 := s.satInc .SV_BOOT_ATTEMPTS 0 0 1
  if b.rails then
    (((s1.withPower { s1.power with rails := true }).each ioArbs (fun a t => t.trStart a)).withPins { s1.pins with pwrGood := true }).setStage 5
  else s1.railsDown.bootFail 3

/-- R631, R649: the PLLs lock and the Herdlink ports begin to train. -/
def State.bootPlls (s : State) (b : BootIn) : State :=
  if b.plls then
    let s1 := s.withPower { s.power with clocks := true }
    let ports := (List.range (8 * s.ioDies)).filter (fun p => s.fld .HL_PORT_CFG_DIR p 0 != 7)
    (s1.each ports (fun p t => t.setFld .HL_PORT_STATUS_STATE p 0 1)).setStage 6
  else s.railsDown.bootFail 4

/-- Whether a module of this assembly has sensor `i` (R532). -/
def State.sensorPresent (s : State) (i : Nat) : Bool :=
  decide (i < 20) || (decide (i < 22) && decide (i - 20 < s.ioDies)) || (decide (22 ≤ i) && s.stackPresent (i - 22))

/-- R629: every valid sensor reads below 105 °C, or the main rails are removed. -/
def State.bootThermal (s : State) (b : BootIn) : State :=
  let l := b.temps.filter (fun (e : Nat × Nat) => s.sensorPresent e.1)
  let s1 := s.each l (fun (e : Nat × Nat) t => (t.setFld .TH_SENSOR_TEMP e.1 0 e.2).setFlag .TH_SENSOR_VALID e.1 0 true)
  if l.all (fun (e : Nat × Nat) => decide (e.2 < 420) || s.flag .TH_SENSOR_BAD e.1 0) then s1.setStage 7
  else s1.railsDown.bootFail 5

/-- R503: the power manager starts, or its table is bad. -/
def State.bootPm (s : State) : State :=
  let s1 := s.pmStart
  if s1.flag .PM_STATUS_RUNNING 0 0 then s1.setStage 8 else s1.bootFail 6

/-! ## Stages 8 to 11: units, map, stacks (R84, R127, R148, R150, R588, R592) -/

/-- The units of a kind that soft-fuse entries retire, as a bit mask. -/
def State.fuseMask (s : State) (kind : Nat) : Nat :=
  (s.ras.fuses.filter (fun (f : SoftFuse) => f.kind == kind)).foldl (fun (m : Nat) (f : SoftFuse) => addBit m f.unit) 0

/-- R150, R588, R589, R592: the factory's fuse map and the soft-fuse table are applied: spare rows and lines, and retirements. -/
def State.applyFuses (s : State) : State :=
  let all := s.ras.factory ++ s.ras.fuses
  let rows := all.filter (fun (f : SoftFuse) => f.kind == 0 && decide (f.row < 4096))
  let lines := all.filter (fun (f : SoftFuse) => f.kind == 1)
  let s1 := s.withTm { s.tm with
    rowMap := ssetAll (fun _ => 0) [] (rows.map (fun (f : SoftFuse) => ((f.unit * 64 + f.bank) * 8192 + f.row, f.spare + 1))) }
  let s2 := s1.withLc { s1.lc with
    spares := ssetAll (fun _ => 0) [] (lines.map (fun (f : SoftFuse) => (f.unit * 16 + f.spare, f.row + 1))) }
  let s3 := (s2.setFld .SV_RETIRED_STACKS_STACKS 0 0 (s2.fuseMask 4)).setFld .SV_RETIRED_SLICES_SLICES 0 0 (s2.fuseMask 5)
  let s4 := s3.setReg .SV_CLMAP 0 0 (resetVal (regKey .SV_CLMAP 0 0))
  s4.each (List.range 2) (fun d t =>
    let m := nfield (t.fuseMask 3) (9 * d) 9
    let t1 := (t.setFld .SV_SPARE_STATUS_RETIRED d 0 m).setFld .SV_SPARE_STATUS_LOST d 0 0
    t1.setFld .SV_SPARE_STATUS_STATE d 0 (if nbit m (t.fld .SV_SPARE_STATUS_SPARE d 0) then 0 else 1))

/-- A cluster is cleared and tested (R84, R148). -/
def State.bootCluster (s : State) (b : BootIn) (c : Nat) : State := (s.clusterWake c).clearDone c (nbit b.clusters c)

/-- R84, R115, R127, R148: every unit of the fused map wakes clear and tests itself. -/
def State.bootUnits (s : State) (b : BootIn) : State :=
  let s1 := s.applyFuses
  let cs := ((List.range 16).map s1.physCluster).filter (fun c => !s1.clusterRetired c)
  let s2 := s1.each cs (fun c t => t.bootCluster b c)
  (s2.each (List.range 2) (fun d t => t.spineWake d (nfield b.slices (32 * d) 32))).setStage 9

/-- R588: a held-out cluster is replaced by its die's spare as under FRESH, or its logical cluster is LOST. -/
def State.bootReplace (s : State) (b : BootIn) (l : Nat) : State :=
  let d := l / 8
  let p := s.physCluster l
  let q := s.sparePhys d
  let retire := fun (t : State) (c : Nat) => if t.clusterRetired c then t else t.retireCluster c
  if s.clusterOn p then s
  else if s.spareState d = 1 then
    if nbit b.clusters q then
      (((retire (s.bootCluster b q) p).setClmap l q).setFld .SV_SPARE_STATUS_STATE d 0 0).rasEvent 4 p q
    else
      (((retire (s.bootCluster b q) q).setFld .SV_SPARE_STATUS_STATE d 0 0).rasEvent 3 q 0).loseCluster l
  else s.loseCluster l

/-- R588: SV_CLMAP is built. -/
def State.bootMap (s : State) (b : BootIn) : State := (s.each (List.range 16) (fun l t => t.bootReplace b l)).setStage 10

/-- R148, R183, R190: the stacks are trained, initialised and tested; then the module is RUNNING, and SV_BOOT_FT says when. -/
def State.bootStacks (s : State) (b : BootIn) : State :=
  let s1 := s.each (List.range 8) (fun k t => t.stackInit k (nbit b.stackBits k) (nbit b.tests k))
  (s1.setStage 11).setFld .SV_BOOT_FT_FT 0 0 s1.now

/-! ## The boot (R628, R643) -/

/-- The stage in progress runs to its end. -/
def State.runStage (s : State) (b : BootIn) : State :=
  match s.bootStage with
  | 0 => s.setStage 1
  | 1 => s.bootFuses.setStage 2
  | 2 => s.bootRom b
  | 3 => if s.pins.pwrEn ∧ s.power.tripped = false then s.setStage 4 else s
  | 4 => s.bootRails b
  | 5 => s.bootPlls b
  | 6 => s.bootThermal b
  | 7 => s.bootPm
  | 8 => s.bootUnits b
  | 9 => s.bootMap b
  | 10 => s.bootStacks b
  | _ => s

/-- Up to `n` stages run in order; a failure stops the boot. -/
def State.bootRun (b : BootIn) : Nat → State → State
  | 0, s => s
  | n + 1, s => if s.bootResult = 0 then (s.runStage b).bootRun b n else s

/-- BOOT_SEQUENCE (R628): the boot goes on through `n` stages, from the stage SV_BOOT.STAGE names, unless one fails. -/
def execBootSequence (b : BootIn) (n : Nat) (s : State) : Host.Outcome State Fault Refusal :=
  .next (if s.power.svcOn ∧ s.power.saving = false ∧ s.power.tripped = false then s.bootRun b n else s)

/-- THERMAL_HOLD_RETRY (R629): while PWR_EN stays high, the boot runs again from stage 4. -/
def execThermalHoldRetry (b : BootIn) (n : Nat) (s : State) : Host.Outcome State Fault Refusal :=
  .next <|
    if s.power.svcOn ∧ s.bootStage = 6 ∧ s.bootResult = 5 ∧ s.pins.pwrEn ∧ s.power.tripped = false then
      ((s.setStage 4).bootFail 0).bootRun b n
    else s

/-- PWR_EN_RISE (R628, R632, R648): a boot that waits at stage 3 proceeds through `n` stages. -/
def execPwrEnRise (b : BootIn) (n : Nat) (s : State) : Host.Outcome State Fault Refusal :=
  .next <|
    if s.pins.pwrEn then s
    else
      let s1 := s.withPins { s.pins with pwrEn := true }
      if s.power.svcOn ∧ s.bootStage = 3 ∧ s.power.saving = false ∧ s.power.tripped = false then
        ((s1.setFlag .SV_RESET_CAUSE_PWR_EN_CYCLE 0 0 (decide (s1.fld .SV_BOOT_ATTEMPTS 0 0 ≠ 0))).bootFail 0).bootRun b n
      else s1

/-- R632, R643: the main rails are removed and the boot waits at stage 3 again. -/
def State.mainsDown (s : State) : State :=
  if 4 ≤ s.bootStage ∧ s.bootStage ≤ 11 then s.railsDown.setStage 3 else s

/-- PWR_EN_FALL (R632, R643). -/
def execPwrEnFall (s : State) : Host.Outcome State Fault Refusal :=
  .next <|
    if s.pins.pwrEn then
      let s1 := s.withPins { s.pins with pwrEn := false }
      if s.power.svcOn then s1.mainsDown else s1
    else s

/-- RAIL_FAULT (R648): a main rail leaves regulation, or does not reach it within 2 ms of its enable. -/
def execRailFault (s : State) : Host.Outcome State Fault Refusal :=
  .next <|
    if s.bootStage = 4 ∧ s.bootResult = 0 then s.railsDown.bootFail 3
    else if s.power.rails then s.mainsDown.bootFail 3
    else s

/-! ## Resets (R536, R542, R623, R626, R627, R642, R645, R646) -/

/-- R542, R544, R564, R645: what a start of the SVC domain finds: the last shutdown record, and the levels on the alert pins. -/
def State.svcStart (s : State) : State :=
  let rec_ := s.pm.shutdown.getD []
  let s1 := s.each (List.range 8) (fun k t =>
    t.setReg .TH_LAST_SHUTDOWN k 0 (BitVec.ofNat 64 (ofBytes ((rec_.drop (8 * k)).take 8))))
  let unclean := decide (s1.audit.mirrored ≠ 0) && !(s1.pm.shutdown.isSome && s1.pm.shutSeq == s1.audit.mirrored)
  let s2 := if unclean then s1.setFlag .TH_EVENT_UNCLEAN_LOSS 0 0 true else s1
  let s3 := if s2.pins.regAlert then (s2.setFlag .TH_ALERT_REG 0 0 true).alert 0 else s2
  if s3.pins.extAlert then (s3.setFlag .TH_ALERT_EXT 0 0 true).alert 1 else s3

/-- SVC_POWER_ON (R623, R626): P54V crosses 39.0 V with VDD_SVC off; `addr` is what ADDR_SEL samples. -/
def execSvcPowerOn (addr : Nat) (s : State) : Host.Outcome State Fault Refusal :=
  .next <|
    if s.power.svcOn then s
    else
      let s0 := s.svcReset false
      let s1 := (s0.setFld .SV_STRAPS_ADDR_SEL 0 0 addr).setFld .SV_STRAPS_SMB_ADDR 0 0 (0x58 + addr % 8)
      let s2 := (s1.withPower { s1.power with svcOn := true }).withPins { s1.pins with p54 := true }
      (s2.setFlag .TH_HU_STATUS_CHARGING 0 0 true).svcStart

/-- The end of the hold that a trip puts on a cold reset (R536). -/
def State.coolEnd (s : State) : Nat := s.power.tripFt + max 1 (s.fld .TH_CFG_COOL_S 0 0) * 1000000000

/-- R56, R626: a module cold reset begins. -/
def State.coldReset (s : State) : State :=
  let s0 := s.svcReset true
  let s1 := s0.setReg .SV_STRAPS 0 0 (s.reg .SV_STRAPS 0 0)
  let s2 := (s1.setFlag .SV_RESET_CAUSE_SVC_POWER_ON 0 0 false).setFlag .SV_RESET_CAUSE_SYS_RST 0 0 true
  (s2.setFlag .SV_RESET_CAUSE_AFTER_TRIP 0 0 s.power.tripped).svcStart

/-- MODULE_COLD_RESET (R536, R626, R627, R642): SYS_RST_N has been low for 10 µs: the reset begins, is held until COOL_S has
passed since a trip, or is ignored during a save. -/
def execModuleColdReset (s : State) : Host.Outcome State Fault Refusal :=
  .next <|
    if s.power.svcOn = false ∨ s.power.saving then s
    else if s.power.tripped ∧ s.now < s.coolEnd then
      (s.withPower { s.power with coldHeld := true }).setStage 12
    else s.coldReset

/-- TRIP_HOLD_END (R627): COOL_S after the latch, a held cold reset begins. -/
def execTripHoldEnd (s : State) : Host.Outcome State Fault Refusal :=
  .next (if s.power.coldHeld ∧ s.power.saving = false ∧ s.coolEnd ≤ s.now then s.coldReset else s)

/-- REJECTED_RESET_PULSE (R626): a SYS_RST_N pulse from 20 ns up to 10 µs. -/
def execRejectedResetPulse (s : State) : Host.Outcome State Fault Refusal :=
  .next (if s.power.svcOn then s.satInc .SV_RESET_CAUSE_SHORT 0 0 1 else s)

/-- TAP_RESET (R626): the JTAG TAP alone is reset. -/
def execTapReset (s : State) : Host.Outcome State Fault Refusal := .next (s.withPower { s.power with tapReset := true })

/-! ## PCIe links (R450, R622, R626, R630) -/

/-- The level of PERSTe_N; true is low. -/
def State.setPerst (s : State) (e : Nat) (b : Bool) : State :=
  s.withPins (if e = 0 then { s.pins with perst0 := b } else { s.pins with perst1 := b })

/-- PCIE_CONVENTIONAL_RESET (R626): PERSTe_N is low: its link goes and its PF is reset as by an FLR. -/
def execPcieConventionalReset (e : Nat) (s : State) : Host.Outcome State Fault Refusal :=
  .next <|
    let s1 := s.setPerst e true
    let s2 := s1.withPower { s1.power with links := dropBit s1.power.links e }
    if s.power.rails ∧ e < s.ioDies then s2.pfReset e else s2

/-- PCIE_LINK_TRAIN (R630): PERSTe_N is high; with the rails up, the port's link trains. -/
def execPcieLinkTrain (e : Nat) (s : State) : Host.Outcome State Fault Refusal :=
  .next <|
    let s1 := s.setPerst e false
    if s.power.rails ∧ e < s.ioDies then s1.withPower { s1.power with links := addBit s1.power.links e } else s1

end Sys2Proof.Machine
end

