-- ==== Sys2Proof/Machine/Strokes.lean ====
section
/-! DEFINITION. Strokes fire (R36, R39, R41 to R43, R52 to R54, R547), and fleet time is stepped to a reference (R31). -/
namespace Sys2Proof.Machine

open Sys2Proof

/-- R52, R53: slots that are due fire in the order of their edges, and in slot order on one edge. -/
def State.strokeBefore (s : State) (i j : Nat) : Bool :=
  decide (s.strokeEdge i < s.strokeEdge j ∨ (s.strokeEdge i = s.strokeEdge j ∧ i ≤ j))

/-- The slot fires now with this action. -/
def State.strokeFires (s : State) (action i : Nat) : Bool :=
  s.fld .FT_STK_STATE_ACTION i 0 == action && s.strokeDue i &&
    (List.range 256).all (fun j => !(s.strokeDue j) || s.strokeBefore i j)

/-- R43: a stroke whose action cannot be carried out: FAILED with the reason. -/
def State.strokeFailed (s : State) (i r : Nat) : State :=
  ((s.setFld .FT_STK_STATE_STATE i 0 6).setFld .FT_STK_STATE_RESULT i 0 r).setFlag .FT_EVENT_FAILED 0 0 true

/-- R41, R39, R53: whether the firing is late. -/
def State.strokeLate (s : State) (i : Nat) : Bool :=
  decide (s.fld .FT_STK_TIME_TIME i 0 + 4 < s.now) || s.ft.late.any (fun e => e.1 == i)

/-- R41: a stroke that fired: FIRED or FIRED_LATE. -/
def State.strokeFired (s : State) (i : Nat) : State :=
  if s.strokeLate i then (s.setFld .FT_STK_STATE_STATE i 0 3).setFlag .FT_EVENT_LATE_FIRE 0 0 true
  else s.setFld .FT_STK_STATE_STATE i 0 2

/-- R553, R571: what the service firmware does for a stroke: PHASE, OXENTER, OXLEAVE, CAPSET, FWACTIVATE; 0, or the reason it fails. -/
def State.fwAct (s : State) (action arg : Nat) : Nat × State :=
  match action with
  | 3 => if s.flag .PM_PHASE_VALID (nfield arg 0 4) 0 then (0, s.namePhase (nfield arg 0 4)) else (1, s)
  | 4 => (0, s.oxEnter arg)
  | 5 => (0, s.oxLeave)
  | 6 => (0, s.capSet (nfield arg 0 10))
  | 0xA => s.fwActivate arg
  | _ => (0, s)

/-- Whether the service firmware carries out a stroke action (R553). -/
def fwCarries (action : Nat) : Bool := action == 3 || action == 4 || action == 5 || action == 6 || action == 0xA

/-- R554: a fired action that waits for the service firmware is carried out when it runs; one that cannot be carried out fails then, if its
slot has not been used again. -/
def State.fwLate (s : State) (a : FwAct) : State :=
  let (r, t) := s.fwAct a.action a.arg
  let st := t.fld .FT_STK_STATE_STATE a.slot 0
  if r ≠ 0 ∧ (st = 2 ∨ st = 3) ∧ t.fld .FT_STK_FIRED_FIRED a.slot 0 = a.fired then t.strokeFailed a.slot r else t

/-- R554: what waits for the service firmware is done in firing order, while it runs. -/
def State.fwResume : Nat → State → State
  | 0, s => s
  | fuel + 1, s =>
    if s.fwDown then s
    else match s.svc.held with
      | [] => s
      | a :: t => fwResume fuel ((s.withSvc { s.svc with held := t }).fwLate a)

/-- R554, R580: the service firmware, if it runs, takes up the stroke actions and then the debug-unlock tokens that wait for it. -/
def State.fwBack (s : State) : State :=
  let s1 := s.fwResume s.svc.held.length
  if s1.fwDown then s1
  else (s1.withSvc { s1.svc with unlocks := [] }).each s1.svc.unlocks (fun e t => t.unlockBy e.1 e.2)

/-- R24, R554: a tick while no command waits: an FTCK edge, at which the service firmware may run again. -/
def State.idle (s : State) : State := s.tick.fwBack

/-- R41 to R43, R547: the firing edge of slot `i`: after a trip any stroke fails with TRIPPED, whatever its action (also one
that HOLD_AGE would defer: DEDUCED, log entry 57); a herd-wide stroke is deferred while HOLD_AGE is above 10,000 ms;
otherwise the action `act` acts on the argument and answers 0 or the reason it failed. An action of the service firmware waits for it
while it does not run (R554). -/
def State.strokeFire (s : State) (action i : Nat) (act : State → Nat → Nat × State) : State :=
  let s1 := s.setFld .FT_STK_FIRED_FIRED i 0 s.now
  if s.strokeFires action i = false then s
  else if s.power.tripped then s1.strokeFailed i 0x20
  else if herdWide action && decide (10000 < s.holdAge) then
    (s.setFld .FT_STK_STATE_STATE i 0 4).setFlag .FT_EVENT_DEFERRED 0 0 true
  else if fwCarries action && s.fwDown then
    (s1.strokeFired i).withSvc { s.svc with held := s.svc.held ++ [⟨action, i, s.fld .FT_STK_ARG_ARG i 0, s.now⟩] }
  else
    let (r, s2) := act (s1.strokeFired i) (s1.fld .FT_STK_ARG_ARG i 0)
    if r = 0 then s2
    else (s2.strokeFailed i r).setFld .FT_EVENT_LATE_FIRE 0 0 (s1.fld .FT_EVENT_LATE_FIRE 0 0)

/-- An action on the HQ block, which cannot be carried out while the I/O dies are off (R43; the reason is not stated, log
entry 50). -/
def hqAction (f : State → State) (s : State) : Nat × State :=
  if s.mainsOn then (0, f s)
  else
    let (r, t) := s.free 8
    (max 1 r, t)

/-- GENSWAP (R443). -/
def execGenswap (i : Nat) (s : State) : Host.Outcome State Fault Refusal :=
  .next (s.strokeFire 1 i (fun t arg => hqAction (fun u => u.genswapFire (nfield arg 0 8) (nfield arg 8 16)) t))

/-- GENRETIRE (R174, R445). -/
def execGenretire (i : Nat) (s : State) : Host.Outcome State Fault Refusal :=
  .next (s.strokeFire 2 i (fun t arg => hqAction (fun u => u.genretireFire (nfield arg 0 8) (nfield arg 8 16)) t))

/-- PHASE_STROKE (R515). -/
def execPhaseStroke (i : Nat) (s : State) : Host.Outcome State Fault Refusal :=
  .next (s.strokeFire 3 i (fun t arg => t.fwAct 3 arg))

/-- OXENTER (R516). -/
def execOxenter (i : Nat) (s : State) : Host.Outcome State Fault Refusal :=
  .next (s.strokeFire 4 i (fun t arg => t.fwAct 4 arg))

/-- OXLEAVE (R516). -/
def execOxleave (i : Nat) (s : State) : Host.Outcome State Fault Refusal :=
  .next (s.strokeFire 5 i (fun t arg => t.fwAct 5 arg))

/-- CAPSET (R505). -/
def execCapset (i : Nat) (s : State) : Host.Outcome State Fault Refusal :=
  .next (s.strokeFire 6 i (fun t arg => t.fwAct 6 arg))

/-- SCRUB_STROKE (R143): the argument selects spine and slot; above 31 it names none. -/
def execScrubStroke (i : Nat) (s : State) : Host.Outcome State Fault Refusal :=
  .next (s.strokeFire 7 i (fun t arg => if arg < 32 then t.scrubStart (arg / 16) (arg % 16) else (1, t)))

/-- MUWIN_OPEN (R205). -/
def execMuwinOpen (i : Nat) (s : State) : Host.Outcome State Fault Refusal :=
  .next (s.strokeFire 8 i (fun t arg => t.muOpen (nfield arg 0 8)))

/-- MUWIN_CLOSE (R206). -/
def execMuwinClose (i : Nat) (s : State) : Host.Outcome State Fault Refusal :=
  .next (s.strokeFire 9 i (fun t arg => t.muClose (nfield arg 0 8) 0x0D))

/-- FWACTIVATE (R571). -/
def execFwactivate (i : Nat) (s : State) : Host.Outcome State Fault Refusal :=
  .next (s.strokeFire 0xA i (fun t arg => t.fwAct 0xA arg))

/-- TRACEMARK (R36, R47). -/
def execTracemark (i : Nat) (s : State) : Host.Outcome State Fault Refusal :=
  .next (s.strokeFire 0xB i (fun t arg => (0, t.traceMarkAll (nfield arg 0 32))))

/-- A slot put into a list of slots that stands in the order of their edges, and by slot among equal ones. -/
def State.strokeInsert (s : State) (i : Nat) : List Nat → List Nat
  | [] => [i]
  | j :: t => if s.strokeEdge i < s.strokeEdge j ∨ (s.strokeEdge i = s.strokeEdge j ∧ i ≤ j) then i :: j :: t
    else j :: s.strokeInsert i t

/-- The edges `from`, `from` + 4, … for slots that fire on consecutive FTCK cycles. -/
def consecutive : Nat → List Nat → List (Nat × Nat)
  | _, [] => []
  | e, i :: t => (i, e) :: consecutive (e + 4) t

/-- R31, R53: while REF_JUMP is set and the reference is ahead, FT_NOW steps forward to it; a reference behind is not followed.
The armed strokes that the step passes over, those whose time is the FT_NOW it lands on among them (log entry 145), fire as
FIRED_LATE in time order and then in slot order, on consecutive FTCK cycles after the step. -/
def State.acceptStepGo (s : State) : State :=
  if s.flag .FT_STATUS_REF_JUMP 0 0 = false ∨ s.ft.refLead ≤ 0 then s
  else
    let now := (s.now + s.ft.refLead.toNat) / 4 * 4
    let passed := (List.range 256).filter (fun i => s.fld .FT_STK_STATE_STATE i 0 == 1 && decide (s.strokeEdge i ≤ now))
    let order := passed.foldl (fun (l : List Nat) i => s.strokeInsert i l) []
    (s.setFld .FT_NOW_NOW 0 0 now).withFt { s.ft with
      refLead := 0
      herdOff := s.ft.herdOff.map (fun off => off + 4 * ((now : Int) - s.now))
      late := consecutive (now + 4) order ++ s.ft.late.filter (fun e => !(passed.contains e.1)) }

end Sys2Proof.Machine
end

