-- ==== Sys2Proof/Machine/Views.lean ====
section
/-! DEFINITION. What a register reads as: the stored value, with the read-only fields that follow from other state laid
over it. -/
namespace Sys2Proof.Machine

open Sys2Proof

/-- A value with a field of its register replaced. -/
def excess (f : Fld) (x : Nat) (v : W64) : W64 := setBits v f.lo f.w x

/-- A count that saturates at the width of its field. -/
def overSat (f : Fld) (x : Nat) (v : W64) : W64 := excess f (min x (2 ^ f.w - 1)) v

/-- The VI whose mask holds a slice (R224). -/
def State.sliceOwner (s : State) (slice : Nat) : Option Nat :=
  (List.range 64).find? (fun v => nbit (s.fld .LC_PART_SLICES v 0) slice)

/-- TR_TROUGH: the requests a requester presents at an arbiter (R251). -/
def State.trOf (s : State) (arb req : Nat) : List TrReq :=
  s.tr.reqs.filter (fun (r : TrReq) => r.arb == arb && r.req == req)

/-- The events of a counter block that count clock cycles (R303, R355). -/
def cycleEvent (id : RegId) (e : Nat) : Bool :=
  match id with
  | .MX_CNT => e == 2 || e == 3
  | .VX_CNT => e == 2
  | .SC_CNT => e == 1 || e == 2 || e == 6
  | _ => false

/-- The word of a staged image's digest (R570): zero while the region holds none. -/
def State.fwDigest (s : State) (i j : Nat) : W64 :=
  if 2 ≤ s.fld (fwState i) 0 0 then BitVec.ofNat 64 ((Config.sha384 (s.fwImage i)).toNat / 2 ^ (64 * j)) else 0

/-- The bits of READY of a stack's channels (R201). -/
def State.readyMask (s : State) (k : Nat) : Nat :=
  ((List.range 64).filter (fun pc => s.chMode k pc == 0)).foldl (fun (m : Nat) pc => m + 2 ^ pc) 0

/-- PENDING of a SHADOW register (R12). -/
def State.overPending (s : State) (id : RegId) (i j : Nat) (f : Fld) (v : W64) : W64 := excess f (b2n (s.isPending id i j)) v

/-- The value of a register with its derived fields in place: what a read returns. -/
def State.view (s : State) (id : RegId) (i j : Nat) : W64 :=
  let v := s.reg id i j
  match id with
  | .FT_STATUS => excess .FT_STATUS_HOLD_AGE s.holdAge (excess .FT_STATUS_DEFER (b2n (decide (10000 < s.holdAge))) v)
  | .TM_STATUS => excess .TM_STATUS_MERGE_BUSY (b2n (s.tm.merge.any (fun (e : MergeEntry) => e.c == i))) v
  | .TMX_HOT_CFG => s.overPending .TMX_HOT_CFG i j .TMX_HOT_CFG_PENDING v
  | .WN_CTL => excess .WN_CTL_INFLIGHT (b2n (s.wnInflight i j)) v
  | .WN_HW_SRC => excess .WN_HW_SRC_INFLIGHT (b2n (s.hwInflight i)) v
  | .PL_STATUS => excess .PL_STATUS_INFLIGHT (b2n (s.plotInflight (48 * i + j))) v
  | .MU_READY => BitVec.ofNat 64 (s.readyMask i)
  | .MU_HOLD => s.overPending .MU_HOLD i j .MU_HOLD_PENDING v
  | .MU_CH => excess .MU_CH_QUEUED (s.muQueue i j).length (overSat .MU_CH_HELD (s.heldAccs i j).length v)
  | .LC_PART_STATE => excess .LC_PART_STATE_N (s.lcPartN i) v
  | .LC_SLICE_STATUS =>
    let n := 32 * i + j
    excess .LC_SLICE_STATUS_OWNER ((s.sliceOwner n).getD 0) <|
    excess .LC_SLICE_STATUS_OWNED (b2n (s.sliceOwner n).isSome) <|
    excess .LC_SLICE_STATUS_MSHR_BUSY (s.lc.regs.filter (fun (r : LcReg) => r.slice == n)).length <|
    excess .LC_SLICE_STATUS_INV_BUSY (s.lcInvBusy n) v
  | .TR_TROUGH =>
    let l := s.trOf i j
    excess .TR_TROUGH_REQ (b2n (decide (l ≠ []))) <|
    excess .TR_TROUGH_CLASS (l.foldl (fun (m : Nat) (r : TrReq) => max m (s.trCls r)) 0) <|
    excess .TR_TROUGH_HELD (l.filter (fun (r : TrReq) => r.holder)).length v
  | .TR_STATUS =>
    excess .TR_STATUS_PHASE (s.trPhase i % 4096) <|
    excess .TR_STATUS_PENDING (b2n ((List.range 48).any (fun r => s.isPending .TR_REQ i r))) v
  | .ST_CTX_STATUS => excess .ST_CTX_STATUS_QUEUED (s.stQueued i j) v
  | .MX_STATUS =>
    excess .MX_STATUS_BUSY (b2n (decide (s.engQueue i 0 ≠ []))) (excess .MX_STATUS_QUEUED (s.engQueue i 0).length v)
  | .VX_STATUS =>
    excess .VX_STATUS_BUSY (b2n (decide (s.engQueue i 1 ≠ []))) (excess .VX_STATUS_QUEUED (s.engQueue i 1).length v)
  | .GT_STATUS =>
    excess .GT_STATUS_BUSY (b2n (decide (s.engQueue i 2 ≠ []))) (excess .GT_STATUS_QUEUED (s.engQueue i 2).length v)
  | .GT_CFG => s.overPending .GT_CFG i j .GT_CFG_PENDING v
  | .MX_CNT => if cycleEvent .MX_CNT j then BitVec.ofNat 64 (Config.cycleCount (regKey .MX_CNT i j) s.now % 2 ^ 48) else v
  | .VX_CNT => if cycleEvent .VX_CNT j then BitVec.ofNat 64 (Config.cycleCount (regKey .VX_CNT i j) s.now % 2 ^ 48) else v
  | .SC_CNT => if cycleEvent .SC_CNT j then BitVec.ofNat 64 (Config.cycleCount (regKey .SC_CNT i j) s.now % 2 ^ 48) else v
  | .SC_CORE_STATUS =>
    excess .SC_CORE_STATUS_READY
      (((List.range 16).filter (fun x => s.ctxState i x == 1)).foldl (fun (m : Nat) x => m + 2 ^ x) 0) v
  | .SC_CORE_CFG => s.overPending .SC_CORE_CFG i j .SC_CORE_CFG_PENDING v
  | .SC_CTX_STATUS => excess .SC_CTX_STATUS_PC (s.slPc i j) v
  | .HQ_VI_CFG => s.overPending .HQ_VI_CFG i j .HQ_VI_CFG_PENDING v
  | .HQ_Q_STATE => excess .HQ_Q_STATE_SQ_HEAD (s.sqHead i) (excess .HQ_Q_STATE_STAGED (s.stagedOf i).length v)
  | .PM_STATUS => excess .PM_STATUS_ACTIVE s.power.thrActive v
  | .PM_GROUP => if i < 3 then v else BitVec.ofNat 64 (getBits v 17 4 * 2 ^ 17)
  | .PM_THR_ACCUM => BitVec.ofNat 64 (s.thrAccum i)
  | .TH_SENSOR => excess .TH_SENSOR_VALID (b2n (s.sensorValid i)) v
  | .TH_CFG => s.overPending .TH_CFG i j .TH_CFG_PENDING v
  | .SV_SVC_STATUS => excess .SV_SVC_STATUS_HANDOVER (b2n (s.svc.handover && s.fwDown)) v
  | .SV_FW_DIGEST => s.fwDigest i j
  | .AU_STATUS => excess .AU_STATUS_UNMIRRORED (min s.unmirrored 1024) v
  | _ => v

end Sys2Proof.Machine
end

