-- ==== Sys2Proof/Machine/Access.lean ====
section
/-! DEFINITION. Reading and writing registers: blocks and their power (R17, R22, R191), width (R15), writers (R22, R555),
apply classes (R11 to R13), audit (R16), and what each accepted write starts. -/
namespace Sys2Proof.Machine

open Sys2Proof

/-! ## Blocks (R17, R22) -/

/-- Whether an offset of a stack's block is held in the IOA domain: the module-wide registers of stack 0 (R191). -/
def ioaStackOff (k rel : Nat) : Bool :=
  k == 0 && (decide (0x1000 ≤ rel ∧ rel < 0x1800) || decide (0x7000 ≤ rel ∧ rel < 0xA000))

/-- The kind of R22 with which an arbiter's block fails: absent stacks ABSENT, absent I/O dies UNMAPPED, unpowered OFF. -/
def State.arbKind (s : State) (arb : Nat) : Nat :=
  if arbLocal arb < 4 then
    if s.stackPresent (4 * (arb / 13) + arbLocal arb) = false then 2 else if s.arbOn arb then 0 else 3
  else if s.ioDies ≤ arb / 13 then 1 else if s.arbOn arb then 0 else 3

/-- 0 while the I/O dies are powered, else OFF. -/
def State.ioKind (s : State) : Nat := if s.power.rails then 0 else 3

/-- R17, R22, R559: the kind with which every access to an offset fails: 1 UNMAPPED, 2 ABSENT, 3 OFF; 0 if none. -/
def State.blockKind (s : State) (off : Nat) : Nat :=
  if off < 0x100000 then 0
  else if s.svc.perm = 4 then 1
  else if off < 0x400000 then
    let c := (off - 0x104000) / 0x40
    if 0x104000 ≤ off ∧ off < 0x104480 then (if s.spineOn (dieOf c) then 0 else 3) else 0
  else if off < 0x800000 then
    if 0x700000 ≤ off ∧ off < 0x720000 ∧ s.ioDies ≤ (off - 0x700000) / 0x10000 then 1 else s.ioKind
  else if off < 0x1000000 then
    if 0x820000 ≤ off ∧ off < 0x860000 ∧ 2 * s.ioDies ≤ (off - 0x820000) / 0x10000 then 1
    else if 0xC00000 ≤ off ∧ off < 0xE00000 ∧ 2 * s.ioDies ≤ (off - 0xC00000) / 0x80000 then 1
    else s.ioKind
  else if off < 0x3400000 then if s.clusterOn ((off - 0x1000000) / 0x200000) then 0 else 3
  else if off < 0x3600000 then
    let d := (off - 0x3400000) / 0x100000
    let rel := (off - 0x3400000) % 0x100000
    if d = 0 ∧ rel < 0x800 then s.ioKind
    else if 0x80000 ≤ rel ∧ rel < 0xB4000 then s.arbKind (13 * d + (rel - 0x80000) / 0x4000)
    else if s.spineOn d then 0 else 3
  else if off < 0x3800000 then 1
  else if off < 0x3A00000 then
    let k := (off - 0x3800000) / 0x40000
    if ioaStackOff k ((off - 0x3800000) % 0x40000) then s.ioKind
    else if s.stackPresent k = false then 2 else if s.stackOn k then 0 else 3
  else 1

/-! ## Places -/

/-- The byte offset of the indexes that a number spells under a list of (count, stride) pairs, last index fastest. -/
def strideOff : List (Nat × Nat) → Nat → Nat
  | [], _ => 0
  | (_, st) :: t, x =>
    let n := t.foldl (fun (m : Nat) d => m * d.1) 1
    x / n * st + strideOff t (x % n)

/-- Whether a number is an index under a list of (count, stride) pairs. -/
def inDims (l : List (Nat × Nat)) (x : Nat) : Bool := decide (x < l.foldl (fun (m : Nat) d => m * d.1) 1)

/-- The offset of a register at this place, if it has these indexes here. -/
def Place.off? (p : Place) (id : RegId) (i j : Nat) : Option Nat :=
  if p.id = id ∧ p.add ≤ i ∧ inDims (p.dims.take p.lead) (i - p.add) ∧ inDims (p.dims.drop p.lead) j then
    some (p.base + strideOff (p.dims.take p.lead) (i - p.add) + strideOff (p.dims.drop p.lead) j)
  else none

/-- The BAR0 offset of a register (R17), if it has these indexes. -/
def offset? (id : RegId) (i j : Nat) : Option Nat := places.findSome? (fun p => p.off? id i j)

/-- The staging registers, one set for each origin (R35). -/
def stagingReg (id : RegId) : Bool :=
  id == .FT_STG_TIME || id == .FT_STG_ARG || id == .FT_STG_CTL || id == .FT_STG_STATUS

/-- The first index of a register as an origin sees it: an origin has staging registers of its own (R35). -/
def ownIx (a : Acc) (id : RegId) (i : Nat) : Nat := if stagingReg id then a.origin.code else i

/-! ## Writers (R22, R99, R555) -/

/-- Whether an origin is the VI that owns a queue or operator register. -/
def viOwns (a : Acc) (id : RegId) (i : Nat) : Bool :=
  let v := match id with
    | .HQ_OP => i
    | .HQ_OP_EST => i
    | .HQ_OP_STATE => i
    | .HQ_OP_CNT => i
    | _ => queueVi i
  match a.origin with
  | .vi u => u == v
  | .steer _ => a.vi == v
  | .herdCore _ => a.vi == v
  | _ => false

/-- The service firmware or VI0. -/
def accRoot (a : Acc) : Bool := a.origin == .vi 0 || a.origin == .serviceFw

/-- Whether the writers of a register include an origin. -/
def State.mayWrite (s : State) (a : Acc) (id : RegId) (i j : Nat) : Bool :=
  match id.info.writers with
  | .any => true
  | .vi0 => a.origin == .vi 0
  | .svc => a.origin == .serviceFw
  | .vi0Svc => accRoot a
  | .vi0SvcShep => accRoot a || a.origin == .shepherd
  | .vi0SvcBmc => accRoot a || a.origin == .bmc
  | .vi0SvcOwner => accRoot a || viOwns a id i
  | .vi0Bmc => a.origin == .vi 0 || a.origin == .bmc
  | .window => accRoot a || (a.origin == .steer i && a.priv)
  | .hwWindow => accRoot a || (match a.origin with | .steer _ => a.priv | .herdCore _ => a.priv | _ => false)
  | .ctxOwner => accRoot a || (match a.origin with
    | .vi u => u == s.ctxVi i j
    | .steer _ => a.vi == s.ctxVi i j
    | .herdCore _ => a.vi == s.ctxVi i j
    | _ => false)
  | .trapRegs => (accRoot a && s.ctxState i j == 0) ||
      (a.priv && a.ctx == j && (match a.origin with | .steer c => i == c | .herdCore n => i == 18 + n | _ => false))

/-! ## Apply classes (R11 to R13) -/

/-- Whether a field of the register has an apply class. -/
def hasClass (id : RegId) (c : ApplyClass) : Bool := id.info.fields.any (fun (f : FieldInfo) => f.ap == c && f.ty != .ro)

/-- Generation `a` is later than `b` in 16-bit serial arithmetic (R173). -/
def genAfter (a b : Nat) : Bool := decide (0 < (a + 65536 - b % 65536) % 65536 ∧ (a + 65536 - b % 65536) % 65536 < 32768)

/-- R11: whether the block is busy for the LOCKED field that starts at bit `lo` of a register, for a write of `v`: the
conditions that the register tables and R90, R99, R106, R110, R156, R170, R171, R175, R204, R224, R297, R375, R457, R506 name. -/
def State.lockBusy (s : State) (id : RegId) (i j lo : Nat) (v : W64) : Bool :=
  match id with
  | .FT_SRC =>
    if lo = 10 then s.role == 3 else s.fld .FT_SRC_MODE 0 0 == 1 && s.fld .FT_STATUS_STATE 0 0 == 1
  | .FT_TRACE_CTL => s.flag .FT_TRACE_CTL_EN i 0
  | .FT_TRACE_BASE => s.flag .FT_TRACE_CTL_EN i 0
  | .TM_CFG => s.tm.merge.any (fun (e : MergeEntry) => e.c == i)
  | .WN_RANGE => s.flag .WN_CTL_OPEN i j || s.wnInflight i j
  | .WN_SRC => s.flag .WN_CTL_OPEN i j || s.wnInflight i j
  | .WN_CTL => s.flag .WN_CTL_OPEN i j || s.wnInflight i j
  | .WN_HW_RANGE => s.flag .WN_HW_CTL_OPEN i 0 || s.hwInflight i
  | .WN_HW_SRC => s.flag .WN_HW_CTL_OPEN i 0 || s.hwInflight i
  | .WN_HW_CTL => s.flag .WN_HW_CTL_OPEN i 0 || s.hwInflight i
  | .LK_PART => (List.range 64).any (fun w => s.flag .LK_WORD_HELD i (64 * j + w))
  | .IN_SCRUB_BASE => s.flag .IN_SCRUB_CTL_RUNNING i j
  | .IN_SCRUB_LIMIT => s.flag .IN_SCRUB_CTL_RUNNING i j
  | .IN_SCRUB_CTL => s.flag .IN_SCRUB_CTL_RUNNING i j
  | .PL_CTL =>
    let p := 48 * i + j
    s.plotInflight p || s.plotState p == 1 ||
      (List.range 64).any (fun pc => s.chMode i pc == 2 && s.fld .MU_CH_BANK i pc == j)
  | .PL_TAG =>
    s.flag .PL_CTL_TAGGED i j && !(s.flag .PL_STATUS_RETIRED i j) &&
      !(genAfter (s.fld .PL_TAG_GEN i j) (s.fld .HQ_GEN_ACTIVE (s.fld .PL_TAG_TSET i j) 0))
  | .PL_FILL => s.hbm.rangeFill.any (fun x => x.1 == i)
  | .PL_FILL_RANGE => s.hbm.rangeFill.any (fun x => x.1 == i)
  | .MU_WIN_CTL => s.fld .MU_WIN_CTL_STATE i 0 != 0
  | .MU_WIN_MASK => s.fld .MU_WIN_CTL_STATE i 0 != 0
  | .LC_PART => s.lcPartBusy i v.toNat
  | .ST_CTX_CFG => s.stBusy i j
  | .ST_CTX_CRUMB => s.stBusy i j
  | .SC_CORE_CFG => (List.range 16).any (fun x => s.ctxState i x != 0)
  | .SC_CTX_CFG => s.ctxState i j != 0 && s.ctxState i j != 4
  | .HQ_VI_CFG => s.viQueuesOn i
  | .HQ_OP => s.flag .HQ_OP_EN i j
  | .HQ_Q_CFG => s.queueLive i
  | .HQ_Q_SQB => s.queueLive i
  | .HQ_Q_CQB => s.queueLive i
  | .HL_PORT_CFG => s.fld .HL_PORT_STATUS_STATE i 0 != 0
  | .HL_DIMS => s.role != 0
  | .HD_CFG => s.role != 0
  | .HD_TABLE => s.entryState i == 1
  | .HD_TABLE_ENTRY => s.entryState i == 1
  | .PM_SPLIT => s.flag .PM_STATUS_RUNNING 0 0
  | _ => false

/-- R11: a LOCKED field whose block is busy. -/
def State.fieldBusy (s : State) (id : RegId) (i j : Nat) (v : W64) (f : FieldInfo) : Bool :=
  f.ap == .locked && f.ty != .ro && s.lockBusy id i j f.lo v

/-- Whether a write of `v` acts on a field: it sets or clears a bit of it, changes its value, or triggers it (R10). -/
def FieldInfo.actsOn (f : FieldInfo) (v old : W64) : Bool :=
  match f.ty with
  | .ro => false
  | .rw => getBits v f.lo f.w != getBits old f.lo f.w
  | _ => getBits v f.lo f.w != 0

/-- R11, R13: whether a write is refused with LOCKED: the register has a busy LOCKED field, and the write acts on no field that is
not busy, so that it is a write of the busy fields, whatever value it gives them. A write that acts on another field of the register
is carried out for that field, and the busy ones keep their values (DEDUCED, log entry 51). -/
def State.lockedOut (s : State) (id : RegId) (i j : Nat) (v : W64) : Bool :=
  id.info.fields.any (s.fieldBusy id i j v) &&
    id.info.fields.all (fun (f : FieldInfo) => s.fieldBusy id i j v f || !(f.actsOn v (s.reg id i j)))

/-- A written value with the busy LOCKED fields as the register holds them. -/
def State.keepBusy (s : State) (id : RegId) (i j : Nat) (v : W64) : W64 :=
  id.info.fields.foldl (fun (a : W64) (f : FieldInfo) =>
    if s.fieldBusy id i j v f then setBits a f.lo f.w (getBits (s.reg id i j) f.lo f.w) else a) v

/-- R16: the registers whose accepted writes are audited: all but data-path registers, those no write changes, and the
staging registers, whose commit is the audited write (R35; log entry 52). -/
def audited (id : RegId) : Bool :=
  !id.info.data && !(stagingReg id) && id.info.fields.any (fun (f : FieldInfo) => f.ty == .rw || f.ty == .rw1s || f.ty == .wo)

/-! ## The store (R10, R14) -/

/-- R10: what one field holds after a write of `v`. -/
def FieldInfo.write (f : FieldInfo) (v old : W64) : W64 :=
  match f.ty with
  | .rw => setBits old f.lo f.w (getBits v f.lo f.w)
  | .w1c => setBits old f.lo f.w (getBits (old &&& ~~~v) f.lo f.w)
  | .rw1s => setBits old f.lo f.w (getBits (old ||| v) f.lo f.w)
  | .wo => old
  | .ro => old

/-- R10, R14: what a register holds after a write of `v`; reserved bits stay as they are. -/
def writtenValue (id : RegId) (v old : W64) : W64 := id.info.fields.foldl (fun (a : W64) (f : FieldInfo) => f.write v a) old

/-- Writes that a register's own sentence makes ineffective: the point fields of PM_GROUP for MEM and IO, HD_TABLE away from
the shepherd (log entry 53), FT_TRACE_TAIL outside the ring, and a lower SV_FW_FLOOR. -/
def State.writeIgnored (s : State) (id : RegId) (i : Nat) (v : W64) : Bool :=
  match id with
  | .PM_GROUP => decide (3 ≤ i)
  | .HD_TABLE => s.role != 3 && s.role != 0
  | .HD_TABLE_ENTRY => s.role != 3 && s.role != 0
  | .FT_TRACE_TAIL => !(s.traceTailOk i (getBits v 0 26))
  | .SV_FW_FLOOR => decide (getBits v 0 16 < s.fld .SV_FW_FLOOR_FLOOR 0 0)
  | _ => false

/-! ## What an accepted write starts -/

/-- PL_CTL (R169): a fill starts, or the plot is OFF. -/
def State.afterPlCtl (s : State) (i j : Nat) (old : W64) : State :=
  let p := 48 * i + j
  let new := s.reg .PL_CTL i j
  if getBit new 0 then
    if getBit old 0 = false ∨ getBits old 1 2 ≠ getBits new 1 2 ∨ getBits old 4 6 ≠ getBits new 4 6 then s.startFill p else s
  else
    (s.setFld .PL_STATUS_STATE i j 0).withHbm { s.hbm with fills := s.hbm.fills.filter (fun x => x.1 != p) }

/-- ST_CMD (R270, R288, R291): the commands of a stream context, acting for the origin's VI. -/
def State.afterStCmd (s : State) (a : Acc) (i j : Nat) (v : W64) : State :=
  let vi := postVi a
  let fin := fun (r : Nat × State) => (r.2.setFld .ST_CMD_RESULT i j r.1).setFlag .ST_CMD_ISSUE i j false
  let s1 := if getBit v 1 then fin (s.stCancel i j vi) else s
  let s2 := if getBit v 2 then fin (s1.stResume i j vi) else s1
  if getBit v 0 then
    fin (s2.stIssueList i j vi (s.fld .ST_CMD_LIST_LIST i j) (s.fld .ST_CMD_LIST_SPACE i j))
  else s2

/-- IN_SCRUB_CTL (R143, R156): STOP ends the pass after its current access, GO starts one. -/
def State.afterScrub (s : State) (i j : Nat) (v : W64) : State :=
  let s1 := if getBit v 34 then s.scrubStopGo i j else s
  if getBit v 33 then ((s1.scrubStart i j).2).setFlag .IN_SCRUB_CTL_GO i j false else s1

/-- SC_CTX_CTL (R336, R338). -/
def State.afterCtxCtl (s : State) (i j : Nat) (v : W64) : State :=
  let s1 := if getBit v 0 then s.ctxStart i j else s
  let s2 := if getBit v 1 then s1.ctxStop i j else s1
  if getBit v 2 then s2.ctxReset i j else s2

/-- HD_TABLE (R485): the shepherd tells the standby of a change. -/
def State.afterTable (s : State) (h : Nat) : State :=
  if s.role = 3 then (s.withHerd { s.herd with tableVer := (s.herd.tableVer + 1) % 2 ^ 16 }).mirror h else s

/-- The mule commands of MU_CMD act for VI0, or for the service firmware (R192). -/
def State.afterMuCmd (s : State) (a : Acc) : State := s.muCmdGo (postVi a) (a.origin == .serviceFw)

/-- What an accepted write of `v` to a register that held `old` starts, once the register holds its new value. -/
def State.afterWrite (s : State) (a : Acc) (id : RegId) (i j : Nat) (v old : W64) : State :=
  match id with
  | .SV_ACCESS_ERR => if getBit v 63 then s.setReg .SV_ACCESS_ERR 0 0 0 else s
  | .FT_CTRL => if getBit v 0 then s.acceptStepGo else s
  | .FT_STG_CTL => if getBit v 31 then s.stageCommit a else s
  | .FT_TRACE_CTL => if getBit v 0 ∧ getBit old 0 = false then s.traceEnable i else s
  | .TMX_CNT_CTL => if getBit v 1 then s.clearPortCounters i else s
  | .WN_CNT => s.cntWritten i j
  | .WN_CNT_SUB =>
    let t := (s.cntMeet i j).2.cntWritten i j
    t.setFld .WN_CNT_VALUE i j (t.fld .WN_CNT_VALUE i j + (2 ^ 32 - getBits v 0 32))
  | .LK_FORCE => if getBit v 31 then s.lkForceGo i else s
  | .IN_ECNT_CLR => if getBit v 0 then s.clearErrors i else s
  | .IN_SCRUB_CTL => s.afterScrub i j v
  | .IN_DIAG => if getBit v 1 then s.splitWrite i else s
  | .IN_REPAIR => if getBit v 41 ∧ getBit old 41 = false then s.repairGo i else s
  | .PL_CTL => s.afterPlCtl i j old
  | .PL_TAG => s.setFlag .PL_STATUS_RETIRED i j false
  | .PL_FILL => if getBit v 31 then s.rangeFillGo i else s
  | .PL_TLB_INV => if getBit v 7 ∧ getBit old 7 = false then s.tlbInvGo else s
  | .MU_CMD_GO => if getBit v 0 then s.afterMuCmd a else s
  | .MU_WIN_CMD => if getBit v 31 then s.muWinCmd else s
  | .MU_SUSPECT => if getBit v 31 then s.setReg .MU_SUSPECT i j 0 else s
  | .LC_PART => s.lcSweep i (old.toNat ||| v.toNat)
  | .LC_OP => if getBit v 31 ∧ getBit old 31 = false then s.lcOpStart s.lcOpOf else s
  | .LC_CNT_CTL => if getBit v 1 then s.lcClearCounters i else s
  | .TR_CNT_CLR => if getBit v 0 then s.trClearCounters i else s
  | .ST_CMD => s.afterStCmd a i j v
  | .ST_CNT_CLR => if getBit v 0 then s.stClearCounters i else s
  | .MX_CNT_CLR => if getBit v 0 then s.engClearCounters i 0 else s
  | .VX_CNT_CLR => if getBit v 0 then s.engClearCounters i 1 else s
  | .GT_CNT_CLR => if getBit v 0 then s.engClearCounters i 2 else s
  | .SC_CTX_CTL => s.afterCtxCtl i j v
  | .SC_CORE_CTL => if getBit v 0 then s.coreReset i else s
  | .SC_CTX_KICK => if getBit v 0 then s.raiseIrq i j 1 else s
  | .SC_CNT_CLR => if getBit v 0 then s.scClearCounters i else s
  | .SC_CFG_ERR => if getBit v 63 then s.setReg .SC_CFG_ERR i 0 0 else s
  | .HQ_VI_RESET => if getBit v 31 ∧ getBit old 31 = false then s.viResetGo else s
  | .HQ_OP => if getBit v 0 ∧ getBit old 0 = false then s.operatorEnable i j else s
  | .HQ_OP_EST => s.setFld .HQ_OP_STATE_S i j (getBits v 0 32)
  | .HQ_Q_CFG => if getBit v 0 ∧ getBit old 0 = false then s.queueEnable i else s
  | .HQ_Q_CTL => if getBit v 0 then s.queueCancel i else s
  | .HQ_POST_HQ => s.hqPost a v false
  | .HQ_POST => s.hqPost a v false
  | .HD_CTL => if getBit v 31 ∧ getBit old 31 = false then s.hdGo a else s
  | .HD_TABLE => s.afterTable i
  | .HD_TABLE_ENTRY => s.afterTable i
  | .PM_CTL => if getBit v 0 then s.pmStart else s
  | .SV_FW_LEN => if getBit v 31 then s.fwLoadGo else s
  | .AU_ACK => if a.origin = .vi 0 ∧ s.role = 3 then s.auditAck v.toNat else s
  | .AU_RD_SEQ => s.auditFetch
  | .LF_REQ => if getBit v 31 then s.lfGo a else s
  | .NS_CMD => if getBit v 31 then s.nestGo a else s
  | .SV_SPARE_CMD => if getBit v 31 then s.spareGo i else s
  | .SV_RETIRE =>
    if getBit v 31 then
      let (x, t) := s.free 1
      t.retireGo (x == 1)
    else s
  | _ => s

/-! ## One access -/

/-- R22, R405: the kind with which a write that reached its register is refused, 0 if it is accepted: NOT_PERMITTED, then
WIDTH, LOCKED, STROKE and LOG_FULL. -/
def State.writeKind (s : State) (w : Wr) (id : RegId) (i j : Nat) : Nat :=
  if s.mayWrite w.acc id i j = false then 8
  else if id.info.width = 64 ∧ w.wide = false then 4
  else if s.lockedOut id i j w.value then 5
  else if hasClass id .stroke then 6
  else if audited id ∧ s.logRefuses then 7
  else 0

/-- The value that a register of this width takes from a write. -/
def RegId.narrow (id : RegId) (v : W64) : W64 := if id.info.width = 64 then v else BitVec.ofNat 64 (v.toNat % 2 ^ 32)

/-- A write as its register sees it, of the register's own width. -/
def wrForReg (w : Wr) (id : RegId) : Wr := { w with wide := id.info.width == 64, value := id.narrow w.value }

/-- The register holds the value written, waits for its boundary if it is SHADOW, and the change is audited. -/
def State.storeWrite (s : State) (w : Wr) (id : RegId) (i j off : Nat) : State :=
  let old := s.reg id i j
  let new := writtenValue id (s.keepBusy id i j w.value) old
  let s1 := s.setReg id i j new
  let s2 := if hasClass id .shadow then s1.shadowWait id i j else s1
  if audited id then s2.auditChange (wrForReg w id) off old new else s2

/-- R10 to R16: an accepted write of a register takes effect; `act` is what it starts. -/
def State.acceptBy (s : State) (w : Wr) (id : RegId) (i j off : Nat) (act : State → State) : State :=
  if s.writeIgnored id i w.value then s else act (s.storeWrite w id i j off)

/-- R22, R23, R566: a refused write is captured; kinds 5 to 8 are audited as refusals; one that finds 1,024 entries
unmirrored sets MIRROR_BEHIND. -/
def State.refused (s : State) (w : Wr) (id : RegId) (i j off kind : Nat) : State :=
  if kind ≤ 4 then s.accessErr w.acc off kind true
  else
    let s1 := if kind = 7 ∧ s.flag .AU_STATUS_FULL 0 0 = false then s.setFlag .AU_STATUS_MIRROR_BEHIND 0 0 true else s
    s1.refuseWrite (wrForReg w id) off kind (s.reg id i j)

/-- A write of one register that its block lets through, with what an accepted one starts: its kind and the state. -/
def State.regWriteBy (s : State) (w : Wr) (id : RegId) (i j off : Nat) (act : State → State) : Nat × State :=
  let k := s.writeKind w id i j
  if k = 0 then (0, s.acceptBy w id i j off act) else (k, s.refused w id i j off k)

/-- A write as a register of this width takes it. -/
def narrowWr (w : Wr) (id : RegId) : Wr := { w with value := id.narrow w.value }

/-- A write of one register that its block lets through. -/
def State.regWrite (s : State) (w : Wr) (id : RegId) (i j off : Nat) : Nat × State :=
  s.regWriteBy (narrowWr w id) id i j off (fun t => t.afterWrite w.acc id i j (id.narrow w.value) (s.reg id i j))

/-- Whether the path of an access works: host functions reach BAR0 once the module has booted and while their port is out of
reset (R628; log entry 54), cores while they are powered, and every path while the SVC domain is on. -/
def State.pathOpen (s : State) (a : Acc) : Bool :=
  s.power.svcOn && (match a.origin with
    | .vi _ => s.power.rails && s.bootStage == 11 && !(s.perstLow a.port)
    | .steer c => s.clusterOn c
    | .herdCore _ => s.power.rails
    | .shepherd => s.power.rails
    | _ => true)

/-- R422: the PF offset of an offset in the BAR0 of VF `v`, if one of its registers lies there. -/
def vfOffset (v off : Nat) : Option Nat :=
  if 0x1000 ≤ off ∧ off < 0x1040 then some (0x401000 + 64 * v + (off - 0x1000))
  else if 0x20000 ≤ off ∧ off < 0x20800 then some (0x420000 + 0x800 * v + (off - 0x20000))
  else if 0x100000 ≤ off ∧ off < 0x108000 then some (0x500000 + 32 * (1024 * v) + (off - 0x100000))
  else if 0x180000 ≤ off ∧ off < 0x182000 then some (0x780000 + 8 * (1024 * v) + (off - 0x180000))
  else none

/-- R422: whether a PF offset lies in the view of VF `v`. -/
def inVfView (v off : Nat) : Bool :=
  decide (0x401000 + 64 * v ≤ off ∧ off < 0x401040 + 64 * v) ||
    decide (0x420000 + 0x800 * v ≤ off ∧ off < 0x420800 + 0x800 * v) ||
    decide (0x500000 + 32 * (1024 * v) ≤ off ∧ off < 0x508000 + 32 * (1024 * v)) ||
    decide (0x780000 + 8 * (1024 * v) ≤ off ∧ off < 0x782000 + 8 * (1024 * v))

/-- R423: whether an origin sees a PF offset: a VF sees its own view while it is live on its port. -/
def State.sees (s : State) (a : Acc) (off : Nat) : Bool :=
  match a.origin with
  | .vi 0 => true
  | .vi v => s.viPort v == a.port && inVfView v off
  | _ => true

/-- R423: the PF offset that an access reaches: through a VF's own view for a VF that is live on its port. -/
def State.pathOffset (s : State) (a : Acc) (off : Nat) : Option Nat :=
  match a.origin with
  | .vi 0 => some off
  | .vi v => if s.viPort v = a.port then vfOffset v off else none
  | _ => some off

/-- A write of the register `id` at its own offset, with what an accepted one starts. Offsets that fail with their block are
captured; an index that the register lacks is no write. -/
def State.rowWriteBy (s : State) (w : Wr) (id : RegId) (i j : Nat) (act : State → State) : Nat × State :=
  match offset? id i j with
  | none => (0, s)
  | some off =>
    if s.pathOpen w.acc = false then (3, s)
    else
      let b := if s.sees w.acc off then s.blockKind off else 1
      if b ≠ 0 then (b, s.accessErr w.acc off b true)
      else s.regWriteBy (narrowWr w id) id (ownIx w.acc id i) j off act

/-- A write of the register `id` at its own offset: the meaning that the commands of a named register share. -/
def State.rowWrite (s : State) (w : Wr) (id : RegId) (i j : Nat) : Nat × State :=
  s.rowWriteBy w id i j (fun t =>
    t.afterWrite w.acc id (ownIx w.acc id i) j (id.narrow w.value) (s.reg id (ownIx w.acc id i) j))

/-- R341, R367: the core and the word of steer memory behind an offset, if it lies in a steer-memory window. -/
def steerWinAt (off : Nat) : Option (Nat × Nat) :=
  if 0x1000000 ≤ off ∧ off < 0x3400000 ∧ 0x100000 ≤ (off - 0x1000000) % 0x200000 ∧ (off - 0x1000000) % 0x200000 < 0x180000 then
    some ((off - 0x1000000) / 0x200000, (off % 0x80000) / 4)
  else if 0xC00000 ≤ off ∧ off < 0xE00000 then some (18 + (off - 0xC00000) / 0x80000, (off % 0x80000) / 4)
  else none

/-- R341: a 32-bit write through the window stores a whole word with fresh check bits. -/
def State.steerWinWrite (s : State) (a : Acc) (core word off : Nat) (v : W32) : Nat × State :=
  if accRoot a then (0, s.steerStore core word ⟨v, false⟩)
  else (8, s.refuseWrite ⟨a, false, v.setWidth 64⟩ off 8 0)

/-- R341: a 32-bit read through the window; a poisoned word returns its tag. -/
def State.steerWinRead (s : State) (a : Acc) (core word off : Nat) : PW × State :=
  if accRoot a then s.steerWord core word else (⟨0, false⟩, s.accessErr a off 8 false)

/-- A write of 32 bits, or of 64 where a 64-bit register stands, at an offset of BAR0 (R14, R15). -/
def State.writeAt (s : State) (w : Wr) (off : Nat) : Nat × State :=
  let b := s.blockKind off
  if b ≠ 0 then (b, s.accessErr w.acc off b true)
  else match steerWinAt off, regAt off with
    | some (core, word), _ => s.steerWinWrite w.acc core word off (w.value.setWidth 32)
    | none, none => (0, s)
    | none, some r => s.regWrite w r.id (ownIx w.acc r.id r.i) r.j off

/-- The offset as its block sees it, aligned to the access (log entry 55). -/
def alignOff (wide : Bool) (off : Nat) : Nat := if wide then off / 8 * 8 else off / 4 * 4

/-- The two 32-bit halves of a value. -/
def halfOf (v : W64) (hi : Bool) : W64 := BitVec.ofNat 64 (if hi then v.toNat / 2 ^ 32 else v.toNat % 2 ^ 32)

/-- R15: whether a 64-bit access at an offset is made as two of 32 bits: a 32-bit register stands there, or none does. -/
def State.splits (s : State) (off : Nat) : Bool :=
  match regAt off with
  | some r => r.id.info.width == 32
  | none => s.blockKind off == 0

/-- R15: a write of BAR0: a 64-bit one that meets no 64-bit register is two of 32 bits, the lower address first, each judged
on its own. The kind answered is the first that is not 0. -/
def State.busWrite (s : State) (w : Wr) (off0 : Nat) : Nat × State :=
  let off := alignOff w.wide off0
  if w.wide ∧ s.splits off then
    let (k1, s1) := s.writeAt { w with wide := false, value := halfOf w.value false } off
    let (k2, s2) := s1.writeAt { w with wide := false, value := halfOf w.value true } (off + 4)
    (if k1 ≠ 0 then k1 else k2, s2)
  else s.writeAt w off

/-! ## Reads (R14, R15, R22) -/

/-- What a register reads as: reserved and write-only bits are 0 (R10, R14). -/
def readable (id : RegId) (v : W64) : W64 :=
  id.info.fields.foldl (fun (a : W64) (f : FieldInfo) =>
    if f.ty == .wo then a else setBits a f.lo f.w (getBits v f.lo f.w)) 0

/-- LF_CHALLENGE word 0: a read makes a fresh nonce (R573). -/
def State.beforeRead (s : State) (id : RegId) (i : Nat) : State :=
  if id = .LF_CHALLENGE ∧ i = 0 then (s.freshNonce).2 else s

/-- A read of 32 bits at an offset whose block answers (R14, R15). -/
def State.readAt (s : State) (a : Acc) (off : Nat) : PW × State :=
  match steerWinAt off, regAt off with
  | some (core, word), _ => s.steerWinRead a core word off
  | none, none => (⟨0, false⟩, s)
  | none, some r =>
    let s1 := s.beforeRead r.id (if r.byte = 0 then r.i else 1)
    let v := readable r.id (s1.view r.id (ownIx a r.id r.i) r.j)
    (⟨BitVec.ofNat 32 (getBits v (if 4 ≤ r.byte then 32 else 0) 32), false⟩, s1)

/-- A read of 32 bits: its kind, its word, 0 where it fails, and the state (R22). -/
def State.readOne (s : State) (a : Acc) (off : Nat) : Nat × PW × State :=
  let b := s.blockKind off
  if b ≠ 0 then (b, ⟨0, false⟩, s.accessErr a off b false)
  else
    let (w, s1) := s.readAt a off
    (0, w, s1)

/-- R15, R22: a read of BAR0: its kind, its words, all 0 where it fails, and the state. -/
def State.busRead (s : State) (a : Acc) (wide : Bool) (off0 : Nat) : Nat × List PW × State :=
  let off := alignOff wide off0
  let (k1, lo, s1) := s.readOne a off
  if wide = false then (k1, [lo], s1)
  else if s.splits off then
    let (k2, hi, s2) := s1.readOne a (off + 4)
    (if k1 ≠ 0 then k1 else k2, [lo, hi], s2)
  else if k1 ≠ 0 then (k1, [lo, lo], s1)
  else
    let (hi, s2) := s1.readAt a (off + 4)
    (0, [lo, hi], s2)

end Sys2Proof.Machine
end

