-- ==== Sys2Proof/Machine/MuleRun.lean ====
section
/-! DEFINITION. Mule commands in execution: row steps, the budget of activations, the end of a command, DRAIN and EXIT (R193 to R195, R199, R200,
R207, R208, R217). -/
namespace Sys2Proof.Machine

open Sys2Proof

/-! ## Running a command (R193 to R198, R207 to R209, R217) -/

/-- R217: the source sector of row step `i` that the on-die ECC reports, if there is one: its row and number. -/
def State.muBad (s : State) (op : MuleOp) (d : BitVec 256) (stack pc k i : Nat) : Option (Nat × Nat) :=
  let rows := (if op.readsA then [mdRowA d + i] else []) ++ (if op.readsB then [mdRowB d + i] else [])
  rows.findSome? (fun r => ((List.range 32).find? (fun sec => s.sectorBad stack pc k r sec)).map (fun sec => (r, sec)))

/-- R194, R208: whether row step `i` must wait: for the allowance of a channel it activates rows in, or for a bank under refresh. -/
def State.muSpent (s : State) (d : BitVec 256) (stack pc : Nat) : Bool :=
  decide (muAllowance (s.stackLevel stack) ≤ s.muUsed stack pc) ||
    (mdOp d == 9 && decide (muAllowance (s.stackLevel stack) ≤ s.muUsed stack (mdDstPc d)))

/-- Rows `i` and on, `n` of them: the status, none where the command goes on later; the rows done; and the state. `err` is the step at
which the mule itself fails (R217). -/
def State.muRows (op : MuleOp) (d : BitVec 256) (stack pc k : Nat) (err : Option Nat) :
    Nat → Nat → State → Option Nat × Nat × State
  | 0, i, s => (if mdCount d ≤ i then some 0 else none, i, s)
  | n + 1, i, s =>
    let (dpc, dbank, drow) := muDest d pc k i
    if s.muSpent d stack pc ∨ s.bankHeld stack pc k ∨ s.bankHeld stack dpc dbank then (none, i, s)
    else if s.muReadsSuspect op d stack pc k i then (some 0x10, i, s)
    else match s.muBad op d stack pc k i with
      | some (r, sec) => (some 0x10, i, (s.sectorUe (48 * stack + k) pc r sec).2)
      | none =>
        if err = some i then (some 0x11, i, s.setSuspect stack dpc dbank drow 0x11)
        else State.muRows op d stack pc k err n (i + 1) (s.muRowStep op d stack pc k i)

/-- Whether the head of a channel's queue may run a row step of an operation now: it has begun and its channel has not left PROC or
EXIT, or it starts in PROC and no check refuses it (R198, R200). -/
def State.muMayRun (s : State) (code stack pc : Nat) : Bool :=
  match s.muQueue stack pc with
  | [] => false
  | m :: _ => mdOp m.desc == code && m.done.isNone &&
      (if m.begun then s.chMode stack pc == 2 || s.chMode stack pc == 3
       else s.chMode stack pc == 2 && s.muCheck stack pc m == 0)

/-- The time a channel's command has waited for its allowance is accounted on its stack up to now. -/
def State.muWaited (s : State) (k : Nat) : State :=
  let at_ := sget (fun _ => 0) s.mule.since k
  if at_ = 0 then s
  else s.setFld .MU_BUDGET_NS_NS (k / 64) 0 (s.fld .MU_BUDGET_NS_NS (k / 64) 0 + (s.now + 1 - at_))

/-- R208: a channel's command waits for its allowance from now on, or no more; throttle reason MULE_ACTIVITY is active while one does. -/
def State.muWait (s : State) (stack pc : Nat) (waits : Bool) : State :=
  let k := chKey stack pc
  let s1 := s.muWaited k
  let s2 := s1.withMule { s1.mule with since := sset (fun _ => 0) s1.mule.since k (if waits then s1.now + 1 else 0) }
  s2.throttle 8 (!s2.mule.since.isEmpty)

/-- R193 to R198, R207, R208: the command at the head of a channel's queue runs up to `most` row steps, as far as the allowance and the
bank let it, if it is this operation and may run. Its rows are counted. `ue` names a sector that the on-die ECC finds uncorrectable:
the step, whether its row is source B, and the sector. -/
def State.muExec (s : State) (op : MuleOp) (most stack pc : Nat) (ue : Option (Nat × Bool × Nat)) (err : Option Nat) : State :=
  match s.muQueue stack pc with
  | [] => s
  | m :: q =>
    if s.muMayRun op.code stack pc then
      let k := s.fld .MU_WIN_CTL_BANK (mdWindow m.desc) 0
      let s0 := match ue with
        | some (i, b, sec) =>
          s.strikeSector (48 * stack + k) pc ((if b then mdRowB m.desc else mdRowA m.desc) + i) (sec % 32) true
        | none => s
      let (st, n, s1) := State.muRows op m.desc stack pc k err (min most (mdCount m.desc - m.rows)) m.rows s0
      let s2 := s1.setFld .MU_CH_ROWS stack pc (s1.fld .MU_CH_ROWS stack pc + (n - m.rows))
      let s3 := s2.setMuQueue stack pc ({ m with begun := m.begun || st.isSome || decide (m.rows < n), done := st, rows := n } :: q)
      s3.muWait stack pc (st.isNone && s3.muSpent m.desc stack pc)
    else s

/-- One of the operations at the head of a channel's queue. -/
def State.muRun (s : State) (code most stack pc : Nat) (ue : Option (Nat × Bool × Nat)) (err : Option Nat) : State :=
  match muOp code with
  | some op => s.muExec op most stack pc ue err
  | none => s

/-- ROWCOPY: D ← A. -/
def execRowcopy (stack pc : Nat) (ue : Option (Nat × Bool × Nat)) (err : Option Nat) (s : State) : Host.Outcome State Fault Refusal :=
  .next (s.muRun 1 256 stack pc ue err)
/-- ROWINIT: D ← PATTERN, repeated. -/
def execRowinit (stack pc : Nat) (ue : Option (Nat × Bool × Nat)) (err : Option Nat) (s : State) : Host.Outcome State Fault Refusal :=
  .next (s.muRun 2 256 stack pc ue err)
/-- ROWAND: D ← A AND B. -/
def execRowand (stack pc : Nat) (ue : Option (Nat × Bool × Nat)) (err : Option Nat) (s : State) : Host.Outcome State Fault Refusal :=
  .next (s.muRun 3 256 stack pc ue err)
/-- ROWOR: D ← A OR B. -/
def execRowor (stack pc : Nat) (ue : Option (Nat × Bool × Nat)) (err : Option Nat) (s : State) : Host.Outcome State Fault Refusal :=
  .next (s.muRun 4 256 stack pc ue err)
/-- ROWXOR: D ← A XOR B. -/
def execRowxor (stack pc : Nat) (ue : Option (Nat × Bool × Nat)) (err : Option Nat) (s : State) : Host.Outcome State Fault Refusal :=
  .next (s.muRun 5 256 stack pc ue err)
/-- ROWANDN: D ← A AND NOT B. -/
def execRowandn (stack pc : Nat) (ue : Option (Nat × Bool × Nat)) (err : Option Nat) (s : State) : Host.Outcome State Fault Refusal :=
  .next (s.muRun 6 256 stack pc ue err)
/-- ROWNOT: D ← NOT A. -/
def execRownot (stack pc : Nat) (ue : Option (Nat × Bool × Nat)) (err : Option Nat) (s : State) : Host.Outcome State Fault Refusal :=
  .next (s.muRun 7 256 stack pc ue err)
/-- CHAIN: row A of bank k ± 1 ← row A of bank k. -/
def execChain (stack pc : Nat) (ue : Option (Nat × Bool × Nat)) (err : Option Nat) (s : State) : Host.Outcome State Fault Refusal :=
  .next (s.muRun 8 256 stack pc ue err)

/-- R195: the channel of a stack whose row crosses the bus next: of those that wait with a BUSCOPY that may run, the first in ascending
index after the one served last. -/
def State.busNext (s : State) (stack : Nat) : Option Nat :=
  let last := sget (fun _ => 63) s.mule.bus stack
  ((List.range 64).map (fun k => (last + 1 + k) % 64)).find? (fun pc =>
    s.muMayRun 9 stack pc && !(match s.muQueue stack pc with | m :: _ => s.muSpent m.desc stack pc | [] => true))

/-- BUSCOPY (R195): row D of another channel and bank ← row A, one row of the command for each grant of the bus, which serves the
waiting channels in turn. -/
def execBuscopy (stack pc : Nat) (ue : Option (Nat × Bool × Nat)) (err : Option Nat) (s : State) : Host.Outcome State Fault Refusal :=
  .next <|
    if s.busNext stack = some pc then
      let s1 := s.muRun 9 1 stack pc ue err
      s1.withMule { s1.mule with bus := sset (fun _ => 63) s1.mule.bus stack pc }
    else s

/-- R208: a channel whose command waits for its allowance at its end. -/
def State.muOwes (s : State) (stack pc : Nat) (d : BitVec 256) : Bool :=
  decide (muAllowance (s.stackLevel stack) < s.muUsed stack pc) ||
    (mdOp d == 9 && decide (muAllowance (s.stackLevel stack) < s.muUsed stack (mdDstPc d)))

/-- MULE_COMMAND_DONE (R199, R207): the head leaves the queue: a command that has ended, once its activations fit the
allowance, or one that is refused at the head. A channel whose rows equal its window's limit then enters EXIT. -/
def execMuleCommandDone (stack pc : Nat) (s : State) : Host.Outcome State Fault Refusal :=
  .next <|
    match s.muQueue stack pc with
    | [] => s
    | m :: q =>
      match m.done with
      | some st =>
        if s.muOwes stack pc m.desc ∧ s.chMode stack pc = 2 then s.muWait stack pc true
        else
          let s1 := ((s.setMuQueue stack pc q).muFinish stack pc m st).muWait stack pc false
          if s1.chMode stack pc = 2 ∧ s1.muLimit (s1.fld .MU_CH_WINDOW stack pc) ≤ s1.fld .MU_CH_ROWS stack pc then
            s1.setFld .MU_CH_MODE stack pc 3
          else s1
      | none =>
        let st := s.muCheck stack pc m
        if m.begun = false ∧ st ≠ 0 ∧ (s.chMode stack pc = 2 ∨ s.chMode stack pc = 0) then
          (s.setMuQueue stack pc q).muFinish stack pc m st
        else s

/-- DRAIN_COMPLETE (R200): no access admitted before DRAIN is left, and the channel enters PROC. -/
def execDrainComplete (stack pc : Nat) (s : State) : Host.Outcome State Fault Refusal :=
  .next <|
    if s.chMode stack pc = 1 ∧
        !(s.hbm.accs.any (fun (a : SectorAcc) => !a.held && plotStack a.plot == stack && a.pc == pc)) then
      s.setFld .MU_CH_MODE stack pc 2
    else s

/-- EXIT_COMPLETE (R200, R202, R204): a channel in EXIT with no command in progress returns to MEM, its held traffic is released, split writes
that waited for it are made, and a window with no channel left is CLOSED. -/
def execExitComplete (stack pc : Nat) (s : State) : Host.Outcome State Fault Refusal :=
  .next <|
    if s.chMode stack pc = 3 ∧ s.muRunning stack pc = false then
      ((s.chanRelease stack pc).muSettle (s.fld .MU_CH_WINDOW stack pc)).splitRetry (stackDie stack)
    else s

/-- BUDGET_PERIOD (R208): the period in which FT_NOW lies starts: each channel has a new allowance for each 1 µs gone by, the time that commands
waited is accounted, and those that still wait go on waiting. -/
def execBudgetPeriod (s : State) : Host.Outcome State Fault Refusal :=
  .next <|
    let n := s.now / 1000 - s.mule.period
    if n = 0 then s
    else
      let s1 := s.each (s.mule.since.map (fun e => e.1)) (fun k t => t.muWaited k)
      let s2 := s1.withMule { s1.mule with
        period := s.now / 1000
        used := (s1.mule.used.map (fun e => (e.1, e.2 - n * muAllowance (s.stackLevel (e.1 / 64))))).filter (fun e => e.2 != 0) }
      let waits := fun (k : Nat) => match s2.muQueue (k / 64) (k % 64) with
        | m :: _ => (s2.chMode (k / 64) (k % 64) == 2 || s2.chMode (k / 64) (k % 64) == 3) &&
            (if m.done.isSome then s2.muOwes (k / 64) (k % 64) m.desc else s2.muSpent m.desc (k / 64) (k % 64))
        | [] => false
      let s3 := s2.withMule { s2.mule with
        since := (s2.mule.since.filter (fun e => waits e.1)).map (fun e => (e.1, s2.now + 1)) }
      s3.throttle 8 (!s3.mule.since.isEmpty)

end Sys2Proof.Machine
end

