-- ==== Sys2Proof/Machine/Operands.lean ====
section
/-! DEFINITION. Sloak instruction words and operands: the encoding table (R350 to R352, R383 to R407), the fields of a
word (R351), and the poison of results (R344). -/
namespace Sys2Proof.Machine

open Sys2Proof

/-- The 81 Sloak instructions. -/
inductive SlOp where
  | opAdd | opSub | opAnd | opOr | opXor | opAndn | opShl | opShr | opSra | opMin | opMax | opMinu | opMaxu | opClz
  | opPopc | opMul | opMulh | opMulhu | opDiv | opDivu | opRem | opRemu | opCmpeq | opCmpne | opCmplt | opCmpge
  | opCmpltu | opCmpgeu | opTst | opTstz | opPand | opPor | opPxor | opPandn | opPnot | opPset | opPclr | opPtog
  | opGtop | opDset | opDget | opDcopy | opDzero | opAddi | opAndi | opOri | opXori | opShli | opShri | opSrai
  | opLui | opLi32 | opOrhi | opAddi32 | opBr | opCall | opJr | opLd | opSt | opLdd | opStd | opMxissue | opVxissue
  | opGtissue | opStissue | opMuissue | opStcancel | opStresume | opWaitcnt | opWaitmu | opWaitft | opFence | opLock
  | opUnlock | opLcflush | opLcinval | opPhase | opSetcfg | opGetcfg | opTrap | opEret
deriving DecidableEq, Repr

/-- One row of the encoding table: a word is the instruction's when its masked bits have the value. The mask takes in the
major opcode, the function code and every bit that an entry marks zero. -/
structure SlRow where
  op : SlOp
  mask : Nat
  val : Nat
deriving DecidableEq, Repr

/-- Major 0x01 (R383). -/
def slInt : List SlRow :=
  [⟨.opAdd, 0xFC0000FF, 0x04000000⟩, ⟨.opSub, 0xFC0000FF, 0x04000001⟩, ⟨.opAnd, 0xFC0000FF, 0x04000002⟩,
   ⟨.opOr, 0xFC0000FF, 0x04000003⟩, ⟨.opXor, 0xFC0000FF, 0x04000004⟩, ⟨.opAndn, 0xFC0000FF, 0x04000005⟩,
   ⟨.opShl, 0xFC0000FF, 0x04000006⟩, ⟨.opShr, 0xFC0000FF, 0x04000007⟩, ⟨.opSra, 0xFC0000FF, 0x04000008⟩,
   ⟨.opMin, 0xFC0000FF, 0x04000009⟩, ⟨.opMax, 0xFC0000FF, 0x0400000A⟩, ⟨.opMinu, 0xFC0000FF, 0x0400000B⟩,
   ⟨.opMaxu, 0xFC0000FF, 0x0400000C⟩, ⟨.opClz, 0xFC00F8FF, 0x0400000D⟩, ⟨.opPopc, 0xFC00F8FF, 0x0400000E⟩,
   ⟨.opMul, 0xFC0000FF, 0x04000010⟩, ⟨.opMulh, 0xFC0000FF, 0x04000011⟩, ⟨.opMulhu, 0xFC0000FF, 0x04000012⟩,
   ⟨.opDiv, 0xFC0000FF, 0x04000018⟩, ⟨.opDivu, 0xFC0000FF, 0x04000019⟩, ⟨.opRem, 0xFC0000FF, 0x0400001A⟩,
   ⟨.opRemu, 0xFC0000FF, 0x0400001B⟩]

/-- Majors 0x02 to 0x04 (R386 to R388). -/
def slPred : List SlRow :=
  [⟨.opCmpeq, 0xFF0000FF, 0x08000000⟩, ⟨.opCmpne, 0xFF0000FF, 0x08000001⟩, ⟨.opCmplt, 0xFF0000FF, 0x08000002⟩,
   ⟨.opCmpge, 0xFF0000FF, 0x08000003⟩, ⟨.opCmpltu, 0xFF0000FF, 0x08000004⟩, ⟨.opCmpgeu, 0xFF0000FF, 0x08000005⟩,
   ⟨.opTst, 0xFF0000FF, 0x08000006⟩, ⟨.opTstz, 0xFF0000FF, 0x08000007⟩, ⟨.opPand, 0xFF18C0FF, 0x0C000000⟩,
   ⟨.opPor, 0xFF18C0FF, 0x0C000001⟩, ⟨.opPxor, 0xFF18C0FF, 0x0C000002⟩, ⟨.opPandn, 0xFF18C0FF, 0x0C000003⟩,
   ⟨.opPnot, 0xFF18F8FF, 0x0C000004⟩, ⟨.opPset, 0xFF1FF8FF, 0x0C000005⟩, ⟨.opPclr, 0xFF1FF8FF, 0x0C000006⟩,
   ⟨.opPtog, 0xFC1800FF, 0x10000000⟩, ⟨.opGtop, 0xFF0000FF, 0x10000001⟩, ⟨.opDset, 0xFE00E0FF, 0x10000002⟩,
   ⟨.opDget, 0xFC10E0FF, 0x10000003⟩, ⟨.opDcopy, 0xFE10F8FF, 0x10000004⟩, ⟨.opDzero, 0xFE1FF8FF, 0x10000005⟩]

/-- Majors 0x08 to 0x0F and 0x3F (R384, R385). -/
def slImm : List SlRow :=
  [⟨.opAddi, 0xFC000000, 0x20000000⟩, ⟨.opAndi, 0xFC000000, 0x24000000⟩, ⟨.opOri, 0xFC000000, 0x28000000⟩,
   ⟨.opXori, 0xFC000000, 0x2C000000⟩, ⟨.opShli, 0xFC00FFC0, 0x30000000⟩, ⟨.opShri, 0xFC00FFC0, 0x34000000⟩,
   ⟨.opSrai, 0xFC00FFC0, 0x38000000⟩, ⟨.opLui, 0xFC1F0000, 0x3C000000⟩, ⟨.opLi32, 0xFC1FF8FF, 0xFC000000⟩,
   ⟨.opOrhi, 0xFC00F8FF, 0xFC000800⟩, ⟨.opAddi32, 0xFC00F8FF, 0xFC001000⟩]

/-- Majors 0x10 to 0x12 (R389, R390). -/
def slJump : List SlRow :=
  [⟨.opBr, 0xFC000000, 0x40000000⟩, ⟨.opCall, 0xFC000000, 0x44000000⟩, ⟨.opJr, 0xFC000000, 0x48000000⟩]

/-- Majors 0x18 to 0x1E (R395 to R407). -/
def slUnit : List SlRow :=
  [⟨.opMxissue, 0xFC1FF80F, 0x60000000⟩, ⟨.opVxissue, 0xFC1FF80F, 0x60000001⟩,
   ⟨.opGtissue, 0xFC1FF80F, 0x60000002⟩, ⟨.opStissue, 0xFC0000FF, 0x60000003⟩,
   ⟨.opMuissue, 0xFC1FF80F, 0x60000004⟩, ⟨.opStcancel, 0xFC1F00FF, 0x64000000⟩,
   ⟨.opStresume, 0xFC1F00FF, 0x64000001⟩, ⟨.opWaitcnt, 0xFC00000F, 0x68000000⟩,
   ⟨.opWaitmu, 0xFC00000F, 0x68000001⟩, ⟨.opWaitft, 0xFC00000F, 0x68000002⟩, ⟨.opFence, 0xFFFFF8CF, 0x68000003⟩,
   ⟨.opLock, 0xFC00F8FF, 0x6C000000⟩, ⟨.opUnlock, 0xFC00F8FF, 0x6C000001⟩, ⟨.opLcflush, 0xFC00000F, 0x70000000⟩,
   ⟨.opLcinval, 0xFC00000F, 0x70000001⟩, ⟨.opPhase, 0xFC00000F, 0x74000000⟩, ⟨.opSetcfg, 0xFC00000F, 0x74000001⟩,
   ⟨.opGetcfg, 0xFC00000F, 0x74000002⟩, ⟨.opTrap, 0xFC0000FF, 0x78000000⟩, ⟨.opEret, 0xFFFFFFFF, 0x78000001⟩]

/-- Majors 0x20 to 0x23, one row for each size code (R392). -/
def slMem : List SlRow :=
  [⟨.opLd, 0xFC003800, 0x80000000⟩, ⟨.opLd, 0xFC003800, 0x80000800⟩, ⟨.opLd, 0xFC003800, 0x80001000⟩,
   ⟨.opLd, 0xFC003800, 0x80001800⟩, ⟨.opLd, 0xFC003800, 0x80002000⟩, ⟨.opLd, 0xFC003800, 0x80002800⟩,
   ⟨.opLd, 0xFC003800, 0x80003000⟩, ⟨.opSt, 0xFC003800, 0x84000000⟩, ⟨.opSt, 0xFC003800, 0x84001000⟩,
   ⟨.opSt, 0xFC003800, 0x84002000⟩, ⟨.opSt, 0xFC003800, 0x84003000⟩, ⟨.opLdd, 0xFE003800, 0x88000000⟩,
   ⟨.opStd, 0xFE003800, 0x8C000000⟩]

/-- The encoding table. -/
def slTable : List SlRow := slInt ++ slPred ++ slImm ++ slJump ++ slUnit ++ slMem

/-- R352: the instruction a word encodes; `none` for a word that traps ILLEGAL. -/
def slDecode (w : Nat) : Option SlOp := (slTable.find? (fun (r : SlRow) => w &&& r.mask == r.val)).map (fun (r : SlRow) => r.op)

/-- An instruction that a context is about to run: the core and the context, its address, its word, and the second word of
an X form (0 otherwise). -/
structure SlI where
  core : Nat
  ctx : Nat
  pc : Nat
  w : Nat
  imm : Nat
deriving DecidableEq, Repr

/-- The major opcode. -/
def SlI.major (i : SlI) : Nat := nfield i.w 26 6
/-- Field rd. -/
def SlI.rd (i : SlI) : Nat := nfield i.w 21 5
/-- Field ra. -/
def SlI.ra (i : SlI) : Nat := nfield i.w 16 5
/-- Field rb. -/
def SlI.rb (i : SlI) : Nat := nfield i.w 11 5
/-- Field pg of an R-, E- or X-format word. -/
def SlI.pg (i : SlI) : Nat := nfield i.w 8 3
/-- Field ds of an E-format word. -/
def SlI.ds (i : SlI) : Nat := nfield i.w 4 4
/-- Field imm16. -/
def SlI.imm16 (i : SlI) : Nat := nfield i.w 0 16
/-- Field sp: 0 VIRT, 1 LOCAL, 2 PHYS, 3 STEER. -/
def SlI.sp (i : SlI) : Nat := nfield i.w 14 2
/-- Field sz. -/
def SlI.sz (i : SlI) : Nat := nfield i.w 11 3
/-- The bytes of a size code (R351). -/
def SlI.size (i : SlI) : Nat := 2 ^ (i.sz / 2)
/-- Field off11, signed. -/
def SlI.off11 (i : SlI) : Int := sextNat 11 i.w
/-- Field off22, signed. -/
def SlI.off22 (i : SlI) : Int := sextNat 22 i.w
/-- The bytes an instruction takes: 8 for an X form, else 4 (R349). -/
def SlI.len (i : SlI) : Nat := if i.major = 0x3F then 8 else 4

/-- A signed number as a 64-bit word. -/
def wordOfInt (x : Int) : W64 := BitVec.ofInt 64 x
/-- imm16 sign-extended. -/
def SlI.simm (i : SlI) : W64 := wordOfInt (sextNat 16 i.w)
/-- imm16 zero-extended. -/
def SlI.zimm (i : SlI) : W64 := BitVec.ofNat 64 i.imm16
/-- imm32 sign-extended. -/
def SlI.simm32 (i : SlI) : W64 := wordOfInt (sextNat 32 i.imm)

/-- The g registers an instruction reads or writes (R355: a later instruction that uses a result waits for it). -/
def SlI.uses (i : SlI) : List Nat :=
  match i.major with
  | 0x01 => [i.rd, i.ra, i.rb]
  | 0x02 => [i.ra, i.rb]
  | 0x03 => []
  | 0x04 => if i.w % 256 = 0 ∨ i.w % 256 = 3 then [i.rd] else if i.w % 256 ≤ 2 then [i.ra] else []
  | 0x10 => []
  | 0x11 => [31]
  | 0x22 => [i.ra]
  | 0x23 => [i.ra]
  | m => if 0x18 ≤ m ∧ m ≤ 0x1E then [i.rd, i.ra, i.rb] else [i.rd, i.ra]

/-- Whether an instruction is of class Z, which runs after every earlier instruction has completed (R355). -/
def SlI.serial (i : SlI) : Bool :=
  (i.major == 0x1A && i.w % 16 == 3) || (i.major == 0x1D && i.w % 16 != 0) || i.major == 0x1E

/-- The tag a poisoned g register holds (R344). -/
def SlG.tag (g : SlG) : W32 := g.data.setWidth 32
/-- The tag a poisoned d register holds. -/
def SlD.tag (d : SlD) : W32 := d.data.setWidth 32
/-- A poisoned d register. -/
def slPoisonedD (tag : W32) : SlD := ⟨tag.setWidth 256, true⟩
/-- A poisoned predicate, which keeps its tag (R381). -/
def slPoisonedP (tag : W32) : SlP := ⟨false, true, tag⟩

/-- R344: a result of one operand: poisoned with the operand's tag, if the operand is. -/
def slMap (f : W64 → W64) (a : SlG) : SlG := if a.poison then slPoisoned a.tag else ⟨f a.data, false⟩
/-- R344: a result of two operands: the tag of the first poisoned one, in the order ra, rb. -/
def slMap2 (f : W64 → W64 → W64) (a b : SlG) : SlG :=
  if a.poison then slPoisoned a.tag else if b.poison then slPoisoned b.tag else ⟨f a.data b.data, false⟩

end Sys2Proof.Machine
end

