-- ==== Sys2Proof/Machine/Flags.lean ====
section
/-! DEFINITION. Predicates: the conditions of the compares (R386), predicate logic (R387), and their poison (R344). -/
namespace Sys2Proof.Machine

open Sys2Proof

/-- CMPEQ. -/
def condEq (a b : W64) : Bool := a == b
/-- CMPNE. -/
def condNe (a b : W64) : Bool := a != b
/-- CMPLT: signed. -/
def condLt (a b : W64) : Bool := a.slt b
/-- CMPGE: signed. -/
def condGe (a b : W64) : Bool := !a.slt b
/-- CMPLTU: unsigned. -/
def condLtu (a b : W64) : Bool := a.ult b
/-- CMPGEU: unsigned. -/
def condGeu (a b : W64) : Bool := !a.ult b
/-- TST. -/
def condTst (a b : W64) : Bool := a &&& b != 0
/-- TSTZ. -/
def condTstz (a b : W64) : Bool := a &&& b == 0

/-- A predicate that a comparison of two g registers writes: poisoned with the tag of the first poisoned one. -/
def slCmp (f : W64 → W64 → Bool) (a b : SlG) : SlP :=
  if a.poison then slPoisonedP a.tag else if b.poison then slPoisonedP b.tag else ⟨f a.data b.data, false, 0⟩
/-- A predicate from two predicates. -/
def slPlog2 (f : Bool → Bool → Bool) (a b : SlP) : SlP :=
  if a.poison then slPoisonedP a.tag else if b.poison then slPoisonedP b.tag else ⟨f a.val b.val, false, 0⟩
/-- A predicate from one predicate. -/
def slPlog1 (f : Bool → Bool) (a : SlP) : SlP := if a.poison then slPoisonedP a.tag else ⟨f a.val, false, 0⟩

end Sys2Proof.Machine
end

