-- ==== Sys2Proof/Machine/Sloak.lean ====
section
/-! DEFINITION. Running one Sloak instruction: fetch, decoding, stalls, guards, traps (R340, R349 to R352, R355, R360 to
R364, R380 to R382), and the integer, predicate, move, branch and jump instructions (R383 to R391). -/
namespace Sys2Proof.Machine

open Sys2Proof

/-- What an instruction comes to: it completes, it traps with a cause, its information and tag (R361) and the address it
saves, or it does not issue yet. -/
inductive SlOut where
  | done (t : State)
  | trap (cause info : Nat) (tag : W32) (epc : Nat) (t : State)
  | stall

/-- The word at an address, as a fetch gets it: the word, or the trap of R340, R349 and R364. -/
inductive SlWord where
  | word (w : Nat)
  | bad (cause info : Nat) (tag : W32)
deriving DecidableEq, Repr

/-- R340, R349, R364: a word is fetched. A fetch does not rewrite steer memory. A misaligned address traps ALIGN
(DEDUCED, log entry 24). -/
def State.slFetchWord (s : State) (core x a : Nat) : SlWord × State :=
  if a % 4 ≠ 0 then (.bad 3 a 0, s)
  else if s.steerAllowed core x a 4 = false then (.bad 7 a 0, s)
  else
    let ue := (decodeWord (s.steerRaw core (a / 4))).cls == .ue
    let (p, s1) := s.steerWord core (a / 4)
    if p.poison then (.bad (if ue then 5 else 6) a p.data, s1) else (.word p.data.toNat, s1)

/-- An instruction, or the trap its fetch takes. -/
def State.slFetch (s : State) (core x : Nat) : (SlI ⊕ (Nat × Nat × W32)) × State :=
  let pc := s.slPc core x
  match s.slFetchWord core x pc with
  | (.bad c i t, s1) => (.inr (c, i, t), s1)
  | (.word w, s1) =>
    if nfield w 26 6 = 0x3F then
      match s1.slFetchWord core x (pc + 4) with
      | (.bad c i t, s2) => (.inr (c, i, t), s2)
      | (.word m, s2) => (.inl ⟨core, x, pc, w, m⟩, s2)
    else (.inl ⟨core, x, pc, w, 0⟩, s1)

/-- The g registers that wait for a unit's answer. -/
def State.slOwed (s : State) (core x : Nat) : List Nat :=
  (s.sc.answers.filter (fun (a : SlAnswer) => a.core == core && a.ctx == x && a.rd != 0)).map (fun (a : SlAnswer) => a.rd)

/-- Whether a remote LOCK or UNLOCK of the context has no reply yet. It could still trap, so nothing after it issues (R360;
DEDUCED, log entry 25). -/
def State.slRemote (s : State) (core x : Nat) : Bool :=
  s.herd.txns.any (fun (t : Txn) => match t.owner with
    | .core c y _ _ => c == core && y == x
    | _ => false)

/-- R355: whether an instruction waits for an earlier result. -/
def State.slStalls (s : State) (i : SlI) : Bool :=
  s.slRemote i.core i.ctx || (i.serial && s.owesAnswer i.core i.ctx) ||
    i.uses.any (fun r => (s.slOwed i.core i.ctx).contains r)

/-- Every row of the instruction reference: the RUNNING context of a core fetches at its program counter. A fetch that
fails, and a word that encodes no instruction, trap whatever row was asked for; a word that encodes another instruction
leaves the state as it is. A trap is taken only after every result owed to the context has been written (R411). -/
def State.slRun (s : State) (op : SlOp) (core x : Nat) (body : SlI → State → SlOut) : State :=
  if s.coreOn core && s.ctxState core x == 2 then
    let out : SlOut :=
      match s.slFetch core x with
      | (.inr (c, i, t), s1) => .trap c i t (s.slPc core x) s1
      | (.inl i, s1) =>
        match slDecode i.w with
        | none => .trap 1 i.w 0 i.pc s1
        | some o => if o = op then (if s.slStalls i then .stall else body i s1) else .stall
    match out with
    | .done t => t
    | .trap c i tag epc t => if s.owesAnswer core x then s else t.slTrap core x c i tag epc
    | .stall => s
  else s

/-- A trap of the instruction itself (R360). -/
def SlI.trap (i : SlI) (cause info : Nat) (tag : W32) (s : State) : SlOut := .trap cause info tag i.pc s

/-- ILLEGAL: the information is the instruction word (R361, R380). -/
def SlI.illegal (i : SlI) (s : State) : SlOut := i.trap 1 i.w 0 s
/-- PRIVILEGE. -/
def SlI.privilege (i : SlI) (s : State) : SlOut := i.trap 2 i.w 0 s

/-- R345, R132: POISON: the kind of operand (0 address, 1 length or count, 2 predicate, 3 jump target, 4 SETCFG value, 5
descriptor) and its tag; the bite is counted at its point. -/
def SlI.bite (i : SlI) (kind : Nat) (tag : W32) (s : State) : SlOut :=
  i.trap 4 kind tag (s.bite (coreDie i.core) (if kind = 2 then 1 else if kind = 4 then 2 else 0))

/-- The instruction completes and the next one in order follows. -/
def State.slNext (s : State) (i : SlI) : State := (s.setSlPc i.core i.ctx (i.pc + i.len)).scCount i.core 0

/-- The instruction completes and the program goes on at `pc`. -/
def State.slJump (s : State) (i : SlI) (pc : Nat) : State := (s.setSlPc i.core i.ctx pc).scCount i.core 0

/-- R351, R382: an R-, E- or X-format instruction runs only if its guard is 1. A guarded-off one writes nothing and sends
nothing; a poisoned guard traps (R345). -/
def slGuarded (body : SlI → State → SlOut) (i : SlI) (s : State) : SlOut :=
  let p := s.slP i.core i.ctx i.pg
  if p.poison then i.bite 2 p.tag s
  else if p.val then body i s
  else .done (s.slNext i)

/-- The ra operand. -/
def State.slRa (s : State) (i : SlI) : SlG := s.slG i.core i.ctx i.ra
/-- The rb operand. -/
def State.slRb (s : State) (i : SlI) : SlG := s.slG i.core i.ctx i.rb
/-- rd takes a value, and the instruction completes. -/
def State.slPut (s : State) (i : SlI) (v : SlG) : State := (s.setSlG i.core i.ctx i.rd v).slNext i

/-! ## Integer instructions (R383) -/

/-- A guarded instruction of two g operands. -/
def State.slAlu (s : State) (op : SlOp) (core x : Nat) (f : W64 → W64 → W64) : State :=
  s.slRun op core x (slGuarded (fun i t => .done (t.slPut i (slMap2 f (t.slRa i) (t.slRb i)))))

/-- A guarded instruction of one g operand. -/
def State.slAlu1 (s : State) (op : SlOp) (core x : Nat) (f : W64 → W64) : State :=
  s.slRun op core x (slGuarded (fun i t => .done (t.slPut i (slMap f (t.slRa i)))))

/-- rb[5:0]. -/
def shamt (b : W64) : Nat := b.toNat % 64
/-- The smaller, signed. -/
def opMin (a b : W64) : W64 := if b.slt a then b else a
/-- The larger, signed. -/
def opMax (a b : W64) : W64 := if a.slt b then b else a
/-- The smaller, unsigned. -/
def opMinu (a b : W64) : W64 := if b.ult a then b else a
/-- The larger, unsigned. -/
def opMaxu (a b : W64) : W64 := if a.ult b then b else a
/-- Leading zero bits, 0 to 64. -/
def opClz (a : W64) : W64 := if a = 0 then 64 else BitVec.ofNat 64 (63 - Nat.log2 a.toNat)
/-- Set bits. -/
def opPopc (a : W64) : W64 := BitVec.ofNat 64 ((List.range 64).filter (fun k => a.getLsbD k)).length
/-- The high 64 bits of the signed product. -/
def opMulh (a b : W64) : W64 := wordOfInt ((a.toInt * b.toInt) / 2 ^ 64)
/-- The high 64 bits of the unsigned product. -/
def opMulhu (a b : W64) : W64 := BitVec.ofNat 64 ((a.toNat * b.toNat) / 2 ^ 64)
/-- Signed quotient, truncated; all ones for a divisor of 0. -/
def opDiv (a b : W64) : W64 := if b = 0 then BitVec.allOnes 64 else wordOfInt (a.toInt.tdiv b.toInt)
/-- Unsigned quotient; all ones for a divisor of 0. -/
def opDivu (a b : W64) : W64 := if b = 0 then BitVec.allOnes 64 else BitVec.ofNat 64 (a.toNat / b.toNat)
/-- Signed remainder with the sign of `a`; `a` for a divisor of 0. -/
def opRem (a b : W64) : W64 := if b = 0 then a else wordOfInt (a.toInt.tmod b.toInt)
/-- Unsigned remainder; `a` for a divisor of 0. -/
def opRemu (a b : W64) : W64 := if b = 0 then a else BitVec.ofNat 64 (a.toNat % b.toNat)

/-- ADD: rd ← ra + rb. -/
def execAdd (core x : Nat) (s : State) : Host.Outcome State Fault Refusal :=
  .next (s.slAlu .opAdd core x (· + ·))

/-- SUB: rd ← ra − rb. -/
def execSub (core x : Nat) (s : State) : Host.Outcome State Fault Refusal :=
  .next (s.slAlu .opSub core x (· - ·))

/-- AND: rd ← ra and rb. -/
def execAnd (core x : Nat) (s : State) : Host.Outcome State Fault Refusal :=
  .next (s.slAlu .opAnd core x (· &&& ·))

/-- OR: rd ← ra or rb. -/
def execOr (core x : Nat) (s : State) : Host.Outcome State Fault Refusal :=
  .next (s.slAlu .opOr core x (· ||| ·))

/-- XOR: rd ← ra xor rb. -/
def execXor (core x : Nat) (s : State) : Host.Outcome State Fault Refusal :=
  .next (s.slAlu .opXor core x (· ^^^ ·))

/-- ANDN: rd ← ra and not rb. -/
def execAndn (core x : Nat) (s : State) : Host.Outcome State Fault Refusal :=
  .next (s.slAlu .opAndn core x (fun a b => a &&& ~~~b))

/-- SHL: Shift left by rb[5:0]. -/
def execShl (core x : Nat) (s : State) : Host.Outcome State Fault Refusal :=
  .next (s.slAlu .opShl core x (fun a b => a <<< shamt b))

/-- SHR: Shift right by rb[5:0], zero fill. -/
def execShr (core x : Nat) (s : State) : Host.Outcome State Fault Refusal :=
  .next (s.slAlu .opShr core x (fun a b => a >>> shamt b))

/-- SRA: Shift right by rb[5:0], sign fill. -/
def execSra (core x : Nat) (s : State) : Host.Outcome State Fault Refusal :=
  .next (s.slAlu .opSra core x (fun a b => a.sshiftRight (shamt b)))

/-- MIN: Signed minimum. -/
def execMin (core x : Nat) (s : State) : Host.Outcome State Fault Refusal :=
  .next (s.slAlu .opMin core x opMin)

/-- MAX: Signed maximum. -/
def execMax (core x : Nat) (s : State) : Host.Outcome State Fault Refusal :=
  .next (s.slAlu .opMax core x opMax)

/-- MINU: Unsigned minimum. -/
def execMinu (core x : Nat) (s : State) : Host.Outcome State Fault Refusal :=
  .next (s.slAlu .opMinu core x opMinu)

/-- MAXU: Unsigned maximum. -/
def execMaxu (core x : Nat) (s : State) : Host.Outcome State Fault Refusal :=
  .next (s.slAlu .opMaxu core x opMaxu)

/-- CLZ: leading zero bits of ra. -/
def execClz (core x : Nat) (s : State) : Host.Outcome State Fault Refusal :=
  .next (s.slAlu1 .opClz core x opClz)

/-- POPC: set bits of ra. -/
def execPopc (core x : Nat) (s : State) : Host.Outcome State Fault Refusal :=
  .next (s.slAlu1 .opPopc core x opPopc)

/-- MUL: low 64 bits of ra × rb. -/
def execMul (core x : Nat) (s : State) : Host.Outcome State Fault Refusal :=
  .next (s.slAlu .opMul core x (· * ·))

/-- MULH: high 64 bits, signed. -/
def execMulh (core x : Nat) (s : State) : Host.Outcome State Fault Refusal :=
  .next (s.slAlu .opMulh core x opMulh)

/-- MULHU: high 64 bits, unsigned. -/
def execMulhu (core x : Nat) (s : State) : Host.Outcome State Fault Refusal :=
  .next (s.slAlu .opMulhu core x opMulhu)

/-- DIV: signed quotient. -/
def execDiv (core x : Nat) (s : State) : Host.Outcome State Fault Refusal :=
  .next (s.slAlu .opDiv core x opDiv)

/-- DIVU: unsigned quotient. -/
def execDivu (core x : Nat) (s : State) : Host.Outcome State Fault Refusal :=
  .next (s.slAlu .opDivu core x opDivu)

/-- REM: signed remainder. -/
def execRem (core x : Nat) (s : State) : Host.Outcome State Fault Refusal :=
  .next (s.slAlu .opRem core x opRem)

/-- REMU: unsigned remainder. -/
def execRemu (core x : Nat) (s : State) : Host.Outcome State Fault Refusal :=
  .next (s.slAlu .opRemu core x opRemu)

/-! ## Immediate instructions (R384, R385) -/

/-- An unguarded instruction of ra and an immediate. -/
def State.slImmOp (s : State) (op : SlOp) (core x : Nat) (f : SlI → W64 → W64) : State :=
  s.slRun op core x (fun i t => .done (t.slPut i (slMap (f i) (t.slRa i))))

/-- ADDI: rd ← ra + sext(imm16). -/
def execAddi (core x : Nat) (s : State) : Host.Outcome State Fault Refusal :=
  .next (s.slImmOp .opAddi core x (fun i a => a + i.simm))

/-- ANDI: rd ← ra and zext(imm16). -/
def execAndi (core x : Nat) (s : State) : Host.Outcome State Fault Refusal :=
  .next (s.slImmOp .opAndi core x (fun i a => a &&& i.zimm))

/-- ORI: rd ← ra or zext(imm16). -/
def execOri (core x : Nat) (s : State) : Host.Outcome State Fault Refusal :=
  .next (s.slImmOp .opOri core x (fun i a => a ||| i.zimm))

/-- XORI: rd ← ra xor zext(imm16). -/
def execXori (core x : Nat) (s : State) : Host.Outcome State Fault Refusal :=
  .next (s.slImmOp .opXori core x (fun i a => a ^^^ i.zimm))

/-- SHLI: shift left by imm16[5:0]. -/
def execShli (core x : Nat) (s : State) : Host.Outcome State Fault Refusal :=
  .next (s.slImmOp .opShli core x (fun i a => a <<< (i.imm16 % 64)))

/-- SHRI: shift right, zero fill. -/
def execShri (core x : Nat) (s : State) : Host.Outcome State Fault Refusal :=
  .next (s.slImmOp .opShri core x (fun i a => a >>> (i.imm16 % 64)))

/-- SRAI: shift right, sign fill. -/
def execSrai (core x : Nat) (s : State) : Host.Outcome State Fault Refusal :=
  .next (s.slImmOp .opSrai core x (fun i a => a.sshiftRight (i.imm16 % 64)))

/-- LUI: a constant, so rd's poison is cleared (R344, R384). -/
def execLui (core x : Nat) (s : State) : Host.Outcome State Fault Refusal :=
  .next (s.slRun .opLui core x (fun i t => .done (t.slPut i ⟨wordOfInt (sextNat 32 (i.imm16 * 65536)), false⟩)))

/-- LI32: a constant (R385). -/
def execLi32 (core x : Nat) (s : State) : Host.Outcome State Fault Refusal :=
  .next (s.slRun .opLi32 core x (slGuarded (fun i t => .done (t.slPut i ⟨i.simm32, false⟩))))

/-- ORHI (R385). -/
def execOrhi (core x : Nat) (s : State) : Host.Outcome State Fault Refusal :=
  .next (s.slRun .opOrhi core x (slGuarded (fun i t =>
    .done (t.slPut i (slMap (fun a => a ||| BitVec.ofNat 64 (i.imm % 2 ^ 32 * 2 ^ 32)) (t.slRa i))))))

/-- ADDI32 (R385). -/
def execAddi32 (core x : Nat) (s : State) : Host.Outcome State Fault Refusal :=
  .next (s.slRun .opAddi32 core x (slGuarded (fun i t => .done (t.slPut i (slMap (fun a => a + i.simm32) (t.slRa i))))))

/-! ## Compares and predicate logic (R386, R387) -/

/-- A predicate takes a value, and the instruction completes. -/
def State.slPutP (s : State) (i : SlI) (v : SlP) : State := (s.setSlP i.core i.ctx (i.rd % 8) v).slNext i

/-- A compare of ra and rb into a predicate. -/
def State.slCompare (s : State) (op : SlOp) (core x : Nat) (f : W64 → W64 → Bool) : State :=
  s.slRun op core x (slGuarded (fun i t => .done (t.slPutP i (slCmp f (t.slRa i) (t.slRb i)))))

/-- Predicate logic of two predicates. -/
def State.slLogic (s : State) (op : SlOp) (core x : Nat) (f : Bool → Bool → Bool) : State :=
  s.slRun op core x (slGuarded (fun i t =>
    .done (t.slPutP i (slPlog2 f (t.slP core x (i.ra % 8)) (t.slP core x (i.rb % 8))))))

/-- CMPEQ. -/
def execCmpeq (core x : Nat) (s : State) : Host.Outcome State Fault Refusal :=
  .next (s.slCompare .opCmpeq core x condEq)

/-- CMPNE. -/
def execCmpne (core x : Nat) (s : State) : Host.Outcome State Fault Refusal :=
  .next (s.slCompare .opCmpne core x condNe)

/-- CMPLT. -/
def execCmplt (core x : Nat) (s : State) : Host.Outcome State Fault Refusal :=
  .next (s.slCompare .opCmplt core x condLt)

/-- CMPGE. -/
def execCmpge (core x : Nat) (s : State) : Host.Outcome State Fault Refusal :=
  .next (s.slCompare .opCmpge core x condGe)

/-- CMPLTU. -/
def execCmpltu (core x : Nat) (s : State) : Host.Outcome State Fault Refusal :=
  .next (s.slCompare .opCmpltu core x condLtu)

/-- CMPGEU. -/
def execCmpgeu (core x : Nat) (s : State) : Host.Outcome State Fault Refusal :=
  .next (s.slCompare .opCmpgeu core x condGeu)

/-- TST. -/
def execTst (core x : Nat) (s : State) : Host.Outcome State Fault Refusal :=
  .next (s.slCompare .opTst core x condTst)

/-- TSTZ. -/
def execTstz (core x : Nat) (s : State) : Host.Outcome State Fault Refusal :=
  .next (s.slCompare .opTstz core x condTstz)

/-- PAND. -/
def execPand (core x : Nat) (s : State) : Host.Outcome State Fault Refusal :=
  .next (s.slLogic .opPand core x (fun a b => a && b))

/-- POR. -/
def execPor (core x : Nat) (s : State) : Host.Outcome State Fault Refusal :=
  .next (s.slLogic .opPor core x (fun a b => a || b))

/-- PXOR. -/
def execPxor (core x : Nat) (s : State) : Host.Outcome State Fault Refusal :=
  .next (s.slLogic .opPxor core x (fun a b => a != b))

/-- PANDN. -/
def execPandn (core x : Nat) (s : State) : Host.Outcome State Fault Refusal :=
  .next (s.slLogic .opPandn core x (fun a b => a && !b))

/-- PNOT. -/
def execPnot (core x : Nat) (s : State) : Host.Outcome State Fault Refusal :=
  .next (s.slRun .opPnot core x (slGuarded (fun i t => .done (t.slPutP i (slPlog1 (fun a => !a) (t.slP core x (i.ra % 8)))))))

/-- PSET: a constant. -/
def execPset (core x : Nat) (s : State) : Host.Outcome State Fault Refusal :=
  .next (s.slRun .opPset core x (slGuarded (fun i t => .done (t.slPutP i ⟨true, false, 0⟩))))

/-- PCLR: a constant. -/
def execPclr (core x : Nat) (s : State) : Host.Outcome State Fault Refusal :=
  .next (s.slRun .opPclr core x (slGuarded (fun i t => .done (t.slPutP i ⟨false, false, 0⟩))))

/-! ## Moves (R388) -/

/-- PTOG. -/
def execPtog (core x : Nat) (s : State) : Host.Outcome State Fault Refusal :=
  .next (s.slRun .opPtog core x (slGuarded (fun i t =>
    let p := t.slP core x (i.ra % 8)
    .done (t.slPut i (if p.poison then slPoisoned p.tag else ⟨BitVec.ofNat 64 (b2n p.val), false⟩)))))

/-- GTOP. -/
def execGtop (core x : Nat) (s : State) : Host.Outcome State Fault Refusal :=
  .next (s.slRun .opGtop core x (slGuarded (fun i t =>
    let g := t.slRa i
    .done (t.slPutP i (if g.poison then slPoisonedP g.tag else ⟨g.data.getLsbD 0, false, 0⟩)))))

/-- A d register takes a value, and the instruction completes. -/
def State.slPutD (s : State) (i : SlI) (v : SlD) : State := (s.setSlD i.core i.ctx (i.rd % 16) v).slNext i

/-- `d` with its lane `l` replaced. -/
def setLane (d : BitVec 256) (l : Nat) (v : W64) : BitVec 256 :=
  (d &&& ~~~((BitVec.allOnes 64).setWidth 256 <<< (64 * l))) ||| (v.setWidth 256 <<< (64 * l))

/-- DSET: reads the old d register; the tag is ra's first, then the register's (R344: DEDUCED, log entry 26). -/
def execDset (core x : Nat) (s : State) : Host.Outcome State Fault Refusal :=
  .next (s.slRun .opDset core x (slGuarded (fun i t =>
    let g := t.slRa i
    let d := t.slD core x (i.rd % 16)
    .done (t.slPutD i
      (if g.poison then slPoisonedD g.tag else if d.poison then d else ⟨setLane d.data (i.rb % 4) g.data, false⟩)))))

/-- DGET. -/
def execDget (core x : Nat) (s : State) : Host.Outcome State Fault Refusal :=
  .next (s.slRun .opDget core x (slGuarded (fun i t =>
    let d := t.slD core x (i.ra % 16)
    .done (t.slPut i (if d.poison then slPoisoned d.tag else ⟨(d.data >>> (64 * (i.rb % 4))).setWidth 64, false⟩)))))

/-- DCOPY. -/
def execDcopy (core x : Nat) (s : State) : Host.Outcome State Fault Refusal :=
  .next (s.slRun .opDcopy core x (slGuarded (fun i t => .done (t.slPutD i (t.slD core x (i.ra % 16))))))

/-- DZERO: a constant. -/
def execDzero (core x : Nat) (s : State) : Host.Outcome State Fault Refusal :=
  .next (s.slRun .opDzero core x (slGuarded (fun i t => .done (t.slPutD i ⟨0, false⟩))))

/-! ## Branches and jumps (R389 to R391) -/

/-- R389: BR and CALL: the predicate is bits 25:23 of the word, and bit 22 negates it. -/
def State.slBranch (s : State) (op : SlOp) (core x : Nat) (link : Bool) : State :=
  s.slRun op core x (fun i t =>
    let p := t.slP core x (nfield i.w 23 3)
    if p.poison then i.bite 2 p.tag t
    else if p.val != nbit i.w 22 then
      let t1 := if link then t.setSlG core x 31 ⟨BitVec.ofNat 64 (i.pc + 4), false⟩ else t
      .done (t1.slJump i (wrapInt 64 ((i.pc : Int) + 4 * i.off22)))
    else .done (t.slNext i))

/-- BR. -/
def execBr (core x : Nat) (s : State) : Host.Outcome State Fault Refusal := .next (s.slBranch .opBr core x false)

/-- CALL: the return address goes to g31. -/
def execCall (core x : Nat) (s : State) : Host.Outcome State Fault Refusal := .next (s.slBranch .opCall core x true)

/-- JR: a poisoned ra and a misaligned target trap. -/
def execJr (core x : Nat) (s : State) : Host.Outcome State Fault Refusal :=
  .next (s.slRun .opJr core x (fun i t =>
    let a := t.slRa i
    let target := wrapInt 64 ((a.data.toNat : Int) + 4 * sextNat 16 i.w)
    if a.poison then i.bite 3 a.tag t
    else if target % 4 ≠ 0 then i.trap 3 target 0 t
    else .done ((t.setSlG core x i.rd ⟨BitVec.ofNat 64 (i.pc + 4), false⟩).slJump i target)))

end Sys2Proof.Machine
end

