-- ==== Sys2Proof/Machine/SloakMem.lean ====
section
/-! DEFINITION. Sloak loads and stores (R344, R351, R356, R392 to R394, R418). -/
namespace Sys2Proof.Machine

open Sys2Proof

/-! ## Values in memory -/

/-- The little-endian number that words hold, the first word lowest. -/
def numOfWords (ws : List PW) : Nat := ws.foldr (fun w n => w.data.toNat + 2 ^ 32 * n) 0

/-- The value of `size` bytes at `addr` among the words that hold them (R379). -/
def loadValue (addr size : Nat) (ws : List PW) : Nat := (numOfWords ws >>> (8 * (addr % 4))) % 2 ^ (8 * size)

/-- R344: the tag of the lowest-addressed poisoned word read. -/
def loadTag (ws : List PW) : Option W32 := (ws.find? (fun w => w.poison)).map (fun w => w.data)

/-- The words that `size` bytes at `addr` touch, holding a value; every word poisoned with the register's tag if the
register is (R344). -/
def storeWords (addr size : Nat) (v : Nat) (poison : Option W32) : List PW :=
  (List.range ((addr % 4 + size + 3) / 4)).map (fun k =>
    match poison with
    | some t => ⟨t, true⟩
    | none => ⟨BitVec.ofNat 32 ((v <<< (8 * (addr % 4))) >>> (32 * k)), false⟩)

/-- R344, R351: a load's register takes the words read: an LDD a d register, an LD a g register, extended. -/
def State.slLoaded (s : State) (i : SlI) (wide signed : Bool) (addr size : Nat) (ws : List PW) : State :=
  if wide then
    s.setSlD i.core i.ctx (i.rd % 16) (match loadTag ws with
      | some t => slPoisonedD t
      | none => ⟨BitVec.ofNat 256 (loadValue addr size ws), false⟩)
  else
    s.setSlG i.core i.ctx i.rd (match loadTag ws with
      | some t => slPoisoned t
      | none =>
        let v := loadValue addr size ws
        ⟨if signed then wordOfInt (sextNat (8 * size) v) else BitVec.ofNat 64 v, false⟩)

/-! ## Issue -/

/-- The context waits. -/
def State.slSuspend (s : State) (core x : Nat) (k : SlWaitKind) : State :=
  ((s.withSc { s.sc with waits := s.sc.waits ++ [⟨core, x, k, false, false⟩] }).setCtxState core x 3).schedule core

/-- The data of a store: the words its register spells. -/
def State.slStoreData (s : State) (i : SlI) (wide : Bool) (addr size : Nat) : List PW :=
  if wide then
    let d := s.slD i.core i.ctx (i.rd % 16)
    storeWords addr size d.data.toNat (if d.poison then some d.tag else none)
  else
    let g := s.slG i.core i.ctx i.rd
    storeWords addr size (g.data.toNat % 2 ^ (8 * size)) (if g.poison then some g.tag else none)

/-- R392, R393: a load or store: the address is checked, a STEER or LOCAL access completes, and a VIRT or PHYS access puts
the context into WAITING (R356). PRIVILEGE comes before a poisoned base register, and that before ALIGN (DEDUCED, log
entry 27). -/
def State.slMemory (store wide : Bool) (i : SlI) (s : State) : SlOut :=
  let size := if wide then 32 else i.size
  let base := s.slRa i
  let addr := wrapInt 64 ((base.data.toNat : Int) + i.off11 * size)
  let signed := !wide && i.sz % 2 == 0 && decide (i.sz < 6)
  if i.sp = 1 ∧ isHerdCore i.core then i.illegal s
  else if i.sp = 2 ∧ s.ctxVi i.core i.ctx ≠ 0 then i.privilege s
  else if base.poison then i.bite 0 base.tag s
  else if addr % size ≠ 0 then i.trap 3 addr 0 s
  else
    let data := s.slStoreData i wide addr size
    match i.sp with
    | 3 =>
      if s.steerAllowed i.core i.ctx addr size = false then i.trap 7 addr 0 s
      else if store then .done ((s.steerWriteWords i.core (maskedWords addr size data)).slNext i)
      else
        let (ws, t) := s.steerReadWords i.core (maskedWords addr size [])
        .done ((t.slLoaded i wide signed addr size ws).slNext i)
    | 1 =>
      if 0x1000000 ≤ addr then i.trap 8 addr 7 s
      else if s.tmReady i.core = false then .stall
      else if store then .done ((s.tmWriteAll i.core 8 (maskedWords addr size data)).slNext i)
      else
        let (ws, t) := s.tmReadN i.core 8 (addr / 4 * 4) (maskedWords addr size []).length
        .done ((t.slLoaded i wide signed addr size ws).slNext i)
    | sp => .done (s.slSuspend i.core i.ctx
        (.access ⟨s.ctxVi i.core i.ctx, store, wide, sp == 2, addr, size, signed, i.rd, data⟩))

/-- LD. -/
def execLd (core x : Nat) (s : State) : Host.Outcome State Fault Refusal :=
  .next (s.slRun .opLd core x (State.slMemory false false))
/-- ST. -/
def execSt (core x : Nat) (s : State) : Host.Outcome State Fault Refusal :=
  .next (s.slRun .opSt core x (State.slMemory true false))
/-- LDD. -/
def execLdd (core x : Nat) (s : State) : Host.Outcome State Fault Refusal :=
  .next (s.slRun .opLdd core x (State.slMemory false true))
/-- STD. -/
def execStd (core x : Nat) (s : State) : Host.Outcome State Fault Refusal :=
  .next (s.slRun .opStd core x (State.slMemory true true))

/-! ## VIRT and PHYS accesses (R356, R393, R418) -/

/-- What a VIRT or PHYS access comes to. -/
inductive SlAccOut where
  | ok (ws : List PW)
  | trap (cause : Nat) (tag : W32)
  | waits
deriving DecidableEq, Repr

/-- The source code of a core's accesses at FAB: its logical cluster, or the host's on behalf of the VI for a herd core
(DEDUCED, log entry 28). -/
def State.slSrc (s : State) (core vi : Nat) : Nat := if core < 18 then s.clusterSrc core else 0x1000 + vi

/-- R393: whether a device physical address lies in the core's own cluster, and where. -/
def State.slOwn (s : State) (core pa : Nat) : Option Nat :=
  match s.dpaTarget pa with
  | .tm l off => if core < 18 ∧ s.physCluster l = core then some off else none
  | _ => none

/-- The outcome of an access that reached its path: one held at a channel for longer than MU_HOLD.LIMIT gives a load its poisoned
words and traps a store (R203). -/
def slOfMem (store : Bool) : MemOut → SlAccOut
  | .done ws => .ok ws
  | .plotRefused r => .trap 8 (BitVec.ofNat 32 r)
  | .wnRefused r => .trap 9 (BitVec.ofNat 32 r)
  | .expired ws => if store then .trap 0xA 0 else .ok ws
  | .host _ => .waits
  | .waits => .waits

/-- An access at a device physical address: the own cluster through SCP, a plot through the cache or to its stack, another
cluster's FAB (R356, R393). -/
def State.slDevice (s : State) (core x : Nat) (a : SlAccess) (pa : Nat) : SlAccOut × State :=
  match s.slOwn core pa with
  | some off =>
    if s.tmReady core = false then (.waits, s)
    else if a.store then (.ok [], s.tmWriteAll core 8 (maskedWords off a.size a.data))
    else
      let (ws, t) := s.tmReadN core 8 (off / 4 * 4) (maskedWords off a.size []).length
      (.ok ws, t)
  | none =>
    let m : MemReq := ⟨s.slSrc core a.vi, ⟨.core core x, 1, a.vi⟩, none, a.addr, a.phys⟩
    let (r, t) := if a.store then s.physWrite m pa a.size 1 a.data true else s.cachedRead m true false pa a.size
    (slOfMem a.store r, t)

/-- An access to host memory: a store leaves on the VI's port, a load takes the words that came, poisoned with LINK where their
TLP was poisoned or timed out (R447, R461). With the port's link down it traps HOST_LINK (DEDUCED, log entry 29). -/
def State.slHost (s : State) (a : SlAccess) (h : Nat) (data : List PW) : SlAccOut × State :=
  let port := s.fld .HQ_VI_CFG_PORT a.vi 0
  if nbit s.power.links port = false then (.trap 0xB 0, s)
  else if a.store then (.ok [], s.hostWrite port h a.size a.data)
  else
    let n := (maskedWords h a.size []).length
    if n ≤ data.length then (.ok (s.hostWords a.vi (data.take n)), s) else (.waits, s)

/-- A VIRT or PHYS access is carried out. `data` holds the words of a host-memory load. -/
def State.slAccess (s : State) (core x : Nat) (a : SlAccess) (data : List PW) : SlAccOut × State :=
  if a.phys then s.slDevice core x a a.addr
  else match s.reach a.vi a.addr a.store (.core core x) with
    | (.device pa _, t) => t.slDevice core x a pa
    | (.host h _, t) => t.slHost a h data
    | (.fail r, t) => (.trap 8 (BitVec.ofNat 32 r), t)
    | (_, t) => (.waits, t)

/-- The context goes on after its access: READY, or STOPPED if STOP was written meanwhile (R336). -/
def State.slResume (s : State) (core x : Nat) : State :=
  if s.flag .SC_CTX_CTL_STOP core x then
    ((s.setCtxState core x 0).setFlag .SC_CTX_CTL_STOP core x false).schedule core
  else s.makeReady core x

/-- REMOTE_ACCESS_COMPLETE (R356, R338, R336): a context's access completes or is refused, and the context becomes READY or
traps; an access whose context was reset completes with its result discarded. -/
def execRemoteAccessComplete (core x : Nat) (data : List PW) (s : State) : Host.Outcome State Fault Refusal :=
  .next <|
    match s.sc.waits.find? (fun (w : SlWait) => w.core == core && w.ctx == x && (match w.kind with
        | .access _ => true
        | _ => false)) with
    | none => s
    | some w =>
      match w.kind with
      | .access a =>
        let (out, t) := s.slAccess core x a data
        let u := t.withSc { t.sc with waits := t.sc.waits.erase w }
        if w.discard then (match out with | .waits => t | _ => u)
        else
          let i : SlI := ⟨core, x, s.slPc core x, a.rd * 2 ^ 21, 0⟩
          match out with
          | .waits => t
          | .ok ws => ((if a.store then u else u.slLoaded i a.wide a.signed a.addr a.size ws).slNext i).slResume core x
          | .trap c tag =>
            if s.owesAnswer core x then s else
            let v := u.slTrap core x c a.addr tag (s.slPc core x)
            if v.ctxState core x = 4 then v else v.slResume core x
      | _ => s

end Sys2Proof.Machine
end

