-- ==== Sys2Proof/Machine/SloakUnits.lean ====
section
/-! DEFINITION. Sloak instructions that hand work to a unit or wait: engine and mule issue, streams, waits, FENCE, locks,
cache control, TRAP and ERET (R358, R395 to R403, R407). -/
namespace Sys2Proof.Machine

open Sys2Proof

/-- R355: a unit has taken an instruction's work: its answer is owed to rd; `ready` once the unit has given it. -/
def State.slAnswer (s : State) (i : SlI) (code : Nat) (ready : Bool) : State :=
  (s.withSc { s.sc with answers := s.sc.answers ++ [⟨i.core, i.ctx, i.rd, code, ready⟩] }).slNext i

/-- The VI an instruction acts for. -/
def State.slVi (s : State) (i : SlI) : Nat := s.ctxVi i.core i.ctx

/-! ## Engines and mules (R358, R395) -/

/-- MXISSUE, VXISSUE, GTISSUE: ILLEGAL on a herd core; a poisoned descriptor bites; 0 ACCEPTED or 1 QUEUE_FULL. -/
def State.slEngine (s : State) (op : SlOp) (core x k : Nat) : State :=
  s.slRun op core x (slGuarded (fun i t =>
    let d := t.slD core x i.ds
    if isHerdCore core then i.illegal t
    else if d.poison then i.bite 5 d.tag t
    else
      let (code, u) := t.engIssue core k d.data (t.slVi i)
      .done (u.slAnswer i code true)))

/-- MXISSUE. -/
def execMxissue (core x : Nat) (s : State) : Host.Outcome State Fault Refusal := .next (s.slEngine .opMxissue core x 0)
/-- VXISSUE. -/
def execVxissue (core x : Nat) (s : State) : Host.Outcome State Fault Refusal := .next (s.slEngine .opVxissue core x 1)
/-- GTISSUE. -/
def execGtissue (core x : Nat) (s : State) : Host.Outcome State Fault Refusal := .next (s.slEngine .opGtissue core x 2)

/-- R395, R197: whether a mule command may be issued: by the window's OWNER_VI, by VI0, or, one of codes 0x01 to 0x09, on a window of
VI0 (log entry 81), the window's stack being present and on. -/
def State.slMuleMay (s : State) (d : BitVec 256) (vi : Nat) : Bool :=
  let w := mdWindow d
  let o := s.fld .MU_WIN_CTL_OWNER_VI w 0
  (o == vi || vi == 0 || (o == 0 && mdOp d != 0x10 && mdOp d != 0x11)) && s.stackOn (s.fld .MU_WIN_CTL_STACK w 0)

/-- MUISSUE (R192, R395): 0 ACCEPTED, 1 QUEUE_FULL, 4 NOT_PERMITTED. -/
def execMuissue (core x : Nat) (s : State) : Host.Outcome State Fault Refusal :=
  .next (s.slRun .opMuissue core x (slGuarded (fun i t =>
    let d := t.slD core x i.ds
    if d.poison then i.bite 5 d.tag t
    else if t.slMuleMay d.data (t.slVi i) = false then .done (t.slAnswer i 4 true)
    else
      let (code, u) := t.muIssue d.data (t.slVi i) false (some i.core)
      .done (u.slAnswer i (if code = 0 then 0 else 1) true))))

/-! ## Streams (R270, R288, R291, R395, R396) -/

/-- The stream engine a core acts on: its cluster's, or its I/O die's (R368). -/
def slStreams (core : Nat) : Nat := if core < 18 then core else 18 + (core - 18) / 2

/-- An instruction on the stream context that rb names; one out of range is ILLEGAL (R380, R395). -/
def slOnStream (f : Nat → SlI → State → SlOut) (i : SlI) (s : State) : SlOut :=
  let b := s.slRb i
  if b.poison then i.bite 0 b.tag s
  else if stExists (slStreams i.core) b.data.toNat = false then i.illegal s
  else f b.data.toNat i s

/-- STISSUE. -/
def execStissue (core x : Nat) (s : State) : Host.Outcome State Fault Refusal :=
  .next (s.slRun .opStissue core x (slGuarded (fun i t =>
    let a := t.slRa i
    if a.poison then i.bite 0 a.tag t
    else slOnStream (fun y i t =>
      if nfield a.data.toNat 50 14 ≠ 0 then i.illegal t
      else
        let (code, u) := t.stIssueList (slStreams core) y (t.slVi i) (nfield a.data.toNat 0 48) (nfield a.data.toNat 48 2)
        .done (u.slAnswer i code true)) i t)))

/-- STCANCEL. -/
def execStcancel (core x : Nat) (s : State) : Host.Outcome State Fault Refusal :=
  .next (s.slRun .opStcancel core x (slGuarded (slOnStream (fun y i t =>
    let (code, u) := t.stCancel (slStreams core) y (t.slVi i)
    .done (u.slAnswer i code true)))))

/-- STRESUME. -/
def execStresume (core x : Nat) (s : State) : Host.Outcome State Fault Refusal :=
  .next (s.slRun .opStresume core x (slGuarded (slOnStream (fun y i t =>
    let (code, u) := t.stResume (slStreams core) y (t.slVi i)
    .done (u.slAnswer i code true)))))

/-! ## Waits and FENCE (R397 to R401) -/

/-- The value a wait writes to rd once its condition holds: the counter, MU_READY, or fleet time. -/
def State.waitValue (s : State) : SlWaitKind → Nat
  | .cnt c i _ => s.fld .WN_CNT_VALUE c i
  | .mu k _ => if s.stackOn k then (List.range 64).foldl (fun n pc => if s.chMode k pc = 0 then n + 2 ^ pc else n) 0 else 0
  | .ft _ => s.now
  | .access _ => 0

/-- A wait: with its condition true at issue, or found true since, it completes and writes rd; else the context waits. -/
def State.slWaitFor (s : State) (i : SlI) (k : SlWaitKind) : SlOut :=
  let woken : Bool := match s.slWait i.core i.ctx with | some w => w.met | none => false
  if woken || s.waitMet k then
    .done ((s.dropWait i.core i.ctx).slPut i ⟨BitVec.ofNat 64 (s.waitValue k), false⟩)
  else .done (s.slSuspend i.core i.ctx k)

/-- WAITCNT: a steer core names its own logical cluster, a herd core any (R398). -/
def execWaitcnt (core x : Nat) (s : State) : Host.Outcome State Fault Refusal :=
  .next (s.slRun .opWaitcnt core x (slGuarded (fun i t =>
    let a := t.slRa i
    let b := t.slRb i
    let l := nfield a.data.toNat 8 4
    if a.poison then i.bite 0 a.tag t
    else if b.poison then i.bite 1 b.tag t
    else if nfield a.data.toNat 12 52 ≠ 0 ∨ (core < 18 ∧ t.logCluster core ≠ some l) then i.illegal t
    else t.slWaitFor i (.cnt (t.physCluster l) (nfield a.data.toNat 0 8) (b.data.toNat % 2 ^ 32)))))

/-- WAITMU (R399). -/
def execWaitmu (core x : Nat) (s : State) : Host.Outcome State Fault Refusal :=
  .next (s.slRun .opWaitmu core x (slGuarded (fun i t =>
    let a := t.slRa i
    let b := t.slRb i
    if a.poison then i.bite 0 a.tag t
    else if b.poison then i.bite 1 b.tag t
    else if 8 ≤ a.data.toNat ∨ t.stackPresent a.data.toNat = false then i.illegal t
    else t.slWaitFor i (.mu a.data.toNat b.data.toNat))))

/-- WAITFT (R400). -/
def execWaitft (core x : Nat) (s : State) : Host.Outcome State Fault Refusal :=
  .next (s.slRun .opWaitft core x (slGuarded (fun i t =>
    let a := t.slRa i
    if a.poison then i.bite 0 a.tag t else t.slWaitFor i (.ft a.data.toNat))))

/-- FENCE (R401, R73): SCP's merge buffer, or every merge buffer of the cluster; a herd core has neither. -/
def execFence (core x : Nat) (s : State) : Host.Outcome State Fault Refusal :=
  .next (s.slRun .opFence core x (slGuarded (fun i t =>
    if isHerdCore core then .done (t.slNext i)
    else if nbit i.ds 1 then .done ((t.fencePorts core [0, 1, 2, 3, 4, 8]).slNext i)
    else .done ((t.fencePorts core [8]).slNext i))))

/-! ## Locks (R402, R109 to R112, R479) -/

/-- R402, R479: LOCK or UNLOCK: put to the local lock unit, which answers in its turn (R118), or sent to the module that ra names;
`err` is the error that the local word's code meets (R120). A module that cannot be reached traps HERD_LOST. -/
def slLock (unlock : Bool) (err : Nat) (i : SlI) (s : State) : SlOut :=
  let a := s.slRa i
  let v := a.data.toNat
  let herd := nfield v 16 12
  if a.poison then i.bite 0 a.tag s
  else if nfield v 13 3 ≠ 0 ∨ nfield v 28 3 ≠ 0 ∨ nfield v 32 32 ≠ 0 then i.illegal s
  else if nbit v 31 ∧ herd ≠ s.herdId then
    match s.remoteSend 0x07 1 herd 0 (nfield v 0 13 + b2n unlock * 2 ^ 15 + s.slVi i * 2 ^ 16 + coreCode i.core * 2 ^ 22
        + i.ctx * 2 ^ 27) 0 [] (.core i.core i.ctx i.rd v) with
    | some t => .done (t.slAnswer i 0 false)
    | none => i.trap 0xC v (BitVec.ofNat 32 herd) s
  else
    let q : LockReq := ⟨nfield v 0 13, s.lockSource (nfield v 0 13) i.core, s.ctxOwner i.core i.ctx, unlock, err,
      some (i.core, i.ctx, i.rd)⟩
    .done ((s.withTm { s.tm with lockQ := s.tm.lockQ ++ [q] }).slAnswer i 0 false)

/-- LOCK. -/
def execLock (core x err : Nat) (s : State) : Host.Outcome State Fault Refusal :=
  .next (s.slRun .opLock core x (slGuarded (slLock false err)))
/-- UNLOCK. -/
def execUnlock (core x err : Nat) (s : State) : Host.Outcome State Fault Refusal :=
  .next (s.slRun .opUnlock core x (slGuarded (slLock true err)))

/-! ## Cache control (R403, R417) -/

/-- What a virtual range of a cache operation comes to (R403). -/
inductive LcRanges where
  /-- The device ranges, as (address, bytes). -/
  | all (l : List (Nat × Nat))
  /-- The first page that does not translate, and why. -/
  | fails (addr reason : Nat)
  /-- A page was asked for, or a walk waits at a channel. -/
  | waits
deriving DecidableEq, Repr

/-- A range that comes before others. -/
def LcRanges.cons (r : LcRanges) (w : Walk) (n : Nat) : LcRanges :=
  match r, w with
  | .all l, .device pa _ => .all ((pa, n) :: l)
  | r, _ => r

/-- R403: the device ranges of a virtual range, page by page, for a context; pages of host memory are passed over. -/
def State.lcRanges (core x : Nat) : Nat → State → Nat → Nat → Nat → LcRanges × State
  | 0, s, _, _, _ => (.all [], s)
  | fuel + 1, s, vi, addr, len =>
    if len = 0 then (.all [], s)
    else
      let n := min len (65536 - addr % 65536)
      match s.reach vi addr false (.core core x) with
      | (.fail r, t) => (.fails addr r, t)
      | (.pri, t) => (.waits, t)
      | (.waits, t) => (.waits, t)
      | (w, t) =>
        let (r, u) := lcRanges core x fuel t vi (addr + n) (len - n)
        (r.cons w n, u)

/-- LCFLUSH or LCINVAL: each range is one operation of the cache; rd is answered when the last completes. While its translation waits
for a page the instruction has not issued: it comes again at the same address (DEDUCED, log entry 156). -/
def slCache (flush : Bool) (i : SlI) (s : State) : SlOut :=
  let a := s.slRa i
  let b := s.slRb i
  let vi := s.slVi i
  let addr := nfield a.data.toNat 0 48
  let len := b.data.toNat
  let space := nfield a.data.toNat 48 2
  let who := some (i.core, i.ctx, i.rd)
  if a.poison then i.bite 0 a.tag s
  else if b.poison then i.bite 1 b.tag s
  else if 2 ^ 40 ≤ len ∨ space = 1 ∨ space = 3 then i.illegal s
  else if space = 2 ∧ vi ≠ 0 then i.privilege s
  else if len = 0 then .done ((s.lcOpStart ⟨0, vi, flush, true, 0, 0, who, 0⟩).slAnswer i 0 false)
  else if space = 2 then .done ((s.lcOpStart ⟨0, vi, flush, false, addr, len, who, 0⟩).slAnswer i 0 false)
  else match s.lcRanges i.core i.ctx (len / 65536 + 2) vi addr len with
    | (.fails p r, t) => i.trap 8 p (BitVec.ofNat 32 r) t
    | (.waits, t) => .done t
    | (.all [], t) => .done (t.slAnswer i 0 true)
    | (.all l, t) =>
      .done ((t.each l (fun (q : Nat × Nat) u => u.lcOpStart ⟨0, vi, flush, false, q.1, q.2, who, 0⟩)).slAnswer i 0 false)

/-- LCFLUSH. -/
def execLcflush (core x : Nat) (s : State) : Host.Outcome State Fault Refusal :=
  .next (s.slRun .opLcflush core x (slGuarded (slCache true)))
/-- LCINVAL. -/
def execLcinval (core x : Nat) (s : State) : Host.Outcome State Fault Refusal :=
  .next (s.slRun .opLcinval core x (slGuarded (slCache false)))

/-! ## TRAP and ERET (R407, R363) -/

/-- TRAP: the SOFTWARE trap, with the address of the TRAP and its immediate; EPC is the next address. -/
def execTrap (core x : Nat) (s : State) : Host.Outcome State Fault Refusal :=
  .next (s.slRun .opTrap core x (slGuarded (fun i t =>
    .trap 0xD i.pc (BitVec.ofNat 32 (nfield i.w 11 15)) (i.pc + 4) (t.scCount core 0))))

/-- ERET: PRIVILEGE at USER. -/
def execEret (core x : Nat) (s : State) : Host.Outcome State Fault Refusal :=
  .next (s.slRun .opEret core x (fun i t =>
    if t.ctxPriv core x then .done ((t.slReturn core x).scCount core 0) else i.privilege t))

end Sys2Proof.Machine
end

