-- ==== Sys2Proof/Machine/Writes.lean ====
section
/-! DEFINITION. The commands that are register accesses, and the service messages that carry them (R11, R12, R22, R556,
R577). -/
namespace Sys2Proof.Machine

open Sys2Proof

/-- A write with one field of its value fixed by the command. -/
def wrSet (w : Wr) (f : Fld) (x : Nat) : Wr := { w with value := setBits w.value f.lo f.w x }

/-- The command writes the field's register with the field at `x`. -/
def State.fieldWrite (s : State) (w : Wr) (f : Fld) (x i j : Nat) : State := (s.rowWrite (wrSet w f x) f.id i j).2

/-! ## Any register (R11, R12, R22) -/

/-- R22, R422, R423: a write of BAR0 by its path. An offset that a VF does not see is captured as UNMAPPED, with that offset; an access
refused inside a VF's view is captured with the PF offset it stands for (DEDUCED, log entry 146). A poisoned write of a host
function is dropped and counted. -/
def State.pathWrite (s : State) (w : Wr) (off : Nat) (poison : Bool) : Nat × State :=
  if s.pathOpen w.acc = false then (3, s)
  else match w.acc.origin, poison with
    | .vi v, true => (0, s.viCount v 5)
    | _, _ =>
      match s.pathOffset w.acc off with
      | none => (1, s.accessErr w.acc off 1 true)
      | some o => s.busWrite w o

/-- R22, R422, R423: a read of BAR0 by its path: its kind, its words and the state. -/
def State.pathRead (s : State) (a : Acc) (wide : Bool) (off : Nat) : Nat × List PW × State :=
  match s.pathOffset a off with
  | none => (1, List.replicate (if wide then 2 else 1) ⟨0, false⟩, s.accessErr a off 1 false)
  | some o => s.busRead a wide o

/-- The words of a read complete to the host function that asked. -/
def State.answerRead (s : State) (a : Acc) (ws : List PW) : State :=
  match a.origin with
  | .vi _ => s.emit (.cpl a.port ws)
  | _ => s

/-- REGISTER_WRITE (R11, R13 to R16, R22). -/
def execRegisterWrite (w : Wr) (off : Nat) (poison : Bool) (s : State) : Host.Outcome State Fault Refusal :=
  .next (s.pathWrite w off poison).2

/-- REGISTER_READ (R14, R15, R22). -/
def execRegisterRead (a : Acc) (wide : Bool) (off : Nat) (s : State) : Host.Outcome State Fault Refusal :=
  .next <|
    if s.pathOpen a = false then s
    else
      let r := s.pathRead a wide off
      r.2.2.answerRead a r.2.1

/-- Whether a SHADOW register's boundary passes with nothing else (log entry 16): what its field governs is idle, so that the value in
force is not seen before the operation, period or round that the register's table names. The boundaries that are events of their own
apply the value there: a feed window (R265), PL_TLB_INV.GO (R179), and each of those below while the unit works. -/
def State.atBoundary (s : State) (id : RegId) (i j : Nat) : Bool :=
  s.isPending id i j && (match id with
    | .FT_PORT_ASYM => (s.portTime i).t3 == none
    | .TMX_HOT_CFG => s.inForce .TMX_HOT_CFG_EN i 0 == 0
    | .MU_HOLD => (List.range 64).all (fun pc => s.chMode i pc == 0)
    | .GT_CFG => (s.engQueue i 2).isEmpty
    | .SC_CORE_CFG => true
    | .SC_CORE_QUANTUM => !s.coreRuns i
    | .HQ_VI_CFG => s.hq.staged.isEmpty
    | .TH_CFG => !s.flag .PM_STATUS_RUNNING 0 0
    | _ => false)

/-- SHADOW_APPLY (R12): the boundary of the SHADOW register at an offset passes. -/
def execShadowApply (off : Nat) (s : State) : Host.Outcome State Fault Refusal :=
  .next <|
    match regAt off with
    | some r => if s.atBoundary r.id r.i r.j then s.applyShadow r.id r.i r.j else s
    | none => s

/-- ACCESS_ERR_CLEAR (R22). -/
def execAccessErrClear (w : Wr) (s : State) : Host.Outcome State Fault Refusal :=
  .next (s.fieldWrite w .SV_ACCESS_ERR_VALID 1 0 0)

/-! ## Fleet time and trace -/

/-- ACCEPT_STEP (R31). -/
def execAcceptStep (w : Wr) (s : State) : Host.Outcome State Fault Refusal :=
  .next (s.fieldWrite w .FT_CTRL_ACCEPT_STEP 1 0 0)

/-- A commit with the two modes of R40. -/
def commitWr (w : Wr) (rep can : Nat) : Wr := wrSet (wrSet w .FT_STG_CTL_REPLACE rep) .FT_STG_CTL_CANCEL can

/-- STROKE_COMMIT (R35, R37, R38). -/
def execStrokeCommit (w : Wr) (s : State) : Host.Outcome State Fault Refusal :=
  .next (s.fieldWrite (commitWr w 0 0) .FT_STG_CTL_COMMIT 1 0 0)

/-- STROKE_REPLACE (R40). -/
def execStrokeReplace (w : Wr) (s : State) : Host.Outcome State Fault Refusal :=
  .next (s.fieldWrite (commitWr w 1 0) .FT_STG_CTL_COMMIT 1 0 0)

/-- STROKE_CANCEL (R40). -/
def execStrokeCancel (w : Wr) (s : State) : Host.Outcome State Fault Refusal :=
  .next (s.fieldWrite (commitWr w 0 1) .FT_STG_CTL_COMMIT 1 0 0)

/-- TRACE_ENABLE (R47). -/
def execTraceEnable (w : Wr) (u : Nat) (s : State) : Host.Outcome State Fault Refusal :=
  .next (s.fieldWrite w .FT_TRACE_CTL_EN 1 u 0)

/-! ## Tensor memory, windows, locks -/

/-- TMX_COUNTER_CLEAR (R82). -/
def execTmxCounterClear (w : Wr) (c : Nat) (s : State) : Host.Outcome State Fault Refusal :=
  .next (s.fieldWrite w .TMX_CNT_CTL_CLEAR 1 c 0)

/-- WINDOW_OPEN (R99, R116). -/
def execWindowOpen (w : Wr) (c n : Nat) (s : State) : Host.Outcome State Fault Refusal :=
  .next (s.fieldWrite w .WN_CTL_OPEN 1 c n)

/-- WINDOW_CLOSE (R100). -/
def execWindowClose (w : Wr) (c n : Nat) (s : State) : Host.Outcome State Fault Refusal :=
  .next (s.fieldWrite w .WN_CTL_OPEN 0 c n)

/-- WN_CNT_WRITE (R104). -/
def execWnCntWrite (w : Wr) (c n : Nat) (s : State) : Host.Outcome State Fault Refusal :=
  .next (s.rowWrite w .WN_CNT c n).2

/-- WN_CNT_SUB (R104). -/
def execWnCntSub (w : Wr) (c n : Nat) (s : State) : Host.Outcome State Fault Refusal :=
  .next (s.rowWrite w .WN_CNT_SUB c n).2

/-- LOCK_FORCE (R114). -/
def execLockForce (w : Wr) (d : Nat) (s : State) : Host.Outcome State Fault Refusal :=
  .next (s.fieldWrite w .LK_FORCE_GO 1 d 0)

/-! ## Data integrity -/

/-- SCRUB_GO (R143). -/
def execScrubGo (w : Wr) (d n : Nat) (s : State) : Host.Outcome State Fault Refusal :=
  .next (s.fieldWrite w .IN_SCRUB_CTL_GO 1 d n)

/-- SCRUB_STOP (R156). -/
def execScrubStop (w : Wr) (d n : Nat) (s : State) : Host.Outcome State Fault Refusal :=
  .next (s.fieldWrite w .IN_SCRUB_CTL_STOP 1 d n)

/-- ERROR_COUNT_CLEAR (R159). -/
def execErrorCountClear (w : Wr) (d : Nat) (s : State) : Host.Outcome State Fault Refusal :=
  .next (s.fieldWrite w .IN_ECNT_CLR_CLEAR 1 d 0)

/-- SPLIT_WRITE (R147). -/
def execSplitWrite (w : Wr) (d : Nat) (s : State) : Host.Outcome State Fault Refusal :=
  .next (s.fieldWrite w .IN_DIAG_GO 1 d 0)

/-- TM_ROW_REPAIR (R152). -/
def execTmRowRepair (w : Wr) (d : Nat) (s : State) : Host.Outcome State Fault Refusal :=
  .next (s.fieldWrite (wrSet w .IN_REPAIR_KIND 0) .IN_REPAIR_GO 1 d 0)

/-- LC_LINE_REPAIR (R244). -/
def execLcLineRepair (w : Wr) (d : Nat) (s : State) : Host.Outcome State Fault Refusal :=
  .next (s.fieldWrite (wrSet w .IN_REPAIR_KIND 1) .IN_REPAIR_GO 1 d 0)

/-- HBM_ROW_REPAIR (R153). -/
def execHbmRowRepair (w : Wr) (d : Nat) (s : State) : Host.Outcome State Fault Refusal :=
  .next (s.fieldWrite (wrSet w .IN_REPAIR_KIND 2) .IN_REPAIR_GO 1 d 0)

/-! ## Plots, mules, cache, arbiters -/

/-- PLOT_ENABLE (R169). -/
def execPlotEnable (w : Wr) (k n : Nat) (s : State) : Host.Outcome State Fault Refusal :=
  .next (s.fieldWrite w .PL_CTL_ENABLE 1 k n)

/-- PLOT_ATTR_CHANGE (R169): ENABLE stays as it is. -/
def execPlotAttrChange (w : Wr) (k n : Nat) (s : State) : Host.Outcome State Fault Refusal :=
  .next (s.fieldWrite w .PL_CTL_ENABLE (s.fld .PL_CTL_ENABLE k n) k n)

/-- PL_TAG_WRITE (R175). -/
def execPlTagWrite (w : Wr) (k n : Nat) (s : State) : Host.Outcome State Fault Refusal :=
  .next (s.rowWrite w .PL_TAG k n).2

/-- RANGE_FILL (R171). -/
def execRangeFill (w : Wr) (k : Nat) (s : State) : Host.Outcome State Fault Refusal :=
  .next (s.fieldWrite w .PL_FILL_GO 1 k 0)

/-- TLB_INV (R179). -/
def execTlbInv (w : Wr) (s : State) : Host.Outcome State Fault Refusal :=
  .next (s.fieldWrite w .PL_TLB_INV_GO 1 0 0)

/-- MU_CMD_GO (R192). -/
def execMuCmdGo (w : Wr) (s : State) : Host.Outcome State Fault Refusal :=
  .next (s.fieldWrite w .MU_CMD_GO_GO 1 0 0)

/-- MU_WIN_CMD_OPEN (R205). -/
def execMuWinCmdOpen (w : Wr) (s : State) : Host.Outcome State Fault Refusal :=
  .next (s.fieldWrite (wrSet w .MU_WIN_CMD_CLOSE 0) .MU_WIN_CMD_GO 1 0 0)

/-- MU_WIN_CMD_CLOSE (R206). -/
def execMuWinCmdClose (w : Wr) (s : State) : Host.Outcome State Fault Refusal :=
  .next (s.fieldWrite (wrSet w .MU_WIN_CMD_CLOSE 1) .MU_WIN_CMD_GO 1 0 0)

/-- SUSPECT_CLEAR (R218). -/
def execSuspectClear (w : Wr) (k pc : Nat) (s : State) : Host.Outcome State Fault Refusal :=
  .next (s.fieldWrite w .MU_SUSPECT_VALID 1 k pc)

/-- LC_PART_WRITE (R224). -/
def execLcPartWrite (w : Wr) (v : Nat) (s : State) : Host.Outcome State Fault Refusal :=
  .next (s.rowWrite w .LC_PART v 0).2

/-- LC_OP_FLUSH (R236). -/
def execLcOpFlush (w : Wr) (s : State) : Host.Outcome State Fault Refusal :=
  .next (s.fieldWrite (wrSet w .LC_OP_FLUSH 1) .LC_OP_GO 1 0 0)

/-- LC_OP_INVAL (R235). -/
def execLcOpInval (w : Wr) (s : State) : Host.Outcome State Fault Refusal :=
  .next (s.fieldWrite (wrSet w .LC_OP_FLUSH 0) .LC_OP_GO 1 0 0)

/-- LC_COUNTER_CLEAR (R237). -/
def execLcCounterClear (w : Wr) (d : Nat) (s : State) : Host.Outcome State Fault Refusal :=
  .next (s.fieldWrite w .LC_CNT_CTL_CLEAR 1 d 0)

/-- TR_COUNTER_CLEAR (R267). -/
def execTrCounterClear (w : Wr) (arb : Nat) (s : State) : Host.Outcome State Fault Refusal :=
  .next (s.fieldWrite w .TR_CNT_CLR_CLEAR 1 arb 0)

/-! ## Streams, engines, cores -/

/-- ST_CMD_ISSUE (R270). -/
def execStCmdIssue (w : Wr) (e c : Nat) (s : State) : Host.Outcome State Fault Refusal :=
  .next (s.fieldWrite w .ST_CMD_ISSUE 1 e c)

/-- ST_CMD_CANCEL (R291). -/
def execStCmdCancel (w : Wr) (e c : Nat) (s : State) : Host.Outcome State Fault Refusal :=
  .next (s.fieldWrite w .ST_CMD_CANCEL 1 e c)

/-- ST_CMD_RESUME (R288). -/
def execStCmdResume (w : Wr) (e c : Nat) (s : State) : Host.Outcome State Fault Refusal :=
  .next (s.fieldWrite w .ST_CMD_RESUME 1 e c)

/-- ST_COUNTER_CLEAR (R291). -/
def execStCounterClear (w : Wr) (e : Nat) (s : State) : Host.Outcome State Fault Refusal :=
  .next (s.fieldWrite w .ST_CNT_CLR_CLEAR 1 e 0)

/-- The counter clear of an engine block: 0 matrix, 1 vector, 2 gather. -/
def engineClear (k : Nat) : Fld := [Fld.mk .MX_CNT_CLR 0 1, ⟨.VX_CNT_CLR, 0, 1⟩].getD k ⟨.GT_CNT_CLR, 0, 1⟩

/-- ENGINE_COUNTER_CLEAR (R303). -/
def execEngineCounterClear (w : Wr) (c k : Nat) (s : State) : Host.Outcome State Fault Refusal :=
  .next (s.fieldWrite w (engineClear k) 1 c 0)

/-- CONTEXT_START (R336). -/
def execContextStart (w : Wr) (core x : Nat) (s : State) : Host.Outcome State Fault Refusal :=
  .next (s.fieldWrite w .SC_CTX_CTL_START 1 core x)

/-- CONTEXT_STOP (R336). -/
def execContextStop (w : Wr) (core x : Nat) (s : State) : Host.Outcome State Fault Refusal :=
  .next (s.fieldWrite w .SC_CTX_CTL_STOP 1 core x)

/-- CONTEXT_RESET (R338). -/
def execContextReset (w : Wr) (core x : Nat) (s : State) : Host.Outcome State Fault Refusal :=
  .next (s.fieldWrite w .SC_CTX_CTL_RESET 1 core x)

/-- CORE_RESET (R339). -/
def execCoreReset (w : Wr) (core : Nat) (s : State) : Host.Outcome State Fault Refusal :=
  .next (s.fieldWrite w .SC_CORE_CTL_RESET 1 core 0)

/-- HOST_KICK (R366). -/
def execHostKick (w : Wr) (core x : Nat) (s : State) : Host.Outcome State Fault Refusal :=
  .next (s.fieldWrite w .SC_CTX_KICK_HOST 1 core x)

/-- CFG_ERR_CLEAR (R405). -/
def execCfgErrClear (w : Wr) (core : Nat) (s : State) : Host.Outcome State Fault Refusal :=
  .next (s.fieldWrite w .SC_CFG_ERR_VALID 1 core 0)

/-- SC_COUNTER_CLEAR (R355). -/
def execScCounterClear (w : Wr) (core : Nat) (s : State) : Host.Outcome State Fault Refusal :=
  .next (s.fieldWrite w .SC_CNT_CLR_CLEAR 1 core 0)

/-- The offset of a word of a core's steer-memory window (R341, R367). -/
def steerWinOff (core off : Nat) : Nat :=
  (if core < 18 then 0x1100000 + 0x200000 * core else 0xC00000 + 0x80000 * (core - 18)) + off / 4 * 4

/-- STEER_WINDOW_ACCESS (R341): one word of a core's steer memory. -/
def execSteerWindowAccess (a : Acc) (core off : Nat) (write : Bool) (v : W32) (s : State) : Host.Outcome State Fault Refusal :=
  .next <|
    if s.pathOpen a = false then s
    else
      let o := steerWinOff core off
      match s.pathOffset a o, write with
      | none, _ => s.accessErr a o 1 write
      | some o', true => (s.writeAt ⟨a, false, v.setWidth 64⟩ o').2
      | some o', false =>
        let r := s.readOne a o'
        r.2.2.answerRead a [r.2.1]

/-! ## Queues and virtual instances -/

/-- QUEUE_ENABLE (R426). -/
def execQueueEnable (w : Wr) (q : Nat) (s : State) : Host.Outcome State Fault Refusal :=
  .next (s.fieldWrite w .HQ_Q_CFG_ENABLE 1 q 0)

/-- HQ_POST (R433): through the HQ block, or through cluster `c`'s own copy of the register. -/
def execHqPost (w : Wr) (c : Option Nat) (poison : Bool) (s : State) : Host.Outcome State Fault Refusal :=
  .next <|
    match c with
    | none => (s.rowWriteBy w .HQ_POST_HQ 0 0 (fun t => t.hqPost w.acc w.value poison)).2
    | some c => (s.rowWriteBy w .HQ_POST c 0 (fun t => t.hqPost w.acc w.value poison)).2

/-- OPERATOR_ENABLE (R431). -/
def execOperatorEnable (w : Wr) (v op : Nat) (s : State) : Host.Outcome State Fault Refusal :=
  .next (s.fieldWrite w .HQ_OP_EN 1 v op)

/-- QUEUE_CANCEL (R458). -/
def execQueueCancel (w : Wr) (q : Nat) (s : State) : Host.Outcome State Fault Refusal :=
  .next (s.fieldWrite w .HQ_Q_CTL_CANCEL 1 q 0)

/-- VI_RESET (R449). -/
def execViReset (w : Wr) (s : State) : Host.Outcome State Fault Refusal :=
  .next (s.fieldWrite w .HQ_VI_RESET_GO 1 0 0)

/-! ## Herd and power -/

/-- HD_FOUND (R482). -/
def execHdFound (w : Wr) (s : State) : Host.Outcome State Fault Refusal :=
  .next (s.fieldWrite (wrSet w .HD_CTL_ACTION 1) .HD_CTL_GO 1 0 0)

/-- HD_SWAP (R487). -/
def execHdSwap (w : Wr) (s : State) : Host.Outcome State Fault Refusal :=
  .next (s.fieldWrite (wrSet w .HD_CTL_ACTION 2) .HD_CTL_GO 1 0 0)

/-- HD_LEAVE (R482). -/
def execHdLeave (w : Wr) (s : State) : Host.Outcome State Fault Refusal :=
  .next (s.fieldWrite (wrSet w .HD_CTL_ACTION 3) .HD_CTL_GO 1 0 0)

/-- HD_EXPEL (R595). -/
def execHdExpel (w : Wr) (s : State) : Host.Outcome State Fault Refusal :=
  .next (s.fieldWrite (wrSet w .HD_CTL_ACTION 4) .HD_CTL_GO 1 0 0)

/-- PM_START (R503). -/
def execPmStart (w : Wr) (s : State) : Host.Outcome State Fault Refusal :=
  .next (s.fieldWrite w .PM_CTL_START 1 0 0)

/-! ## Service -/

/-- LF_REQ (R558). -/
def execLfReq (w : Wr) (s : State) : Host.Outcome State Fault Refusal :=
  .next (s.fieldWrite w .LF_REQ_GO 1 0 0)

/-- LF_CHALLENGE_READ (R573): a read of one 64-bit part of the challenge. -/
def execLfChallengeRead (a : Acc) (k : Nat) (s : State) : Host.Outcome State Fault Refusal :=
  .next <|
    if s.pathOpen a = false then s
    else
      let r := s.pathRead a true ((offset? .LF_CHALLENGE k 0).getD 0)
      r.2.2.answerRead a r.2.1

/-- NS_CMD with the operation a command names. -/
def State.nestWr (s : State) (w : Wr) (op : Nat) : Nat × State :=
  s.rowWrite (wrSet (wrSet w .NS_CMD_OP op) .NS_CMD_GO 1) .NS_CMD 0 0

/-- NEST_READ (R562, R582): `ue` where the slot's memory has an uncorrectable error. -/
def execNestRead (w : Wr) (ue : Bool) (s : State) : Host.Outcome State Fault Refusal :=
  let slot := getBits w.value 0 9
  let s1 := if ue ∧ s.nestBusy = false ∧ (slot < 2 ∨ s.nestMay w.acc slot) ∧ s.svc.full.contains slot ∧ s.svc.corrupt.contains slot = false then
    s.withSvc { s.svc with corrupt := slot :: s.svc.corrupt } else s
  .next (if s.pathOpen w.acc then (s1.nestWr w 0).2 else s)

/-- NEST_WRITE (R562). -/
def execNestWrite (w : Wr) (s : State) : Host.Outcome State Fault Refusal := .next (s.nestWr w 1).2

/-- NEST_EMPTY_SLOT (R562). -/
def execNestEmptySlot (w : Wr) (s : State) : Host.Outcome State Fault Refusal := .next (s.nestWr w 2).2

/-- NEST_WIPE (R562, R564). -/
def execNestWipe (w : Wr) (s : State) : Host.Outcome State Fault Refusal := .next (s.nestWr w 3).2

/-- AUDIT_ACK (R567). -/
def execAuditAck (w : Wr) (s : State) : Host.Outcome State Fault Refusal := .next (s.rowWrite w .AU_ACK 0 0).2

/-- AUDIT_READ (R569). -/
def execAuditRead (w : Wr) (s : State) : Host.Outcome State Fault Refusal := .next (s.rowWrite w .AU_RD_SEQ 0 0).2

/-- FW_LOAD (R570). -/
def execFwLoad (w : Wr) (s : State) : Host.Outcome State Fault Refusal :=
  .next (s.fieldWrite w .SV_FW_LEN_GO 1 0 0)

/-- The MCTP answer to an access that ended with a kind of R22 (R577). -/
def mctpKind (k : Nat) (ok : List Byte) : Out :=
  if k = 0 then .mctp 0 ok else if k = 8 then .mctp 3 [] else if k = 7 then .mctp 5 [] else .mctp 6 [BitVec.ofNat 8 k]

/-- READ_REG (R577). -/
def execReadReg (off : Nat) (wide : Bool) (s : State) : Host.Outcome State Fault Refusal :=
  .next <| s.mctp fun s =>
      let r := s.busRead (accBmc s) wide off
      r.2.2.emit (mctpKind r.1 (r.2.1.flatMap (fun (p : PW) => bytesOf 4 p.data.toNat)))

/-- WRITE_REG (R577). -/
def execWriteReg (off : Nat) (wide : Bool) (v : W64) (s : State) : Host.Outcome State Fault Refusal :=
  .next <| s.mctp fun s =>
      let r := s.busWrite ⟨accBmc s, wide, v⟩ off
      r.2.emit (mctpKind r.1 [])

/-! ## Messages to the service context (R480, R556) -/

/-- Word `k` of a message's payload. -/
def msgWord (f : Frame) (k : Nat) : Nat := (f.payload.getD k ⟨0, false⟩).data.toNat

/-- The kind of a message that the service firmware takes: its first byte, if it is one. -/
def serviceKind (f : Frame) : Option Nat := if toService f then some (msgWord f 0 % 256) else none

/-- R556: the service firmware acts on an acknowledgement or a register write from the shepherd. A message with a poisoned
word is not acted on (log entry 56). -/
def State.serviceMsg (s : State) (f : Frame) : State :=
  if f.src ≠ s.shepherdId ∨ f.payload.any (fun (p : PW) => p.poison) then s
  else if msgWord f 0 % 256 = 3 then s.auditAck (msgWord f 2 + msgWord f 3 * 2 ^ 32)
  else
    (s.busWrite ⟨accShepherd f.src, nbit (msgWord f 3) 0, BitVec.ofNat 64 (msgWord f 4 + msgWord f 5 * 2 ^ 32)⟩ (msgWord f 2)).2

/-- MSG (R480): into the ring of the context it names, or to the service firmware. -/
def execMsg (p : Nat) (f : Frame) (s : State) : Host.Outcome State Fault Refusal :=
  .next (s.frameIn p f (fun t => some (if toService f then t.serviceMsg f else t.msgIn f)))

/-- AUDIT_ACK_MSG (R556, R567). -/
def execAuditAckMsg (p : Nat) (f : Frame) (s : State) : Host.Outcome State Fault Refusal :=
  .next (if serviceKind f = some 3 then s.frameIn p f (fun t => some (t.serviceMsg f)) else s)

/-- REGISTER_WRITE_MSG (R556). -/
def execRegisterWriteMsg (p : Nat) (f : Frame) (s : State) : Host.Outcome State Fault Refusal :=
  .next (if serviceKind f = some 5 then s.frameIn p f (fun t => some (t.serviceMsg f)) else s)

/-! ## Spares and retirement (R585 to R592) -/

/-- SV_SPARE_CMD with the action a command names. -/
def State.spareWr (s : State) (w : Wr) (d action : Nat) : State :=
  s.fieldWrite (wrSet w .SV_SPARE_CMD_ACTION action) .SV_SPARE_CMD_GO 1 d 0

/-- SPARE_PREPARE (R585). -/
def execSparePrepare (w : Wr) (d : Nat) (s : State) : Host.Outcome State Fault Refusal := .next (s.spareWr w d 1)
/-- SPARE_MIGRATE (R586). -/
def execSpareMigrate (w : Wr) (d : Nat) (s : State) : Host.Outcome State Fault Refusal := .next (s.spareWr w d 2)
/-- SPARE_FRESH (R587). -/
def execSpareFresh (w : Wr) (d : Nat) (s : State) : Host.Outcome State Fault Refusal := .next (s.spareWr w d 3)
/-- SPARE_CANCEL (R585). -/
def execSpareCancel (w : Wr) (d : Nat) (s : State) : Host.Outcome State Fault Refusal := .next (s.spareWr w d 4)

/-- SV_RETIRE with the kind and action a command names; `ok` is what a reinstatement's training or self-test finds. -/
def State.retireWr (s : State) (w : Wr) (kind action : Nat) (ok : Bool) : State :=
  (s.rowWriteBy (wrSet (wrSet (wrSet w .SV_RETIRE_KIND kind) .SV_RETIRE_ACTION action) .SV_RETIRE_GO 1) .SV_RETIRE 0 0
    (fun t => t.retireGo ok)).2

/-- STACK_RETIRE (R590). -/
def execStackRetire (w : Wr) (s : State) : Host.Outcome State Fault Refusal := .next (s.retireWr w 0 1 true)
/-- SLICE_RETIRE (R591). -/
def execSliceRetire (w : Wr) (s : State) : Host.Outcome State Fault Refusal := .next (s.retireWr w 1 1 true)
/-- STACK_REINSTATE (R592). -/
def execStackReinstate (w : Wr) (ok : Bool) (s : State) : Host.Outcome State Fault Refusal := .next (s.retireWr w 0 2 ok)
/-- SLICE_REINSTATE (R592). -/
def execSliceReinstate (w : Wr) (ok : Bool) (s : State) : Host.Outcome State Fault Refusal := .next (s.retireWr w 1 2 ok)

end Sys2Proof.Machine
end

