-- ==== Sys2Proof/Machine/SloakCfg.lean ====
section
/-! DEFINITION. PHASE, SETCFG and GETCFG (R347, R404 to R406, R515). -/
namespace Sys2Proof.Machine

open Sys2Proof

/-- The sender of a core's configuration accesses (R405). -/
def State.slAcc (s : State) (i : SlI) : Acc :=
  ⟨coreOrigin i.core, 5, s.slVi i, i.ctx, s.ctxPriv i.core i.ctx, s.herdId⟩

/-- PHASE (R404, R515): 0 ACCEPTED, 1 UNDEFINED. The answer of a poisoned operand is poisoned (R344). -/
def execPhase (core x : Nat) (s : State) : Host.Outcome State Fault Refusal :=
  .next (s.slRun .opPhase core x (slGuarded (fun i t =>
    let a := t.slRa i
    let n := a.data.toNat
    if 16 ≤ n then i.illegal t
    else
      let r := t.phaseByVi (t.slVi i) n
      .done (if a.poison then r.2.slPut i (slPoisoned a.tag) else r.2.slAnswer i (if r.1 then 0 else 1) true))))

/-- The width bit of ra. -/
def cfgWide (a : W64) : Bool := getBit a 32
/-- The offset in ra. -/
def cfgOff (a : W64) : Nat := getBits a 0 26
/-- Whether every bit of ra that R404 does not name is zero. -/
def cfgClean (a : W64) : Bool := getBits a 26 6 == 0 && getBits a 33 31 == 0

/-- R405: a SETCFG write: its result and the state. A width that does not match the register is refused even where R15 would
split it. -/
def State.cfgWrite (s : State) (w : Wr) (off0 : Nat) : Nat × State :=
  let off := alignOff w.wide off0
  let b := s.blockKind off
  if b ≠ 0 then (b, s.accessErr w.acc off b true)
  else match steerWinAt off, regAt off with
    | some (core, word), _ => s.steerWinWrite w.acc core word off (w.value.setWidth 32)
    | none, none => (0, s)
    | none, some r =>
      let i := ownIx w.acc r.id r.i
      if s.mayWrite w.acc r.id i r.j ∧ (r.id.info.width == 64) ≠ w.wide then (4, s.accessErr w.acc off 4 true)
      else s.regWrite w r.id i r.j off

/-- SC_CFG_ERR: the first refusal is kept, and each is counted up to 0x7F (R405). -/
def State.cfgRefused (s : State) (core x off code : Nat) (wide : Bool) : State :=
  let s1 :=
    if s.flag .SC_CFG_ERR_VALID core 0 then s
    else
      (((((s.setFld .SC_CFG_ERR_OFFSET core 0 off).setFld .SC_CFG_ERR_CODE core 0 code).setFld .SC_CFG_ERR_CTX core 0 x).setFlag
        .SC_CFG_ERR_W64 core 0 wide).setFlag .SC_CFG_ERR_VALID core 0 true).setFld .SC_CFG_ERR_FT_FT core 0 s.now
  s1.satInc .SC_CFG_ERR_COUNT core 0 1

/-- SETCFG (R347, R404, R405): rd takes the result, and then the write acts, so that one that resets or stops its own context
has the last word. -/
def execSetcfg (core x : Nat) (s : State) : Host.Outcome State Fault Refusal :=
  .next (s.slRun .opSetcfg core x (slGuarded (fun i t =>
    let a := t.slRa i
    let b := t.slRb i
    if t.ctxPriv core x = false then i.privilege t
    else if a.poison then i.bite 0 a.tag t
    else if b.poison then i.bite 4 b.tag t
    else if cfgClean a.data = false then i.illegal t
    else
      let w : Wr := ⟨t.slAcc i, cfgWide a.data, b.data⟩
      let k := (t.cfgWrite w (cfgOff a.data)).1
      let u := ((t.slPut i ⟨BitVec.ofNat 64 k, false⟩).cfgWrite w (cfgOff a.data)).2
      .done (if k = 0 then u else u.cfgRefused core x (cfgOff a.data) k (cfgWide a.data)))))

/-- R347: the offsets a USER context may read: its own cluster block, or its herd core's SC registers, and the FT block. -/
def cfgUserMay (core off : Nat) : Bool :=
  decide (0x100000 ≤ off ∧ off < 0x200000) ||
    (if core < 18 then decide (0x1000000 + 0x200000 * core ≤ off ∧ off < 0x1200000 + 0x200000 * core)
     else decide (0x820000 + 0x10000 * (core - 18) ≤ off ∧ off < 0x830000 + 0x10000 * (core - 18)))

/-- GETCFG (R347, R404, R406): rd takes the register, 0 where the read fails. -/
def execGetcfg (core x : Nat) (s : State) : Host.Outcome State Fault Refusal :=
  .next (s.slRun .opGetcfg core x (slGuarded (fun i t =>
    let a := t.slRa i
    if a.poison then i.bite 0 a.tag t
    else if t.ctxPriv core x = false ∧ cfgUserMay core (cfgOff a.data) = false then i.privilege t
    else
      let r := t.busRead (t.slAcc i) (cfgWide a.data) (cfgOff a.data)
      let v := r.2.1.foldr (fun (p : PW) (n : Nat) => p.data.toNat + n * 2 ^ 32) 0
      .done (r.2.2.slPut i ⟨BitVec.ofNat 64 (if r.1 = 0 then v else 0), false⟩))))

end Sys2Proof.Machine
end

