-- ==== Sys2Proof/Machine/Dispatch.lean ====
section
/-! DEFINITION. The dispatcher: one arm for each command, each a direct call of the command's meaning. -/
namespace Sys2Proof.Machine

open Sys2Proof

def exec (i : Instr) (s : State) : Host.Outcome State Fault Refusal :=
  match i with
  | .registerWrite w off poison => Sys2Proof.Machine.execRegisterWrite w off poison s
  | .shadowApply off => Sys2Proof.Machine.execShadowApply off s
  | .accessErrClear w => Sys2Proof.Machine.execAccessErrClear w s
  | .ptpSync l2 domain t1 frac utc => Sys2Proof.Machine.execPtpSync l2 domain t1 frac utc s
  | .ptpDelayResp t1 t2 t3 t4 => Sys2Proof.Machine.execPtpDelayResp t1 t2 t3 t4 s
  | .ppsPulse frac => Sys2Proof.Machine.execPpsPulse frac s
  | .ppsOutPulse => Sys2Proof.Machine.execPpsOutPulse s
  | .time p addr tag arg ok frac => Sys2Proof.Machine.execTime p addr tag arg ok frac s
  | .timeSend => Sys2Proof.Machine.execTimeSend s
  | .delayReq p frac => Sys2Proof.Machine.execDelayReq p frac s
  | .delayResp p addr tag => Sys2Proof.Machine.execDelayResp p addr tag s
  | .holdoverEnter => Sys2Proof.Machine.execHoldoverEnter s
  | .acceptStep w => Sys2Proof.Machine.execAcceptStep w s
  | .strokeCommit w => Sys2Proof.Machine.execStrokeCommit w s
  | .strokeReplace w => Sys2Proof.Machine.execStrokeReplace w s
  | .strokeCancel w => Sys2Proof.Machine.execStrokeCancel w s
  | .genswap n => Sys2Proof.Machine.execGenswap n s
  | .genretire n => Sys2Proof.Machine.execGenretire n s
  | .phaseStroke n => Sys2Proof.Machine.execPhaseStroke n s
  | .oxenter n => Sys2Proof.Machine.execOxenter n s
  | .oxleave n => Sys2Proof.Machine.execOxleave n s
  | .capset n => Sys2Proof.Machine.execCapset n s
  | .scrubStroke n => Sys2Proof.Machine.execScrubStroke n s
  | .muwinOpen n => Sys2Proof.Machine.execMuwinOpen n s
  | .muwinClose n => Sys2Proof.Machine.execMuwinClose n s
  | .fwactivate n => Sys2Proof.Machine.execFwactivate n s
  | .tracemark n => Sys2Proof.Machine.execTracemark n s
  | .traceEnable w u => Sys2Proof.Machine.execTraceEnable w u s
  | .portIssue c port write ws => Sys2Proof.Machine.execPortIssue c port write ws s
  | .bankGrant c bank => Sys2Proof.Machine.execBankGrant c bank s
  | .readReturn c port => Sys2Proof.Machine.execReadReturn c port s
  | .writeCommit c port upset => Sys2Proof.Machine.execWriteCommit c port upset s
  | .mergeTimeout c port line => Sys2Proof.Machine.execMergeTimeout c port line s
  | .tmxCounterClear w c => Sys2Proof.Machine.execTmxCounterClear w c s
  | .hotPeriodEnd c => Sys2Proof.Machine.execHotPeriodEnd c s
  | .clusterDomainWake c => Sys2Proof.Machine.execClusterDomainWake c s
  | .tmClearDone c ok => Sys2Proof.Machine.execTmClearDone c ok s
  | .clusterDomainOff c => Sys2Proof.Machine.execClusterDomainOff c s
  | .spineDomainWake d fail => Sys2Proof.Machine.execSpineDomainWake d fail s
  | .fabAccess c cls src vi write off len data msgs => Sys2Proof.Machine.execFabAccess c cls src vi write off len data msgs s
  | .windowOpen w c n => Sys2Proof.Machine.execWindowOpen w c n s
  | .windowClose w c n => Sys2Proof.Machine.execWindowClose w c n s
  | .windowBlank c w => Sys2Proof.Machine.execWindowBlank c w s
  | .wnCntWrite w c n => Sys2Proof.Machine.execWnCntWrite w c n s
  | .wnCntSub w c n => Sys2Proof.Machine.execWnCntSub w c n s
  | .lockForce w d => Sys2Proof.Machine.execLockForce w d s
  | .scrubGo w d n => Sys2Proof.Machine.execScrubGo w d n s
  | .scrubAccess d n ue skip => Sys2Proof.Machine.execScrubAccess d n ue skip s
  | .scrubPassEnd d n => Sys2Proof.Machine.execScrubPassEnd d n s
  | .scrubStop w d n => Sys2Proof.Machine.execScrubStop w d n s
  | .errorCountClear w d => Sys2Proof.Machine.execErrorCountClear w d s
  | .splitWrite w d => Sys2Proof.Machine.execSplitWrite w d s
  | .tmRowRepair w d => Sys2Proof.Machine.execTmRowRepair w d s
  | .lcLineRepair w d => Sys2Proof.Machine.execLcLineRepair w d s
  | .hbmRowRepair w d => Sys2Proof.Machine.execHbmRowRepair w d s
  | .hbmRepairDeferredStart stack pc => Sys2Proof.Machine.execHbmRepairDeferredStart stack pc s
  | .plotEnable w k n => Sys2Proof.Machine.execPlotEnable w k n s
  | .plotAttrChange w k n => Sys2Proof.Machine.execPlotAttrChange w k n s
  | .plotFillDone p row => Sys2Proof.Machine.execPlotFillDone p row s
  | .plTagWrite w k n => Sys2Proof.Machine.execPlTagWrite w k n s
  | .rangeFill w k => Sys2Proof.Machine.execRangeFill w k s
  | .rangeFillDone k upto => Sys2Proof.Machine.execRangeFillDone k upto s
  | .plotAccess phys addr len write data vi pin req => Sys2Proof.Machine.execPlotAccess phys addr len write data vi pin req s
  | .priResponse vi page ok => Sys2Proof.Machine.execPriResponse vi page ok s
  | .priTimeout vi page => Sys2Proof.Machine.execPriTimeout vi page s
  | .tlbInv w => Sys2Proof.Machine.execTlbInv w s
  | .tlbInvDone => Sys2Proof.Machine.execTlbInvDone s
  | .refresh stack pc bank => Sys2Proof.Machine.execRefresh stack pc bank s
  | .refreshManagement stack pc bank => Sys2Proof.Machine.execRefreshManagement stack pc bank s
  | .stackInit k ok test => Sys2Proof.Machine.execStackInit k ok test s
  | .muissue core x => Sys2Proof.Machine.execMuissue core x s
  | .muCmdGo w => Sys2Proof.Machine.execMuCmdGo w s
  | .rowcopy stack pc ue err => Sys2Proof.Machine.execRowcopy stack pc ue err s
  | .rowinit stack pc ue err => Sys2Proof.Machine.execRowinit stack pc ue err s
  | .rowand stack pc ue err => Sys2Proof.Machine.execRowand stack pc ue err s
  | .rowor stack pc ue err => Sys2Proof.Machine.execRowor stack pc ue err s
  | .rowxor stack pc ue err => Sys2Proof.Machine.execRowxor stack pc ue err s
  | .rowandn stack pc ue err => Sys2Proof.Machine.execRowandn stack pc ue err s
  | .rownot stack pc ue err => Sys2Proof.Machine.execRownot stack pc ue err s
  | .chain stack pc ue err => Sys2Proof.Machine.execChain stack pc ue err s
  | .buscopy stack pc ue err => Sys2Proof.Machine.execBuscopy stack pc ue err s
  | .winopen d vi svc => Sys2Proof.Machine.execWinopen d vi svc s
  | .winclose d vi svc => Sys2Proof.Machine.execWinclose d vi svc s
  | .muleCommandDone stack pc => Sys2Proof.Machine.execMuleCommandDone stack pc s
  | .muWinCmdOpen w => Sys2Proof.Machine.execMuWinCmdOpen w s
  | .muWinCmdClose w => Sys2Proof.Machine.execMuWinCmdClose w s
  | .drainComplete stack pc => Sys2Proof.Machine.execDrainComplete stack pc s
  | .exitComplete stack pc => Sys2Proof.Machine.execExitComplete stack pc s
  | .holdExpiry group => Sys2Proof.Machine.execHoldExpiry group s
  | .budgetPeriod => Sys2Proof.Machine.execBudgetPeriod s
  | .suspectClear w k pc => Sys2Proof.Machine.execSuspectClear w k pc s
  | .lcLookup asks upset => Sys2Proof.Machine.execLcLookup asks upset s
  | .lcRetry slice => Sys2Proof.Machine.execLcRetry slice s
  | .lcFillArrive slice la k ue => Sys2Proof.Machine.execLcFillArrive slice la k ue s
  | .lcInvalWrite addr len data vi req => Sys2Proof.Machine.execLcInvalWrite addr len data vi req s
  | .lcPartWrite w v => Sys2Proof.Machine.execLcPartWrite w v s
  | .lcSweepDone v => Sys2Proof.Machine.execLcSweepDone v s
  | .lcOpFlush w => Sys2Proof.Machine.execLcOpFlush w s
  | .lcOpInval w => Sys2Proof.Machine.execLcOpInval w s
  | .lcOpDone n => Sys2Proof.Machine.execLcOpDone n s
  | .lcCounterClear w d => Sys2Proof.Machine.execLcCounterClear w d s
  | .feedWindow arb first => Sys2Proof.Machine.execFeedWindow arb first s
  | .arbiterGrant arb point reqs => Sys2Proof.Machine.execArbiterGrant arb point reqs s
  | .transferAbandon arb point empty => Sys2Proof.Machine.execTransferAbandon arb point empty s
  | .arbiterParityError arb grant ix => Sys2Proof.Machine.execArbiterParityError arb grant ix s
  | .trCounterClear w arb => Sys2Proof.Machine.execTrCounterClear w arb s
  | .stissue core x => Sys2Proof.Machine.execStissue core x s
  | .stCmdIssue w e c => Sys2Proof.Machine.execStCmdIssue w e c s
  | .stCmdCancel w e c => Sys2Proof.Machine.execStCmdCancel w e c s
  | .stCmdResume w e c => Sys2Proof.Machine.execStCmdResume w e c s
  | .entryFetch e x ext early src => Sys2Proof.Machine.execEntryFetch e x ext early src s
  | .blockRetire e x src upset => Sys2Proof.Machine.execBlockRetire e x src upset s
  | .listEnd e x => Sys2Proof.Machine.execListEnd e x s
  | .streamHalt e x outer src upset landed => Sys2Proof.Machine.execStreamHalt e x outer src upset landed s
  | .cancelComplete e x landed => Sys2Proof.Machine.execCancelComplete e x landed s
  | .stCounterClear w e => Sys2Proof.Machine.execStCounterClear w e s
  | .mxNormal c upset => Sys2Proof.Machine.execMxNormal c upset s
  | .mxExact c upset => Sys2Proof.Machine.execMxExact c upset s
  | .vxAdd c upset => Sys2Proof.Machine.execVxAdd c upset s
  | .vxSub c upset => Sys2Proof.Machine.execVxSub c upset s
  | .vxMul c upset => Sys2Proof.Machine.execVxMul c upset s
  | .vxFma c upset => Sys2Proof.Machine.execVxFma c upset s
  | .vxMin c upset => Sys2Proof.Machine.execVxMin c upset s
  | .vxMax c upset => Sys2Proof.Machine.execVxMax c upset s
  | .vxCmp c upset => Sys2Proof.Machine.execVxCmp c upset s
  | .vxSel c upset => Sys2Proof.Machine.execVxSel c upset s
  | .vxCvt c upset => Sys2Proof.Machine.execVxCvt c upset s
  | .vxExp c upset => Sys2Proof.Machine.execVxExp c upset s
  | .vxLog c upset => Sys2Proof.Machine.execVxLog c upset s
  | .vxRcp c upset => Sys2Proof.Machine.execVxRcp c upset s
  | .vxRsqrt c upset => Sys2Proof.Machine.execVxRsqrt c upset s
  | .vxSigmoid c upset => Sys2Proof.Machine.execVxSigmoid c upset s
  | .vxTanh c upset => Sys2Proof.Machine.execVxTanh c upset s
  | .accclr c upset => Sys2Proof.Machine.execAccclr c upset s
  | .accsum c upset => Sys2Proof.Machine.execAccsum c upset s
  | .accdot c upset => Sys2Proof.Machine.execAccdot c upset s
  | .accmerge c upset => Sys2Proof.Machine.execAccmerge c upset s
  | .accload c upset => Sys2Proof.Machine.execAccload c upset s
  | .accstore c upset => Sys2Proof.Machine.execAccstore c upset s
  | .accround c upset => Sys2Proof.Machine.execAccround c upset s
  | .topk c upset => Sys2Proof.Machine.execTopk c upset s
  | .gtSum c => Sys2Proof.Machine.execGtSum c s
  | .gtMean c => Sys2Proof.Machine.execGtMean c s
  | .gtMax c => Sys2Proof.Machine.execGtMax c s
  | .gtWsum c => Sys2Proof.Machine.execGtWsum c s
  | .gatherRowArrive c pos upset => Sys2Proof.Machine.execGatherRowArrive c pos upset s
  | .engineComplete c k err => Sys2Proof.Machine.execEngineComplete c k err s
  | .engineCounterClear w c k => Sys2Proof.Machine.execEngineCounterClear w c k s
  | .contextStart w core x => Sys2Proof.Machine.execContextStart w core x s
  | .contextStop w core x => Sys2Proof.Machine.execContextStop w core x s
  | .contextReset w core x => Sys2Proof.Machine.execContextReset w core x s
  | .coreReset w core => Sys2Proof.Machine.execCoreReset w core s
  | .hostKick w core x => Sys2Proof.Machine.execHostKick w core x s
  | .alarm core x => Sys2Proof.Machine.execAlarm core x s
  | .interruptDeliver core x => Sys2Proof.Machine.execInterruptDeliver core x s
  | .timeSliceEnd core => Sys2Proof.Machine.execTimeSliceEnd core s
  | .waitWake core x => Sys2Proof.Machine.execWaitWake core x s
  | .remoteAccessComplete core x data => Sys2Proof.Machine.execRemoteAccessComplete core x data s
  | .unitAnswer core x rd => Sys2Proof.Machine.execUnitAnswer core x rd s
  | .regParityError core x => Sys2Proof.Machine.execRegParityError core x s
  | .steerWindowAccess a core off write v => Sys2Proof.Machine.execSteerWindowAccess a core off write v s
  | .cfgErrClear w core => Sys2Proof.Machine.execCfgErrClear w core s
  | .scCounterClear w core => Sys2Proof.Machine.execScCounterClear w core s
  | .add core x => Sys2Proof.Machine.execAdd core x s
  | .sub core x => Sys2Proof.Machine.execSub core x s
  | .and core x => Sys2Proof.Machine.execAnd core x s
  | .or core x => Sys2Proof.Machine.execOr core x s
  | .xor core x => Sys2Proof.Machine.execXor core x s
  | .andn core x => Sys2Proof.Machine.execAndn core x s
  | .shl core x => Sys2Proof.Machine.execShl core x s
  | .shr core x => Sys2Proof.Machine.execShr core x s
  | .sra core x => Sys2Proof.Machine.execSra core x s
  | .min core x => Sys2Proof.Machine.execMin core x s
  | .max core x => Sys2Proof.Machine.execMax core x s
  | .minu core x => Sys2Proof.Machine.execMinu core x s
  | .maxu core x => Sys2Proof.Machine.execMaxu core x s
  | .clz core x => Sys2Proof.Machine.execClz core x s
  | .popc core x => Sys2Proof.Machine.execPopc core x s
  | .mul core x => Sys2Proof.Machine.execMul core x s
  | .mulh core x => Sys2Proof.Machine.execMulh core x s
  | .mulhu core x => Sys2Proof.Machine.execMulhu core x s
  | .div core x => Sys2Proof.Machine.execDiv core x s
  | .divu core x => Sys2Proof.Machine.execDivu core x s
  | .rem core x => Sys2Proof.Machine.execRem core x s
  | .remu core x => Sys2Proof.Machine.execRemu core x s
  | .addi core x => Sys2Proof.Machine.execAddi core x s
  | .andi core x => Sys2Proof.Machine.execAndi core x s
  | .ori core x => Sys2Proof.Machine.execOri core x s
  | .xori core x => Sys2Proof.Machine.execXori core x s
  | .shli core x => Sys2Proof.Machine.execShli core x s
  | .shri core x => Sys2Proof.Machine.execShri core x s
  | .srai core x => Sys2Proof.Machine.execSrai core x s
  | .lui core x => Sys2Proof.Machine.execLui core x s
  | .li32 core x => Sys2Proof.Machine.execLi32 core x s
  | .orhi core x => Sys2Proof.Machine.execOrhi core x s
  | .addi32 core x => Sys2Proof.Machine.execAddi32 core x s
  | .cmpeq core x => Sys2Proof.Machine.execCmpeq core x s
  | .cmpne core x => Sys2Proof.Machine.execCmpne core x s
  | .cmplt core x => Sys2Proof.Machine.execCmplt core x s
  | .cmpge core x => Sys2Proof.Machine.execCmpge core x s
  | .cmpltu core x => Sys2Proof.Machine.execCmpltu core x s
  | .cmpgeu core x => Sys2Proof.Machine.execCmpgeu core x s
  | .tst core x => Sys2Proof.Machine.execTst core x s
  | .tstz core x => Sys2Proof.Machine.execTstz core x s
  | .pand core x => Sys2Proof.Machine.execPand core x s
  | .por core x => Sys2Proof.Machine.execPor core x s
  | .pxor core x => Sys2Proof.Machine.execPxor core x s
  | .pandn core x => Sys2Proof.Machine.execPandn core x s
  | .pnot core x => Sys2Proof.Machine.execPnot core x s
  | .pset core x => Sys2Proof.Machine.execPset core x s
  | .pclr core x => Sys2Proof.Machine.execPclr core x s
  | .ptog core x => Sys2Proof.Machine.execPtog core x s
  | .gtop core x => Sys2Proof.Machine.execGtop core x s
  | .dset core x => Sys2Proof.Machine.execDset core x s
  | .dget core x => Sys2Proof.Machine.execDget core x s
  | .dcopy core x => Sys2Proof.Machine.execDcopy core x s
  | .dzero core x => Sys2Proof.Machine.execDzero core x s
  | .br core x => Sys2Proof.Machine.execBr core x s
  | .call core x => Sys2Proof.Machine.execCall core x s
  | .jr core x => Sys2Proof.Machine.execJr core x s
  | .ld core x => Sys2Proof.Machine.execLd core x s
  | .st core x => Sys2Proof.Machine.execSt core x s
  | .ldd core x => Sys2Proof.Machine.execLdd core x s
  | .std core x => Sys2Proof.Machine.execStd core x s
  | .mxissue core x => Sys2Proof.Machine.execMxissue core x s
  | .vxissue core x => Sys2Proof.Machine.execVxissue core x s
  | .gtissue core x => Sys2Proof.Machine.execGtissue core x s
  | .stcancel core x => Sys2Proof.Machine.execStcancel core x s
  | .stresume core x => Sys2Proof.Machine.execStresume core x s
  | .waitcnt core x => Sys2Proof.Machine.execWaitcnt core x s
  | .waitmu core x => Sys2Proof.Machine.execWaitmu core x s
  | .waitft core x => Sys2Proof.Machine.execWaitft core x s
  | .fence core x => Sys2Proof.Machine.execFence core x s
  | .lock core x err => Sys2Proof.Machine.execLock core x err s
  | .unlock core x err => Sys2Proof.Machine.execUnlock core x err s
  | .lcflush core x => Sys2Proof.Machine.execLcflush core x s
  | .lcinval core x => Sys2Proof.Machine.execLcinval core x s
  | .phase core x => Sys2Proof.Machine.execPhase core x s
  | .setcfg core x => Sys2Proof.Machine.execSetcfg core x s
  | .getcfg core x => Sys2Proof.Machine.execGetcfg core x s
  | .trap core x => Sys2Proof.Machine.execTrap core x s
  | .eret core x => Sys2Proof.Machine.execEret core x s
  | .pcieUnsupportedRequest port => Sys2Proof.Machine.execPcieUnsupportedRequest port s
  | .bar2Access port off write len data poison => Sys2Proof.Machine.execBar2Access port off write len data poison s
  | .atsInvalidation port vi addr len tag => Sys2Proof.Machine.execAtsInvalidation port vi addr len tag s
  | .queueEnable w q => Sys2Proof.Machine.execQueueEnable w q s
  | .doorbell port fn k tail head poison => Sys2Proof.Machine.execDoorbell port fn k tail head poison s
  | .sqFetch q => Sys2Proof.Machine.execSqFetch q s
  | .entryStaged q => Sys2Proof.Machine.execEntryStaged q s
  | .admission die => Sys2Proof.Machine.execAdmission die s
  | .hqPost w c poison => Sys2Proof.Machine.execHqPost w c poison s
  | .completionWrite q fails => Sys2Proof.Machine.execCompletionWrite q fails s
  | .msixCoalesceTimeout q => Sys2Proof.Machine.execMsixCoalesceTimeout q s
  | .operatorEnable w v op => Sys2Proof.Machine.execOperatorEnable w v op s
  | .queueCancel w q => Sys2Proof.Machine.execQueueCancel w q s
  | .viReset w => Sys2Proof.Machine.execViReset w s
  | .viResetDone v => Sys2Proof.Machine.execViResetDone v s
  | .flr port fn => Sys2Proof.Machine.execFlr port fn s
  | .pcieLinkLoss port => Sys2Proof.Machine.execPcieLinkLoss port s
  | .pcieCompletionTimeout q ix => Sys2Proof.Machine.execPcieCompletionTimeout q ix s
  | .slotParityError slot => Sys2Proof.Machine.execSlotParityError slot s
  | .credit p vc subch header n => Sys2Proof.Machine.execCredit p vc subch header n s
  | .linkReplay p bad cell => Sys2Proof.Machine.execLinkReplay p bad cell s
  | .laneLoss p l => Sys2Proof.Machine.execLaneLoss p l s
  | .portDown p => Sys2Proof.Machine.execPortDown p s
  | .portTrained p lanes neighbour nport => Sys2Proof.Machine.execPortTrained p lanes neighbour nport s
  | .sparePortTakeover p => Sys2Proof.Machine.execSparePortTakeover p s
  | .frameRoute p f => Sys2Proof.Machine.execFrameRoute p f s
  | .write p f => Sys2Proof.Machine.execWrite p f s
  | .post p f => Sys2Proof.Machine.execPost p f s
  | .readReq p f => Sys2Proof.Machine.execReadReq p f s
  | .readResp p f => Sys2Proof.Machine.execReadResp p f s
  | .writeAck p f => Sys2Proof.Machine.execWriteAck p f s
  | .refuse p f => Sys2Proof.Machine.execRefuse p f s
  | .lockReq p f err => Sys2Proof.Machine.execLockReq p f err s
  | .lockResp p f => Sys2Proof.Machine.execLockResp p f s
  | .msg p f => Sys2Proof.Machine.execMsg p f s
  | .heartbeat p f member => Sys2Proof.Machine.execHeartbeat p f member s
  | .heartbeatSend => Sys2Proof.Machine.execHeartbeatSend s
  | .beatAck p f => Sys2Proof.Machine.execBeatAck p f s
  | .memberLost h => Sys2Proof.Machine.execMemberLost h s
  | .joinSend => Sys2Proof.Machine.execJoinSend s
  | .join p f => Sys2Proof.Machine.execJoin p f s
  | .assign p f dims bcast => Sys2Proof.Machine.execAssign p f dims bcast s
  | .takeover => Sys2Proof.Machine.execTakeover s
  | .swapReq p f => Sys2Proof.Machine.execSwapReq p f s
  | .handover p f => Sys2Proof.Machine.execHandover p f s
  | .taken p f => Sys2Proof.Machine.execTaken p f s
  | .swapResult p f => Sys2Proof.Machine.execSwapResult p f s
  | .lost p f => Sys2Proof.Machine.execLost p f s
  | .release p f => Sys2Proof.Machine.execRelease p f s
  | .force p f => Sys2Proof.Machine.execForce p f s
  | .stroke p f => Sys2Proof.Machine.execStroke p f s
  | .strokeResult p f => Sys2Proof.Machine.execStrokeResult p f s
  | .strokeResultTimeout h => Sys2Proof.Machine.execStrokeResultTimeout h s
  | .route p f => Sys2Proof.Machine.execRoute p f s
  | .mirror p f => Sys2Proof.Machine.execMirror p f s
  | .expel p f => Sys2Proof.Machine.execExpel p f s
  | .transactionTimeout tag => Sys2Proof.Machine.execTransactionTimeout tag s
  | .hdFound w => Sys2Proof.Machine.execHdFound w s
  | .hdSwap w => Sys2Proof.Machine.execHdSwap w s
  | .hdLeave w => Sys2Proof.Machine.execHdLeave w s
  | .hdExpel w => Sys2Proof.Machine.execHdExpel w s
  | .pmStart w => Sys2Proof.Machine.execPmStart w s
  | .estimateWindow mx tm vx mem io => Sys2Proof.Machine.execEstimateWindow mx tm vx mem io s
  | .dvfsStepComplete g whole => Sys2Proof.Machine.execDvfsStepComplete g whole s
  | .regulatorTimeout g => Sys2Proof.Machine.execRegulatorTimeout g s
  | .calibrationPeriod input rails bad => Sys2Proof.Machine.execCalibrationPeriod input rails bad s
  | .railLimitWindow r mean => Sys2Proof.Machine.execRailLimitWindow r mean s
  | .activityParityError g => Sys2Proof.Machine.execActivityParityError g s
  | .sensorSample n temp => Sys2Proof.Machine.execSensorSample n temp s
  | .sensorBad n => Sys2Proof.Machine.execSensorBad n s
  | .thermalTrip n temp => Sys2Proof.Machine.execThermalTrip n temp s
  | .railStuck => Sys2Proof.Machine.execRailStuck s
  | .regAlert rail => Sys2Proof.Machine.execRegAlert rail s
  | .extAlert => Sys2Proof.Machine.execExtAlert s
  | .regAlertRelease => Sys2Proof.Machine.execRegAlertRelease s
  | .extAlertRelease => Sys2Proof.Machine.execExtAlertRelease s
  | .alertHoldEnd n => Sys2Proof.Machine.execAlertHoldEnd n s
  | .huReady volt soc charging => Sys2Proof.Machine.execHuReady volt soc charging s
  | .gaugeDisagree => Sys2Proof.Machine.execGaugeDisagree s
  | .gaugeRezero => Sys2Proof.Machine.execGaugeRezero s
  | .huFault => Sys2Proof.Machine.execHuFault s
  | .powerLoss => Sys2Proof.Machine.execPowerLoss s
  | .shutdownSaveDone whole entries => Sys2Proof.Machine.execShutdownSaveDone whole entries s
  | .inputOvervoltage => Sys2Proof.Machine.execInputOvervoltage s
  | .watchdogRestart => Sys2Proof.Machine.execWatchdogRestart s
  | .auditAckMsg p f => Sys2Proof.Machine.execAuditAckMsg p f s
  | .registerWriteMsg p f => Sys2Proof.Machine.execRegisterWriteMsg p f s
  | .lfReq w => Sys2Proof.Machine.execLfReq w s
  | .lfChallengeRead a k => Sys2Proof.Machine.execLfChallengeRead a k s
  | .nestRead w ue => Sys2Proof.Machine.execNestRead w ue s
  | .nestWrite w => Sys2Proof.Machine.execNestWrite w s
  | .nestEmptySlot w => Sys2Proof.Machine.execNestEmptySlot w s
  | .nestWipe w => Sys2Proof.Machine.execNestWipe w s
  | .tamper => Sys2Proof.Machine.execTamper s
  | .nestWipeDone => Sys2Proof.Machine.execNestWipeDone s
  | .auditMirror err => Sys2Proof.Machine.execAuditMirror err s
  | .auditExportPush => Sys2Proof.Machine.execAuditExportPush s
  | .auditAck w => Sys2Proof.Machine.execAuditAck w s
  | .auditRead w => Sys2Proof.Machine.execAuditRead w s
  | .fwLoad w => Sys2Proof.Machine.execFwLoad w s
  | .fwLoadDone err ver => Sys2Proof.Machine.execFwLoadDone err ver s
  | .fwVerifyDone image signed => Sys2Proof.Machine.execFwVerifyDone image signed s
  | .debugUnlock jtag token => Sys2Proof.Machine.execDebugUnlock jtag token s
  | .spiRead addr n coll => Sys2Proof.Machine.execSpiRead addr n coll s
  | .spiWrite addr words coll => Sys2Proof.Machine.execSpiWrite addr words coll s
  | .spiStatus => Sys2Proof.Machine.execSpiStatus s
  | .spiRing b => Sys2Proof.Machine.execSpiRing b s
  | .mctpControl cmd eid => Sys2Proof.Machine.execMctpControl cmd eid s
  | .getIdentity => Sys2Proof.Machine.execGetIdentity s
  | .getTelemetry => Sys2Proof.Machine.execGetTelemetry s
  | .setPowerLimit watts => Sys2Proof.Machine.execSetPowerLimit watts s
  | .readReg off wide => Sys2Proof.Machine.execReadReg off wide s
  | .writeReg off wide v => Sys2Proof.Machine.execWriteReg off wide v s
  | .readAudit seq n => Sys2Proof.Machine.execReadAudit seq n s
  | .ackAudit seq => Sys2Proof.Machine.execAckAudit seq s
  | .fwStage image off chunk => Sys2Proof.Machine.execFwStage image off chunk s
  | .fwStatus => Sys2Proof.Machine.execFwStatus s
  | .getChallenge => Sys2Proof.Machine.execGetChallenge s
  | .lfRequest target auth => Sys2Proof.Machine.execLfRequest target auth s
  | .sparePrepare w d => Sys2Proof.Machine.execSparePrepare w d s
  | .sparePrepared d ok => Sys2Proof.Machine.execSparePrepared d ok s
  | .spareMigrate w d => Sys2Proof.Machine.execSpareMigrate w d s
  | .migrateSwitch d fault => Sys2Proof.Machine.execMigrateSwitch d fault s
  | .spareFresh w d => Sys2Proof.Machine.execSpareFresh w d s
  | .spareCancel w d => Sys2Proof.Machine.execSpareCancel w d s
  | .stackRetire w => Sys2Proof.Machine.execStackRetire w s
  | .sliceRetire w => Sys2Proof.Machine.execSliceRetire w s
  | .stackReinstate w ok => Sys2Proof.Machine.execStackReinstate w ok s
  | .sliceReinstate w ok => Sys2Proof.Machine.execSliceReinstate w ok s
  | .svcPowerOn addr => Sys2Proof.Machine.execSvcPowerOn addr s
  | .moduleColdReset => Sys2Proof.Machine.execModuleColdReset s
  | .tripHoldEnd => Sys2Proof.Machine.execTripHoldEnd s
  | .bootSequence b n => Sys2Proof.Machine.execBootSequence b n s
  | .thermalHoldRetry b n => Sys2Proof.Machine.execThermalHoldRetry b n s
  | .pwrEnRise b n => Sys2Proof.Machine.execPwrEnRise b n s
  | .pwrEnFall => Sys2Proof.Machine.execPwrEnFall s
  | .railFault => Sys2Proof.Machine.execRailFault s
  | .pcieConventionalReset e => Sys2Proof.Machine.execPcieConventionalReset e s
  | .pcieLinkTrain e => Sys2Proof.Machine.execPcieLinkTrain e s
  | .tapReset => Sys2Proof.Machine.execTapReset s
  | .spineDomainOff d => Sys2Proof.Machine.execSpineDomainOff d s
  | .hbmAccess group ue => Sys2Proof.Machine.execHbmAccess group ue s
  | .uncorrectableCodeword p cell fec => Sys2Proof.Machine.execUncorrectableCodeword p cell fec s
  | .badFrame p => Sys2Proof.Machine.execBadFrame p s
  | .herdSilent => Sys2Proof.Machine.execHerdSilent s
  | .registerRead a wide off => Sys2Proof.Machine.execRegisterRead a wide off s
  | .hostReadCompletion q ix data poison ok => Sys2Proof.Machine.execHostReadCompletion q ix data poison ok s
  | .rejectedResetPulse => Sys2Proof.Machine.execRejectedResetPulse s

end Sys2Proof.Machine
end

