-- ==== Sys2Proof/Machine/Step.lean ====
section
/-! DEFINITION. One step of the block: the command at the front of the queue, or a tick of the clock. -/
namespace Sys2Proof.Machine

open Sys2Proof

/-- One step: the first waiting command acts on the state that holds the rest of the queue; while none waits, fleet time
advances by one FTCK edge (R24; DESIGN CHOICE, log entry 9), and the service firmware takes up what waits for it (R554). -/
def step (s : State) : Host.Outcome State Fault Refusal :=
  match s.pending with
  | [] => .next s.idle
  | i :: rest => exec i (s.withPending rest)

/-- The state with the command that a word spells at the front of its queue; unchanged where it spells none. -/
def State.withFetchWord (s : State) (nbits w : Nat) : State :=
  match decodeTableWord nbits w with
  | some i => s.withPending (i :: s.pending)
  | none => s

end Sys2Proof.Machine
end

