-- ==== Sys2Proof/Safety.lean ====
section
/-! DEFINITION. The terms in which claims are stated: the canonical form of every store, the conditions under which a
Sloak instruction issues, under which a register write is accepted and under which a frame is served. -/
namespace Sys2Proof.Machine

open Sys2Proof

/-! ## Stores -/

/-- Tensor memory, steer memory and the map of replaced rows are held in canonical form. -/
def TmState.ok (x : TmState) : Prop :=
  swf (fun _ => blankWord) x.words ∧ swf (fun _ => blankWord) x.steer ∧ swf (fun _ => (0 : Nat)) x.rowMap

/-- The stacks' sectors are held in canonical form; what an unlisted one reads as is its plot's last fill pattern. -/
def HbmState.ok (x : HbmState) : Prop := swf (hbmDefault x.bgBlank) x.sectors

/-- The Nest and the mailbox are held in canonical form. -/
def SvcState.ok (x : SvcState) : Prop := swf (fun _ => (0 : BitVec 512)) x.nest ∧ swf (fun _ => (0 : W32)) x.mbx

/-- The register files and program counters of the cores are held in canonical form. -/
def ScState.ok (x : ScState) : Prop :=
  swf (fun _ => SlG.mk 0 true) x.g ∧ swf (fun _ => SlD.mk 0 true) x.d ∧ swf (fun _ => SlP.mk false true 0) x.p ∧
    swf (fun _ => (0 : Nat)) x.pcs

/-- Every register file and memory of the block is held in canonical form, so that equal contents are equal data. -/
def State.canonical (s : State) : Prop :=
  swf resetVal s.regs ∧ swf resetVal s.applied ∧ s.tm.ok ∧ s.hbm.ok ∧ s.svc.ok ∧ s.sc.ok

/-! ## Sloak instructions -/

/-- The RUNNING context `x` of a core that is on fetches the instruction `i`, which is `op`, and nothing it needs is owed to
it; `t` is the state with the fetch counted. -/
abbrev State.issues (s t : State) (op : SlOp) (core x : Nat) (i : SlI) : Prop :=
  s.coreOn core = true ∧ s.ctxState core x = 2 ∧ s.slFetch core x = (.inl i, t) ∧ slDecode i.w = some op ∧
    s.slStalls i = false

/-- The guard of an instruction is a clean 1 (R351). -/
abbrev State.guardOn (t : State) (i : SlI) : Prop :=
  (t.slP i.core i.ctx i.pg).poison = false ∧ (t.slP i.core i.ctx i.pg).val = true

/-- A guarded instruction issues with its guard at 1. -/
abbrev State.runs (s t : State) (op : SlOp) (core x : Nat) (i : SlI) : Prop := s.issues t op core x i ∧ t.guardOn i

/-- A guarded instruction `cmd` that is `op`: with its guard at 1 it writes `f` of ra and rb to rd. A poisoned operand makes
the result poisoned with the tag of the first one, in the order ra, rb (R344). -/
def WritesAlu (cmd : Nat → Nat → Instr) (op : SlOp) (f : W64 → W64 → W64) : Prop :=
  ∀ (s t : State) (core x : Nat) (i : SlI), s.runs t op core x i →
    exec (cmd core x) s = .next (t.slPut i (slMap2 f (t.slRa i) (t.slRb i)))

/-- As `WritesAlu`, for an instruction of ra alone. -/
def WritesAlu1 (cmd : Nat → Nat → Instr) (op : SlOp) (f : W64 → W64) : Prop :=
  ∀ (s t : State) (core x : Nat) (i : SlI), s.runs t op core x i →
    exec (cmd core x) s = .next (t.slPut i (slMap f (t.slRa i)))

/-- An unguarded instruction of ra and an immediate field of its own word. -/
def WritesImm (cmd : Nat → Nat → Instr) (op : SlOp) (f : SlI → W64 → W64) : Prop :=
  ∀ (s t : State) (core x : Nat) (i : SlI), s.issues t op core x i →
    exec (cmd core x) s = .next (t.slPut i (slMap (f i) (t.slRa i)))

/-- A guarded compare of ra and rb into a predicate. -/
def WritesCmp (cmd : Nat → Nat → Instr) (op : SlOp) (f : W64 → W64 → Bool) : Prop :=
  ∀ (s t : State) (core x : Nat) (i : SlI), s.runs t op core x i →
    exec (cmd core x) s = .next (t.slPutP i (slCmp f (t.slRa i) (t.slRb i)))

/-- A guarded operation on two predicates into a predicate. -/
def WritesLogic (cmd : Nat → Nat → Instr) (op : SlOp) (f : Bool → Bool → Bool) : Prop :=
  ∀ (s t : State) (core x : Nat) (i : SlI), s.runs t op core x i →
    exec (cmd core x) s = .next (t.slPutP i (slPlog2 f (t.slP core x (i.ra % 8)) (t.slP core x (i.rb % 8))))

/-- The registers that fetching and counting an instruction may write: its instruction count, and the error counts and log of
the steer memory it lies in. -/
def fetchReg (id : RegId) : Bool :=
  decide (RegId.SC_CNT.ctorIdx = id.ctorIdx ∨ RegId.SC_CNT_WRAPS.ctorIdx = id.ctorIdx ∨ RegId.IN_ECNT.ctorIdx = id.ctorIdx ∨
    RegId.IN_UE_HEAD.ctorIdx = id.ctorIdx ∨ RegId.IN_UE_LOG_FT.ctorIdx = id.ctorIdx ∨ RegId.IN_UE_LOG_ADDR.ctorIdx = id.ctorIdx ∨
    RegId.IN_UE_LOG_TAG.ctorIdx = id.ctorIdx ∨ RegId.SV_RAS_SUM.ctorIdx = id.ctorIdx)

/-- What an instruction of context `x` that writes at most the g register `g`, the predicate `p` and the d register `d` leaves
alone between `s` and `u`. -/
def State.slKeeps (s u : State) (core x : Nat) (g p d : Option Nat) : Prop :=
  (∀ k y r, y < 16 → r < 32 → (k, y, some r) ≠ (core, x, g) → u.slG k y r = s.slG k y r) ∧
  (∀ k y r, y < 16 → r < 8 → (k, y, some r) ≠ (core, x, p) → u.slP k y r = s.slP k y r) ∧
  (∀ k y r, y < 16 → r < 16 → (k, y, some r) ≠ (core, x, d) → u.slD k y r = s.slD k y r) ∧
  (∀ k y, y < 16 → (k, y) ≠ (core, x) → u.slPc k y = s.slPc k y) ∧
  (∀ id a b, fetchReg id = false → u.reg id a b = s.reg id a b) ∧
  u.sc.waits = s.sc.waits ∧ u.sc.answers = s.sc.answers ∧ u.tm = s.tm ∧ u.hbm = s.hbm ∧ u.mule = s.mule ∧ u.lc = s.lc ∧
  u.tr = s.tr ∧ u.st = s.st ∧ u.eng = s.eng ∧ u.hq = s.hq ∧ u.herd = s.herd ∧ u.pm = s.pm ∧ u.svc = s.svc ∧ u.ras = s.ras ∧
  u.audit = s.audit ∧ u.ft = s.ft ∧ u.pins = s.pins ∧ u.power = s.power ∧ u.out = s.out ∧ u.pending = s.pending

/-- A byte of a core's steer memory, `none` where its word reads poisoned. -/
def State.steerByte (s : State) (core a : Nat) : Option Nat :=
  let d := decodeWord (s.steerRaw core (a / 4))
  if d.cls = .ue ∨ d.word.poison then none else some (nfield d.word.data.toNat (8 * (a % 4)) 8)

/-! ## Register writes -/

/-- A write of the register `id` at indexes `i`, `j`, which lies at `off`, is accepted: its path is open, its block answers,
no kind of R22 refuses it, and the register's own sentence does not make it ineffective. -/
abbrev State.accepts (s : State) (w : Wr) (id : RegId) (i j off : Nat) : Prop :=
  offset? id i j = some off ∧ s.pathOpen w.acc = true ∧ s.sees w.acc off = true ∧ s.blockKind off = 0 ∧
    s.writeKind (narrowWr w id) id (ownIx w.acc id i) j = 0 ∧
    s.writeIgnored id (ownIx w.acc id i) (narrowWr w id).value = false

/-- The state once the register holds the value written and the change is audited, before what the write starts. -/
abbrev State.stored (s : State) (w : Wr) (id : RegId) (i j off : Nat) : State :=
  s.storeWrite (narrowWr w id) id (ownIx w.acc id i) j off

/-- The command `cmd` writes the register of field `f` with the field at `x`; once the write is accepted, and under `pre`,
the register holds its value and `act` has happened to that state. -/
def StartsBy (cmd : Wr → Instr) (f : Fld) (x i j : Nat) (pre : State → Wr → Prop) (act : Wr → State → State) : Prop :=
  ∀ (s : State) (w : Wr) (off : Nat), s.accepts (wrSet w f x) f.id i j off → pre s w →
    exec (cmd w) s = .next (act w (s.stored (wrSet w f x) f.id i j off))

/-- As `StartsBy`, for a command that fixes fields of the value as `g` does. -/
def StartsOn (cmd : Wr → Instr) (g : Wr → Wr) (id : RegId) (i j : Nat) (pre : State → Wr → Prop)
    (act : Wr → State → State) : Prop :=
  ∀ (s : State) (w : Wr) (off : Nat), s.accepts (g w) id i j off → pre s w →
    exec (cmd w) s = .next (act w (s.stored (g w) id i j off))

/-- No condition. -/
def always : State → Wr → Prop := fun _ _ => True

/-! ## Frames -/

/-- A good frame arrives on a port that is up, from a member that is not lost, for this module, which is in a herd; `t` is the
state with the frame counted and its buffer free again. -/
abbrev State.serves (s t : State) (p : Nat) (f : Frame) : Prop :=
  s.portUp p = true ∧ badFrame f = false ∧ s.role ≠ 0 ∧ s.herd.lost.contains f.src = false ∧
    (f.bcast = true ∨ f.linkLocal = true ∨ f.dest = s.herdId) ∧
    t = (s.portCount p 4).freeBuffer p f.vc f.sub (frameBeats f)

end Sys2Proof.Machine
end

