-- ==== Sys2Proof/Certificates/Slice0/Obligations.lean ====
section
/-! DEFINITION. The obligations: what the spec's rules say of the model, as statements for the provers. -/

open Sys2Proof Sys2Proof.Machine

/-! ## The block -/

/-- A step takes the command at the front of the queue and is that command's effect on the state that holds the queue's rest.
On an empty queue fleet time advances by one FTCK edge, 4 ns, while the SVC domain is powered and no stroke is due (R24; that the tick
stands there is the model's choice, log entry 9), and nothing else happens while the service firmware is down (R554) or nothing waits
for it. -/
def Obligations.StepRunsFront : Prop :=
  (∀ (s : State) (c : Instr) (rest : List Instr), step (s.withPending (c :: rest)) = exec c (s.withPending rest)) ∧
  (∀ s : State, s.pending = [] → ∃ t : State, step s = .next t) ∧
  (∀ s : State, s.pending = [] → s.tick.fwDown = true ∨ (s.svc.held = [] ∧ s.svc.unlocks = []) → ∃ t : State, step s = .next t ∧
    (s.power.svcOn = true → (∀ i, i < 256 → s.strokeDue i = false) → t.now = (s.now + 4) % 2 ^ 64) ∧
    (s.power.svcOn = false ∨ (∃ i, i < 256 ∧ s.strokeDue i = true) → t = s) ∧
    (∀ id i j, RegId.FT_NOW.ctorIdx ≠ id.ctorIdx → t.reg id i j = s.reg id i j) ∧
    t.tm = s.tm ∧ t.hbm = s.hbm ∧ t.sc = s.sc ∧ t.out = s.out)

/-- R626, R628, R56, R127, R343, R482: the machine right after reset: fleet time 0 and UNLOCKED, every stroke slot EMPTY, the boot
at stage 0, tensor and steer memory blank, the module ALONE, no command waiting; and registers of every block at the values
their tables give. The g, d and p registers read as poisoned and the main rails and clocks are off. -/
def Obligations.ResetValues : Prop :=
  State.reset.now = 0 ∧ State.reset.fld .FT_STATUS_STATE 0 0 = 0 ∧
  (∀ k, State.reset.fld .FT_STK_STATE_STATE k 0 = 0) ∧ State.reset.bootStage = 0 ∧ State.reset.role = 0 ∧
  (∀ c a, State.reset.tmRaw c a = blankWord) ∧ (∀ core w, State.reset.steerRaw core w = blankWord) ∧
  (∀ core x r, r ≠ 0 → (State.reset.slG core x r).poison = true ∧ (State.reset.slP core x r).poison = true) ∧
  (∀ core x r, (State.reset.slD core x r).poison = true) ∧
  State.reset.pending = [] ∧ State.reset.power.rails = false ∧ State.reset.power.clocks = false ∧
  State.reset.fld .PM_CAP_WATTS 0 0 = 300 ∧ State.reset.fld .TH_CFG_SOFT_TJ 0 0 = 100 ∧
  State.reset.fld .TH_CFG_COOL_S 0 0 = 60 ∧ State.reset.reg .HL_BCAST 0 0 = 0xFFFF ∧
  (∀ c w, State.reset.flag .WN_CTL_OPEN c w = false) ∧ (∀ k p, State.reset.flag .PL_CTL_ENABLE k p = false) ∧
  (∀ k p, State.reset.flag .PL_CTL_PROT k p = true) ∧ (∀ a r, State.reset.trough a r = 0) ∧
  (∀ q, State.reset.flag .HQ_Q_CFG_ENABLE q 0 = false) ∧ (∀ c x, State.reset.ctxState c x = 0)

/-- Every register file and memory of the block is in canonical form after reset. -/
def Obligations.ResetKeepsForm : Prop := State.reset.canonical

/-- Every step keeps the canonical form of every register file and memory: the registers as written and in force, tensor
memory and its row map, steer memory, the stacks' sectors, the Nest, the mailbox, and the cores' registers. -/
def Obligations.StepKeepsForm : Prop :=
  ∀ s t : State, s.canonical → step s = .next t → t.canonical

/-- R15, R17: the address map: a BAR0 offset names a register exactly where the register's own place, base and strides, is
that offset; so no two registers share an offset, and every register at every index is reached. -/
def Obligations.RegisterAddresses : Prop :=
  ∀ (id : RegId) (i j off : Nat), offset? id i j = some off ↔ ∃ dom, regAt off = some ⟨id, i, j, 0, dom⟩

/-- R352, R380, R383 to R407: every word of an instruction's encoding, whatever its operand fields hold, decodes to that
instruction; and a word that matches no row of the table decodes to none. -/
def Obligations.SloakDecoding : Prop :=
  (∀ (r : SlRow) (w : Nat), r ∈ slTable → w &&& r.mask = r.val → slDecode w = some r.op) ∧
  (∀ w : Nat, (∀ r ∈ slTable, w &&& r.mask ≠ r.val) → slDecode w = none)

/-- R343, R344, R383 to R388: what an integer, immediate, predicate or move instruction leaves alone: every register of every
other context, every register of its own but its destination, every memory, queue and unit, and every special register but
its instruction count and the error counts and log of its fetch. -/
def Obligations.SloakFrames : Prop :=
  ∀ (s t u : State) (core x : Nat) (i : SlI) (op : SlOp) (c : Instr), x < 16 → exec c s = .next u →
    ((op, c) ∈ [(SlOp.opAdd, Instr.add core x), (.opSub, .sub core x), (.opAnd, .and core x), (.opOr, .or core x),
        (.opXor, .xor core x), (.opAndn, .andn core x), (.opShl, .shl core x), (.opShr, .shr core x), (.opSra, .sra core x),
        (.opMin, .min core x), (.opMax, .max core x), (.opMinu, .minu core x), (.opMaxu, .maxu core x), (.opClz, .clz core x),
        (.opPopc, .popc core x), (.opMul, .mul core x), (.opMulh, .mulh core x), (.opMulhu, .mulhu core x),
        (.opDiv, .div core x), (.opDivu, .divu core x), (.opRem, .rem core x), (.opRemu, .remu core x), (.opLi32, .li32 core x),
        (.opOrhi, .orhi core x), (.opAddi32, .addi32 core x), (.opPtog, .ptog core x), (.opDget, .dget core x)] →
      s.runs t op core x i → s.slKeeps u core x (some i.rd) none none) ∧
    ((op, c) ∈ [(SlOp.opAddi, Instr.addi core x), (.opAndi, .andi core x), (.opOri, .ori core x), (.opXori, .xori core x),
        (.opShli, .shli core x), (.opShri, .shri core x), (.opSrai, .srai core x), (.opLui, .lui core x)] →
      s.issues t op core x i → s.slKeeps u core x (some i.rd) none none) ∧
    ((op, c) ∈ [(SlOp.opCmpeq, Instr.cmpeq core x), (.opCmpne, .cmpne core x), (.opCmplt, .cmplt core x),
        (.opCmpge, .cmpge core x), (.opCmpltu, .cmpltu core x), (.opCmpgeu, .cmpgeu core x), (.opTst, .tst core x),
        (.opTstz, .tstz core x), (.opPand, .pand core x), (.opPor, .por core x), (.opPxor, .pxor core x),
        (.opPandn, .pandn core x), (.opPnot, .pnot core x), (.opPset, .pset core x), (.opPclr, .pclr core x),
        (.opGtop, .gtop core x)] →
      s.runs t op core x i → s.slKeeps u core x none (some (i.rd % 8)) none) ∧
    ((op, c) ∈ [(SlOp.opDset, Instr.dset core x), (.opDcopy, .dcopy core x), (.opDzero, .dzero core x)] →
      s.runs t op core x i → s.slKeeps u core x none none (some (i.rd % 16)))

/-- R340, R392, R137: what stores leave alone. A store of steer memory changes no byte of any core's steer memory but those of
its own range, the address computed as the instruction computes it (a poisoned register poisons whole words, R344), no tensor
memory and no register of any context; a sector stored in a stack changes no other sector. -/
def Obligations.MemoryFrames : Prop :=
  (∀ (s t u : State) (core x : Nat) (i : SlI) (addr size : Nat) (op : SlOp) (c : Instr) (wide : Bool),
     (op, c, wide, size) ∈ [(SlOp.opSt, Instr.st core x, false, i.size), (.opStd, .std core x, true, 32)] →
     s.issues t op core x i → i.sp = 3 → (t.slRa i).poison = false →
     addr = wrapInt 64 (((t.slRa i).data.toNat : Int) + i.off11 * size) → addr % size = 0 →
     t.steerAllowed core x addr size = true → exec c s = .next u →
     (∀ k a, a < 0x80000 → (k ≠ core ∨ a / 4 < addr / 4 ∨ (addr + size - 1) / 4 < a / 4) →
       u.steerByte k a = s.steerByte k a) ∧
     ((if wide then (t.slD core x (i.rd % 16)).poison else (t.slG core x i.rd).poison) = false →
       ∀ a, a < 0x80000 → (a < addr ∨ addr + size ≤ a) → u.steerByte core a = s.steerByte core a) ∧
     u.tm.words = s.tm.words ∧ u.hbm = s.hbm ∧ u.sc.g = s.sc.g ∧ u.sc.d = s.sc.d ∧ u.sc.p = s.sc.p) ∧
  (∀ (s : State) (p pc row sector mask k : Nat) (data : List PW), k ≠ sectorKey (plotStack p) pc (plotBank p) row sector →
     sget (hbmDefault s.hbm.bgBlank) (s.writeSector p pc row sector mask data).hbm.sectors k =
       sget (hbmDefault s.hbm.bgBlank) s.hbm.sectors k ∧
     (s.writeSector p pc row sector mask data).hbm.bgBlank = s.hbm.bgBlank ∧
     (s.writeSector p pc row sector mask data).tm = s.tm ∧ (s.writeSector p pc row sector mask data).sc = s.sc)

/-! ## Sloak instructions -/

/-- R383 to R385: the integer and the immediate instructions. DIV, DIVU, REM and REMU give the spec's values for a divisor of 0. -/
def Obligations.IntegerResults : Prop :=
  (WritesAlu Instr.add .opAdd (· + ·) ∧ WritesAlu Instr.sub .opSub (· - ·) ∧ WritesAlu Instr.and .opAnd (· &&& ·) ∧
   WritesAlu Instr.or .opOr (· ||| ·) ∧ WritesAlu Instr.xor .opXor (· ^^^ ·) ∧
   WritesAlu Instr.andn .opAndn (fun a b => a &&& ~~~b) ∧
   WritesAlu Instr.shl .opShl (fun a b => a <<< (b.toNat % 64)) ∧
   WritesAlu Instr.shr .opShr (fun a b => a >>> (b.toNat % 64)) ∧
   WritesAlu Instr.sra .opSra (fun a b => a.sshiftRight (b.toNat % 64)) ∧
   WritesAlu Instr.min .opMin (fun a b => if b.slt a then b else a) ∧
   WritesAlu Instr.max .opMax (fun a b => if a.slt b then b else a) ∧
   WritesAlu Instr.minu .opMinu (fun a b => if b.ult a then b else a) ∧
   WritesAlu Instr.maxu .opMaxu (fun a b => if a.ult b then b else a) ∧
   WritesAlu1 Instr.clz .opClz (fun a => if a = 0 then 64 else BitVec.ofNat 64 (63 - Nat.log2 a.toNat)) ∧
   WritesAlu1 Instr.popc .opPopc (fun a => BitVec.ofNat 64 ((List.range 64).filter (fun k => a.getLsbD k)).length) ∧
   WritesAlu Instr.mul .opMul (· * ·) ∧
   WritesAlu Instr.mulh .opMulh (fun a b => wordOfInt ((a.toInt * b.toInt) / 2 ^ 64)) ∧
   WritesAlu Instr.mulhu .opMulhu (fun a b => BitVec.ofNat 64 ((a.toNat * b.toNat) / 2 ^ 64)) ∧
   WritesAlu Instr.div .opDiv (fun a b => if b = 0 then BitVec.allOnes 64 else wordOfInt (a.toInt.tdiv b.toInt)) ∧
   WritesAlu Instr.divu .opDivu (fun a b => if b = 0 then BitVec.allOnes 64 else BitVec.ofNat 64 (a.toNat / b.toNat)) ∧
   WritesAlu Instr.rem .opRem (fun a b => if b = 0 then a else wordOfInt (a.toInt.tmod b.toInt)) ∧
   WritesAlu Instr.remu .opRemu (fun a b => if b = 0 then a else BitVec.ofNat 64 (a.toNat % b.toNat))) ∧
  (WritesImm Instr.addi .opAddi (fun i a => a + i.simm) ∧ WritesImm Instr.andi .opAndi (fun i a => a &&& i.zimm) ∧
   WritesImm Instr.ori .opOri (fun i a => a ||| i.zimm) ∧ WritesImm Instr.xori .opXori (fun i a => a ^^^ i.zimm) ∧
   WritesImm Instr.shli .opShli (fun i a => a <<< (i.imm16 % 64)) ∧
   WritesImm Instr.shri .opShri (fun i a => a >>> (i.imm16 % 64)) ∧
   WritesImm Instr.srai .opSrai (fun i a => a.sshiftRight (i.imm16 % 64)) ∧
   (∀ (s t : State) (core x : Nat) (i : SlI), s.issues t .opLui core x i →
     exec (.lui core x) s = .next (t.slPut i ⟨wordOfInt (sextNat 32 (i.imm16 * 65536)), false⟩)) ∧
   (∀ (s t : State) (core x : Nat) (i : SlI), s.runs t .opLi32 core x i →
     exec (.li32 core x) s = .next (t.slPut i ⟨i.simm32, false⟩)) ∧
   (∀ (s t : State) (core x : Nat) (i : SlI), s.runs t .opOrhi core x i →
     exec (.orhi core x) s =
       .next (t.slPut i (slMap (fun a => a ||| BitVec.ofNat 64 (i.imm % 2 ^ 32 * 2 ^ 32)) (t.slRa i)))) ∧
   (∀ (s t : State) (core x : Nat) (i : SlI), s.runs t .opAddi32 core x i →
     exec (.addi32 core x) s = .next (t.slPut i (slMap (fun a => a + i.simm32) (t.slRa i)))))

/-- R386 to R388: the compares, the predicate instructions, and the moves between g, p and d registers, with the poison that
R344 gives each. -/
def Obligations.PredicateAndMoveResults : Prop :=
  (WritesCmp Instr.cmpeq .opCmpeq (fun a b => a == b) ∧ WritesCmp Instr.cmpne .opCmpne (fun a b => a != b) ∧
   WritesCmp Instr.cmplt .opCmplt (fun a b => a.slt b) ∧ WritesCmp Instr.cmpge .opCmpge (fun a b => !a.slt b) ∧
   WritesCmp Instr.cmpltu .opCmpltu (fun a b => a.ult b) ∧ WritesCmp Instr.cmpgeu .opCmpgeu (fun a b => !a.ult b) ∧
   WritesCmp Instr.tst .opTst (fun a b => a &&& b != 0) ∧ WritesCmp Instr.tstz .opTstz (fun a b => a &&& b == 0) ∧
   WritesLogic Instr.pand .opPand (fun a b => a && b) ∧ WritesLogic Instr.por .opPor (fun a b => a || b) ∧
   WritesLogic Instr.pxor .opPxor (fun a b => a != b) ∧ WritesLogic Instr.pandn .opPandn (fun a b => a && !b) ∧
   (∀ (s t : State) (core x : Nat) (i : SlI), s.runs t .opPnot core x i →
     exec (.pnot core x) s = .next (t.slPutP i (slPlog1 (fun a => !a) (t.slP core x (i.ra % 8))))) ∧
   (∀ (s t : State) (core x : Nat) (i : SlI), s.runs t .opPset core x i →
     exec (.pset core x) s = .next (t.slPutP i ⟨true, false, 0⟩)) ∧
   (∀ (s t : State) (core x : Nat) (i : SlI), s.runs t .opPclr core x i →
     exec (.pclr core x) s = .next (t.slPutP i ⟨false, false, 0⟩))) ∧
  (∀ (s t : State) (core x : Nat) (i : SlI),
     (s.runs t .opPtog core x i →
       exec (.ptog core x) s = .next (t.slPut i
         (if (t.slP core x (i.ra % 8)).poison then slPoisoned (t.slP core x (i.ra % 8)).tag
          else ⟨BitVec.ofNat 64 (b2n (t.slP core x (i.ra % 8)).val), false⟩))) ∧
     (s.runs t .opGtop core x i →
       exec (.gtop core x) s = .next (t.slPutP i
         (if (t.slRa i).poison then slPoisonedP (t.slRa i).tag else ⟨(t.slRa i).data.getLsbD 0, false, 0⟩))) ∧
     (s.runs t .opDset core x i →
       exec (.dset core x) s = .next (t.slPutD i
         (if (t.slRa i).poison then slPoisonedD (t.slRa i).tag
          else if (t.slD core x (i.rd % 16)).poison then t.slD core x (i.rd % 16)
          else ⟨setLane (t.slD core x (i.rd % 16)).data (i.rb % 4) (t.slRa i).data, false⟩))) ∧
     (s.runs t .opDget core x i →
       exec (.dget core x) s = .next (t.slPut i
         (if (t.slD core x (i.ra % 16)).poison then slPoisoned (t.slD core x (i.ra % 16)).tag
          else ⟨((t.slD core x (i.ra % 16)).data >>> (64 * (i.rb % 4))).setWidth 64, false⟩))) ∧
     (s.runs t .opDcopy core x i → exec (.dcopy core x) s = .next (t.slPutD i (t.slD core x (i.ra % 16)))) ∧
     (s.runs t .opDzero core x i → exec (.dzero core x) s = .next (t.slPutD i ⟨0, false⟩)))

/-- R389, R390: BR and CALL go to pc + 4 × off22 when their predicate, negated or not, is 1, and on to the next instruction
when it is not, so that with p0, which is 1, they are always or never taken; a CALL that is taken leaves the return address in
g31, one that is not leaves g31 as it was, and JR leaves it in rd; a poisoned predicate and a poisoned ra trap POISON, and a
misaligned target of JR traps ALIGN with the target, and rd is not written. -/
def Obligations.BranchResults : Prop :=
  (∀ w : Nat, w < 2 ^ 32 → (slDecode w = some .opBr ↔ w / 2 ^ 26 = 0x10) ∧ (slDecode w = some .opCall ↔ w / 2 ^ 26 = 0x11) ∧
    (slDecode w = some .opJr ↔ w / 2 ^ 26 = 0x12)) ∧
  (∀ (s : State) (core x : Nat) (i : SlI), s.slP core x 0 = ⟨true, false, 0⟩ ∧
    (s.slNext i).slG core x 31 = s.slG core x 31) ∧
  ∀ (s t : State) (core x : Nat) (i : SlI),
    (s.issues t .opBr core x i → (t.slP core x (nfield i.w 23 3)).poison = false →
      exec (.br core x) s =
        .next (if (t.slP core x (nfield i.w 23 3)).val != nbit i.w 22 then
          t.slJump i (wrapInt 64 ((i.pc : Int) + 4 * i.off22)) else t.slNext i)) ∧
    (s.issues t .opCall core x i → (t.slP core x (nfield i.w 23 3)).poison = false →
      exec (.call core x) s =
        .next (if (t.slP core x (nfield i.w 23 3)).val != nbit i.w 22 then
          (t.setSlG core x 31 ⟨BitVec.ofNat 64 (i.pc + 4), false⟩).slJump i (wrapInt 64 ((i.pc : Int) + 4 * i.off22))
          else t.slNext i)) ∧
    (s.issues t .opJr core x i → (t.slRa i).poison = false →
      wrapInt 64 (((t.slRa i).data.toNat : Int) + 4 * sextNat 16 i.w) % 4 = 0 →
      exec (.jr core x) s =
        .next ((t.setSlG core x i.rd ⟨BitVec.ofNat 64 (i.pc + 4), false⟩).slJump i
          (wrapInt 64 (((t.slRa i).data.toNat : Int) + 4 * sextNat 16 i.w)))) ∧
    (s.owesAnswer core x = false →
      (s.issues t .opBr core x i → (t.slP core x (nfield i.w 23 3)).poison = true →
        exec (.br core x) s = .next ((t.bite (coreDie core) 1).slTrap core x 4 2 (t.slP core x (nfield i.w 23 3)).tag i.pc)) ∧
      (s.issues t .opCall core x i → (t.slP core x (nfield i.w 23 3)).poison = true →
        exec (.call core x) s = .next ((t.bite (coreDie core) 1).slTrap core x 4 2 (t.slP core x (nfield i.w 23 3)).tag i.pc)) ∧
      (s.issues t .opJr core x i → (t.slRa i).poison = true →
        exec (.jr core x) s = .next ((t.bite (coreDie core) 0).slTrap core x 4 3 (t.slRa i).tag i.pc)) ∧
      (s.issues t .opJr core x i → (t.slRa i).poison = false →
        wrapInt 64 (((t.slRa i).data.toNat : Int) + 4 * sextNat 16 i.w) % 4 ≠ 0 →
        exec (.jr core x) s =
          .next (t.slTrap core x 3 (wrapInt 64 (((t.slRa i).data.toNat : Int) + 4 * sextNat 16 i.w)) 0 i.pc)))

/-- R340, R351, R392: loads and stores of steer memory (space 3) at a clean, aligned address that the context may use; a
misaligned one traps ALIGN, and one outside what the context may use SMEM_PROT, with the address. -/
def Obligations.SteerLoadStore : Prop :=
  ∀ (s t : State) (core x : Nat) (i : SlI) (addr : Nat),
    i.sp = 3 → (t.slRa i).poison = false →
    (s.issues t .opLd core x i → addr = wrapInt 64 (((t.slRa i).data.toNat : Int) + i.off11 * i.size) → addr % i.size = 0 →
      t.steerAllowed i.core i.ctx addr i.size = true →
      exec (.ld core x) s = .next (((t.steerReadWords i.core (maskedWords addr i.size [])).2.slLoaded i false
        (i.sz % 2 == 0 && decide (i.sz < 6)) addr i.size
        (t.steerReadWords i.core (maskedWords addr i.size [])).1).slNext i)) ∧
    (s.issues t .opSt core x i → addr = wrapInt 64 (((t.slRa i).data.toNat : Int) + i.off11 * i.size) → addr % i.size = 0 →
      t.steerAllowed i.core i.ctx addr i.size = true →
      exec (.st core x) s = .next
        ((t.steerWriteWords i.core (maskedWords addr i.size (t.slStoreData i false addr i.size))).slNext i)) ∧
    (s.issues t .opLdd core x i → addr = wrapInt 64 (((t.slRa i).data.toNat : Int) + i.off11 * 32) → addr % 32 = 0 →
      t.steerAllowed i.core i.ctx addr 32 = true →
      exec (.ldd core x) s = .next (((t.steerReadWords i.core (maskedWords addr 32 [])).2.slLoaded i true false addr 32
        (t.steerReadWords i.core (maskedWords addr 32 [])).1).slNext i)) ∧
    (s.issues t .opStd core x i → addr = wrapInt 64 (((t.slRa i).data.toNat : Int) + i.off11 * 32) → addr % 32 = 0 →
      t.steerAllowed i.core i.ctx addr 32 = true →
      exec (.std core x) s = .next
        ((t.steerWriteWords i.core (maskedWords addr 32 (t.slStoreData i true addr 32))).slNext i)) ∧
    (∀ (op : SlOp) (c : Instr) (size : Nat), (op, c, size) ∈ [(SlOp.opLd, Instr.ld core x, i.size), (.opSt, .st core x, i.size),
        (.opLdd, .ldd core x, 32), (.opStd, .std core x, 32)] → s.issues t op core x i → s.owesAnswer core x = false →
      addr = wrapInt 64 (((t.slRa i).data.toNat : Int) + i.off11 * size) →
      (addr % size ≠ 0 → exec c s = .next (t.slTrap core x 3 addr 0 i.pc)) ∧
      (addr % size = 0 → t.steerAllowed i.core i.ctx addr size = false → exec c s = .next (t.slTrap core x 7 addr 0 i.pc)))

/-- R358, R395 to R401: a clean descriptor or list goes to its unit, whose answer code is owed to rd; a wait whose condition
is true at issue writes the value to rd and goes on; FENCE flushes the merge buffers of the cluster (bit 1 of ds set) or of SCP. -/
def Obligations.UnitIssuesAndWaits : Prop :=
  (∀ (s t : State) (core x : Nat) (i : SlI),
     (s.runs t .opMxissue core x i → core < 18 → (t.slD core x i.ds).poison = false →
       exec (.mxissue core x) s = .next ((t.engIssue core 0 (t.slD core x i.ds).data (t.slVi i)).2.slAnswer i
         (t.engIssue core 0 (t.slD core x i.ds).data (t.slVi i)).1 true)) ∧
     (s.runs t .opVxissue core x i → core < 18 → (t.slD core x i.ds).poison = false →
       exec (.vxissue core x) s = .next ((t.engIssue core 1 (t.slD core x i.ds).data (t.slVi i)).2.slAnswer i
         (t.engIssue core 1 (t.slD core x i.ds).data (t.slVi i)).1 true)) ∧
     (s.runs t .opGtissue core x i → core < 18 → (t.slD core x i.ds).poison = false →
       exec (.gtissue core x) s = .next ((t.engIssue core 2 (t.slD core x i.ds).data (t.slVi i)).2.slAnswer i
         (t.engIssue core 2 (t.slD core x i.ds).data (t.slVi i)).1 true)) ∧
     (s.runs t .opMuissue core x i → (t.slD core x i.ds).poison = false →
       t.slMuleMay (t.slD core x i.ds).data (t.slVi i) = true →
       exec (.muissue core x) s = .next ((t.muIssue (t.slD core x i.ds).data (t.slVi i) false (some i.core)).2.slAnswer i
         (if (t.muIssue (t.slD core x i.ds).data (t.slVi i) false (some i.core)).1 = 0 then 0 else 1) true)) ∧
     (s.runs t .opStissue core x i → (t.slRa i).poison = false → (t.slRb i).poison = false →
       stExists (slStreams i.core) (t.slRb i).data.toNat = true → nfield (t.slRa i).data.toNat 50 14 = 0 →
       exec (.stissue core x) s = .next ((t.stIssueList (slStreams core) (t.slRb i).data.toNat (t.slVi i)
           (nfield (t.slRa i).data.toNat 0 48) (nfield (t.slRa i).data.toNat 48 2)).2.slAnswer i
         (t.stIssueList (slStreams core) (t.slRb i).data.toNat (t.slVi i)
           (nfield (t.slRa i).data.toNat 0 48) (nfield (t.slRa i).data.toNat 48 2)).1 true)) ∧
     (s.runs t .opStcancel core x i → (t.slRb i).poison = false →
       stExists (slStreams i.core) (t.slRb i).data.toNat = true →
       exec (.stcancel core x) s = .next ((t.stCancel (slStreams core) (t.slRb i).data.toNat (t.slVi i)).2.slAnswer i
         (t.stCancel (slStreams core) (t.slRb i).data.toNat (t.slVi i)).1 true)) ∧
     (s.runs t .opStresume core x i → (t.slRb i).poison = false →
       stExists (slStreams i.core) (t.slRb i).data.toNat = true →
       exec (.stresume core x) s = .next ((t.stResume (slStreams core) (t.slRb i).data.toNat (t.slVi i)).2.slAnswer i
         (t.stResume (slStreams core) (t.slRb i).data.toNat (t.slVi i)).1 true))) ∧
  (∀ (s t : State) (core x : Nat) (i : SlI),
     (s.runs t .opWaitcnt core x i → (t.slRa i).poison = false → (t.slRb i).poison = false →
       nfield (t.slRa i).data.toNat 12 52 = 0 → (core < 18 → t.logCluster core = some (nfield (t.slRa i).data.toNat 8 4)) →
       t.waitMet (.cnt (t.physCluster (nfield (t.slRa i).data.toNat 8 4)) (nfield (t.slRa i).data.toNat 0 8)
         ((t.slRb i).data.toNat % 2 ^ 32)) = true →
       exec (.waitcnt core x) s = .next ((t.dropWait i.core i.ctx).slPut i ⟨BitVec.ofNat 64
         (t.fld .WN_CNT_VALUE (t.physCluster (nfield (t.slRa i).data.toNat 8 4)) (nfield (t.slRa i).data.toNat 0 8)), false⟩)) ∧
     (s.runs t .opWaitmu core x i → (t.slRa i).poison = false → (t.slRb i).poison = false → (t.slRa i).data.toNat < 8 →
       t.stackPresent (t.slRa i).data.toNat = true → t.waitMet (.mu (t.slRa i).data.toNat (t.slRb i).data.toNat) = true →
       exec (.waitmu core x) s = .next ((t.dropWait i.core i.ctx).slPut i ⟨BitVec.ofNat 64
         (t.waitValue (.mu (t.slRa i).data.toNat (t.slRb i).data.toNat)), false⟩)) ∧
     (s.runs t .opWaitft core x i → (t.slRa i).poison = false → t.waitMet (.ft (t.slRa i).data.toNat) = true →
       exec (.waitft core x) s = .next ((t.dropWait i.core i.ctx).slPut i ⟨BitVec.ofNat 64 t.now, false⟩)) ∧
     (s.runs t .opFence core x i →
       exec (.fence core x) s = .next (if 18 ≤ core then t.slNext i
         else if nbit i.ds 1 then (t.fencePorts core [0, 1, 2, 3, 4, 8]).slNext i else (t.fencePorts core [8]).slNext i)))

/-- R402, R403, R407, R363: local LOCK and UNLOCK wait at the lock unit, which owes rd its answer (R118; UNIT_ANSWER gives it); LCFLUSH and
LCINVAL of a device range start an operation; TRAP takes the SOFTWARE trap with the next address saved; ERET returns from a trap at PRIV and traps PRIVILEGE
at USER. -/
def Obligations.LockCacheTrap : Prop :=
  ∀ (s t : State) (core x : Nat) (i : SlI) (err : Nat),
    (s.runs t .opLock core x i → (t.slRa i).poison = false → (t.slRa i).data.toNat < 2 ^ 13 →
      exec (.lock core x err) s = .next
        ((t.withTm { t.tm with lockQ := t.tm.lockQ ++ [⟨(t.slRa i).data.toNat, t.lockSource (t.slRa i).data.toNat i.core,
          t.ctxOwner i.core i.ctx, false, err, some (i.core, i.ctx, i.rd)⟩] }).slAnswer i 0 false)) ∧
    (s.runs t .opUnlock core x i → (t.slRa i).poison = false → (t.slRa i).data.toNat < 2 ^ 13 →
      exec (.unlock core x err) s = .next
        ((t.withTm { t.tm with lockQ := t.tm.lockQ ++ [⟨(t.slRa i).data.toNat, t.lockSource (t.slRa i).data.toNat i.core,
          t.ctxOwner i.core i.ctx, true, err, some (i.core, i.ctx, i.rd)⟩] }).slAnswer i 0 false)) ∧
    (s.runs t .opLcflush core x i → (t.slRa i).poison = false → (t.slRb i).poison = false →
      nfield (t.slRa i).data.toNat 48 2 = 2 → t.slVi i = 0 → 0 < (t.slRb i).data.toNat → (t.slRb i).data.toNat < 2 ^ 40 →
      exec (.lcflush core x) s = .next ((t.lcOpStart ⟨0, 0, true, false, nfield (t.slRa i).data.toNat 0 48,
        (t.slRb i).data.toNat, some (i.core, i.ctx, i.rd), 0⟩).slAnswer i 0 false)) ∧
    (s.runs t .opLcinval core x i → (t.slRa i).poison = false → (t.slRb i).poison = false →
      nfield (t.slRa i).data.toNat 48 2 = 2 → t.slVi i = 0 → 0 < (t.slRb i).data.toNat → (t.slRb i).data.toNat < 2 ^ 40 →
      exec (.lcinval core x) s = .next ((t.lcOpStart ⟨0, 0, false, false, nfield (t.slRa i).data.toNat 0 48,
        (t.slRb i).data.toNat, some (i.core, i.ctx, i.rd), 0⟩).slAnswer i 0 false)) ∧
    (s.runs t .opTrap core x i → s.owesAnswer core x = false →
      exec (.trap core x) s = .next ((t.scCount core 0).slTrap core x 0xD i.pc (BitVec.ofNat 32 (nfield i.w 11 15)) (i.pc + 4))) ∧
    (s.issues t .opEret core x i → t.ctxPriv core x = true →
      exec (.eret core x) s = .next ((t.slReturn core x).scCount core 0)) ∧
    (s.issues t .opEret core x i → t.ctxPriv core x = false → s.owesAnswer core x = false →
      exec (.eret core x) s = .next (t.slTrap core x 2 i.w 0 i.pc))

/-- R347, R404 to R406, R515: PHASE names a phase; SETCFG at PRIV writes its result to rd and the write acts, and at USER it
traps PRIVILEGE; GETCFG reads. -/
def Obligations.ConfigurationInstructions : Prop :=
  ∀ (s t : State) (core x : Nat) (i : SlI),
    (s.runs t .opPhase core x i → (t.slRa i).poison = false → (t.slRa i).data.toNat < 16 →
      exec (.phase core x) s = .next ((t.phaseByVi (t.slVi i) (t.slRa i).data.toNat).2.slAnswer i
        (if (t.phaseByVi (t.slVi i) (t.slRa i).data.toNat).1 then 0 else 1) true)) ∧
    (s.runs t .opSetcfg core x i → t.ctxPriv core x = true → (t.slRa i).poison = false → (t.slRb i).poison = false →
      cfgClean (t.slRa i).data = true →
      (t.cfgWrite ⟨t.slAcc i, cfgWide (t.slRa i).data, (t.slRb i).data⟩ (cfgOff (t.slRa i).data)).1 = 0 →
      exec (.setcfg core x) s = .next ((t.slPut i ⟨0, false⟩).cfgWrite
        ⟨t.slAcc i, cfgWide (t.slRa i).data, (t.slRb i).data⟩ (cfgOff (t.slRa i).data)).2) ∧
    (s.runs t .opSetcfg core x i → t.ctxPriv core x = false → s.owesAnswer core x = false →
      exec (.setcfg core x) s = .next (t.slTrap core x 2 i.w 0 i.pc)) ∧
    (s.runs t .opGetcfg core x i → (t.slRa i).poison = false →
      (t.ctxPriv core x = true ∨ cfgUserMay core (cfgOff (t.slRa i).data) = true) →
      (t.busRead (t.slAcc i) (cfgWide (t.slRa i).data) (cfgOff (t.slRa i).data)).1 = 0 →
      exec (.getcfg core x) s = .next
        ((t.busRead (t.slAcc i) (cfgWide (t.slRa i).data) (cfgOff (t.slRa i).data)).2.2.slPut i
          ⟨BitVec.ofNat 64 ((t.busRead (t.slAcc i) (cfgWide (t.slRa i).data) (cfgOff (t.slRa i).data)).2.1.foldr
            (fun (p : PW) (n : Nat) => p.data.toNat + n * 2 ^ 32) 0), false⟩))

/-- R345, R382: an R-, E- or X-format instruction whose guard is a clean 0 does nothing but go on to the next one: it writes
nothing and sends nothing to any unit. With a poisoned guard it traps POISON before any effect. -/
def Obligations.GuardRule : Prop :=
  ∀ (s t : State) (core x : Nat) (i : SlI) (err : Nat) (op : SlOp) (c : Instr),
    (op, c) ∈ [
      (SlOp.opAdd, Instr.add core x), (.opSub, .sub core x), (.opAnd, .and core x), (.opOr, .or core x),
      (.opXor, .xor core x), (.opAndn, .andn core x), (.opShl, .shl core x), (.opShr, .shr core x),
      (.opSra, .sra core x), (.opMin, .min core x), (.opMax, .max core x), (.opMinu, .minu core x),
      (.opMaxu, .maxu core x), (.opClz, .clz core x), (.opPopc, .popc core x), (.opMul, .mul core x),
      (.opMulh, .mulh core x), (.opMulhu, .mulhu core x), (.opDiv, .div core x), (.opDivu, .divu core x),
      (.opRem, .rem core x), (.opRemu, .remu core x), (.opLi32, .li32 core x), (.opOrhi, .orhi core x),
      (.opAddi32, .addi32 core x), (.opCmpeq, .cmpeq core x), (.opCmpne, .cmpne core x), (.opCmplt, .cmplt core x),
      (.opCmpge, .cmpge core x), (.opCmpltu, .cmpltu core x), (.opCmpgeu, .cmpgeu core x), (.opTst, .tst core x),
      (.opTstz, .tstz core x), (.opPand, .pand core x), (.opPor, .por core x), (.opPxor, .pxor core x),
      (.opPandn, .pandn core x), (.opPnot, .pnot core x), (.opPset, .pset core x), (.opPclr, .pclr core x),
      (.opPtog, .ptog core x), (.opGtop, .gtop core x), (.opDset, .dset core x), (.opDget, .dget core x),
      (.opDcopy, .dcopy core x), (.opDzero, .dzero core x), (.opMxissue, .mxissue core x),
      (.opVxissue, .vxissue core x), (.opGtissue, .gtissue core x), (.opMuissue, .muissue core x),
      (.opStissue, .stissue core x), (.opStcancel, .stcancel core x), (.opStresume, .stresume core x),
      (.opWaitcnt, .waitcnt core x), (.opWaitmu, .waitmu core x), (.opWaitft, .waitft core x),
      (.opFence, .fence core x), (.opLcflush, .lcflush core x), (.opLcinval, .lcinval core x),
      (.opPhase, .phase core x), (.opSetcfg, .setcfg core x), (.opGetcfg, .getcfg core x), (.opTrap, .trap core x),
      (.opLock, .lock core x err), (.opUnlock, .unlock core x err)] →
    s.issues t op core x i →
    ((t.slP i.core i.ctx i.pg).poison = false → (t.slP i.core i.ctx i.pg).val = false → exec c s = .next (t.slNext i)) ∧
    ((t.slP i.core i.ctx i.pg).poison = true → s.owesAnswer core x = false →
      exec c s = .next ((t.bite (coreDie i.core) 1).slTrap core x 4 2 (t.slP i.core i.ctx i.pg).tag i.pc))

/-! ## Commands that write a named register -/

/-- R22, R31, R35, R40, R47, R82, R99, R100, R104, R114, R143, R147, R152, R153, R156, R159, R244: register writes of fleet
time, trace, crossbar counters, windows, arrival counters, locks and the integrity blocks. A repair starts where GO was 0. -/
def Obligations.TimeWindowLockIntegrityWrites : Prop :=
  (StartsBy Instr.accessErrClear .SV_ACCESS_ERR_VALID 1 0 0 always (fun _ t => t.setReg .SV_ACCESS_ERR 0 0 0) ∧
   StartsBy Instr.acceptStep .FT_CTRL_ACCEPT_STEP 1 0 0 always (fun _ t => t.acceptStepGo) ∧
   StartsOn Instr.strokeCommit (fun w => wrSet (commitWr w 0 0) .FT_STG_CTL_COMMIT 1) .FT_STG_CTL 0 0 always
     (fun w t => t.stageCommit w.acc) ∧
   StartsOn Instr.strokeReplace (fun w => wrSet (commitWr w 1 0) .FT_STG_CTL_COMMIT 1) .FT_STG_CTL 0 0 always
     (fun w t => t.stageCommit w.acc) ∧
   StartsOn Instr.strokeCancel (fun w => wrSet (commitWr w 0 1) .FT_STG_CTL_COMMIT 1) .FT_STG_CTL 0 0 always
     (fun w t => t.stageCommit w.acc) ∧
   (∀ u, StartsBy (fun w => .traceEnable w u) .FT_TRACE_CTL_EN 1 u 0 (fun s _ => s.flag .FT_TRACE_CTL_EN u 0 = false)
     (fun _ t => t.traceEnable u)) ∧
   (∀ c, StartsBy (fun w => .tmxCounterClear w c) .TMX_CNT_CTL_CLEAR 1 c 0 always (fun _ t => t.clearPortCounters c)) ∧
   (∀ c n, StartsBy (fun w => .windowOpen w c n) .WN_CTL_OPEN 1 c n always (fun _ t => t)) ∧
   (∀ c n, StartsBy (fun w => .windowClose w c n) .WN_CTL_OPEN 0 c n always (fun _ t => t)) ∧
   (∀ c n, StartsOn (fun w => .wnCntWrite w c n) id .WN_CNT c n always (fun _ t => t.cntWritten c n)) ∧
   (∀ c n, StartsOn (fun w => .wnCntSub w c n) id .WN_CNT_SUB c n always
     (fun w t => ((t.cntMeet c n).2.cntWritten c n).setFld .WN_CNT_VALUE c n
       (((t.cntMeet c n).2.cntWritten c n).fld .WN_CNT_VALUE c n + (2 ^ 32 - getBits w.value 0 32)))) ∧
   (∀ d, StartsBy (fun w => .lockForce w d) .LK_FORCE_GO 1 d 0 always (fun _ t => t.lkForceGo d))) ∧
  ((∀ d n, StartsBy (fun w => .scrubGo w d n) .IN_SCRUB_CTL_GO 1 d n (fun _ w => getBit w.value 34 = false)
     (fun _ t => (t.scrubStart d n).2.setFlag .IN_SCRUB_CTL_GO d n false)) ∧
   (∀ d n, StartsBy (fun w => .scrubStop w d n) .IN_SCRUB_CTL_STOP 1 d n (fun _ w => getBit w.value 33 = false)
     (fun _ t => t.scrubStopGo d n)) ∧
   (∀ d, StartsBy (fun w => .errorCountClear w d) .IN_ECNT_CLR_CLEAR 1 d 0 always (fun _ t => t.clearErrors d)) ∧
   (∀ d, StartsBy (fun w => .splitWrite w d) .IN_DIAG_GO 1 d 0 always (fun _ t => t.splitWrite d)) ∧
   (∀ d, StartsOn (fun w => .tmRowRepair w d) (fun w => wrSet (wrSet w .IN_REPAIR_KIND 0) .IN_REPAIR_GO 1) .IN_REPAIR d 0
     (fun s _ => s.flag .IN_REPAIR_GO d 0 = false) (fun _ t => t.repairGo d)) ∧
   (∀ d, StartsOn (fun w => .lcLineRepair w d) (fun w => wrSet (wrSet w .IN_REPAIR_KIND 1) .IN_REPAIR_GO 1) .IN_REPAIR d 0
     (fun s _ => s.flag .IN_REPAIR_GO d 0 = false) (fun _ t => t.repairGo d)) ∧
   (∀ d, StartsOn (fun w => .hbmRowRepair w d) (fun w => wrSet (wrSet w .IN_REPAIR_KIND 2) .IN_REPAIR_GO 1) .IN_REPAIR d 0
     (fun s _ => s.flag .IN_REPAIR_GO d 0 = false) (fun _ t => t.repairGo d)))

/-- R169, R171, R175, R179, R192, R205, R206, R218, R224, R235 to R237, R267: register writes of plots, mules, the cache and
the arbiters. -/
def Obligations.PlotMuleCacheWrites : Prop :=
  (∀ k n, StartsBy (fun w => .plotEnable w k n) .PL_CTL_ENABLE 1 k n (fun s _ => s.flag .PL_CTL_ENABLE k n = false)
    (fun _ t => t.startFill (48 * k + n))) ∧
  (∀ k n, ∀ (s : State) (w : Wr) (off : Nat),
    s.accepts (wrSet w .PL_CTL_ENABLE (s.fld .PL_CTL_ENABLE k n)) .PL_CTL k n off → s.flag .PL_CTL_ENABLE k n = true →
    (getBits (s.reg .PL_CTL k n) 1 2 ≠ getBits w.value 1 2 ∨ getBits (s.reg .PL_CTL k n) 4 6 ≠ getBits w.value 4 6) →
    exec (.plotAttrChange w k n) s = .next ((s.stored (wrSet w .PL_CTL_ENABLE (s.fld .PL_CTL_ENABLE k n)) .PL_CTL k n off).startFill
      (48 * k + n))) ∧
  (∀ k n, StartsOn (fun w => .plTagWrite w k n) id .PL_TAG k n always (fun _ t => t.setFlag .PL_STATUS_RETIRED k n false)) ∧
  (∀ k, StartsBy (fun w => .rangeFill w k) .PL_FILL_GO 1 k 0 always (fun _ t => t.rangeFillGo k)) ∧
  StartsBy Instr.tlbInv .PL_TLB_INV_GO 1 0 0 (fun s _ => s.flag .PL_TLB_INV_GO 0 0 = false) (fun _ t => t.tlbInvGo) ∧
  StartsBy Instr.muCmdGo .MU_CMD_GO_GO 1 0 0 always (fun w t => t.muCmdGo (postVi w.acc) (w.acc.origin == .serviceFw)) ∧
  StartsOn Instr.muWinCmdOpen (fun w => wrSet (wrSet w .MU_WIN_CMD_CLOSE 0) .MU_WIN_CMD_GO 1) .MU_WIN_CMD 0 0 always
    (fun _ t => t.muWinCmd) ∧
  StartsOn Instr.muWinCmdClose (fun w => wrSet (wrSet w .MU_WIN_CMD_CLOSE 1) .MU_WIN_CMD_GO 1) .MU_WIN_CMD 0 0 always
    (fun _ t => t.muWinCmd) ∧
  (∀ k pc, StartsBy (fun w => .suspectClear w k pc) .MU_SUSPECT_VALID 1 k pc always (fun _ t => t.setReg .MU_SUSPECT k pc 0)) ∧
  (∀ v, ∀ (s : State) (w : Wr) (off : Nat), s.accepts w .LC_PART v 0 off →
    exec (.lcPartWrite w v) s =
      .next ((s.stored w .LC_PART v 0 off).lcSweep v ((s.reg .LC_PART v 0).toNat ||| w.value.toNat))) ∧
  StartsOn Instr.lcOpFlush (fun w => wrSet (wrSet w .LC_OP_FLUSH 1) .LC_OP_GO 1) .LC_OP 0 0
    (fun s _ => s.flag .LC_OP_GO 0 0 = false) (fun _ t => t.lcOpStart t.lcOpOf) ∧
  StartsOn Instr.lcOpInval (fun w => wrSet (wrSet w .LC_OP_FLUSH 0) .LC_OP_GO 1) .LC_OP 0 0
    (fun s _ => s.flag .LC_OP_GO 0 0 = false) (fun _ t => t.lcOpStart t.lcOpOf) ∧
  (∀ d, StartsBy (fun w => .lcCounterClear w d) .LC_CNT_CTL_CLEAR 1 d 0 always (fun _ t => t.lcClearCounters d)) ∧
  (∀ a, StartsBy (fun w => .trCounterClear w a) .TR_CNT_CLR_CLEAR 1 a 0 always (fun _ t => t.trClearCounters a))

/-- R270, R288, R291, R303, R336, R338, R339, R355, R366, R405, R426, R431, R433, R449, R458, R482, R487, R503: register
writes of streams, engines, cores, queues, herd and power manager. GO and the enables act where they were 0. -/
def Obligations.StreamCoreQueueHerdWrites : Prop :=
  ((∀ e c, StartsBy (fun w => .stCmdIssue w e c) .ST_CMD_ISSUE 1 e c
     (fun _ w => getBit w.value 1 = false ∧ getBit w.value 2 = false)
     (fun w t => ((t.stIssueList e c (postVi w.acc) (t.fld .ST_CMD_LIST_LIST e c) (t.fld .ST_CMD_LIST_SPACE e c)).2.setFld
       .ST_CMD_RESULT e c (t.stIssueList e c (postVi w.acc) (t.fld .ST_CMD_LIST_LIST e c)
         (t.fld .ST_CMD_LIST_SPACE e c)).1).setFlag .ST_CMD_ISSUE e c false)) ∧
   (∀ e c, StartsBy (fun w => .stCmdCancel w e c) .ST_CMD_CANCEL 1 e c
     (fun _ w => getBit w.value 0 = false ∧ getBit w.value 2 = false)
     (fun w t => ((t.stCancel e c (postVi w.acc)).2.setFld .ST_CMD_RESULT e c (t.stCancel e c (postVi w.acc)).1).setFlag
       .ST_CMD_ISSUE e c false)) ∧
   (∀ e c, StartsBy (fun w => .stCmdResume w e c) .ST_CMD_RESUME 1 e c
     (fun _ w => getBit w.value 0 = false ∧ getBit w.value 1 = false)
     (fun w t => ((t.stResume e c (postVi w.acc)).2.setFld .ST_CMD_RESULT e c (t.stResume e c (postVi w.acc)).1).setFlag
       .ST_CMD_ISSUE e c false)) ∧
   (∀ e, StartsBy (fun w => .stCounterClear w e) .ST_CNT_CLR_CLEAR 1 e 0 always (fun _ t => t.stClearCounters e)) ∧
   (∀ c, StartsBy (fun w => .engineCounterClear w c 0) .MX_CNT_CLR_CLEAR 1 c 0 always (fun _ t => t.engClearCounters c 0)) ∧
   (∀ c, StartsBy (fun w => .engineCounterClear w c 1) .VX_CNT_CLR_CLEAR 1 c 0 always (fun _ t => t.engClearCounters c 1)) ∧
   (∀ c, StartsBy (fun w => .engineCounterClear w c 2) .GT_CNT_CLR_CLEAR 1 c 0 always (fun _ t => t.engClearCounters c 2)) ∧
   (∀ c x, StartsBy (fun w => .contextStart w c x) .SC_CTX_CTL_START 1 c x
     (fun _ w => getBit w.value 1 = false ∧ getBit w.value 2 = false) (fun _ t => t.ctxStart c x)) ∧
   (∀ c x, StartsBy (fun w => .contextStop w c x) .SC_CTX_CTL_STOP 1 c x
     (fun _ w => getBit w.value 0 = false ∧ getBit w.value 2 = false) (fun _ t => t.ctxStop c x)) ∧
   (∀ c x, StartsBy (fun w => .contextReset w c x) .SC_CTX_CTL_RESET 1 c x
     (fun _ w => getBit w.value 0 = false ∧ getBit w.value 1 = false) (fun _ t => t.ctxReset c x)) ∧
   (∀ c, StartsBy (fun w => .coreReset w c) .SC_CORE_CTL_RESET 1 c 0 always (fun _ t => t.coreReset c)) ∧
   (∀ c x, StartsBy (fun w => .hostKick w c x) .SC_CTX_KICK_HOST 1 c x always (fun _ t => t.raiseIrq c x 1)) ∧
   (∀ c, StartsBy (fun w => .cfgErrClear w c) .SC_CFG_ERR_VALID 1 c 0 always (fun _ t => t.setReg .SC_CFG_ERR c 0 0)) ∧
   (∀ c, StartsBy (fun w => .scCounterClear w c) .SC_CNT_CLR_CLEAR 1 c 0 always (fun _ t => t.scClearCounters c))) ∧
  ((∀ q, StartsBy (fun w => .queueEnable w q) .HQ_Q_CFG_ENABLE 1 q 0 (fun s _ => s.flag .HQ_Q_CFG_ENABLE q 0 = false)
     (fun _ t => t.queueEnable q)) ∧
   (∀ poison, StartsOn (fun w => .hqPost w none poison) id .HQ_POST_HQ 0 0 always (fun w t => t.hqPost w.acc w.value poison)) ∧
   (∀ c poison, StartsOn (fun w => .hqPost w (some c) poison) id .HQ_POST c 0 always
     (fun w t => t.hqPost w.acc w.value poison)) ∧
   (∀ v o, StartsBy (fun w => .operatorEnable w v o) .HQ_OP_EN 1 v o (fun s _ => s.flag .HQ_OP_EN v o = false)
     (fun _ t => t.operatorEnable v o)) ∧
   (∀ q, StartsBy (fun w => .queueCancel w q) .HQ_Q_CTL_CANCEL 1 q 0 always (fun _ t => t.queueCancel q)) ∧
   StartsBy Instr.viReset .HQ_VI_RESET_GO 1 0 0 (fun s _ => s.flag .HQ_VI_RESET_GO 0 0 = false) (fun _ t => t.viResetGo) ∧
   StartsOn Instr.hdFound (fun w => wrSet (wrSet w .HD_CTL_ACTION 1) .HD_CTL_GO 1) .HD_CTL 0 0
     (fun s _ => s.flag .HD_CTL_GO 0 0 = false) (fun w t => t.hdGo w.acc) ∧
   StartsOn Instr.hdSwap (fun w => wrSet (wrSet w .HD_CTL_ACTION 2) .HD_CTL_GO 1) .HD_CTL 0 0
     (fun s _ => s.flag .HD_CTL_GO 0 0 = false) (fun w t => t.hdGo w.acc) ∧
   StartsOn Instr.hdLeave (fun w => wrSet (wrSet w .HD_CTL_ACTION 3) .HD_CTL_GO 1) .HD_CTL 0 0
     (fun s _ => s.flag .HD_CTL_GO 0 0 = false) (fun w t => t.hdGo w.acc) ∧
   StartsOn Instr.hdExpel (fun w => wrSet (wrSet w .HD_CTL_ACTION 4) .HD_CTL_GO 1) .HD_CTL 0 0
     (fun s _ => s.flag .HD_CTL_GO 0 0 = false) (fun w t => t.hdGo w.acc) ∧
   StartsBy Instr.pmStart .PM_CTL_START 1 0 0 always (fun _ t => t.pmStart))

/-- R558, R562, R564, R567, R569, R570, R585 to R587, R590 to R592: register writes of the service block: life cycle, Nest,
audit log, firmware, spare clusters and retirement. -/
def Obligations.ServiceWrites : Prop :=
  StartsBy Instr.lfReq .LF_REQ_GO 1 0 0 always (fun w t => t.lfGo w.acc) ∧
  StartsOn (fun w => .nestRead w false) (fun w => wrSet (wrSet w .NS_CMD_OP 0) .NS_CMD_GO 1) .NS_CMD 0 0 always
    (fun w t => t.nestGo w.acc) ∧
  StartsOn Instr.nestWrite (fun w => wrSet (wrSet w .NS_CMD_OP 1) .NS_CMD_GO 1) .NS_CMD 0 0 always
    (fun w t => t.nestGo w.acc) ∧
  StartsOn Instr.nestEmptySlot (fun w => wrSet (wrSet w .NS_CMD_OP 2) .NS_CMD_GO 1) .NS_CMD 0 0 always
    (fun w t => t.nestGo w.acc) ∧
  StartsOn Instr.nestWipe (fun w => wrSet (wrSet w .NS_CMD_OP 3) .NS_CMD_GO 1) .NS_CMD 0 0 always
    (fun w t => t.nestGo w.acc) ∧
  StartsOn Instr.auditAck id .AU_ACK 0 0 (fun _ w => w.acc.origin = .vi 0)
    (fun w t => if t.role = 3 then t.auditAck w.value.toNat else t) ∧
  StartsOn Instr.auditRead id .AU_RD_SEQ 0 0 always (fun _ t => t.auditFetch) ∧
  StartsBy Instr.fwLoad .SV_FW_LEN_GO 1 0 0 always (fun _ t => t.fwLoadGo) ∧
  (∀ d, StartsOn (fun w => .sparePrepare w d) (fun w => wrSet (wrSet w .SV_SPARE_CMD_ACTION 1) .SV_SPARE_CMD_GO 1)
    .SV_SPARE_CMD d 0 always (fun _ t => t.spareGo d)) ∧
  (∀ d, StartsOn (fun w => .spareMigrate w d) (fun w => wrSet (wrSet w .SV_SPARE_CMD_ACTION 2) .SV_SPARE_CMD_GO 1)
    .SV_SPARE_CMD d 0 always (fun _ t => t.spareGo d)) ∧
  (∀ d, StartsOn (fun w => .spareFresh w d) (fun w => wrSet (wrSet w .SV_SPARE_CMD_ACTION 3) .SV_SPARE_CMD_GO 1)
    .SV_SPARE_CMD d 0 always (fun _ t => t.spareGo d)) ∧
  (∀ d, StartsOn (fun w => .spareCancel w d) (fun w => wrSet (wrSet w .SV_SPARE_CMD_ACTION 4) .SV_SPARE_CMD_GO 1)
    .SV_SPARE_CMD d 0 always (fun _ t => t.spareGo d)) ∧
  StartsOn Instr.stackRetire
    (fun w => wrSet (wrSet (wrSet w .SV_RETIRE_KIND 0) .SV_RETIRE_ACTION 1) .SV_RETIRE_GO 1) .SV_RETIRE 0 0 always
    (fun _ t => t.retireGo true) ∧
  StartsOn Instr.sliceRetire
    (fun w => wrSet (wrSet (wrSet w .SV_RETIRE_KIND 1) .SV_RETIRE_ACTION 1) .SV_RETIRE_GO 1) .SV_RETIRE 0 0 always
    (fun _ t => t.retireGo true) ∧
  (∀ ok, StartsOn (fun w => .stackReinstate w ok)
    (fun w => wrSet (wrSet (wrSet w .SV_RETIRE_KIND 0) .SV_RETIRE_ACTION 2) .SV_RETIRE_GO 1) .SV_RETIRE 0 0 always
    (fun _ t => t.retireGo ok)) ∧
  (∀ ok, StartsOn (fun w => .sliceReinstate w ok)
    (fun w => wrSet (wrSet (wrSet w .SV_RETIRE_KIND 1) .SV_RETIRE_ACTION 2) .SV_RETIRE_GO 1) .SV_RETIRE 0 0 always
    (fun _ t => t.retireGo ok))

/-! ## Any register -/

/-- R10, R14: what a write leaves in every bit of every register, and what a read returns of it: RW takes the bit written, W1C is
cleared by a 1, RW1S is set by a 1, RO and WO keep what they hold, and WO reads 0; a reserved bit keeps its value, reads 0, and
what is written to it has no effect at all. -/
def Obligations.RegisterFieldTypes : Prop :=
  (∀ (id : RegId) (v old : W64) (k : Nat), k < 64 →
    (∀ f ∈ id.info.fields, f.lo ≤ k → k < f.lo + f.w →
      getBit (writtenValue id v old) k = (match f.ty with
        | .rw => getBit v k
        | .w1c => getBit old k && !(getBit v k)
        | .rw1s => getBit old k || getBit v k
        | .wo => getBit old k
        | .ro => getBit old k) ∧
      getBit (readable id old) k = (if f.ty = .wo then false else getBit old k)) ∧
    ((∀ f ∈ id.info.fields, ¬(f.lo ≤ k ∧ k < f.lo + f.w)) →
      getBit (writtenValue id v old) k = getBit old k ∧ getBit (readable id old) k = false)) ∧
  (∀ (s : State) (w : Wr) (v : W64) (id : RegId) (i j off : Nat),
    (∀ f ∈ id.info.fields, ∀ k, f.lo ≤ k → k < f.lo + f.w → getBit v k = getBit w.value k) →
    s.storeWrite { w with value := v } id i j off = s.storeWrite w id i j off)

/-- R11, R12, R14, R15, R22, R341, R573, R577: a LOCKED field whose block is busy keeps its value; a write of a register at its own offset and width is that register's write; reads
answer the host function, and the BMC by MCTP while the service firmware runs; the boundary of a SHADOW register that waits passes,
and puts its value in force, while what it governs is idle (the model's choice, log entry 16), but for TR_REQ and PL_PT_ROOT, whose boundaries
are FEED_WINDOW and PL_TLB_INV (R265, R179). -/
def Obligations.RegisterAccess : Prop :=
  ∀ (s : State),
    (∀ (w : Wr) (off o : Nat) (r : RegRef), s.pathOpen w.acc = true → s.pathOffset w.acc off = some o → alignOff w.wide o = o →
      s.blockKind o = 0 → steerWinAt o = none → regAt o = some r → (r.id.info.width = 64 ↔ w.wide = true) →
      exec (.registerWrite w off false) s = .next (s.regWrite w r.id (ownIx w.acc r.id r.i) r.j o).2) ∧
    (∀ (a : Acc) (wide : Bool) (off o v : Nat), s.pathOpen a = true → a.origin = .vi v → s.pathOffset a off = some o →
      exec (.registerRead a wide off) s = .next ((s.busRead a wide o).2.2.emit (.cpl a.port (s.busRead a wide o).2.1))) ∧
    (∀ (off : Nat) (wide : Bool), s.power.svcOn = true → s.fwDown = false → (s.busRead (accBmc s) wide off).1 = 0 →
      exec (.readReg off wide) s = .next ((s.busRead (accBmc s) wide off).2.2.emit
        (.mctp 0 ((s.busRead (accBmc s) wide off).2.1.flatMap (fun (p : PW) => bytesOf 4 p.data.toNat))))) ∧
    (∀ (off : Nat) (wide : Bool) (v : W64), s.power.svcOn = true → s.fwDown = false →
      (s.busWrite ⟨accBmc s, wide, v⟩ off).1 = 0 →
      exec (.writeReg off wide v) s = .next ((s.busWrite ⟨accBmc s, wide, v⟩ off).2.emit (.mctp 0 []))) ∧
    (∀ (a : Acc) (core off : Nat) (v : W32), s.pathOpen a = true → a.origin = .vi 0 → core < 22 → off < 0x80000 →
      s.blockKind (steerWinOff core off) = 0 →
      exec (.steerWindowAccess a core off true v) s = .next (s.steerStore core (off / 4) ⟨v, false⟩) ∧
      exec (.steerWindowAccess a core off false v) s = .next ((s.steerWord core (off / 4)).2.emit
        (.cpl a.port [(s.steerWord core (off / 4)).1]))) ∧
    (∀ (a : Acc) (k v : Nat), s.pathOpen a = true → a.origin = .vi v → k < 4 →
      s.pathOffset a (0x301040 + 8 * k) = some (0x301040 + 8 * k) →
      exec (.lfChallengeRead a k) s = .next ((s.busRead a true (0x301040 + 8 * k)).2.2.emit
        (.cpl a.port (s.busRead a true (0x301040 + 8 * k)).2.1))) ∧
    (∀ (off : Nat) (r : RegRef), regAt off = some r → s.isPending r.id r.i r.j = true →
      ((r.id = .FT_PORT_ASYM ∧ (s.portTime r.i).t3 = none) ∨ (r.id = .TMX_HOT_CFG ∧ s.inForce .TMX_HOT_CFG_EN r.i 0 = 0) ∨
       (r.id = .MU_HOLD ∧ ∀ pc, pc < 64 → s.chMode r.i pc = 0) ∨ (r.id = .GT_CFG ∧ s.engQueue r.i 2 = []) ∨
       r.id = .SC_CORE_CFG ∨ (r.id = .SC_CORE_QUANTUM ∧ s.coreRuns r.i = false) ∨ (r.id = .HQ_VI_CFG ∧ s.hq.staged = []) ∨
       (r.id = .TH_CFG ∧ s.flag .PM_STATUS_RUNNING 0 0 = false)) →
      exec (.shadowApply off) s = .next (s.applyShadow r.id r.i r.j)) ∧
    (∀ (off : Nat) (r : RegRef), regAt off = some r → r.id = .TR_REQ ∨ r.id = .PL_PT_ROOT →
      exec (.shadowApply off) s = .next s) ∧
    (∀ (w : Wr) (id : RegId) (i j off k : Nat) (f : FieldInfo), f ∈ id.info.fields → f.ap = .locked → f.ty = .rw →
      s.lockBusy id i j f.lo w.value = true → f.lo ≤ k → k < f.lo + f.w → k < 64 →
      getBit ((s.storeWrite w id i j off).reg id i j) k = getBit (s.reg id i j) k)

/-! ## Frames -/

/-- R476 to R479, R481, R112, R118: requests of other members are answered, with words, an acknowledgement or a refusal; a LOCK_REQ is
served in its turn; replies complete the transaction they answer; and a transaction that no reply answered in time completes
UNREACHABLE. -/
def Obligations.HerdTransactions : Prop :=
  (∀ (s t u : State) (p err : Nat) (f : Frame) (ws : List PW), s.serves t p f →
     (t.frameAccess p f f.len true false = (.done ws, u) → exec (.write p f) s = .next (u.reply f 0x05 0 0 ws)) ∧
     (t.frameAccess p f 1 true true = (.done ws, u) → exec (.post p f) s = .next (u.reply f 0x05 0 0 ws)) ∧
     (t.frameAccess p f f.arg false false = (.done ws, u) → 1 ≤ f.arg → f.arg ≤ 4096 →
       exec (.readReq p f) s = .next (u.reply f 0x04 0 f.arg ws)) ∧
     (∀ fam code,
       (t.frameAccess p f f.len true false = (.refused fam code, u) → exec (.write p f) s = .next (u.replyRefuse f fam code)) ∧
       (t.frameAccess p f 1 true true = (.refused fam code, u) → exec (.post p f) s = .next (u.replyRefuse f fam code)) ∧
       (t.frameAccess p f f.arg false false = (.refused fam code, u) → 1 ≤ f.arg → f.arg ≤ 4096 →
         exec (.readReq p f) s = .next (u.replyRefuse f fam code))) ∧
     (∀ (q : LockReq) (r : LockResult),
       q = ⟨nfield f.addr 0 13, 20, ⟨f.src, nfield f.addr 16 6, nfield f.addr 22 5, nfield f.addr 27 4⟩, nbit f.addr 15, err, none⟩ →
       State.lockUntil (t.tm.lockQ.length + 1) (t.withTm { t.tm with lockQ := t.tm.lockQ ++ [q] }) q = (r, u) →
       exec (.lockReq p f err) s = .next (u.reply f 0x08 r.code 0 []))) ∧
  (∀ (s t : State) (p : Nat) (f : Frame) (x : Txn),
     (s.serves t p f → t.txnOf f = some x →
       (∀ (e c q off : Nat), x.owner = .stream e c q off →
         exec (.readResp p f) s = .next (((t.txnEnd x).setEntry e c q
           (fun (n : StEntry) => { n with words := n.words ++ numbered (n.blk.wordIx off) (respWords p f.len f) })).stIssue e c)) ∧
       (∀ (e c part : Nat), x.owner = .entry e c part →
         exec (.readResp p f) s = .next ((t.txnEnd x).setStCtx e c { (t.txnEnd x).stCtx e c with
           fetched := ((t.txnEnd x).stCtx e c).fetched ++ [(part, respWords p 32 f)] })) ∧
       exec (.writeAck p f) s = .next (t.txnEnd x) ∧
       exec (.refuse p f) s = .next (t.txnRefused x (nfield f.arg 12 4) (nfield f.arg 0 8)) ∧
       (∀ (core c rd v : Nat), x.owner = .core core c rd v →
         exec (.lockResp p f) s = .next ((t.txnEnd x).withSc { (t.txnEnd x).sc with
           answers := (t.txnEnd x).sc.answers.map (fun (a : SlAnswer) =>
             if a.core = core ∧ a.ctx = c ∧ a.rd = rd ∧ a.ready = false then { a with code := f.arg % 256, ready := true }
             else a) }))) ∧
     (s.herd.txns.find? (fun (y : Txn) => y.tag == f.tag && decide (y.deadline ≤ s.now)) = some x →
       exec (.transactionTimeout f.tag) s = .next (s.txnRefused x 4 1)))

/-- R113, R482, R484, R485, R487, R488, R498, R595: heartbeats, their answers, lost members, released locks, the joining of members, and what
software asks with HD_CTL. -/
def Obligations.Membership : Prop :=
  ∀ (s t : State) (p : Nat) (f : Frame),
    (s.serves t p f → t.role = 3 → f.addr % 2 ^ 32 = t.epoch →
      exec (.beatAck p f) s = .next (t.withHerd { t.herd with
        missed := sset (fun _ => 0) t.herd.missed f.src (min ((t.herd.beats.findIdx? (fun q => q == f.tag)).getD 20)
          (sget (fun _ => 0) t.herd.missed f.src)) })) ∧
    (∀ member, s.serves t p { f with bcast := true } →
      exec (.heartbeat p f member) s = .next (t.bcastIn p { f with bcast := true } (f.addr % 2 ^ 32) (fun u =>
        if u.beatWins f.src (f.addr % 2 ^ 32) then u.followBeat f member else u))) ∧
    (s.serves t p { f with bcast := true } →
      exec (.lost p f) s = .next (t.bcastIn p { f with bcast := true } t.epoch (fun u =>
        if f.arg % 4096 = u.herdId then u.becomeAlone (accShepherd f.src) else u.dropMember (f.arg % 4096)))) ∧
    (s.serves t p { f with bcast := true } →
      exec (.release p f) s = .next (t.bcastIn p { f with bcast := true } t.epoch
        (fun u => u.releaseMember (f.arg % 4096)))) ∧
    (s.serves t p { f with src := s.herdId } → f.linkLocal = true → t.role = 3 →
      exec (.join p f) s = .next (t.judgeJoin t.herdId p (f.addr % 2 ^ 64))) ∧
    (∀ dims bcast, s.role = 0 → s.portUp p = true →
      exec (.assign p f dims bcast) s = .next ((s.portCount p 4).joinHerd f dims bcast)) ∧
    (s.serves t p f → exec (.expel p f) s = .next (t.becomeAlone (accShepherd f.src))) ∧
    (s.serves t p f → t.role = 2 →
      exec (.mirror p f) s = .next (((((t.setReg .HD_TABLE (f.arg % 4096) 0 (BitVec.ofNat 64 f.addr)).setFld
        .HD_TABLE_ENTRY_HERD (f.arg % 4096) 0 (f.arg % 4096)).setFld .HD_TABLE_ENTRY_STATE (f.arg % 4096) 0
        (nfield f.arg 12 2)).setFld .HD_TABLE_ENTRY_ELIGIBLE (f.arg % 4096) 0 (nfield f.arg 14 1)).setFld
        .HD_TABLE_ENTRY_EPOCH (f.arg % 4096) 0 (f.tag % 2 ^ 32))) ∧
    (∀ w off u, s.accepts (wrSet (wrSet w .HD_CTL_ACTION 1) .HD_CTL_GO 1) .HD_CTL 0 0 off → s.flag .HD_CTL_GO 0 0 = false →
      u = (s.stored (wrSet (wrSet w .HD_CTL_ACTION 1) .HD_CTL_GO 1) .HD_CTL 0 0 off).setFlag .HD_CTL_GO 0 0 true → u.fld .HD_CTL_ACTION 0 0 = 1 →
      (u.role ≠ 0 → exec (.hdFound w) s = .next (u.hdResult 3)) ∧
      (u.role = 0 → u.regs.any (fun e => keyId e.1 == RegId.HD_TABLE.ctorIdx && e.2 != 0) = true →
        ∃ v : State, v = (((u.setFld .HD_STATUS_HERD_ID 0 0 (u.fld .HD_CFG_COORD 0 0)).setFld .HD_STATUS_SHEPHERD 0 0
            (u.fld .HD_CFG_COORD 0 0)).setFld .HD_STATUS_EPOCH 0 0 (u.herd.lastEpoch + 1)).setStandby 0xFFF ∧
          exec (.hdFound w) s = .next ((((v.withHerd { v.herd with
            lastEpoch := v.epoch, lastBeat := v.now, lost := [], seen := [], missed := [], beats := [] }).setRole w.acc 3).setEntryState
              (u.fld .HD_CFG_COORD 0 0) 1).hdResult 0))) ∧
    (∀ w off u, s.accepts (wrSet (wrSet w .HD_CTL_ACTION 2) .HD_CTL_GO 1) .HD_CTL 0 0 off → s.flag .HD_CTL_GO 0 0 = false →
      u = (s.stored (wrSet (wrSet w .HD_CTL_ACTION 2) .HD_CTL_GO 1) .HD_CTL 0 0 off).setFlag .HD_CTL_GO 0 0 true → u.fld .HD_CTL_ACTION 0 0 = 2 →
      (u.role = 3 → u.herd.standby = 0xFFF → exec (.hdSwap w) s = .next (u.hdResult 2)) ∧
      (u.role = 3 → u.herd.standby ≠ 0xFFF → exec (.hdSwap w) s = .next (u.handOver 0 0)) ∧
      (u.role ≠ 3 → u.role ≠ 2 → exec (.hdSwap w) s = .next (u.hdResult 3))) ∧
    (∀ w off u, s.accepts (wrSet (wrSet w .HD_CTL_ACTION 3) .HD_CTL_GO 1) .HD_CTL 0 0 off → s.flag .HD_CTL_GO 0 0 = false →
      u = (s.stored (wrSet (wrSet w .HD_CTL_ACTION 3) .HD_CTL_GO 1) .HD_CTL 0 0 off).setFlag .HD_CTL_GO 0 0 true → u.fld .HD_CTL_ACTION 0 0 = 3 →
      (u.role = 0 → exec (.hdLeave w) s = .next (u.hdResult 3)) ∧
      (u.role ≠ 0 → exec (.hdLeave w) s = .next ((u.becomeAlone w.acc).hdResult 0))) ∧
    (∀ w off u, s.accepts (wrSet (wrSet w .HD_CTL_ACTION 4) .HD_CTL_GO 1) .HD_CTL 0 0 off → s.flag .HD_CTL_GO 0 0 = false →
      u = (s.stored (wrSet (wrSet w .HD_CTL_ACTION 4) .HD_CTL_GO 1) .HD_CTL 0 0 off).setFlag .HD_CTL_GO 0 0 true → u.fld .HD_CTL_ACTION 0 0 = 4 →
      (u.role = 3 → u.fld .HD_CTL_TARGET 0 0 ≠ u.herdId → exec (.hdExpel w) s =
        .next (((u.sendOrDrop (u.ctlFrame 0x27 (u.fld .HD_CTL_TARGET 0 0) 0 0 0)).expelMember (u.fld .HD_CTL_TARGET 0 0) 0).hdResult
          0)) ∧
      (u.role ≠ 3 → exec (.hdExpel w) s = .next (u.hdResult 3)))

/-- R486, R487, R482, R484, R485, R499: what the herd controller does by itself: heartbeats and JOIN frames are sent, a member
that missed 20 beats is expelled, silence is noticed, and a standby takes over. -/
def Obligations.HerdTimers : Prop :=
  ∀ (s : State) (h : Nat),
    (s.role = 3 → s.entryState h = 1 → 20 ≤ sget (fun _ => 0) s.herd.missed h →
      exec (.memberLost h) s = .next (s.expelMember h 2)) ∧
    (s.role = 3 → s.now % 100000 = 0 → s.herd.beats = [] ∨ s.herd.lastBeat ≠ s.now →
      exec .heartbeatSend s = .next s.assignStandby.sendBeat) ∧
    (s.role = 0 → s.herd.nextJoin ≤ s.now → exec .joinSend s = .next ((s.withHerd { s.herd with nextJoin := s.now + 1000000 }).each ((List.range 16).filter s.torusUp) (fun p t =>
      t.offerFrame p { t.ctlFrame 0x1A 0 (t.reg .HD_SELF 0 0).toNat 0 0 with linkLocal := true }))) ∧
    ((s.role = 1 ∨ s.role = 2) → s.silent = true →
      exec .herdSilent s = .next (s.setFlag .HD_STATUS_SILENT 0 0 true)) ∧
    (s.role = 2 → s.silent = true → exec .takeover s = .next s.takeOver) ∧
    (∀ w : StrokeWait, s.herd.strokeWaits.find? (fun (w : StrokeWait) => w.member == h && decide (w.deadline ≤ s.now)) = some w →
      exec (.strokeResultTimeout h) s = .next ((s.withHerd { s.herd with strokeWaits := s.herd.strokeWaits.erase w }).setFld
        .HD_STROKE_MISSING 0 0 (s.fld .HD_STROKE_MISSING 0 0 + 1)))

/-- R114, R475, R480, R487, R489, R493, R556, R567: the frames of a role swap, those of the shepherd, and MSG: into the ring
of the context it names, or, from the shepherd to the service firmware, acknowledging audit entries or writing a register. -/
def Obligations.SwapShepherdAndMessageFrames : Prop :=
  (∀ (s t : State) (p : Nat) (f : Frame), s.serves t p f →
     (t.role = 3 → t.herd.swap ≠ .handoverSent → t.herd.standby = f.src →
       exec (.swapReq p f) s = .next (t.handOver f.tag (f.src + 1))) ∧
     (t.role = 2 → t.herd.swap ≠ .requested ∨ t.herd.swapBy = f.tag → exec (.handover p f) s = .next (t.takeHerd f)) ∧
     (t.role = 2 → t.herd.swap = .requested → t.herd.swapBy ≠ f.tag →
       exec (.handover p f) s = .next ((t.takeHerd f).hdResult 1)) ∧
     (t.role = 3 → t.herd.swap = .handoverSent → t.herd.swapBy = 0 →
       exec (.taken p f) s = .next ((t.cedeHerd f).hdResult 0)) ∧
     (t.role = 3 → t.herd.swap = .handoverSent → t.herd.swapBy ≠ 0 →
       exec (.taken p f) s = .next ((t.cedeHerd f).sendOrDrop
         ((t.cedeHerd f).ctlFrame 0x1F (t.herd.swapBy - 1) 0 f.tag 0))) ∧
     exec (.swapResult p f) s = .next (t.hdResult (f.arg % 256)) ∧
     exec (.force p f) s = .next (t.forceLock (accShepherd f.src) (f.addr % 8192)) ∧
     exec (.stroke p f) s = .next ((t.commitStroke (accShepherd f.src) (strokeOf f)).2.2.sendOrDrop
       ((t.commitStroke (accShepherd f.src) (strokeOf f)).2.2.ctlFrame 0x24 f.src 0 f.tag
         ((t.commitStroke (accShepherd f.src) (strokeOf f)).1 + 256 * (t.commitStroke (accShepherd f.src) (strokeOf f)).2.1))) ∧
     (∀ w : StrokeWait, t.herd.strokeWaits.find? (fun (w : StrokeWait) => w.member == f.src && w.tag == f.tag) = some w →
       f.arg % 16 = 0 →
       exec (.strokeResult p f) s = .next ((t.withHerd { t.herd with strokeWaits := t.herd.strokeWaits.erase w }).setFld
         .HD_STROKE_OK 0 0 (t.fld .HD_STROKE_OK 0 0 + 1))) ∧
     (nfield f.addr 12 2 = 1 →
       exec (.route p f) s = .next ((t.setReg .HL_ROUTE (f.addr % 4096) 0 (routeEntry (nfield f.addr 24 13))).auditLog .change
         (accShepherd f.src) 0 (regObject (0x804000 + 4 * (f.addr % 4096)) false) (t.reg .HL_ROUTE (f.addr % 4096) 0)
         (routeEntry (nfield f.addr 24 13)) 0))) ∧
  (∀ (s t : State) (p : Nat) (f : Frame), s.serves t p f →
     (toService f = false → exec (.msg p f) s = .next (t.msgIn f)) ∧
     (serviceKind f = some 3 → f.src = t.shepherdId → f.payload.any (fun (w : PW) => w.poison) = false →
       exec (.auditAckMsg p f) s = .next (t.auditAck (msgWord f 2 + msgWord f 3 * 2 ^ 32))) ∧
     (serviceKind f = some 5 → f.src = t.shepherdId → f.payload.any (fun (w : PW) => w.poison) = false →
       exec (.registerWriteMsg p f) s = .next (t.busWrite ⟨accShepherd f.src, nbit (msgWord f 3) 0,
         BitVec.ofNat 64 (msgWord f 4 + msgWord f 5 * 2 ^ 32)⟩ (msgWord f 2)).2))

/-- R465, R466, R469 to R472, R474, R475: ports: credits return, frames for other members go on, bad frames are counted, ports
go down, degrade, train (UP on four lanes, DEGRADED on three) and are replaced, and cells are replayed. -/
def Obligations.Ports : Prop :=
  (∀ (s : State) (p : Nat), s.portUp p = true →
     (∀ vc sub header n, exec (.credit p vc sub header n) s = .next ((s.setCredits p vc sub header
       (min (if header then 64 else 512) (s.credits p vc sub header + n))).portRun p)) ∧
     (∀ f : Frame, badFrame f = false → f.dest ≠ s.herdId → s.role ≠ 0 → s.herd.lost.contains f.src = false → f.bcast = false →
       f.linkLocal = false → exec (.frameRoute p f) s = .next ((s.portCount p 4).forward p f)) ∧
     exec (.badFrame p) s = .next (s.portCount p 5) ∧
     exec (.portDown p) s = .next ((s.setFld .HL_PORT_STATUS_LANES p 0 0).portDown p 0) ∧
     (∀ l, nbit (s.fld .HL_PORT_STATUS_LANES p 0) l = true →
       exec (.laneLoss p l) s = .next (((s.setFld .HL_PORT_STATUS_LANES p 0 (s.fld .HL_PORT_STATUS_LANES p 0 - 2 ^ l)).setFlag
         .HL_EVENT_LANE_LOST 0 0 true).portDown p (if s.fld .HL_PORT_STATUS_STATE p 0 = 2 then 1 else 0))) ∧
     (s.fld .HL_PORT_CFG_DIR p 0 = 6 →
       (s.portsOf (s.fld .HL_PORT_CFG_BACKS p 0)).filter (fun q => q / 8 == p / 8 && q != p) ≠ [] →
       (∀ q ∈ (s.portsOf (s.fld .HL_PORT_CFG_BACKS p 0)).filter (fun q => q / 8 == p / 8 && q != p), s.portUp q = false) →
       exec (.sparePortTakeover p) s = .next ((s.setFld .HL_PORT_CFG_DIR p 0 (s.fld .HL_PORT_CFG_BACKS p 0)).setFlag
         .HL_EVENT_SPARE_TAKEN 0 0 true)) ∧
     (∀ cell, exec (.linkReplay p false cell) s = .next (s.setLink p { s.link p with acked := cell % 32768 })) ∧
     (∀ cell, exec (.uncorrectableCodeword p cell true) s = .next (((s.portCount p 1).setLink p
       { (s.portCount p 1).link p with rxCell := cell % 32768 }).emit (.link p true (cell % 32768))))) ∧
  (∀ (s : State) (p lanes neighbour nport : Nat), s.power.rails = true → s.portUp p = false → p < 8 * s.ioDies →
     s.fld .HL_PORT_CFG_DIR p 0 ≠ 7 → 3 ≤ laneCount lanes →
     ∃ t : State, exec (.portTrained p lanes neighbour nport) s = .next t ∧
       t.fld .HL_PORT_STATUS_STATE p 0 = (if laneCount lanes = 4 then 2 else 3) ∧
       t.fld .HL_PORT_STATUS_LANES p 0 = lanes % 16 ∧ t.fld .HL_PORT_STATUS_NEIGHBOUR p 0 = neighbour % 4096 ∧
       t.tm = s.tm ∧ t.hbm = s.hbm ∧ t.sc = s.sc)

/-! ## Fleet time and strokes -/

/-- R24, R26 to R33, R57: what the commands of fleet time do on the conditions the rules give: a time message starts the second
exchange of its port (the moment t3 within the cycle is a free value, log entry 144), and is followed where its port is the one R57 names; and
an exchange of delays on a port: the average takes in the new delay, and one that moved by more than 50 ns drops the port until 16 stable
exchanges have been made. -/
def Obligations.FleetTimeCommands : Prop :=
  (∀ s : State,
     (∀ l2 dom t1 frac utc d, s.fld .FT_SRC_MODE 0 0 = 1 → s.flag .FT_SRC_PTP_L2 0 0 = l2 →
       s.fld .FT_SRC_PTP_DOMAIN 0 0 = dom → s.ft.ptpDelay = some d →
       exec (.ptpSync l2 dom t1 frac utc) s = .next (((s.setFld .FT_UTC_OFFSET_OFFSET 0 0 utc).withFt { s.ft with
         filt := Config.ptpFilter s.ft.filt ((4 * s.now + frac : Int) - t1 - d) }).refSample 1 (t1 + d)
         ((4 * s.now + frac : Int) - t1 - d) (Config.ptpFilter s.ft.filt ((4 * s.now + frac : Int) - t1 - d)) 1000 8)) ∧
     (∀ t1 t2 t3 t4, s.fld .FT_SRC_MODE 0 0 = 1 →
       exec (.ptpDelayResp t1 t2 t3 t4) s = .next (s.withFt { s.ft with
         ptpDelay := some ((((t2 : Int) - t1) + ((t4 : Int) - t3)) / 2) })) ∧
     (∀ l2 dom t1 frac utc, s.fld .FT_SRC_MODE 0 0 = 1 → s.flag .FT_SRC_PTP_L2 0 0 = l2 →
       s.fld .FT_SRC_PTP_DOMAIN 0 0 = dom → s.ft.ptpDelay = none →
       exec (.ptpSync l2 dom t1 frac utc) s = .next ((s.setFld .FT_UTC_OFFSET_OFFSET 0 0 utc).withFt
         { s.ft with lastRef := (s.setFld .FT_UTC_OFFSET_OFFSET 0 0 utc).now })) ∧
     (∀ frac : Nat, s.fld .FT_SRC_MODE 0 0 = 2 → s.ft.ppsSec < s.fld .FT_PPS_SEC_SEC 0 0 →
       (s.ft.stepped = false ∨ -4000 ≤ (4 * s.now + frac : Int) - 4000000000 * s.fld .FT_PPS_SEC_SEC 0 0 ∧
         (4 * s.now + frac : Int) - 4000000000 * s.fld .FT_PPS_SEC_SEC 0 0 ≤ 4000) →
       exec (.ppsPulse frac) s = .next ((s.withFt { s.ft with ppsSec := s.fld .FT_PPS_SEC_SEC 0 0 }).refSample 2
         (4000000000 * s.fld .FT_PPS_SEC_SEC 0 0)
         ((4 * s.now + frac : Int) - 4000000000 * s.fld .FT_PPS_SEC_SEC 0 0)
         ((4 * s.now + frac : Int) - 4000000000 * s.fld .FT_PPS_SEC_SEC 0 0) 80 8)) ∧
     (s.now % 1000000000 = 0 → s.ft.ppsOutSec < s.now / 1000000000 →
       exec .ppsOutPulse s = .next ((s.emit (.ppsOut (s.now / 1000000000))).withFt { s.ft with
         ppsOutSec := s.now / 1000000000 })) ∧
     (∀ p addr tag arg frac, exec (.time p addr tag arg false frac) s = .next s) ∧
     (∀ p addr tag arg frac, s.fld .FT_SRC_MODE 0 0 ≠ 3 ∨ s.timePort (arg % 4096) ≠ some p ∨ (s.portTime p).exch = [] →
       exec (.time p addr tag arg true frac) s = .next ((s.setPortTime p { s.portTime p with
         t1 := 4 * addr + tag % 4
         t2 := 4 * s.now + frac }).sendDelayReq p)) ∧
     (∀ (p addr tag arg frac : Nat) (t : State), s.fld .FT_SRC_MODE 0 0 = 3 → (s.portTime p).exch ≠ [] →
       s.timePort (arg % 4096) = some p →
       t = (s.setPortTime p { s.portTime p with t1 := 4 * addr + tag % 4, t2 := 4 * s.now + frac }).sendDelayReq p →
       exec (.time p addr tag arg true frac) s = .next (((t.setFld .FT_STATUS_MASTER 0 0 arg).withFt { t.ft with
         herdAge := nfield tag 8 24
         herdOff := some (4 * s.now + frac - (4 * addr + tag % 4) - (s.portTime p).delay) }).refSample 3 (4 * addr + tag % 4 + (s.portTime p).delay)
         (4 * s.now + frac - (4 * addr + tag % 4) - (s.portTime p).delay)
         (4 * s.now + frac - (4 * addr + tag % 4) - (s.portTime p).delay) 80 16)) ∧
     (∀ t, s.timeToSend = some t →
       exec .timeSend s = .next (s.each ((List.range 16).filter (fun p => s.portUp p && decide (s.fld .HL_PORT_CFG_DIR p 0 < 6)))
         (fun p u => u.offerFrame p { s.ctlFrame 0x10 0 (t / 4) (t % 4 + 256 * s.ageToSend)
           (if s.role = 3 then s.herdId else s.fld .FT_STATUS_MASTER 0 0) with linkLocal := true }))) ∧
     (∀ p frac, exec (.delayReq p frac) s = .next (s.offerFrame p
       { s.ctlFrame 0x12 0 ((4 * s.now + frac) / 4) ((4 * s.now + frac) % 4) 0 with linkLocal := true })) ∧
     (∀ mode limit, (mode, limit) ∈ [(0, 0), (1, 3000000000), (2, 2000001000), (3, 50000)] → s.fld .FT_STATUS_STATE 0 0 = 1 →
       s.fld .FT_SRC_MODE 0 0 = mode → limit ≤ s.now - s.ft.lastRef → exec .holdoverEnter s = .next s.enterHoldover)) ∧
  (∀ (s : State) (p addr tag : Nat) (t3 : Int), (s.portTime p).t3 = some t3 → ∃ t : State, exec (.delayResp p addr tag) s = .next t ∧
     (t.portTime p).t3 = none ∧
     (∀ d : Int, d = (((4 * addr + tag % 4 : Nat) - ((s.applyShadow .FT_PORT_ASYM p 0).portTime p).t1) -
         ((t3 : Int) - ((s.applyShadow .FT_PORT_ASYM p 0).portTime p).t2)) / 2 +
         sextNat 16 ((s.applyShadow .FT_PORT_ASYM p 0).inForce .FT_PORT_ASYM_ASYM p 0) →
       (t.portTime p).exch = (d :: (s.portTime p).exch).take 16 ∧
       (∀ e l, (s.portTime p).exch = e :: l → (d - e > 200 ∨ e - d > 200) →
         (t.portTime p).dropped = true ∧ (t.portTime p).stable = 0) ∧
       (∀ e l, (s.portTime p).exch = e :: l → d - e ≤ 200 → e - d ≤ 200 → (s.portTime p).dropped = true →
         (t.portTime p).dropped = decide ((s.portTime p).stable < 15))) ∧
     (∀ q, q ≠ p → t.portTime q = s.portTime q) ∧ t.now = s.now)

/-- R41 to R43, R36, R554: the slot whose turn it is fires: a stroke whose action can be carried out is FIRED and each action
of the table happens as its rule says, while there is no trip and no holdover age above 10,000 ms; one that the service firmware carries
out waits for it while it does not run. -/
def Obligations.StrokesFire : Prop :=
  ∀ (s t : State) (i arg : Nat), s.power.tripped = false → s.holdAge ≤ 10000 →
    t = (s.setFld .FT_STK_FIRED_FIRED i 0 s.now).strokeFired i → arg = s.fld .FT_STK_ARG_ARG i 0 →
    (s.strokeFires 1 i = true → t.mainsOn = true →
      exec (.genswap i) s = .next (t.genswapFire (nfield arg 0 8) (nfield arg 8 16))) ∧
    (s.strokeFires 2 i = true → t.mainsOn = true →
      exec (.genretire i) s = .next (t.genretireFire (nfield arg 0 8) (nfield arg 8 16))) ∧
    (s.strokeFires 3 i = true → s.fwDown = false → t.flag .PM_PHASE_VALID (nfield arg 0 4) 0 = true →
      exec (.phaseStroke i) s = .next (t.namePhase (nfield arg 0 4))) ∧
    (s.strokeFires 4 i = true → s.fwDown = false → exec (.oxenter i) s = .next (t.oxEnter arg)) ∧
    (s.strokeFires 5 i = true → s.fwDown = false → exec (.oxleave i) s = .next t.oxLeave) ∧
    (s.strokeFires 6 i = true → s.fwDown = false → exec (.capset i) s = .next (t.capSet (nfield arg 0 10))) ∧
    (∀ u, s.strokeFires 7 i = true → arg < 32 → t.scrubStart (arg / 16) (arg % 16) = (0, u) →
      exec (.scrubStroke i) s = .next u) ∧
    (∀ u, s.strokeFires 8 i = true → t.muOpen (nfield arg 0 8) = (0, u) → exec (.muwinOpen i) s = .next u) ∧
    (∀ u, s.strokeFires 9 i = true → t.muClose (nfield arg 0 8) 0x0D = (0, u) → exec (.muwinClose i) s = .next u) ∧
    (∀ u, s.strokeFires 10 i = true → s.fwDown = false → t.fwActivate arg = (0, u) → exec (.fwactivate i) s = .next u) ∧
    (∀ (a : Nat) (c : Instr), (a, c) ∈ [(3, Instr.phaseStroke i), (4, .oxenter i), (5, .oxleave i), (6, .capset i), (10, .fwactivate i)] →
      s.strokeFires a i = true → s.fwDown = true →
      exec c s = .next (t.withSvc { s.svc with held := s.svc.held ++ [⟨a, i, arg, s.now⟩] })) ∧
    (s.strokeFires 11 i = true → exec (.tracemark i) s = .next (t.traceMarkAll (nfield arg 0 32)))

/-- R547, R42, R41, R39: a stroke whose firing edge comes after a trip is FAILED with TRIPPED, whatever its action, and no
other slot changes; without a trip a herd-wide stroke is DEFERRED while the holdover age is above 10,000 ms; a stroke on time
is FIRED and one that is late FIRED_LATE. -/
def Obligations.StrokeStates : Prop :=
  ∀ (s : State) (i : Nat), i < 256 →
    (∀ (a : Nat) (c : Instr), (a, c) ∈ [(1, Instr.genswap i), (2, .genretire i), (3, .phaseStroke i), (4, .oxenter i),
        (5, .oxleave i), (6, .capset i), (7, .scrubStroke i), (8, .muwinOpen i), (9, .muwinClose i), (10, .fwactivate i),
        (11, .tracemark i)] → s.strokeFires a i = true → s.power.tripped = true →
      ∃ t : State, exec c s = .next t ∧ t.fld .FT_STK_STATE_STATE i 0 = 6 ∧ t.fld .FT_STK_STATE_RESULT i 0 = 0x20 ∧
        t.flag .FT_EVENT_FAILED 0 0 = true ∧
        (∀ j, j < 256 → j ≠ i → t.reg .FT_STK_STATE j 0 = s.reg .FT_STK_STATE j 0) ∧
        t.pm = s.pm ∧ t.hq = s.hq ∧ t.mule = s.mule ∧ t.svc = s.svc ∧ t.ras = s.ras ∧ t.hbm = s.hbm) ∧
    (∀ (a : Nat) (c : Instr), (a, c) ∈ [(1, Instr.genswap i), (2, .genretire i), (4, .oxenter i), (10, .fwactivate i)] →
      s.strokeFires a i = true → s.power.tripped = false → 10000 < s.holdAge →
      ∃ t : State, exec c s = .next t ∧ t.fld .FT_STK_STATE_STATE i 0 = 4 ∧ t.flag .FT_EVENT_DEFERRED 0 0 = true ∧
        t.pm = s.pm ∧ t.hq = s.hq ∧ t.svc = s.svc ∧ t.hbm = s.hbm) ∧
    (s.strokeFires 6 i = true → s.power.tripped = false → s.strokeLate i = false → s.fwDown = false →
      ∃ t : State, exec (.capset i) s = .next t ∧ t.fld .FT_STK_STATE_STATE i 0 = 2 ∧
        t.fld .FT_STK_FIRED_FIRED i 0 = s.now ∧ t.fld .PM_CAP_WATTS 0 0 = nfield (s.fld .FT_STK_ARG_ARG i 0) 0 10) ∧
    (s.strokeFires 6 i = true → s.power.tripped = false → s.strokeLate i = true →
      ∃ t : State, exec (.capset i) s = .next t ∧ t.fld .FT_STK_STATE_STATE i 0 = 3 ∧
        t.flag .FT_EVENT_LATE_FIRE 0 0 = true)

/-! ## Tensor memory and windows -/

/-- R63 to R66, R69, R70, R73, R83: a port's issue enters its queue; a bank grants the request or the flush that an OLD one or the port
order picks, and the others lose the cycle; a read returns its words; an entry of a merge buffer asks for its flush; and the end of a
sample period writes one ring entry where the sampler is enabled and starts the counts anew. -/
def Obligations.TensorMemoryCycles : Prop :=
  ∀ (s : State) (c : Nat), s.clusterOn c = true →
    (∀ port write ws, s.tmReady c = true → s.portBusy c port = false → issueOk ws = true → port ≠ 2 →
      (if write then portWrites port else portReads port) = true →
      exec (.portIssue c port write ws) s = .next (s.addIssue c port write ws 0)) ∧
    (∀ bank a s0 t, s.tmReady c = true → s0 = (if s.tm.cycBanks.contains (c, bank) then s.newCycle c else s) →
      t = (s0.withTm { s0.tm with cycBanks := (c, bank) :: s0.tm.cycBanks }).reachBank c bank → pickGrant (t.asks c bank) = some a →
      exec (.bankGrant c bank) s = .next ((((t.each ((t.asks c bank).filter (fun b => b != a))
        (fun b u => u.loseCycle c bank b)).grantAsk c a).settleBank c bank).pump c)) ∧
    (∀ l a, pickGrant l = some a → a ∈ l ∧ (a.isOld = true ∨ ∀ b ∈ l, b.isOld = false) ∧
      (l.Pairwise (fun x y => x.port < y.port) → ∀ b ∈ l, b.isOld = a.isOld → a.port ≤ b.port)) ∧
    (∀ port i l u, s.tm.issues.find? (fun i => i.c == c && i.port == port && !i.write && !i.busy) = some i →
      (s.withTm { s.tm with issues := s.tm.issues.erase i }).returnWords c i.taken = (l, u) →
      exec (.readReturn c port) s = .next (u.withTm { u.tm with
        returns := ⟨c, port, l⟩ :: u.tm.returns.filter (fun r => !(r.c == c && r.port == port))
        fab := (u.tm.fab.map (fun a => if a.id == i.acc then { a with left := a.left - 1, got := a.got ++ l } else a)).filter
          (fun a => !(a.id == i.acc && a.left == 0)) })) ∧
    (∀ port line, exec (.mergeTimeout c port line) s =
      .next (s.markFlush (fun e => e.c == c && e.port == port && e.line == line))) ∧
    (∀ b h k t, s.inForce .TMX_HOT_CFG_EN c 0 = 1 → s.hottest c = (b, h) →
      s.ringNext .TMX_HOT_HEAD_NEXT .TMX_HOT_HEAD_WRAPS c 8 (fun k => s.flag .TMX_HOT_RING_VALID c k) = (k, t) → c < 18 → k < 8 →
      ∃ u : State, exec (.hotPeriodEnd c) s = .next u ∧ u.fld .TMX_HOT_RING_FT_FT c k = s.now ∧
        u.fld .TMX_HOT_RING_BANK c k = b % 64 ∧ u.fld .TMX_HOT_RING_LOST c k = min h.lost 0xFFFFFF ∧
        u.fld .TMX_HOT_RING_PORTS c k = h.ports % 512 ∧ u.flag .TMX_HOT_RING_VALID c k = true ∧
        (∀ n, n < 64 → sget (fun _ => HotBank.mk 0 0) u.tm.hot (c * 64 + n) = ⟨0, 0⟩) ∧
        u.tm.words = s.tm.words ∧ u.hbm = s.hbm ∧ u.sc = s.sc) ∧
    (s.inForce .TMX_HOT_CFG_EN c 0 = 0 → exec (.hotPeriodEnd c) s = .next
      (if ((s.withTm { s.tm with hot := sdrop (fun k => k / 64 == c) s.tm.hot }).applyShadow .TMX_HOT_CFG c 0).inForce
          .TMX_HOT_CFG_EN c 0 = 1 then
        ((s.withTm { s.tm with hot := sdrop (fun k => k / 64 == c) s.tm.hot }).applyShadow .TMX_HOT_CFG c 0).each
          (List.range 8) (fun k t => t.setFlag .TMX_HOT_RING_VALID c k false)
      else (s.withTm { s.tm with hot := sdrop (fun k => k / 64 == c) s.tm.hot }).applyShadow .TMX_HOT_CFG c 0))

/-- R79, R80, R84, R96, R98, R100, R101, R103: an access at FAB is admitted by the lowest window that matches, and waits in its class, or
is refused whole, or is held at the spine; a write's commit ends the accesses whose last word it was, which post their arrivals; and the
range of a window that a VI reset closed is blanked, and its counter set to 0, once nothing is in flight. -/
def Obligations.WindowCommands : Prop :=
  ∀ (s : State) (c : Nat), s.clusterOn c = true →
    (∀ cls src vi write off len data msgs w, len ≠ 0 → s.fabHolds c = false → s.admitWindow c src write off len = some w →
      exec (.fabAccess c cls src vi write off len data msgs) s = .next ((s.withTm { s.tm with
        fab := s.tm.fab ++ [s.fabRecord c w src vi write off len msgs]
        nextFab := s.tm.nextFab + 1
        fabQ := s.tm.fabQ ++ (splitLines (maskedWords off len data)).map (fun ws =>
          (⟨c, s.tm.nextFab, cls, write, ws⟩ : FabLine)) }).pump c)) ∧
    (∀ cls src vi write off len data msgs, len ≠ 0 → s.fabHolds c = false → s.admitWindow c src write off len = none →
      exec (.fabAccess c cls src vi write off len data msgs) s =
        .next (s.wnRefuse c src write off len (s.wnReason c src off len))) ∧
    (∀ cls src vi write off len data msgs, len ≠ 0 → s.fabHolds c = true →
      exec (.fabAccess c cls src vi write off len data msgs) s = .next (s.withTm { s.tm with
        fabHeld := s.tm.fabHeld ++ [⟨c, cls, src, vi, write, off, len, data, msgs, true⟩] })) ∧
    (∀ port upset i s0 t fab, s0 = s.each upset (fun e u => u.cntUpset c e.1 e.2) →
      s0.tm.issues.find? (fun i => i.c == c && i.port == port && i.write && !i.busy) = some i →
      fab = s0.tm.fab.map (fun a => if a.id == i.acc then { a with left := a.left - 1 } else a) →
      t = (s0.withTm { s0.tm with issues := s0.tm.issues.erase i, fab := fab }).markFlush
        (fun e => fab.any (fun a => a.id == i.acc && a.left == 0 && fabEntry a e)) →
      (port ≠ 2 → exec (.writeCommit c port upset) s = .next t) ∧
      (port = 2 → exec (.writeCommit c port upset) s = .next (t.each (t.tm.fab.filter (fun a => a.c == c && a.write && a.left == 0 &&
        !t.tm.merge.any (fabEntry a))) (fun a u => (u.postAcc a).fabDrop a.id)))) ∧
    (∀ w u v, s.tm.blanks.contains (c, w) = true → s.wnInflight c w = false → s.tmReady c = true →
      u = (((if s.fld .WN_RANGE_BASE c w ≤ s.fld .WN_RANGE_LIMIT c w then
          s.tmBlank c (s.fld .WN_RANGE_BASE c w * 256) (s.fld .WN_RANGE_LIMIT c w * 256 + 255) else s).setFld .WN_CNT_VALUE c
          (s.fld .WN_CTL_CNT c w) 0).cntUpset c (s.fld .WN_CTL_CNT c w) 0) →
      v = u.withTm { u.tm with blanks := u.tm.blanks.filter (fun x => x != (c, w)) } →
      exec (.windowBlank c w) s = .next (if v.fabHolds c then v else v.serveHeld c))

/-- R58: the bank, row, word and byte of a cluster offset, their inverse, and that the lines of a 4 KiB block, and a stride of
4 KiB, visit 64 distinct banks. A full word that a port stores in tensor memory is what a read of it gives, a poisoned one with
its tag, and no other word of any cluster changes. -/
def Obligations.TensorMemoryPlacesAndWords : Prop :=
  (∀ a : Nat, a < 2 ^ 24 →
     tmWordIx a = a / 4 % 16 ∧ tmRow a = a / 4096 ∧ tmBank a = (a / 64 % 64) ^^^ (a / 4096 % 64) ∧
     tmBank a < 64 ∧ tmRow a < 4096 ∧
     a = tmRow a * 4096 + (tmBank a ^^^ tmRow a % 64) * 64 + tmWordIx a * 4 + a % 4 ∧
     tmOffset (tmBank a) (tmRow a) (tmWordIx a) + a % 4 = a) ∧
  (∀ r l m : Nat, r < 4096 → l < 64 → m < 64 → tmBank (r * 4096 + l * 64) = tmBank (r * 4096 + m * 64) → l = m) ∧
  (∀ a k l : Nat, a + 4096 * k < 2 ^ 24 → a + 4096 * l < 2 ^ 24 → k < 64 → l < 64 →
     tmBank (a + 4096 * k) = tmBank (a + 4096 * l) → k = l) ∧
  (∀ (s : State) (c a : Nat) (p : PW), c < 18 → a < 2 ^ 24 →
     ((s.tmStore c a p).tmFetch c a).1 = p ∧
     ((s.tmStore c a p).tmFetch c a).2 = s.tmStore c a p ∧
     (∀ k, k ≠ tmKey c (tmBank a) (s.mappedRow c (tmBank a) (tmRow a)) (tmWordIx a) →
       sget (fun _ => blankWord) (s.tmStore c a p).tm.words k = sget (fun _ => blankWord) s.tm.words k) ∧
     (s.tmStore c a p).tm.steer = s.tm.steer ∧ (s.tmStore c a p).regs = s.regs ∧ (s.tmStore c a p).hbm = s.hbm)

/-! ## Integrity -/

/-- R144 to R146, R153, R156, R203: a deferred repair of an HBM row starts once its channel is in MEM; a scrub pass reads its next row of
tensor memory (in FAB's place), line of steer memory, line of the cache or sector, and skips a sector that its channel held beyond the
limit; and a pass ends, writing its summary. -/
def Obligations.RepairAndScrub : Prop :=
  ∀ (s : State) (d n stack pc : Nat),
    (∀ f, s.ras.deferred.find? (fun (f : SoftFuse) => f.unit == stack * 64 + pc) = some f → s.chMode stack pc = 0 →
      s.stackOn stack = true →
      exec (.hbmRepairDeferredStart stack pc) s = .next
        (((s.withRas { s.ras with deferred := s.ras.deferred.erase f }).softRepair stack pc f.hbank f.row).2.repairResult
          (stackDie stack)
          ((s.withRas { s.ras with deferred := s.ras.deferred.erase f }).softRepair stack pc f.hbank f.row).1)) ∧
    (∀ ue skip run t words r1 s1 r2 s2, s.ras.runs.find? (fun (r : ScrubRun) => r.die == d && r.slot == n) = some run →
      t = s.scrubTarget d n → s.scrubOn t = true → run.pos < s.scrubStop d n t →
      words = (List.range 16).map (fun k => run.pos / 64 * 64 + 4 * k) →
      ((∃ c, t = .tm c ∧ s.tmReady c = true ∧
          (r1, s1) = (s.placeAccess c (tmBank (run.pos / 64 * 64)) (tmRow (run.pos / 64 * 64))).scrubWords run
            (s.flag .IN_SCRUB_CTL_MODE d n) false c words) ∨
       (∃ c, t = .steer c ∧ s.tmReady c = true ∧
          (r1, s1) = s.scrubWords run (s.flag .IN_SCRUB_CTL_MODE d n) true c words) ∨
       (∃ i l, t = .lc i ∧ s.lcAt i (run.pos / 128 / 12) (run.pos / 128 % 12) = some l ∧
          (r1, s1) = s.scrubLine run (s.flag .IN_SCRUB_CTL_MODE d n) l) ∨
       (∃ i, t = .lc i ∧ s.lcAt i (run.pos / 128 / 12) (run.pos / 128 % 12) = none ∧ (r1, s1) = (run, s)) ∨
       (∃ p u, t = .hbm p ∧ s.admitParts (scrubFront d n) p [s.plotLoc p run.pos] false = (.go, u) ∧
          (r1, s1) = u.scrubSector run (s.flag .IN_SCRUB_CTL_MODE d n) p (run.pos / 32 * 32) ue skip) ∨
       (∃ p u ch, t = .hbm p ∧ s.admitParts (scrubFront d n) p [s.plotLoc p run.pos] false = (.expired ch, u) ∧
          (r1, s1) = ({ run with skipped := sat32 (run.skipped + 1) }, u))) →
      (r2, s2) = s1.scrubRows r1 t (s.fld .IN_SCRUB_BASE_BASE d n * 256) (max (s.fld .IN_SCRUB_BASE_BASE d n * 256) run.pos)
        (min ((run.pos / scrubStep t + 1) * scrubStep t) (s.scrubStop d n t)) →
      exec (.scrubAccess d n ue skip) s = .next (s2.withRas { s2.ras with
        runs := s2.ras.runs.replace run { r2 with pos := (run.pos / scrubStep t + 1) * scrubStep t } })) ∧
    (∀ run t, s.ras.runs.find? (fun (r : ScrubRun) => r.die == d && r.slot == n) = some run → t = s.scrubTarget d n →
      (s.scrubOn t = false → exec (.scrubPassEnd d n) s = .next (s.scrubEnd run 2)) ∧
      (∀ p, s.scrubOn t = true → t = .hbm p → s.stackLevel (plotStack p) = 3 →
        exec (.scrubPassEnd d n) s = .next (s.scrubEnd run 3)) ∧
      (s.scrubOn t = true → (∀ p, t = .hbm p → s.stackLevel (plotStack p) ≠ 3) → s.scrubStop d n t ≤ run.pos →
        exec (.scrubPassEnd d n) s = .next (s.scrubEnd run 0)))

/-- R124 to R126, R129: what the error code does to every word: a stored word reads back clean or poisoned as it was
written; one flipped bit of it is corrected, and two flipped bits are never taken for a good word. -/
def Obligations.ErrorCode : Prop :=
  ∀ p : PW,
    decodeWord (encodeWord p) = ⟨p, .ok⟩ ∧
    (∀ i, i < 40 → (decodeWord (encodeWord p ^^^ (1#40 <<< i))).word = p ∧
      (decodeWord (encodeWord p ^^^ (1#40 <<< i))).cls ≠ .ok ∧ (decodeWord (encodeWord p ^^^ (1#40 <<< i))).cls ≠ .ue) ∧
    (∀ i j, i < j → j < 40 → (decodeWord (encodeWord p ^^^ (1#40 <<< i) ^^^ (1#40 <<< j))).cls = .ue)

/-! ## Plots -/

/-- R164, R165: where an offset of a plot lies under BANKLIN and under STRIPED, that the inverse gives the offset
back, and that the granules of a 16 KiB run of STRIPED offsets lie in one row and in different pseudo-channels. -/
def Obligations.PlotPlaces : Prop :=
  ∀ o : Nat, o < plotSize →
    ((bankLin o).pc = o / 12582912 ∧ (bankLin o).row = o % 12582912 / 1024 ∧ (bankLin o).byte = o % 1024 ∧
      o = (bankLin o).pc * 12582912 + (bankLin o).row * 1024 + (bankLin o).byte) ∧
    ((striped o).row = o / 256 / 64 / 4 ∧ (striped o).byte = o / 256 / 64 % 4 * 256 + o % 256 ∧
      (striped o).pc = (o / 256 % 64) ^^^ ((striped o).row % 64 ^^^ (striped o).row / 64 % 64 ^^^ (striped o).row / 4096 % 4) ∧
      o / 256 / 64 < 49152 ∧
      (∀ o', o' < plotSize → o' / 16384 = o / 16384 →
        (striped o').row = (striped o).row ∧ (striped o').byte / 256 = (striped o).byte / 256 ∧
        ((striped o').pc = (striped o).pc → o' / 256 = o / 256)) ∧
      o = 256 * (64 * (4 * (striped o).row + (striped o).byte / 256) + ((striped o).pc ^^^ foldRow (striped o).row)) +
        (striped o).byte % 256) ∧
    (bankLin o).pc < 64 ∧ (bankLin o).row < 12288 ∧ (striped o).pc < 64 ∧ (striped o).row < 12288 ∧ (striped o).byte < 1024 ∧
    (∀ (s : State) (p : Nat), s.plotLoc p o = (if s.plCtl .PL_CTL_LAYOUT p = 1 then bankLin o else striped o) ∧
      s.plotInv p (s.plotLoc p o) = o)

/-- R169, R171, R174, R178 to R182, R185, R609: fills go on and end, accesses are checked and made, pages are answered, translations are
dropped, and banks are refreshed. -/
def Obligations.PlotCommands : Prop :=
  ∀ s : State,
    (∀ p row at_, s.hbm.fills.find? (fun x => x.1 == p) = some (p, at_) → s.stackOn (plotStack p) = true → at_ ≤ row →
      (∀ pc, pc < 64 → s.fillFree (plotStack p) pc (plotBank p) = true) →
      (row < 12288 → exec (.plotFillDone p row) s = .next (s.fillRows p at_ row)) ∧
      (12288 ≤ row → exec (.plotFillDone p row) s = .next ((s.fillRows p at_ 12288).endFill p))) ∧
    (∀ k upto next hi last p u, s.hbm.rangeFill.find? (fun x => x.1 == k) = some (k, next) → p = 48 * k + s.fld .PL_FILL_PLOT k 0 →
      last = min (s.fld .PL_FILL_RANGE_LIMIT k 0 * 8 + 8) (plotSize / 32) → s.plotState p ≠ 0 → next < last →
      hi = min last (max next upto) →
      (∀ i, next ≤ i → i < hi → s.fillFree k (s.plotLoc p (i * 32)).pc (plotBank p) = true) →
      (∀ a ∈ s.hbm.accs, a.plot ≠ p) → u = s.fillSectors k p next hi →
      (hi < last → exec (.rangeFillDone k upto) s = .next (u.withHbm { u.hbm with
        rangeFill := u.hbm.rangeFill.map (fun x => if x.1 = k then (k, hi) else x) })) ∧
      (hi = last → exec (.rangeFillDone k upto) s = .next (((u.withHbm { u.hbm with
        rangeFill := u.hbm.rangeFill.filter (fun x => x.1 != k) }).setFld .PL_FILL_RESULT k 0 0).setFlag .PL_FILL_GO k 0 false))) ∧
    (∀ addr len write data vi pin req, exec (.plotAccess true addr len write data vi pin req) s =
      .next (s.plotArrive addr len write data vi true pin req addr)) ∧
    (∀ addr len write data vi pin req, exec (.plotAccess false addr len write data vi pin req) s =
      .next (s.virtArrive vi addr len write data pin req)) ∧
    (∀ vi page, s.viResetting vi = false →
      exec (.priResponse vi page false) s = .next (((s.withHbm { s.hbm with
        waits := s.hbm.waits.filter (fun w => !(w.vi == vi && w.page == page && w.sent)) }).each
        (s.hbm.waits.filter (fun w => w.vi == vi && w.page == page && w.sent)) (fun w t => t.pageFail w 4)).sendPages vi)) ∧
    (∀ vi page w walk t, s.viResetting vi = false → s.hbm.waits = [w] → w.vi = vi → w.page = page → w.sent = true →
      (s.withHbm { s.hbm with waits := [] }).translate vi w.addr w.write = (walk, t) →
      (walk = .pri → exec (.priResponse vi page true) s = .next ((t.pageFail w 1).sendPages vi)) ∧
      (walk ≠ .pri → exec (.priResponse vi page true) s = .next ((if w.len = 0 then t
        else t.virtArrive vi w.addr w.len w.write w.data w.pin w.req).sendPages vi))) ∧
    (∀ vi page w, s.hbm.waits = [w] → w.vi = vi → w.page = page → w.sent = true →
      max 1 (s.fld .PL_PRI_CFG_TIMEOUT 0 0) * 1000 ≤ s.now - w.since →
      exec (.priTimeout vi page) s = .next (((s.withHbm { s.hbm with waits := [] }).pageFail w 5).sendPages vi)) ∧
    (∀ w reason, s.pageFail w reason = (if w.len = 0 then
        (s.plotFault w.addr reason w.vi w.write false).withHbm { (s.plotFault w.addr reason w.vi w.write false).hbm with
          priFail := (s.plotFault w.addr reason w.vi w.write false).hbm.priFail ++ [(w.vi, w.page, w.req, reason)] }
      else s.plotFault w.addr reason w.vi w.write false)) ∧
    (∀ x l, s.hbm.invs = x :: l →
      exec .tlbInvDone s = .next ((s.withHbm { s.hbm with invs := l }).setFlag .PL_TLB_INV_GO 0 0 false)) ∧
    (∀ k pc bank, s.stackOn k = true → exec (.refresh k pc bank) s = .next (s.holdBank k pc bank)) ∧
    (∀ k pc bank, s.stackOn k = true → s.rfmThresh k < sget (fun _ => 0) s.hbm.acts ((k * 64 + pc) * 48 + bank) →
      exec (.refreshManagement k pc bank) s = .next ((s.holdBank k pc bank).withHbm { (s.holdBank k pc bank).hbm with
        acts := sset (fun _ => 0) (s.holdBank k pc bank).hbm.acts ((k * 64 + pc) * 48 + bank) 0 })) ∧
    (∀ group ue a t u, s.hbm.accs.find? (fun a => a.group == group && !a.held && !a.own) = some a → s.accReady a = true →
      s.urgentFirst a = false → t = s.strikeSector a.plot a.pc a.row a.sector ue →
      u = (t.withHbm { t.hbm with accs := t.hbm.accs.erase a }).activate (plotStack a.plot) a.pc (plotBank a.plot) 1 →
      (a.write = true → exec (.hbmAccess group ue) s =
        .next ((u.writeSector a.plot a.pc a.row a.sector a.mask a.data).groupEnd a)) ∧
      (∀ ws v, a.write = false → (s.accsAhead a).any (fun b => b.write) = false → u.readSector a.plot a.pc a.row a.sector = (ws, v) →
        exec (.hbmAccess group ue) s =
          .next ((v.withHbm { v.hbm with rets := v.hbm.rets ++ [⟨group, a.req, ws⟩] }).groupEnd a)) ∧
      (a.write = false → (s.accsAhead a).any (fun b => b.write) = true →
        exec (.hbmAccess group ue) s = .next (t.serveForward a)))

/-- R180: the reasons of a refusal, in their order: the plot is OFF, FILLING, another VI's, a tagged plot of another
generation, or retired; an access that no row names is admitted. -/
def Obligations.PlotChecks : Prop :=
  ∀ (s : State) (p v : Nat) (write : Bool) (pin : Option (Nat × Nat)),
    (s.plotCheck p (some v) write pin = none ↔
      s.plotState p ≠ 0 ∧ s.plotState p ≠ 1 ∧ (v = 0 ∨ s.plCtl .PL_CTL_OWNER_VI p = v) ∧
      (write = true ∨ (s.flag .PL_STATUS_RETIRED (plotStack p) (plotBank p) = false ∧
        (s.flag .PL_CTL_TAGGED (plotStack p) (plotBank p) = false ∨ pin = none ∨
          pin = some (s.fld .PL_TAG_TSET (plotStack p) (plotBank p), s.fld .PL_TAG_GEN (plotStack p) (plotBank p)))))) ∧
    (∀ r, s.plotCheck p (some v) write pin = some r → r = 8 ∨ r = 9 ∨ r = 0xA ∨ r = 0xB ∨ r = 0xC) ∧
    (s.plotCheck p (some v) write pin = some 8 ↔ s.plotState p = 0) ∧
    (s.plotCheck p (some v) write pin = some 9 ↔ s.plotState p = 1) ∧
    (s.plotCheck p (some v) write pin = some 0xA ↔
      s.plotState p ≠ 0 ∧ s.plotState p ≠ 1 ∧ v ≠ 0 ∧ s.plCtl .PL_CTL_OWNER_VI p ≠ v) ∧
    (s.plotCheck p (some v) write pin = some 0xB ↔
      s.plotState p ≠ 0 ∧ s.plotState p ≠ 1 ∧ (v = 0 ∨ s.plCtl .PL_CTL_OWNER_VI p = v) ∧ write = false ∧
      s.flag .PL_CTL_TAGGED (plotStack p) (plotBank p) = true ∧ pin ≠ none ∧
      pin ≠ some (s.fld .PL_TAG_TSET (plotStack p) (plotBank p), s.fld .PL_TAG_GEN (plotStack p) (plotBank p)))

/-! ## Mules -/

/-- R193 to R195, R198, R200, R207, R208: the row operations: the command at the head of a channel that has begun, or starts in PROC where
no check refuses it, goes on with its rows and its operation as far as the allowance and the banks let it, and its status and rows are
recorded; a BUSCOPY moves one row for each grant of the bus, which remembers its source. -/
def Obligations.MuleRowOperations : Prop :=
  (∀ (s s0 t u : State) (stack pc k n most : Nat) (st : Option Nat) (ue : Option (Nat × Bool × Nat)) (err : Option Nat) (m : MuleCmd)
      (q : List MuleCmd) (op : MuleOp),
    s.muQueue stack pc = m :: q → m.done = none →
    ((m.begun = false ∧ s.chMode stack pc = 2 ∧ s.muCheck stack pc m = 0) ∨
      (m.begun = true ∧ (s.chMode stack pc = 2 ∨ s.chMode stack pc = 3))) →
    k = s.fld .MU_WIN_CTL_BANK (mdWindow m.desc) 0 → mdOp m.desc = op.code →
    (ue = none ∧ s0 = s ∨ ∃ i b sec, ue = some (i, b, sec) ∧
      s0 = s.strikeSector (48 * stack + k) pc ((if b then mdRowB m.desc else mdRowA m.desc) + i) (sec % 32) true) →
    State.muRows op m.desc stack pc k err (min most (mdCount m.desc - m.rows)) m.rows s0 = (st, n, t) →
    u = (t.setFld .MU_CH_ROWS stack pc (t.fld .MU_CH_ROWS stack pc + (n - m.rows))).setMuQueue stack pc
      ({ m with begun := m.begun || st.isSome || decide (m.rows < n), done := st, rows := n } :: q) →
    (op = ⟨1, 2, true, false, fun a _ _ => a⟩ → most = 256 →
      exec (.rowcopy stack pc ue err) s = .next (u.muWait stack pc (st.isNone && u.muSpent m.desc stack pc))) ∧
    (op = ⟨2, 1, false, false, fun _ _ x => x⟩ → most = 256 →
      exec (.rowinit stack pc ue err) s = .next (u.muWait stack pc (st.isNone && u.muSpent m.desc stack pc))) ∧
    (op = ⟨3, 3, true, true, fun a b _ => a &&& b⟩ → most = 256 →
      exec (.rowand stack pc ue err) s = .next (u.muWait stack pc (st.isNone && u.muSpent m.desc stack pc))) ∧
    (op = ⟨4, 3, true, true, fun a b _ => a ||| b⟩ → most = 256 →
      exec (.rowor stack pc ue err) s = .next (u.muWait stack pc (st.isNone && u.muSpent m.desc stack pc))) ∧
    (op = ⟨5, 3, true, true, fun a b _ => a ^^^ b⟩ → most = 256 →
      exec (.rowxor stack pc ue err) s = .next (u.muWait stack pc (st.isNone && u.muSpent m.desc stack pc))) ∧
    (op = ⟨6, 3, true, true, fun a b _ => a &&& (b ^^^ sectorOnes)⟩ → most = 256 →
      exec (.rowandn stack pc ue err) s = .next (u.muWait stack pc (st.isNone && u.muSpent m.desc stack pc))) ∧
    (op = ⟨7, 2, true, false, fun a _ _ => a ^^^ sectorOnes⟩ → most = 256 →
      exec (.rownot stack pc ue err) s = .next (u.muWait stack pc (st.isNone && u.muSpent m.desc stack pc))) ∧
    (op = ⟨8, 2, true, false, fun a _ _ => a⟩ → most = 256 →
      exec (.chain stack pc ue err) s = .next (u.muWait stack pc (st.isNone && u.muSpent m.desc stack pc))) ∧
    (op = ⟨9, 1, true, false, fun a _ _ => a⟩ → most = 1 → s.busNext stack = some pc →
      exec (.buscopy stack pc ue err) s = .next ((u.muWait stack pc (st.isNone && u.muSpent m.desc stack pc)).withMule
        { (u.muWait stack pc (st.isNone && u.muSpent m.desc stack pc)).mule with
          bus := sset (fun _ => 63) (u.muWait stack pc (st.isNone && u.muSpent m.desc stack pc)).mule.bus stack pc }))) ∧
  (∀ (s : State) (op : MuleOp) (d : BitVec 256) (stack pc k i n : Nat) (err : Option Nat), s.muSpent d stack pc = false →
    s.bankHeld stack pc k = false → s.bankHeld stack (muDest d pc k i).1 (muDest d pc k i).2.1 = false →
    s.muReadsSuspect op d stack pc k i = false → s.muBad op d stack pc k i = none → err ≠ some i →
    State.muRows op d stack pc k err (n + 1) i s = State.muRows op d stack pc k err n (i + 1) (s.muRowStep op d stack pc k i))

/-- R193: one row step of a mule: every sector of the destination row is the operation on the sectors of the source rows, and
no other row of any plot changes. -/
def Obligations.MuleRowStep : Prop :=
  ∀ (s : State) (op : MuleOp) (d : BitVec 256) (stack pc k i sec : Nat), stack < 8 → pc < 64 → k < 48 → sec < 32 →
    mdOp d < 8 → mdRowD d + i < 12288 →
    (s.muRowStep op d stack pc k i).rawData stack pc k (mdRowD d + i) sec =
      op.f (if op.readsA then s.rawData stack pc k (mdRowA d + i) sec else 0)
        (if op.readsB then s.rawData stack pc k (mdRowB d + i) sec else 0)
        ((List.range 4).foldl (fun acc j => acc + mdPattern d * 2 ^ (64 * j)) 0) % 2 ^ 256 ∧
    (∀ x, (∀ sec', sec' < 32 → x ≠ sectorKey stack pc k (mdRowD d + i) sec') →
      sget (hbmDefault s.hbm.bgBlank) (s.muRowStep op d stack pc k i).hbm.sectors x =
        sget (hbmDefault s.hbm.bgBlank) s.hbm.sectors x) ∧
    (s.muRowStep op d stack pc k i).regs = s.regs ∧ (s.muRowStep op d stack pc k i).tm = s.tm

/-- R197, R199, R200, R202, R206, R207, R212: window commands act at issue, or after a stroke of their edge; a command leaves its queue with
its status, and a channel whose rows reach the limit enters EXIT; and a channel drains into PROC and returns from EXIT to MEM. -/
def Obligations.MuleChannels : Prop :=
  ∀ s : State,
    (∀ d vi svc, mdOp d = 0x10 → s.muMayWin (mdWindow d) vi svc = true →
      exec (.winopen d vi svc) s = .next (s.muWinCommand d)) ∧
    (∀ d vi svc, mdOp d = 0x11 → s.muMayWin (mdWindow d) vi svc = true →
      exec (.winclose d vi svc) s = .next (s.muWinCommand d)) ∧
    (∀ d, s.muWinDue = false → s.muWinCommand d = s.muWinAct d) ∧
    (∀ d, s.muWinDue = true → s.muWinCommand d = s.withMule { s.mule with winq := s.mule.winq ++ [d] }) ∧
    (∀ stack pc m q st t, s.muQueue stack pc = m :: q → m.done = some st →
      s.muOwes stack pc m.desc = false ∨ s.chMode stack pc ≠ 2 →
      t = ((s.setMuQueue stack pc q).muFinish stack pc m st).muWait stack pc false →
      exec (.muleCommandDone stack pc) s = .next
        (if t.chMode stack pc = 2 ∧ t.muLimit (t.fld .MU_CH_WINDOW stack pc) ≤ t.fld .MU_CH_ROWS stack pc then
          t.setFld .MU_CH_MODE stack pc 3 else t)) ∧
    (∀ stack pc m q, s.muQueue stack pc = m :: q → m.done = none → m.begun = false → s.muCheck stack pc m ≠ 0 →
      (s.chMode stack pc = 2 ∨ s.chMode stack pc = 0) →
      exec (.muleCommandDone stack pc) s = .next ((s.setMuQueue stack pc q).muFinish stack pc m (s.muCheck stack pc m))) ∧
    (∀ stack pc, s.chMode stack pc = 1 →
      s.hbm.accs.any (fun (a : SectorAcc) => !a.held && plotStack a.plot == stack && a.pc == pc) = false →
      exec (.drainComplete stack pc) s = .next (s.setFld .MU_CH_MODE stack pc 2)) ∧
    (∀ stack pc, s.chMode stack pc = 3 → s.muRunning stack pc = false →
      exec (.exitComplete stack pc) s = .next
        (((s.chanRelease stack pc).muSettle (s.fld .MU_CH_WINDOW stack pc)).splitRetry (stackDie stack)))

/-! ## The lookup cache and the trough arbiters -/

/-- R220 to R238, R246, R248: lookups, retries, fills, sweeps, operations and invalidating writes of the cache. In a cycle the lookups are
presented, one for each line of an access, and each slice accepts one that waits, the oldest URGENT one before the others. -/
def Obligations.CacheCommands : Prop :=
  ∀ s : State,
    (∀ asks upset t, t = (s.each upset (fun (i, set, way, bit) u => u.lcFlipTag i set way bit)).each
        (asks.flatMap LcAsk.looks) (fun w u => u.lcPresent w) →
      exec (.lcLookup asks upset) s =
        .next (t.each ((t.lc.queue.map (fun (x : LcLook) => x.slice)).eraseDups) (fun i u => u.lcAccept i))) ∧
    (∀ slice r, s.lc.retries.find? (fun (r : LcLook) => r.slice == slice) = some r →
      exec (.lcRetry slice) s =
        .next (((s.withLc { s.lc with retries := s.lc.retries.erase r }).lcPresent r.waiter).lcAccept slice)) ∧
    (∀ slice x, s.lcNext slice = some x → x ∈ s.lc.queue ∧ x.slice = slice ∧
      (∀ y ∈ s.lc.queue, y.slice = slice → y.waiter.cls = 2 → x.waiter.cls = 2)) ∧
    (∀ slice la k ue r o l s1 ws s2, s.lcReg slice la = some r → nbit r.pend k = true →
      o = la * 128 + k * 32 - plotDpa r.plot 0 → l = s.plotLoc r.plot o →
      (s.admitted ⟨.cache slice, 0, 0⟩ r.plot o 32 false = true ∨ s.plotCheck r.plot none false none = none) →
      s.admitParts ⟨.cache slice, 0, 0⟩ r.plot [l] false = (.go, s1) →
      (s1.strikeSector r.plot l.pc l.row (l.byte / 32) ue).readSector r.plot l.pc l.row (l.byte / 32) = (ws, s2) →
      exec (.lcFillArrive slice la k ue) s = .next ((s2.lcArrive r k ws).lcFresh { s1 with lc := s2.lc })) ∧
    (∀ slice la k ue r x, s.lcReg slice la = some r → nbit r.pend k = true →
      s.admitted ⟨.cache slice, 0, 0⟩ r.plot (la * 128 + k * 32 - plotDpa r.plot 0) 32 false = false →
      s.plotCheck r.plot none false none = some x →
      exec (.lcFillArrive slice la k ue) s = .next (s.lcFillRefused r x)) ∧
    (∀ v, s.lcSweeping v = true →
      s.lc.regs.any (fun (r : LcReg) => r.marks.contains 0 && nbit (s.fld .LC_PART_SLICES v 0) r.slice) = false →
      exec (.lcSweepDone v) s = .next (s.setFlag .LC_PART_STATE_SWEEPING v 0 false)) ∧
    (∀ n o, s.lc.ops[n]? = some o → s.lc.regs.any (fun (r : LcReg) => r.marks.contains o.id) = false → o.who = none →
      exec (.lcOpDone n) s = .next (((s.withLc { s.lc with ops := s.lc.ops.eraseIdx n }).setFld .LC_OP_RESULT 0 0
        o.result).setFlag .LC_OP_GO 0 0 false)) ∧
    (∀ n o c x rd, s.lc.ops[n]? = some o → s.lc.regs.any (fun (r : LcReg) => r.marks.contains o.id) = false →
      o.who = some (c, x, rd) → (s.lc.ops.eraseIdx n).any (fun (q : LcOp) => q.who == o.who) = false →
      exec (.lcOpDone n) s = .next ((s.withLc { s.lc with ops := s.lc.ops.eraseIdx n }).withSc { s.sc with
        answers := s.sc.answers.map (fun (a : SlAnswer) =>
          if a.core = c ∧ a.ctx = x ∧ a.rd = rd then { a with code := o.result, ready := true } else a) })) ∧
    (∀ addr len data vi req p off, s.dpaTarget addr = .plot p off → reqInvalidates req = true → len ≠ 0 →
      s.lcInvFull p off len = false →
      exec (.lcInvalWrite addr len data vi req) s = .next (s.plotArrive addr len true data vi true none req addr))

/-- R249, R251, R253 to R264, R267, R509: troughs are refilled, with what the window's first cycle charges; in a cycle a holder moves a
beat, and its last one ends its transfer; the decision gives a free point to the winner of those that wait, an URGENT request preempts
a holder that is not URGENT, and the holder otherwise keeps its grant; a cycle that is gated, or in which the point takes no beat, moves
and charges nothing; a transfer that has been given up is dropped; and a parity error releases the point or sets the trough. -/
def Obligations.TroughCommands : Prop :=
  ∀ (s : State) (arb point : Nat), s.arbOn arb = true → point < arbPoints arb →
    (∀ first t, t = s.each first (fun p u => if p < arbPoints arb ∧ u.trTakes arb p then u.trCycle arb p else u) →
      exec (.feedWindow arb first) s = .next ((t.each (List.range 48) (fun i u => (u.applyShadow .TR_REQ arb i).setTrough arb i
        (min (s.trough arb i - ((t.fld .TR_BEATS_COUNT arb i : Int) + 2 ^ 48 - (s.fld .TR_BEATS_COUNT arb i : Int)) % 2 ^ 48 +
            ((u.applyShadow .TR_REQ arb i).inForce .TR_REQ_WEIGHT arb i : Int))
          (4 * ((u.applyShadow .TR_REQ arb i).inForce .TR_REQ_WEIGHT arb i : Int))))).withTr
        { t.tr with start := sset (fun _ => 0) t.tr.start arb t.now })) ∧
    (∀ (reqs : List (Nat × Nat × Nat × TrOwner × Nat)) (after : State → State),
      after = (fun u => (u.trCount arb point).each reqs
        (fun (req, cls, beats, owner, vi) v => v.trPresent arb point req cls beats owner vi)) →
      (s.trTakes arb point = false ∨ s.trGated arb point = true →
        exec (.arbiterGrant arb point reqs) s = .next (after s)) ∧
      (s.trTakes arb point = true → s.trGated arb point = false →
        (∀ w, (s.trAt arb point).find? (fun (r : TrReq) => r.holder) = none → s.trWinner (s.trAt arb point) = some w →
          exec (.arbiterGrant arb point reqs) s =
            .next (after ((s.setTrReqs (s.tr.reqs.replace w { w with holder := true })).trCharge arb w.req))) ∧
        (∀ h, (s.trAt arb point).find? (fun (r : TrReq) => r.holder) = some h → h.drop = 0 → h.moved + 1 = h.beats →
          exec (.arbiterGrant arb point reqs) s = .next (after ((s.setTrReqs (s.tr.reqs.erase h)).trDecide arb point))) ∧
        (∀ h, (s.trAt arb point).find? (fun (r : TrReq) => r.holder) = some h → h.drop = 0 → h.moved + 1 ≠ h.beats →
          (s.trCls h = 2 ∨ (s.trAt arb point).any (fun (r : TrReq) => !r.holder && s.trCls r == 2) = false) →
          exec (.arbiterGrant arb point reqs) s =
            .next (after ((s.setTrReqs (s.tr.reqs.replace h { h with moved := h.moved + 1 })).trCharge arb h.req))) ∧
        (∀ h, (s.trAt arb point).find? (fun (r : TrReq) => r.holder) = some h → h.drop = 0 → h.moved + 1 ≠ h.beats →
          s.trCls h ≠ 2 → (s.trAt arb point).any (fun (r : TrReq) => !r.holder && s.trCls r == 2) = true →
          exec (.arbiterGrant arb point reqs) s =
            .next (after (((s.setTrReqs (s.tr.reqs.replace h { h with moved := h.moved + 1 })).trPreempt
              { h with moved := h.moved + 1 }).trDecide arb point))) ∧
        (∀ h, (s.trAt arb point).find? (fun (r : TrReq) => r.holder) = some h → h.drop ≠ 0 → s.trCls h ≠ 2 →
          (s.trAt arb point).any (fun (r : TrReq) => !r.holder && s.trCls r == 2) = true →
          exec (.arbiterGrant arb point reqs) s = .next (after ((s.trDrop h).trDecide arb point))))) ∧
    (∀ h, (s.trAt arb point).find? (fun (r : TrReq) => r.holder && r.drop != 0) = some h →
      exec (.transferAbandon arb point false) s = .next ((s.setTrReqs (s.tr.reqs.erase h)).trAbandonLog h) ∧
      exec (.transferAbandon arb point true) s =
        .next (((s.setTrReqs (s.tr.reqs.erase h)).trAbandonLog h).wrapInc .TR_CNT_COUNT arb 2 1)) ∧
    (∀ h, (s.trAt arb point).find? (fun (r : TrReq) => r.holder) = some h →
      exec (.arbiterParityError arb true point) s = .next ((s.trPreempt h).setFlag .TR_STATUS_GRANT_ERR arb 0 true)) ∧
    (∀ ix, exec (.arbiterParityError arb false ix) s = .next
      ((s.setTrough arb ix (s.inForce .TR_REQ_WEIGHT arb ix)).setFlag .TR_STATUS_TROUGH_ERR arb 0 true))

/-- R251, R256: the winner of a free point: no request of a higher class waits, and among those of its class none has a fuller
trough, and none of the lower indexes an equal one; a requester presents one request at a point. -/
def Obligations.TroughWinner : Prop :=
  ∀ (s : State) (l : List TrReq) (w : TrReq),
    (s.trWinner l = some w → w ∈ l ∧ (∀ r ∈ l, s.trCls r ≤ s.trCls w) ∧
      (∀ r ∈ l, s.trCls r = s.trCls w → s.trough r.arb r.req < s.trough w.arb w.req ∨
        (s.trough r.arb r.req = s.trough w.arb w.req ∧ w.req ≤ r.req))) ∧
    (l ≠ [] → ∃ x, s.trWinner l = some x) ∧
    (∀ arb point, ∀ r ∈ s.trAt arb point, ∀ q ∈ s.trAt arb point, r.req = q.req → r = q)

/-! ## Steer cores -/

/-- R362, R365, R366: taking a trap or an interrupt saves the return address, the level, the cause, the information and the tag,
sets EXL and the level PRIV, and goes to the vector; with EXL set it faults the context with NESTED. -/
def Obligations.TrapEntry : Prop :=
  ∀ (s : State) (core x cause info epc : Nat) (tag : W32), core < 22 → x < 16 → cause < 32 → info < 2 ^ 64 → epc < 2 ^ 19 →
    (s.flag .SC_CTX_STATUS_EXL core x = false →
      let t := s.slTrap core x cause info tag epc
      t.fld .SC_CTX_TRAP_EPC core x = epc ∧
      t.fld .SC_CTX_TRAP_ELEVEL core x = s.fld .SC_CTX_STATUS_LEVEL core x ∧
      t.fld .SC_CTX_TRAP_CAUSE_ECAUSE core x = cause ∧
      t.fld .SC_CTX_TRAP_INFO_EINFO core x = info ∧
      t.fld .SC_CTX_TRAP_TAG_ETAG core x = tag.toNat ∧
      t.fld .SC_CTX_STATUS_LEVEL core x = 1 ∧ t.flag .SC_CTX_STATUS_EXL core x = true ∧
      t.slPc core x = (t.inForce .SC_CORE_CFG_VBAR core 0 * 128 + (if 0x10 ≤ cause then 0x40 else 0)) % 2 ^ 64 ∧
      t.tm = s.tm ∧ t.hbm = s.hbm ∧ (∀ r, t.slG core x r = s.slG core x r)) ∧
    (s.flag .SC_CTX_STATUS_EXL core x = true → s.slTrap core x cause info tag epc = s.slFault core x 0x1E cause)

/-- R118, R336 to R339, R355, R356, R366, R371, R377, R398 to R400: interrupts, alarms, time slices, wakes, answers, completed accesses, a
register parity error, and contexts that software starts, stops and kicks. -/
def Obligations.CoreEvents : Prop :=
  ∀ (s : State) (core x : Nat),
    (∀ k, s.ctxState core x = 1 ∨ s.ctxState core x = 2 → s.flag .SC_CTX_STATUS_EXL core x = false → s.owesAnswer core x = false →
      s.inAccess core x = false → s.irqSource core x = some k → s.waitHeld core x = none →
      exec (.interruptDeliver core x) s =
        .next ((s.dropWait core x).slTrap core x (0x10 + k) 0 0 (s.slPc core x))) ∧
    (∀ k, s.ctxState core x = 3 → s.flag .SC_CTX_STATUS_EXL core x = false → s.owesAnswer core x = false →
      s.inAccess core x = false → s.irqSource core x = some k →
      (s.waitHeld core x = none → exec (.interruptDeliver core x) s =
        .next (((s.dropWait core x).slTrap core x (0x10 + k) 0 0 (s.slPc core x)).makeReady core x)) ∧
      (∀ w, s.waitHeld core x = some w → exec (.interruptDeliver core x) s = .next (s.wake core x w))) ∧
    (s.coreOn core = true → s.fld .SC_CTX_ALARM_AT core x ≠ 0 → s.fld .SC_CTX_ALARM_AT core x ≤ s.now →
      exec (.alarm core x) s = .next ((s.setFld .SC_CTX_ALARM_AT core x 0).raiseIrq core x 1)) ∧
    ((List.range 16).find? (fun x => s.ctxState core x == 2) = some x → (s.nextReady core).isSome = true →
      exec (.timeSliceEnd core) s = .next ((s.setCtxState core x 1).schedule core)) ∧
    (s.coreOn core = true →
      exec (.regParityError core x) s = .next ((s.withSc { s.sc with
        answers := s.sc.answers.filter (fun (a : SlAnswer) => !(a.core == core && a.ctx == x)) }).slFault core x 0x1F 0)) ∧
    (∀ w, s.slWait core x = some w → s.ctxState core x = 3 → s.waitMet w.kind = true →
      exec (.waitWake core x) s = .next ((s.withSc { s.sc with
        waits := s.sc.waits.replace w { w with met := true } }).makeReady core x)) ∧
    (∀ rd a t, t = s.lockAnswer core x rd →
      t.sc.answers.find? (fun (a : SlAnswer) => a.core == core && a.ctx == x && a.rd == rd && a.ready) = some a →
      exec (.unitAnswer core x rd) s = .next ((t.withSc { t.sc with answers := t.sc.answers.erase a }).setSlG core x rd
        ⟨BitVec.ofNat 64 a.code, false⟩)) ∧
    (∀ (w : SlWait) a data out t i, s.sc.waits.find? (fun (w : SlWait) => w.core == core && w.ctx == x && (match w.kind with
        | .access _ => true
        | _ => false)) = some w → w.kind = .access a → s.slAccess core x a data = (out, t) →
      i = ⟨core, x, s.slPc core x, a.rd * 2 ^ 21, 0⟩ →
      (out = .waits → exec (.remoteAccessComplete core x data) s = .next t) ∧
      (∀ ws, out = .ok ws →
        (w.discard = true → exec (.remoteAccessComplete core x data) s =
          .next (t.withSc { t.sc with waits := t.sc.waits.erase w })) ∧
        (w.discard = false → a.store = true → exec (.remoteAccessComplete core x data) s =
          .next (((t.withSc { t.sc with waits := t.sc.waits.erase w }).slNext i).slResume core x)) ∧
        (w.discard = false → a.store = false → exec (.remoteAccessComplete core x data) s =
          .next ((((t.withSc { t.sc with waits := t.sc.waits.erase w }).slLoaded i a.wide a.signed a.addr a.size ws).slNext
            i).slResume core x)))) ∧
    (∀ w off t, s.accepts (wrSet w .SC_CTX_CTL_START 1) .SC_CTX_CTL core x off → getBit w.value 1 = false → getBit w.value 2 = false →
      t = s.stored (wrSet w .SC_CTX_CTL_START 1) .SC_CTX_CTL core x off →
      (t.ctxState core x = 0 → exec (.contextStart w core x) s =
        .next (((t.setFlag .SC_CTX_CTL_START core x false).setFld .SC_CTX_CTL_RESULT core x 0).makeReady core x)) ∧
      (t.ctxState core x = 4 → exec (.contextStart w core x) s =
        .next ((t.setFlag .SC_CTX_CTL_START core x false).setFld .SC_CTX_CTL_RESULT core x 1))) ∧
    (∀ w off t, s.accepts (wrSet w .SC_CTX_CTL_STOP 1) .SC_CTX_CTL core x off → getBit w.value 0 = false → getBit w.value 2 = false →
      t = s.stored (wrSet w .SC_CTX_CTL_STOP 1) .SC_CTX_CTL core x off →
      (t.ctxState core x = 1 ∨ t.ctxState core x = 2 ∨ t.ctxState core x = 3) →
      (t.inAccess core x = false → exec (.contextStop w core x) s =
        .next ((((t.dropWait core x).setCtxState core x 0).setFlag .SC_CTX_CTL_STOP core x false).schedule core)) ∧
      (t.inAccess core x = true → exec (.contextStop w core x) s = .next (t.setFlag .SC_CTX_CTL_STOP core x true))) ∧
    (∀ w off, s.accepts (wrSet w .SC_CTX_CTL_RESET 1) .SC_CTX_CTL core x off → getBit w.value 0 = false → getBit w.value 1 = false →
      exec (.contextReset w core x) s =
        .next ((s.stored (wrSet w .SC_CTX_CTL_RESET 1) .SC_CTX_CTL core x off).ctxReset core x)) ∧
    (∀ w off t, s.accepts (wrSet w .SC_CORE_CTL_RESET 1) .SC_CORE_CTL core 0 off →
      t = s.stored (wrSet w .SC_CORE_CTL_RESET 1) .SC_CORE_CTL core 0 off →
      exec (.coreReset w core) s = .next ((t.each (List.range 16) (fun x u => u.ctxReset core x)).releaseCoreLocks core)) ∧
    (∀ w off t, s.accepts (wrSet w .SC_CTX_KICK_HOST 1) .SC_CTX_KICK core x off →
      t = s.stored (wrSet w .SC_CTX_KICK_HOST 1) .SC_CTX_KICK core x off →
      exec (.hostKick w core x) s =
        .next (t.setFld .SC_CTX_STATUS_PENDING core x (t.fld .SC_CTX_STATUS_PENDING core x ||| 2))) ∧
    (∀ w off, s.accepts (wrSet w .SC_CFG_ERR_VALID 1) .SC_CFG_ERR core 0 off →
      exec (.cfgErrClear w core) s =
        .next ((s.stored (wrSet w .SC_CFG_ERR_VALID 1) .SC_CFG_ERR core 0 off).setReg .SC_CFG_ERR core 0 0)) ∧
    (∀ w off, s.accepts (wrSet w .SC_CNT_CLR_CLEAR 1) .SC_CNT_CLR core 0 off →
      exec (.scCounterClear w core) s =
        .next ((s.stored (wrSet w .SC_CNT_CLR_CLEAR 1) .SC_CNT_CLR core 0 off).resetRegs (keyAt [.SC_CNT, .SC_CNT_WRAPS] core)))

/-! ## Streams -/

/-- R270, R271, R276 to R279, R282, R285, R288, R291: software issues a list, cancels a context and resumes one; an entry is read, a LINK
followed, an entry that breaks a rule held with its fault; a delivered block retires, a list ends, a fault halts the context, and a
cancel completes. -/
def Obligations.StreamCommands : Prop :=
  ∀ (s : State) (e x : Nat),
    (∀ ext early src ws t b, stExists e x = true → s.stMayFetch e x (s.stCtx e x) = true → (s.stCtx e x).next.addr % 32 = 0 →
      badSpace e (s.stVi e x) (s.stCtx e x).next.space = false →
      ((s.stCtx e x).next.space = 1 → (s.stCtx e x).next.addr < 2 ^ 24) →
      s.stEntryRead e x (s.stCtx e x).next 0 ext = (.done ws, t) → b = stDecode (natOfBytes (wordsBytes ws)) → b.kind ≠ 1 →
      (∀ f, stEntryFault e (s.stVi e x) (s.stCtx e x).next ws b (s.stCtx e x).resumeOff = some f →
        exec (.entryFetch e x ext early src) s = .next (t.stAppend e x (s.stCtx e x).next 1 b (some f))) ∧
      (stEntryFault e (s.stVi e x) (s.stCtx e x).next ws b (s.stCtx e x).resumeOff = none →
        (b.kind = 2 → exec (.entryFetch e x ext early src) s = .next (t.setStCtx e x { t.stCtx e x with
          next := b.src, nextIx := (s.stCtx e x).nextIx + 1, fetched := [] })) ∧
        (b.kind ≠ 2 → early = false ∨ b.kind = 3 → exec (.entryFetch e x ext early src) s =
          .next ((t.stAppend e x (s.stCtx e x).next 1 b none).stIssue e x)))) ∧
    (∀ src upset b rest t r, s.stOn e = true → s.stState e x = 1 ∨ s.stState e x = 3 → t = s.stServe e →
      (t.stCtx e x).entries = b :: rest → b.blk.kind ≤ 1 → b.fault = none → b.blk.dst.space ≠ 3 →
      (b.blk.src.space ≠ 3 ∨ (b.stage = 1 ∧ t.stWaiting e x b.seq = false)) → r = t.stRunTo e x b src upset b.blk.total →
      r.fault = none → r.waits = false →
      exec (.blockRetire e x src upset) s = .next ((r.st.stRetire e x b r.wins).stIssue e x)) ∧
    (∀ src upset b rest t, s.stOn e = true → s.stState e x = 1 ∨ s.stState e x = 3 → t = s.stServe e →
      (t.stCtx e x).entries = b :: rest → b.blk.kind ≤ 1 → b.fault = none → b.blk.dst.space = 3 → t.ownHerd b.blk.dst = false →
      b.stage = 2 → t.stWaiting e x b.seq = false →
      exec (.blockRetire e x src upset) s =
        .next (((t.stCount e 1 (b.blk.total - b.start)).stRetire e x b []).stIssue e x)) ∧
    (∀ b rest t, s.stOn e = true → s.stState e x = 1 → (s.stCtx e x).entries = b :: rest → b.blk.kind = 3 →
      b.fault = none →
      t = (if b.blk.sigEn then s.stSignal b.blk.sigCluster b.blk.sigCnt else s) →
      ((s.stCtx e x).lists.drop 1 = [] →
        exec (.listEnd e x) s = .next (((t.setFld .ST_CTX_DONE_FT e x t.now).stClear e x 0).setStState e x 0)) ∧
      (∀ a sp more, (s.stCtx e x).lists.drop 1 = (a, sp) :: more → (s.stCtx e x).reading ≠ 1 →
        exec (.listEnd e x) s = .next (((t.setFld .ST_CTX_DONE_FT e x t.now).setStCtx e x { s.stCtx e x with
          lists := (a, sp) :: more, entries := [], next := ⟨sp, 0, a⟩, nextIx := 0, reading := 0, ended := false }).stIssue
            e x))) ∧
    (∀ outer src upset landed b rest f t, s.stOn e = true → s.stState e x = 1 → t = s.stServe e →
      (t.stCtx e x).entries = b :: rest → b.fault = some f → b.blk.dst.space ≠ 3 ∨ 1 < b.blk.kind →
      (1 < b.blk.kind → exec (.streamHalt e x outer src upset landed) s = .next ((t.stLand e x landed).stHalt e x b f b.start)) ∧
      (b.blk.kind ≤ 1 → f.off ≤ b.done →
        exec (.streamHalt e x outer src upset landed) s = .next ((t.stLand e x landed).stHalt e x b f b.done))) ∧
    (∀ landed, s.stState e x = 3 →
      exec (.cancelComplete e x landed) s = .next (((s.stLand e x landed).stCancelDone e x).stCount e 5 1)) ∧
    (∀ w off t, s.accepts (wrSet w .ST_CMD_ISSUE 1) .ST_CMD e x off → getBit w.value 1 = false → getBit w.value 2 = false →
      t = s.stored (wrSet w .ST_CMD_ISSUE 1) .ST_CMD e x off → t.stMay e x (postVi w.acc) = true →
      ((t.stCtx e x).lists.length < 4 → t.stState e x = 0 →
        exec (.stCmdIssue w e x) s = .next ((((t.setStCtx e x { t.stCtx e x with
          lists := [(t.fld .ST_CMD_LIST_LIST e x, t.fld .ST_CMD_LIST_SPACE e x)]
          entries := [], next := ⟨t.fld .ST_CMD_LIST_SPACE e x, 0, t.fld .ST_CMD_LIST_LIST e x⟩, nextIx := 0, reading := 0
          ended := false, resumeOff := 0, fetched := [], fetchFault := none }).setStState e x 1).setFld .ST_CMD_RESULT e x 0).setFlag
            .ST_CMD_ISSUE e x false)) ∧
      ((t.stCtx e x).lists.length < 4 → t.stState e x ≠ 0 →
        exec (.stCmdIssue w e x) s = .next (((t.setStCtx e x { t.stCtx e x with
          lists := (t.stCtx e x).lists ++ [(t.fld .ST_CMD_LIST_LIST e x, t.fld .ST_CMD_LIST_SPACE e x)] }).setFld
            .ST_CMD_RESULT e x 0).setFlag .ST_CMD_ISSUE e x false)) ∧
      (4 ≤ (t.stCtx e x).lists.length →
        exec (.stCmdIssue w e x) s = .next ((t.setFld .ST_CMD_RESULT e x 1).setFlag .ST_CMD_ISSUE e x false))) ∧
    (∀ w off t, s.accepts (wrSet w .ST_CMD_CANCEL 1) .ST_CMD e x off → getBit w.value 0 = false → getBit w.value 2 = false →
      t = s.stored (wrSet w .ST_CMD_CANCEL 1) .ST_CMD e x off → t.stMay e x (postVi w.acc) = true →
      (t.stState e x = 1 ∨ t.stState e x = 2 → exec (.stCmdCancel w e x) s =
        .next (((((t.stQuiet e x 3).setStCtx e x { (t.stQuiet e x 3).stCtx e x with
          cancelled := ((t.stQuiet e x 3).stCtx e x).lists.length }).setStState e x 3).setFld .ST_CMD_RESULT e x 0).setFlag
            .ST_CMD_ISSUE e x false)) ∧
      (t.stState e x = 0 → exec (.stCmdCancel w e x) s =
        .next ((((t.stCancelDone e x).stCount e 5 1).setFld .ST_CMD_RESULT e x 0).setFlag .ST_CMD_ISSUE e x false))) ∧
    (∀ w off t, s.accepts (wrSet w .ST_CMD_RESUME 1) .ST_CMD e x off → getBit w.value 0 = false → getBit w.value 1 = false →
      t = s.stored (wrSet w .ST_CMD_RESUME 1) .ST_CMD e x off → t.stMay e x (postVi w.acc) = true →
      (t.stState e x = 2 → exec (.stCmdResume w e x) s =
        .next ((((t.setStState e x 1).stCount e 4 1).setFld .ST_CMD_RESULT e x 0).setFlag .ST_CMD_ISSUE e x false)) ∧
      (t.stState e x ≠ 2 → exec (.stCmdResume w e x) s =
        .next ((t.setFld .ST_CMD_RESULT e x 3).setFlag .ST_CMD_ISSUE e x false))) ∧
    (∀ w off, s.accepts (wrSet w .ST_CNT_CLR_CLEAR 1) .ST_CNT_CLR e 0 off →
      exec (.stCounterClear w e) s =
        .next ((s.stored (wrSet w .ST_CNT_CLR_CLEAR 1) .ST_CNT_CLR e 0 off).resetRegs (keyAt [.ST_CNT, .ST_CNT_WRAPS] e)))

/-! ## Engines -/

/-- R303, R306 to R308, R311 to R317: matrix, vector and accumulator operations: the operation at the head of a cluster's queue
runs as its code says on the operands its descriptor names; the accumulators of another VI are cleared first (R317). -/
def Obligations.EngineOperations : Prop :=
  (∀ (s t : State) (c : Nat) (o : EngOp) (upset : List (Nat × Nat)),
     (s.engHead c 0 = some o → mxBad o = none →
       (o.fld 196 1 = 0 → exec (.mxNormal c upset) s = .next (s.mxRun c o upset)) ∧
       (o.fld 196 1 = 1 → exec (.mxExact c upset) s = .next (s.mxRun c o upset))) ∧
     (s.engHead c 1 = some o → vxBad o = none → t = s.vxEnter c o.vi →
       (o.fld 0 8 = 0x01 → exec (.vxAdd c upset) s = .next (t.vxEach c o 2 upset (fun a b _ => (a.add b).toFp32))) ∧
       (o.fld 0 8 = 0x02 → exec (.vxSub c upset) s = .next (t.vxEach c o 2 upset (fun a b _ => (a.add b.neg).toFp32))) ∧
       (o.fld 0 8 = 0x03 → exec (.vxMul c upset) s = .next (t.vxEach c o 2 upset (fun a b _ => (a.mul b).toFp32))) ∧
       (o.fld 0 8 = 0x04 → exec (.vxFma c upset) s = .next (t.vxEach c o 3 upset (fun a b d => ((a.mul b).add d).toFp32))) ∧
       (o.fld 0 8 = 0x05 → exec (.vxMin c upset) s = .next (t.vxEach c o 2 upset (fun a b _ => a.minOf b))) ∧
       (o.fld 0 8 = 0x06 → exec (.vxMax c upset) s = .next (t.vxEach c o 2 upset (fun a b _ => a.maxOf b))) ∧
       (o.fld 0 8 = 0x07 → exec (.vxCmp c upset) s = .next (t.vxCmpRun c o upset)) ∧
       (o.fld 0 8 = 0x08 → exec (.vxSel c upset) s = .next (t.vxSelRun c o upset)) ∧
       (o.fld 0 8 = 0x09 → exec (.vxCvt c upset) s = .next (t.vxEach c o 1 upset (fun a _ _ => a))) ∧
       (o.fld 0 8 = 0x10 → exec (.vxExp c upset) s = .next (t.vxEach c o 1 upset (fun a _ _ => special 0 a))) ∧
       (o.fld 0 8 = 0x11 → exec (.vxLog c upset) s = .next (t.vxEach c o 1 upset (fun a _ _ => special 1 a))) ∧
       (o.fld 0 8 = 0x12 → exec (.vxRcp c upset) s = .next (t.vxEach c o 1 upset (fun a _ _ => special 2 a))) ∧
       (o.fld 0 8 = 0x13 → exec (.vxRsqrt c upset) s = .next (t.vxEach c o 1 upset (fun a _ _ => special 3 a))) ∧
       (o.fld 0 8 = 0x14 → exec (.vxSigmoid c upset) s = .next (t.vxEach c o 1 upset (fun a _ _ => special 4 a))) ∧
       (o.fld 0 8 = 0x15 → exec (.vxTanh c upset) s = .next (t.vxEach c o 1 upset (fun a _ _ => special 5 a))))) ∧
  (∀ (s t : State) (c : Nat) (o : EngOp) (upset : List (Nat × Nat)),
     s.engHead c 1 = some o → vxBad o = none → t = s.vxEnter c o.vi →
       (o.fld 0 8 = 0x20 → exec (.accclr c upset) s = .next (t.accclrRun c o upset)) ∧
       (o.fld 0 8 = 0x21 → exec (.accsum c upset) s = .next (t.accsumRun c o upset)) ∧
       (o.fld 0 8 = 0x22 → exec (.accdot c upset) s = .next (t.accdotRun c o upset)) ∧
       (o.fld 0 8 = 0x23 → exec (.accmerge c upset) s = .next (t.accmergeRun c o upset)) ∧
       (o.fld 0 8 = 0x24 → exec (.accload c upset) s = .next (t.accloadRun c o upset)) ∧
       (o.fld 0 8 = 0x25 → exec (.accstore c upset) s = .next (t.accstoreRun c o upset)) ∧
       (o.fld 0 8 = 0x26 → exec (.accround c upset) s = .next (t.accroundRun c o upset)) ∧
       (o.fld 0 8 = 0x30 → exec (.topk c upset) s = .next (t.topkRun c o upset)))

/-- R303, R318 to R325, R332 to R334: gathers start with their pooling, a row that is looked up and read, one whose channel a mule holds past the
limit, joins its gather, one that is refused ends it; an operation that has run, that breaks a rule or that a control error stopped
completes with its status; and software clears the counters of an engine. -/
def Obligations.GatherAndCompletion : Prop :=
  ∀ (s : State) (c : Nat) (o : EngOp),
    (s.engHead c 2 = some o → gtBad o = none → s.gtRun c = none →
      (o.fld 160 2 = 0 → exec (.gtSum c) s = .next (s.gtBegin c 0 o)) ∧
      (o.fld 160 2 = 1 → exec (.gtMean c) s = .next (s.gtBegin c 1 o)) ∧
      (o.fld 160 2 = 2 → exec (.gtMax c) s = .next (s.gtBegin c 2 o)) ∧
      (o.fld 160 2 = 3 → exec (.gtWsum c) s = .next (s.gtBegin c 3 o))) ∧
    (∀ r pos t upset out dva, s.engHead c 2 = some o → s.gtRun c = some r →
      ((r.want.filter (fun p => !(r.rows.any (fun (q : GtRow) => q.pos == p)))).take
        (max 1 (min 512 (s.inForce .GT_CFG_MAX_OUT c 0)))).contains pos = true →
      dva = nfield r.tab 0 48 + (r.idx.getD pos ⟨0, false⟩).data.toNat * tabRowLen r.tab →
      s.gtReadRow 3 r o.vi (o.fld 166 2) pos dva (tabRowLen r.tab) = (out, t) →
      (out = .waits → exec (.gatherRowArrive c pos upset) s = .next t) ∧
      (∀ w, out = .expired w → exec (.gatherRowArrive c pos upset) s = .next ((t.engCount c 2 1 1).gtAdvance c o { r with
        rows := r.rows ++ [⟨pos, List.replicate (tabRowLen r.tab / 4) w, false⟩] } upset)) ∧
      (∀ code, out = .refused code → exec (.gatherRowArrive c pos upset) s =
        .next ((((t.engCount c 2 1 1).dropUnit (fun (q : PlotReq) => q == PlotReq.gather c)).setGtRun c none).engRan c 2
          (if code = 0xB ∨ code = 0xC then ⟨3, 0, r.poisonOut⟩ else ⟨2, code, r.poisonOut⟩))) ∧
      (∀ ws chk w2, out = .row ws chk → s.gtHit c o.vi r.tab dva (tabRowLen r.tab) = false →
        gtCheck c r.tab pos chk (realign ws (dva % 4) (tabRowLen r.tab)) = (w2, false, false) →
        exec (.gatherRowArrive c pos upset) s = .next ((t.engCount c 2 1 1).gtAdvance c o { r with
          rows := r.rows ++ [⟨pos, w2, false⟩] } upset)) ∧
      (∀ ws chk w2, out = .row ws chk → s.gtHit c o.vi r.tab dva (tabRowLen r.tab) = true →
        gtCheck c r.tab pos chk (realign ws (dva % 4) (tabRowLen r.tab)) = (w2, false, false) →
        exec (.gatherRowArrive c pos upset) s = .next (((t.engCount c 2 1 1).engCount c 2 2 1).gtAdvance c o { r with
          rows := r.rows ++ [⟨pos, w2, false⟩] } upset)) ∧
      (∀ ws chk w2, out = .row ws chk → s.gtHit c o.vi r.tab dva (tabRowLen r.tab) = false →
        gtCheck c r.tab pos chk (realign ws (dva % 4) (tabRowLen r.tab)) = (w2, true, false) →
        exec (.gatherRowArrive c pos upset) s = .next (((t.engCount c 2 3 1).engCount c 2 1 1).gtAdvance c o { r with
          rows := r.rows ++ [⟨pos, w2, false⟩] } upset))) ∧
    (∀ k q d, s.clusterOn c = true → s.engQueue c k = o :: q → o.ending k = some d →
      exec (.engineComplete c k false) s = .next (s.engFinish c k o d)) ∧
    (∀ q, s.clusterOn c = true → s.engQueue c 2 = o :: q →
      exec (.engineComplete c 2 true) s = .next (((s.dropUnit (fun (r : PlotReq) => r == PlotReq.gather c)).setGtRun c none).engFinish
        c 2 o ⟨4, 0, false⟩)) ∧
    (∀ k q, k ≠ 2 → s.clusterOn c = true → s.engQueue c k = o :: q →
      exec (.engineComplete c k true) s = .next (s.engFinish c k o ⟨4, 0, false⟩)) ∧
    (∀ w off, s.accepts (wrSet w .MX_CNT_CLR_CLEAR 1) .MX_CNT_CLR c 0 off → exec (.engineCounterClear w c 0) s =
      .next ((s.stored (wrSet w .MX_CNT_CLR_CLEAR 1) .MX_CNT_CLR c 0 off).resetRegs (keyAt [.MX_CNT, .MX_CNT_WRAPS] c))) ∧
    (∀ w off, s.accepts (wrSet w .VX_CNT_CLR_CLEAR 1) .VX_CNT_CLR c 0 off → exec (.engineCounterClear w c 1) s =
      .next ((s.stored (wrSet w .VX_CNT_CLR_CLEAR 1) .VX_CNT_CLR c 0 off).resetRegs (keyAt [.VX_CNT, .VX_CNT_WRAPS] c))) ∧
    (∀ w off, s.accepts (wrSet w .GT_CNT_CLR_CLEAR 1) .GT_CNT_CLR c 0 off → exec (.engineCounterClear w c 2) s =
      .next ((s.stored (wrSet w .GT_CNT_CLR_CLEAR 1) .GT_CNT_CLR c 0 off).resetRegs (keyAt [.GT_CNT, .GT_CNT_WRAPS] c)))

/-- R305 to R307: the long accumulator does not depend on the order of its terms: offered any two terms, in either order, after
the same earlier ones, it is the same accumulator. -/
def Obligations.AccumulatorOrder : Prop :=
  ∀ (a : LongAcc) (x y : FVal), (a.term x).term y = (a.term y).term x

/-! ## Queues -/

/-- R421, R424 to R426, R428, R430, R431, R433 to R440, R447, R449 to R451, R458 to R461: the commands of the host and of the queue engine;
the aperture reaches device memory as VI0; software enables queues and operators, cancels queues and posts; and resets of virtual
interfaces begin and end. -/
def Obligations.QueueCommands : Prop :=
  (∀ s : State,
     (∀ port, exec (.pcieUnsupportedRequest port) s = .next (s.emit (.unsupported port))) ∧
     (∀ port vi addr len tag t, t = s.withHq { s.hq with
         ats := s.hq.ats.filter (fun x => !(x.1 == port && x.2.1 == vi &&
           decide (addr / 4096 ≤ x.2.2 ∧ x.2.2 * 4096 < addr + len))) } →
       (s.hostReading vi addr len = false → exec (.atsInvalidation port vi addr len tag) s = .next (t.emit (.atsDone port tag))) ∧
       (s.hostReading vi addr len = true → exec (.atsInvalidation port vi addr len tag) s = .next t)) ∧
     (∀ port fn i v tail head, s.fnVi port fn = some v → s.queueLive (1024 * v + i % 1024) = true →
       exec (.doorbell port fn i tail head false) s = .next
         ((s.doorbellHalf v (1024 * v + i % 1024) true tail).doorbellHalf v (1024 * v + i % 1024) false head)) ∧
     (∀ q, s.mayFetch q = true → s.flag .HQ_Q_CFG_SPACE q 0 = false →
       ∃ t : State, exec (.sqFetch q) s = .next t ∧ t.hq.reads = s.hq.reads ++ [⟨q, (s.queue q).next, none⟩] ∧
         t.out = .hostRead (s.queuePort q) ((s.reg .HQ_Q_SQB q 0).toNat / 64 * 64 + 64 * (s.queue q).next) 64 35 :: s.out) ∧
     (∀ q ix data, s.hq.reads.any (fun (r : HqRead) => r.queue == q && r.index == ix && r.data == none) = true →
       exec (.hostReadCompletion q ix data false true) s = .next
         ((s.ringBeats q).readFill q ix ((List.range 16).map (fun i => ⟨(data.getD i ⟨0, false⟩).data, false⟩))) ∧
       exec (.hostReadCompletion q ix data true true) s = .next
         ((s.ringBeats q).readFill q ix (linkWords (queueVi q) (s.queuePort q) 16)) ∧
       (∀ p, exec (.hostReadCompletion q ix data p false) s = .next ((s.freezeQueue q 1).dropStaged q))) ∧
     (∀ q ix, exec (.pcieCompletionTimeout q ix) s = .next (s.readFill q ix (linkWords (queueVi q) (s.queuePort q) 16))) ∧
     (∀ q r l ws, s.readsOf q = r :: l → r.data = some ws → ws.any (fun w => w.poison) = false →
       s.flag .HQ_Q_STATE_FROZEN q 0 = false →
       exec (.entryStaged q) s = .next (s.withHq { s.hq with
         reads := s.hq.reads.erase r
         staged := s.hq.staged ++ [⟨q, r.index, BitVec.ofNat 512 (natOfBytes (wordsBytes ws))⟩] })) ∧
     (∀ q r l ws, s.readsOf q = r :: l → r.data = some ws → ws.any (fun w => w.poison) = true →
       exec (.entryStaged q) s = .next ((s.withHq { s.hq with reads := s.hq.reads.erase r }).addComp ⟨q, r.index, true, 3, none⟩)) ∧
     (∀ die e t, (s.freeSlotIx die).isSome = true → s.pickEntry die = (some e, t) →
       (t.admitAt die e).hq.staged.length ≠ t.hq.staged.length →
       exec (.admission die) s = .next (t.admitAt die e)) ∧
     (∀ slot x, s.hq.slots.find? (fun (x : HqSlot) => x.slot == slot) = some x → x.done = false →
       exec (.slotParityError slot) s = .next (s.slotDone x 7)) ∧
     (∀ q c t k, s.hq.comps.find? (fun (c : HqComp) => c.queue == q) = some c → s.queueLive q = true →
       s.fld .HQ_Q_STATE_ERR q 0 = 0 → s.cqSpace q = true → s.viResetting (queueVi q) = false → s.writeComp c = (true, t) →
       c.slot = some k →
       exec (.completionWrite q false) s = .next ((t.withHq { t.hq with comps := t.hq.comps.erase c }).freeSlot k)) ∧
     (∀ q, s.queueLive q = true → s.hq.resets.any (fun (r : ViReset) => r.vi == queueVi q && r.flr) = false →
       (s.queue q).coal ≠ 0 → (s.queue q).coalFt + s.fld .HQ_Q_CFG_COAL_US q 0 * 1000 ≤ s.now →
       exec (.msixCoalesceTimeout q) s = .next (s.queueIrq q))) ∧
  (∀ s : State,
     (∀ port off len a m t, s.hq.bar2.find? (fun (b : Bar2Acc) => b.port == port && b.off == off && b.write == false && b.len == len) =
         none → a = s.fld .HQ_APERTURE_BASE 0 0 * 2 ^ 21 + off → m = ⟨0x1000, ⟨.bar2 port, 1, 0⟩, none, a, true⟩ →
       (∀ ws, s.physRead m a len = (.done ws, t) → exec (.bar2Access port off false len [] false) s =
         .next ((t.withHq { t.hq with bar2 := t.hq.bar2.filter (fun (b : Bar2Acc) =>
           !(b.port == port && b.off == off && b.write == false && b.len == len)) }).emit (.cpl port ws))) ∧
       (s.physRead m a len = (.waits, t) → t.hq.bar2 = s.hq.bar2 → exec (.bar2Access port off false len [] false) s =
         .next (t.withHq { t.hq with bar2 := t.hq.bar2 ++ [⟨port, off, false, len, a⟩] })) ∧
       (∀ x, s.physRead m a len = (.plotRefused x, t) → exec (.bar2Access port off false len [] false) s =
         .next ((t.withHq { t.hq with bar2 := t.hq.bar2.filter (fun (b : Bar2Acc) =>
           !(b.port == port && b.off == off && b.write == false && b.len == len)) }).emit
             (.cpl port (List.replicate (maskedWords a len []).length ⟨0, false⟩))))) ∧
     (∀ port off len data a m t, s.hq.bar2.find? (fun (b : Bar2Acc) => b.port == port && b.off == off && b.write == true && b.len == len) =
         none → a = s.fld .HQ_APERTURE_BASE 0 0 * 2 ^ 21 + off → m = ⟨0x1000, ⟨.bar2 port, 1, 0⟩, none, a, true⟩ →
       (∀ ws, s.physWrite m a len 1 data false = (.done ws, t) → exec (.bar2Access port off true len data false) s =
         .next (t.withHq { t.hq with bar2 := t.hq.bar2.filter (fun (b : Bar2Acc) =>
           !(b.port == port && b.off == off && b.write == true && b.len == len)) })) ∧
       (∀ ws, s.physWrite m a len 1 (linkWords 0 port (maskedWords a len []).length) false = (.done ws, t) →
         exec (.bar2Access port off true len data true) s =
         .next (t.withHq { t.hq with bar2 := t.hq.bar2.filter (fun (b : Bar2Acc) =>
           !(b.port == port && b.off == off && b.write == true && b.len == len)) }))) ∧
     (∀ v r, s.hq.resets.find? (fun (r : ViReset) => r.vi == v) = some r → s.lcSweeping v = false →
       s.tm.blanks.any (fun (x : Nat × Nat) => s.fld .WN_CTL_OWNER_VI x.1 x.2 == v) = false →
       r.flr = false ∨ s.perstLow (s.viPort v) = false → exec (.viResetDone v) s = .next (s.viResetEnd r)) ∧
     (∀ port, s.fnVi port 0 = some 0 → exec (.flr port 0) s = .next (s.pfReset port)) ∧
     (∀ port fn v, fn ≠ 0 → s.fnVi port fn = some v → exec (.flr port fn) s = .next (s.viReset v false true)) ∧
     (∀ port, nbit s.power.links port = true →
       exec (.pcieLinkLoss port) s = .next (((s.withPower { s.power with links := s.power.links - 2 ^ port }).pfReset
         port).auditEvent 4 port))) ∧
  (∀ (s t : State) (w : Wr) (off : Nat),
     (∀ q, s.accepts (wrSet w .HQ_Q_CFG_ENABLE 1) .HQ_Q_CFG q 0 off → s.flag .HQ_Q_CFG_ENABLE q 0 = false →
       exec (.queueEnable w q) s = .next ((s.stored (wrSet w .HQ_Q_CFG_ENABLE 1) .HQ_Q_CFG q 0 off).queueEnable q)) ∧
     (∀ v o, s.accepts (wrSet w .HQ_OP_EN 1) .HQ_OP v o off → s.flag .HQ_OP_EN v o = false →
       t = s.stored (wrSet w .HQ_OP_EN 1) .HQ_OP v o off →
       exec (.operatorEnable w v o) s = .next (t.withHq { t.hq with opCount := sset (fun _ => 0) t.hq.opCount (v * 64 + o) 0 })) ∧
     (∀ q, s.accepts (wrSet w .HQ_Q_CTL_CANCEL 1) .HQ_Q_CTL q 0 off → t = s.stored (wrSet w .HQ_Q_CTL_CANCEL 1) .HQ_Q_CTL q 0 off →
       t.queueLive q = true → t.stagedOf q = [] →
       exec (.queueCancel w q) s = .next ((t.setFlag .HQ_Q_STATE_FROZEN q 0 true).withHq { (t.setFlag .HQ_Q_STATE_FROZEN q 0 true).hq with
         staged := (t.setFlag .HQ_Q_STATE_FROZEN q 0 true).hq.staged.filter (fun (e : HqStaged) => e.queue != q) })) ∧
     (s.accepts (wrSet w .HQ_VI_RESET_GO 1) .HQ_VI_RESET 0 0 off → s.flag .HQ_VI_RESET_GO 0 0 = false →
       t = s.stored (wrSet w .HQ_VI_RESET_GO 1) .HQ_VI_RESET 0 0 off →
       exec (.viReset w) s = .next ((t.setFlag .HQ_VI_RESET_GO 0 0 true).viReset (t.fld .HQ_VI_RESET_VI 0 0)
         (t.flag .HQ_VI_RESET_FLUSH_CQ 0 0) false)) ∧
     (∀ x, s.accepts w .HQ_POST_HQ 0 0 off → t = s.stored w .HQ_POST_HQ 0 0 off →
       t.hq.slots.find? (fun (x : HqSlot) => x.slot == getBits w.value 0 16) = some x → x.done = false →
       x.seq = getBits w.value 32 32 → (postVi w.acc = x.vi ∨ postVi w.acc = 0) → t.viResetting x.vi = false →
       (exec (.hqPost w none true) s = .next ((t.bite (x.slot / 16384) 4).slotDone x 3)) ∧
       (getBits w.value 16 8 ≠ 0 → postable (getBits w.value 16 8) = true →
         exec (.hqPost w none false) s = .next (t.slotDone x (getBits w.value 16 8))) ∧
       (getBits w.value 16 8 = 0 → x.deadline = 0 ∨ t.now ≤ x.deadline →
         exec (.hqPost w none false) s =
           .next ((t.serviceEstimate x.vi x.op (t.now - x.admitAt) x.r).slotDone x 0))) ∧
     (∀ c, s.accepts w .HQ_POST c 0 off → t = s.stored w .HQ_POST c 0 off →
       t.hq.slots.find? (fun (x : HqSlot) => x.slot == getBits w.value 0 16) = none →
       exec (.hqPost w (some c) false) s = .next (t.viCount (postVi w.acc) 3)))

/-! ## Power domains -/

/-- R61, R84, R115, R148, R183, R208, R203: domains go off and wake, clears end, stacks are initialised, periods of the activation
budget start, and accesses held too long complete. -/
def Obligations.DomainCommands : Prop :=
  ∀ s : State,
    (∀ c, s.mainsOn = true → s.clusterOn c = false → s.clusterRetired c = false →
      exec (.clusterDomainWake c) s = .next ((((s.withPower { s.power with
        clusters := addBit s.power.clusters c }).resetRegs (keyAt (domRegs .cluster) c)).setFlag .TM_STATUS_CLEARING c 0
          true).traceWake c 1)) ∧
    (∀ c, s.clusterOn c = true → s.flag .TM_STATUS_CLEARING c 0 = true →
      exec (.tmClearDone c true) s = .next (((((s.selfTest (dieOf c) (c + 1) true).setFlag .TM_STATUS_CLEARING c 0 false).setFlag
        .TM_STATUS_CLEAR_DONE c 0 true).serveHeld c).splitRetry (dieOf c))) ∧
    (∀ c, s.clusterOn c = true → s.flag .TM_STATUS_CLEARING c 0 = true →
      exec (.tmClearDone c false) s = .next ((s.selfTest (dieOf c) (c + 1) false).clusterDrop c)) ∧
    (∀ c, s.clusterOn c = true → s.tm.issues.any (fun (x : TmIssue) => x.c == c && x.write) = false →
      exec (.clusterDomainOff c) s = .next ((s.fencePorts c (List.range 9)).clusterDrop c)) ∧
    (∀ d fail, s.mainsOn = true → s.spineOn d = false →
      exec (.spineDomainWake d fail) s = .next ((((((s.withPower { s.power with
        spines := addBit s.power.spines d }).wakeLocks d).traceReset d).each (List.range 32) (fun i t =>
          t.selfTest d (19 + i) (!(nbit fail i))))).each (List.range 32) (fun i t =>
            if nbit fail i ∨ nbit (t.fld .SV_RETIRED_SLICES_SLICES 0 0) (32 * d + i) then t
            else t.lcService (32 * d + i) true))) ∧
    (∀ d, s.spineOn d = true → exec (.spineDomainOff d) s = .next (s.spineDrop d)) ∧
    (∀ k ok test, nbit s.power.stackBits k = false → s.mainsOn = true → s.stackPresent k = true →
      exec (.stackInit k ok test) s =
        .next ((if ok then s.selfTest (k / 4) (51 + k % 4) test else s).stackUp k (ok && test))) ∧
    (∀ n, n = s.now / 1000 - s.mule.period → n ≠ 0 → s.mule.since = [] →
      exec .budgetPeriod s = .next ((s.withMule { s.mule with
        period := s.now / 1000
        used := (s.mule.used.map (fun e => (e.1, e.2 - n * muAllowance (s.stackLevel (e.1 / 64))))).filter (fun e => e.2 != 0)
        since := [] }).throttle 8 false)) ∧
    (∀ g a t, s.hbm.accs.find? (fun (a : SectorAcc) =>
        !a.own && a.group == g && a.held && decide (s.holdLimit (plotStack a.plot) < s.now - a.arrived)) = some a →
      t = ((s.withHbm { s.hbm with accs := s.hbm.accs.filter (fun (b : SectorAcc) => b.own || b.group != g) }).countExpiry
        (plotStack a.plot)).zeroHerd →
      (∀ c, a.req = .trace c → exec (.holdExpiry g) s = .next (t.traceLost c)) ∧
      (∀ port, a.req = .bar2 port → a.write = true → exec (.holdExpiry g) s = .next t) ∧
      (∀ port, a.req = .bar2 port → a.write = false → exec (.holdExpiry g) s = .next (t.emit (.cpl port
        (List.replicate (8 * (s.hbm.accs.filter (fun (b : SectorAcc) => !b.own && b.group == g)).length)
          (poisoned .channelBusy (originBusy (plotStack a.plot) a.pc)))))))

/-! ## Power -/

/-- R504, R506 to R513, R529, R530: windows, calibration periods, steps and their timeouts, rail limits, and parity errors of the
activity counters. -/
def Obligations.PowerCommands : Prop :=
  ∀ s : State,
    (∀ mx tm vx mem io, s.flag .PM_STATUS_RUNNING 0 0 = true → s.fwDown = false →
      exec (.estimateWindow mx tm vx mem io) s = .next (s.windowEnd mx tm vx mem io)) ∧
    (∀ g up, (s.pmG g).step = some up → exec (.dvfsStepComplete g true) s = .next (s.endStep g).reasons) ∧
    (∀ g, (s.pmG g).step = some true → (s.pmG g).half = false →
      exec (.dvfsStepComplete g false) s =
        .next ((s.setPmG g { s.pmG g with half := true }).setFlag .PM_GROUP_STEPPING g 0 false)) ∧
    (∀ g, (s.pmG g).step = some false → (s.pmG g).half = false →
      exec (.dvfsStepComplete g false) s = .next ((s.setPmG g { s.pmG g with half := true }).setFld .PM_GROUP_CUR_OP g 0
        (s.fld .PM_GROUP_TARGET_OP g 0)).reasons) ∧
    (∀ g, (s.pmG g).step = some false →
      exec (.regulatorTimeout g) s = .next ((s.endStep g).setFlag .PM_EVENT_REG_TIMEOUT 0 0 true).reasons) ∧
    (∀ input rails, s.flag .PM_STATUS_RUNNING 0 0 = true → s.fwDown = false → input.length = 50 → rails.length = 10 →
      rails.any (fun l => l.length != 50) = false →
      exec (.calibrationPeriod input rails false) s = .next (s.calibrate input rails)) ∧
    (∀ input rails, s.flag .PM_STATUS_RUNNING 0 0 = true → s.fwDown = false →
      exec (.calibrationPeriod input rails true) s = .next s.calSkip.clearSums.reasons) ∧
    (∀ r mean, s.power.rails = true → s.fld .PM_RAIL_ILIMIT r 0 < mean →
      exec (.railLimitWindow r mean) s = .next ((s.setFld .PM_RAIL_WIN_I_WIN r 0 mean).setFld .PM_RAIL_WIN_DUTY r 0
        (max (if r < 6 then 1 else 2) (s.fld .PM_RAIL_WIN_DUTY r 0 - 1))).reasons) ∧
    (∀ g, s.flag .PM_STATUS_RUNNING 0 0 = true →
      exec (.activityParityError g) s =
        .next ((s.setPmG g { s.pmG g with parity := true }).setFlag .PM_EVENT_CAL_FAIL 0 0 true)) ∧
    (∀ w off t, s.accepts (wrSet w .PM_CTL_START 1) .PM_CTL 0 0 off → t = s.stored (wrSet w .PM_CTL_START 1) .PM_CTL 0 0 off →
      (t.flag .PM_STATUS_RUNNING 0 0 = false → (∀ g, g < 3 → t.vfFail g = none) →
        exec (.pmStart w) s = .next ((((t.each (List.range 3) (fun g u => u.setPmG g { u.pmG g with vfMax := 15 })).setFlag
          .PM_STATUS_SPLIT_BAD 0 0 (((List.range 5).map (fun g => getBits (t.reg .PM_SPLIT 0 0) (8 * g) 8)).foldl (· + ·) 0 !=
            100)).setFlag .PM_STATUS_RUNNING 0 0 true).reasons)) ∧
      (t.flag .PM_STATUS_RUNNING 0 0 = false → (∃ g, g < 3 ∧ t.vfFail g = some 0) →
        exec (.pmStart w) s = .next (t.setFlag .PM_EVENT_VF_BAD 0 0 true)))

/-- R508, R514, R533: the target of a DVFS group at a window end: never above its wanted point; over its share one point lower at
least; a rise is one point, and only where the predicted estimate fits the share less the margin, in a clean window. -/
def Obligations.PointDecision : Prop :=
  ∀ (s : State) (g : Nat) (est : Rat) (t : Nat) (held : Bool), s.decide508 g est = (t, held) →
    t ≤ s.wanted g ∧ t ≤ s.fld .PM_GROUP_CUR_OP g 0 + 1 ∧
    (s.shareOf g < est → (s.pmG g).parity = false → t ≤ s.fld .PM_GROUP_CUR_OP g 0 - 1 ∧ held = true) ∧
    (s.fld .PM_GROUP_CUR_OP g 0 < t →
      est * s.riseFactor g (s.fld .PM_GROUP_CUR_OP g 0) ≤
        s.shareOf g * (1 - ((s.fld .PM_CFG_HYST 0 0 : Nat) : Rat) / 100) ∧
      (s.pmG g).busy = false ∧ (s.pmG g).noUpTill ≤ s.now ∧ s.pm.soft = false) ∧
    (s.pm.soft = true → 4 * s.softTj ≤ s.hottestCore → t ≤ s.fld .PM_GROUP_CUR_OP g 0 - 1)

/-! ## Heat, trips, alerts and hold-up -/

/-- R532, R533, R535 to R542, R549, R550, R624: sensors, alerts and their holds, and the hold-up store; after a trip and after
a loss of power the main rails and every clock but SVCK and FTCK are off; the trip latches, and the loss starts the save. -/
def Obligations.HeatTripAndPowerLoss : Prop :=
  (∀ s : State, s.power.svcOn = true →
     (∀ i temp, i < 22 → exec (.sensorSample i temp) s =
       .next ((s.setFld .TH_SENSOR_TEMP i 0 temp).setFlag .TH_SENSOR_VALID i 0 (s.sensorOn i))) ∧
     (∀ k temp, s.sensorOn (22 + k) = true → exec (.sensorSample (22 + k) temp) s =
       .next (((s.setFld .TH_SENSOR_TEMP (22 + k) 0 temp).setFlag .TH_SENSOR_VALID (22 + k) 0 true).stackHeat k)) ∧
     (∀ i, i < 22 → s.sensorOn i = true → exec (.sensorBad i) s =
       .next ((s.setFlag .TH_SENSOR_BAD i 0 true).setFlag .TH_EVENT_SENSOR_BAD 0 0 true)) ∧
     (s.power.tripped = true → s.pins.thermtrip = true →
       exec .railStuck s = .next (s.setFlag .TH_EVENT_RAIL_STUCK 0 0 true)) ∧
     (∀ rail, s.pins.regAlert = false → exec (.regAlert rail) s =
       .next ((((s.withPins { s.pins with regAlert := true }).setFlag .TH_ALERT_REG 0 0 true).setFld .TH_ALERT_RAIL 0 0
         rail).alert 0)) ∧
     (s.pins.extAlert = false → exec .extAlert s =
       .next (((s.withPins { s.pins with extAlert := true }).setFlag .TH_ALERT_EXT 0 0 true).alert 1)) ∧
     (s.pins.regAlert = true → exec .regAlertRelease s =
       .next (((s.withPins { s.pins with regAlert := false }).setFlag .TH_ALERT_REG 0 0 false).alertHold 0)) ∧
     (s.pins.extAlert = true → exec .extAlertRelease s =
       .next (((s.withPins { s.pins with extAlert := false }).setFlag .TH_ALERT_EXT 0 0 false).alertHold 1)) ∧
     (∀ n h, s.pm.holds = [(n, h)] → h ≤ s.now → s.pins.regAlert = false → s.pins.extAlert = false →
       exec (.alertHoldEnd n) s = .next ((((s.withPm { s.pm with holds := [] }).throttle (5 + n) false).setFlag
         .TH_ALERT_HOLD 0 0 (((s.withPm { s.pm with holds := [] }).throttle (5 + n) false).pins.regAlert ||
           ((s.withPm { s.pm with holds := [] }).throttle (5 + n) false).pins.extAlert ||
           ((s.withPm { s.pm with holds := [] }).throttle (5 + n) false).pm.holds.length != 0)).reasons)) ∧
     (∀ volt soc ch, exec (.huReady volt soc ch) s = .next
       ((((s.setFld .TH_HU_STATUS_VOLT 0 0 volt).setFld .TH_HU_STATUS_SOC 0 0 soc).setFlag .TH_HU_STATUS_CHARGING 0 0 ch).setFlag
         .TH_HU_STATUS_READY 0 0 (decide (10 * (((s.setFld .TH_HU_STATUS_VOLT 0 0 volt).setFld .TH_HU_STATUS_SOC 0 0 soc).setFlag
           .TH_HU_STATUS_CHARGING 0 0 ch).readyV ≤ volt)))) ∧
     (s.fld .TH_HU_STATUS_SOC 0 0 < 56 → s.flag .TH_HU_STATUS_READY 0 0 = true → exec .gaugeDisagree s =
       .next ((s.setFlag .TH_HU_STATUS_GAUGE_DISAGREE 0 0 true).setFlag .TH_EVENT_GAUGE_DISAGREE 0 0 true)) ∧
     (4750 ≤ s.fld .TH_HU_STATUS_VOLT 0 0 → exec .gaugeRezero s =
       .next (((s.setFld .TH_HU_STATUS_SOC 0 0 100).setFlag .TH_HU_STATUS_GAUGE_DISAGREE 0 0 false).satInc
         .TH_HU_STATUS_REZEROS 0 0 1)) ∧
     (s.flag .TH_HU_STATUS_READY 0 0 = false → exec .huFault s = .next (s.setFlag .TH_EVENT_HU_FAULT 0 0 true))) ∧
  (∀ s : State, s.power.svcOn = true →
     (∀ i temp, s.power.tripped = false → s.power.rails = true → s.sensorOn i = true → s.flag .TH_SENSOR_BAD i 0 = false →
       460 ≤ temp → ∃ t : State, exec (.thermalTrip i temp) s = .next t ∧ t.power.tripped = true ∧ t.power.tripFt = s.now ∧
         t.pins.thermtrip = true ∧ t.power.rails = false ∧ t.power.clocks = false ∧ t.pins.pwrGood = false) ∧
     (s.power.saving = false → ∃ t : State, exec .powerLoss s = .next t ∧ exec .inputOvervoltage s = .next t ∧
       t.power.saving = true ∧ t.pins.p54 = false ∧ t.power.rails = false ∧ t.power.clocks = false) ∧
     (s.power.saving = true → ∃ t : State, exec (.shutdownSaveDone true 0) s = .next t ∧ t.power.svcOn = false ∧
       t.tm.words = [] ∧ t.hbm.sectors = [] ∧ t.svc.nest = []))

/-! ## The service domain -/

/-- R554, R561, R564, R566, R567, R570, R571: the watchdog, a tamper event, the end of a wipe, mirrored and exported audit entries, and
firmware loads and their verification. -/
def Obligations.ServiceEvents : Prop :=
  ∀ s : State, s.power.svcOn = true →
    exec .watchdogRestart s = .next (((s.satInc .SV_SVC_STATUS_RESTARTS 0 0 1).auditEvent 2 0).fwStop 5000000 false) ∧
    exec .tamper s = .next ((s.withPins { s.pins with tamper := true }).nestWipe 1 true) ∧
    (∀ erase, s.svc.wipe = some erase → s.svc.openAfter = false →
      exec .nestWipeDone s = .next ((s.setFlag .NS_STATUS_WIPING 0 0 false).withSvc
        { (s.setFlag .NS_STATUS_WIPING 0 0 false).svc with
          wipe := none
          openAfter := false
          ownerRec := if erase then none else (s.setFlag .NS_STATUS_WIPING 0 0 false).svc.ownerRec }).nestRestore) ∧
    (s.fwDown = false → s.audit.mirrored < s.fld .AU_SEQ_SEQ 0 0 →
      exec (.auditMirror false) s = .next (s.withAudit (s.audit.mirrorTo (s.audit.mirrored + 1)))) ∧
    (∀ t es, s.flag .AU_EXPORT_DEST_EN 0 0 = true → s.fwDown = false → s.audit.pushed < s.audit.mirrored → s.audit.flight.length < 64 →
      es = (rangeFrom (s.audit.pushed + 1) (min 3 (s.audit.mirrored - s.audit.pushed))).filterMap s.auditEntry →
      s.msgToShepherd (s.fld .AU_EXPORT_DEST_CORE 0 0) (s.fld .AU_EXPORT_DEST_CONTEXT 0 0)
        (bytesOf 8 (2 + 256 * es.length) ++ es.flatMap AuditEntry.all) = (true, t) →
      exec .auditExportPush s = .next (t.withAudit { t.audit with
        pushed := t.audit.pushed + min 3 (s.audit.mirrored - s.audit.pushed)
        flight := t.audit.flight ++ [t.audit.pushed + min 3 (s.audit.mirrored - s.audit.pushed)] })) ∧
    (∀ l ver b t, s.svc.load = some l → l.mctp = false → s.svcRead l.addr l.len = (.bytes b, t) →
      exec (.fwLoadDone false ver) s = .next (((((t.fwStaged l.image b ver).withSvc
        { (t.fwStaged l.image b ver).svc with load := none }).setFld .SV_FW_LEN_RESULT 0 0 0).setFlag .SV_FW_LEN_GO 0 0 false))) ∧
    (∀ l ver t, s.svc.load = some l → l.mctp = false → s.svcRead l.addr l.len = (.waits, t) →
      exec (.fwLoadDone false ver) s = .next t) ∧
    (∀ i, s.fld (fwState i) 0 0 = 3 →
      exec (.fwVerifyDone i true) s = .next ((s.setFld (fwState i) 0 0 4).withSvc
        { (s.setFld (fwState i) 0 0 4).svc with bank := some i }) ∧
      exec (.fwVerifyDone i false) s = .next (s.setFld (fwState i) 0 0 5))

/-- R505, R554, R558, R567, R570, R573 to R577, R580: the commands of the BMC over the SPI mailbox and MCTP, and over JTAG; while the service firmware does not run an MCTP
request is answered BUSY, and an unlock that meets a handover is kept for after it. -/
def Obligations.ManagementCommands : Prop :=
  ∀ s : State, s.power.svcOn = true →
    (∀ jtag token, s.fwDown = true → jtag = true ∨ s.svc.handover = true →
      exec (.debugUnlock jtag token) s = .next (s.withSvc { s.svc with unlocks := s.svc.unlocks ++ [(jtag, token)] })) ∧
    (s.fwDown = true → exec .getIdentity s = .next (s.emit (.mctp 4 []))) ∧
    (∀ token ok t, s.fwDown = false → s.debugUnlock (accBmc s) token = (ok, t) →
      exec (.debugUnlock false token) s = .next (t.emit (.mctp (if ok then 0 else 3) []))) ∧
    (∀ token ok t, s.fwDown = false → s.debugUnlock (accService s) token = (ok, t) →
      exec (.debugUnlock true token) s = .next (t.withPower { t.power with tapReset := false })) ∧
    (∀ addr n coll b t, s.spiWords addr coll (List.range n) = (b, t) →
      exec (.spiRead addr n coll) s = .next ((t.mbxCollide addr coll).emit (.spi b))) ∧
    (∀ addr words coll, exec (.spiWrite addr words coll) s =
      .next ((s.each words.zipIdx (fun e t => t.setMbx (addr / 4 + e.2) e.1)).mbxCollide addr coll)) ∧
    exec .spiStatus s = .next (s.emit (.spi [BitVec.ofNat 8
      (s.fld .MB_STATUS_DEV_DB 0 0 + 2 * s.fld .MB_STATUS_BMC_DB 0 0 + 4 * b2n s.romMode)])) ∧
    (∀ b, exec (.spiRing b) s = .next (s.setFlag .MB_STATUS_DEV_DB 0 0 true)) ∧
    (∀ eid c t, s.fwDown = false → (s.withSvc { s.svc with eid := eid }).free 8 = (c, t) →
      exec (.mctpControl 1 eid) s = .next (t.emit (.mctp c []))) ∧
    (s.fwDown = false → exec .getIdentity s = .next (s.emit (.mctp 0
      ([RegId.SV_ID, .SV_ASSEMBLY, .HD_SELF, .SV_FW_STATUS, .LF_STATUS].flatMap s.regBytes)))) ∧
    (s.fwDown = false → exec .getTelemetry s = .next (s.emit (.mctp 0 (s.regBytes .PM_POWER ++ bytesOf 2 s.power.thrActive ++
      bytesOf 2 (s.hottestOf (List.range 30)) ++ s.regBytes .TH_HU_STATUS)))) ∧
    (∀ watts i t, s.fwDown = false → s.commitStroke (accService s)
        { time := s.now + 4, arg := watts, action := 6, slot := 0xFF, lateOk := true, replace := false, cancel := false } =
        (0, i, t) →
      exec (.setPowerLimit watts) s = .next (t.emit (.mctp 0 []))) ∧
    (∀ seq n, s.fwDown = false → n ≤ 15 → exec (.readAudit seq n) s =
      .next (s.emit (.mctp 0 (((rangeFrom seq n).filterMap s.auditEntry).flatMap AuditEntry.all)))) ∧
    (∀ seq, s.fwDown = false → exec (.ackAudit seq) s = .next ((s.auditAck seq).emit (.mctp 0 []))) ∧
    (∀ image chunk, s.fwDown = false → chunk.length ≤ 960 → s.fwRefusal image true = 0 →
      exec (.fwStage image 0 chunk) s = .next ((((s.setFwImage image chunk).setFld (fwState image) 0 0 1).withSvc
        { ((s.setFwImage image chunk).setFld (fwState image) 0 0 1).svc with load := some ⟨image, true, 0, 0⟩ }).emit
          (.mctp 0 []))) ∧
    (s.fwDown = false → exec .fwStatus s = .next (s.emit (.mctp 0 (s.regBytes .SV_FW_STATUS)))) ∧
    (∀ b t, s.fwDown = false → s.freshNonce = (b, t) → exec .getChallenge s = .next (t.emit (.mctp 0 b))) ∧
    (∀ target auth r t, s.fwDown = false → s.lifeRequest (accBmc s) target auth = (r, t) →
      exec (.lfRequest target auth) s = .next (t.emit (.mctp (if r = 0 then 0 else 3) [BitVec.ofNat 8 r])))

/-- R579, R567, R568: an acknowledgement moves AU_ACKED up to the number it names, and one below it or above AU_SEQ changes
nothing. -/
def Obligations.AuditAcknowledgement : Prop :=
  ∀ (s : State) (seq : Nat), seq < 2 ^ 64 →
    (s.fld .AU_ACKED_SEQ 0 0 ≤ seq → seq ≤ s.fld .AU_SEQ_SEQ 0 0 → (s.auditAck seq).fld .AU_ACKED_SEQ 0 0 = seq) ∧
    (seq < s.fld .AU_ACKED_SEQ 0 0 ∨ s.fld .AU_SEQ_SEQ 0 0 < seq → s.auditAck seq = s) ∧
    (s.auditAck seq).fld .AU_SEQ_SEQ 0 0 = s.fld .AU_SEQ_SEQ 0 0 ∧ (s.auditAck seq).audit.entries = s.audit.entries

/-! ## Spares, boot and resets -/

/-- R584 to R588, R605: a prepared spare, the switch of a migration, and one that a control fault in the spare abandons. -/
def Obligations.SpareCommands : Prop :=
  ∀ (s : State) (d : Nat),
    (s.spareState d = 2 → exec (.sparePrepared d true) s =
      .next (((s.clearDone (s.sparePhys d) true).setFld .SV_SPARE_STATUS_STATE d 0 3).spareResult d 0)) ∧
    (s.spareState d = 2 → exec (.sparePrepared d false) s =
      .next (((((s.selfTest d (s.sparePhys d + 1) false).retireCluster (s.sparePhys d)).setFld .SV_SPARE_STATUS_STATE d 0
        0).rasEvent 3 (s.sparePhys d) 0).spareResult d 4)) ∧
    (s.spareState d = 4 →
      s.tm.fab.any (fun (a : FabAcc) => a.c == s.physCluster (sget (fun _ => 0) s.ras.moving d - 1)) = false →
      s.tm.blanks.any (fun b => b.1 == s.physCluster (sget (fun _ => 0) s.ras.moving d - 1)) = false →
      ∃ t : State, exec (.migrateSwitch d false) s = .next t ∧ t.fld .SV_SPARE_STATUS_STATE d 0 = 0 ∧
        t.fld .SV_SPARE_CMD_RESULT d 0 = 0 ∧ t.flag .SV_SPARE_CMD_GO d 0 = false) ∧
    (s.spareState d = 4 → ∃ t : State, exec (.migrateSwitch d true) s = .next t ∧ t.fld .SV_SPARE_STATUS_STATE d 0 = 0 ∧
        t.fld .SV_SPARE_CMD_RESULT d 0 = 6 ∧ t.flag .SV_SPARE_CMD_GO d 0 = false)

/-- R536, R542, R626 to R632, R643, R648: power on, resets, the boot, and the main rails and PCIe links; a boot stage that
succeeds is followed by the next, one that fails stops the boot with its code and leaves the main rails off. -/
def Obligations.BootCommands : Prop :=
  (∀ s : State,
     (∀ addr, s.power.svcOn = false → exec (.svcPowerOn addr) s = .next
       ((((((s.svcReset false).setFld .SV_STRAPS_ADDR_SEL 0 0 addr).setFld .SV_STRAPS_SMB_ADDR 0 0 (0x58 + addr % 8)).withPower
         { (((s.svcReset false).setFld .SV_STRAPS_ADDR_SEL 0 0 addr).setFld .SV_STRAPS_SMB_ADDR 0 0 (0x58 + addr % 8)).power with
           svcOn := true }).withPins
         { (((s.svcReset false).setFld .SV_STRAPS_ADDR_SEL 0 0 addr).setFld .SV_STRAPS_SMB_ADDR 0 0 (0x58 + addr % 8)).pins with
           p54 := true }).setFlag .TH_HU_STATUS_CHARGING 0 0 true).svcStart) ∧
     (s.power.svcOn = true → s.power.saving = false → s.power.tripped = false →
       exec .moduleColdReset s = .next s.coldReset) ∧
     (s.power.saving = true → exec .moduleColdReset s = .next s) ∧
     (s.coldReset.now = 0 ∧ s.coldReset.fld .FT_STATUS_STATE 0 0 = 0 ∧
       (∀ k, k < 256 → s.coldReset.fld .FT_STK_STATE_STATE k 0 = 0) ∧
       s.coldReset.power.rails = false ∧ s.coldReset.ras.fuses = s.ras.fuses) ∧
     (s.power.svcOn = true → s.power.saving = false → s.power.tripped = true → s.now < s.coolEnd →
       exec .moduleColdReset s = .next ((s.withPower { s.power with coldHeld := true }).setStage 12)) ∧
     (s.power.coldHeld = true → s.power.saving = false → s.coolEnd ≤ s.now → exec .tripHoldEnd s = .next s.coldReset) ∧
     (s.power.svcOn = true → exec .rejectedResetPulse s = .next (s.satInc .SV_RESET_CAUSE_SHORT 0 0 1)) ∧
     exec .tapReset s = .next (s.withPower { s.power with tapReset := true }) ∧
     (∀ b n, s.power.svcOn = true → s.power.saving = false → s.power.tripped = false →
       exec (.bootSequence b n) s = .next (s.bootRun b n)) ∧
     (∀ b n, s.power.svcOn = true → s.bootStage = 6 → s.bootResult = 5 → s.pins.pwrEn = true → s.power.tripped = false →
       exec (.thermalHoldRetry b n) s = .next (((s.setStage 4).bootFail 0).bootRun b n)) ∧
     (∀ b n, s.pins.pwrEn = false → s.power.svcOn = true → s.bootStage = 3 → s.power.saving = false →
       s.power.tripped = false →
       exec (.pwrEnRise b n) s = .next ((((s.withPins { s.pins with pwrEn := true }).setFlag .SV_RESET_CAUSE_PWR_EN_CYCLE 0 0
         (decide ((s.withPins { s.pins with pwrEn := true }).fld .SV_BOOT_ATTEMPTS 0 0 ≠ 0))).bootFail 0).bootRun b n)) ∧
     (s.pins.pwrEn = true → s.power.svcOn = true →
       exec .pwrEnFall s = .next (s.withPins { s.pins with pwrEn := false }).mainsDown) ∧
     (s.bootStage = 4 → s.bootResult = 0 → exec .railFault s = .next (s.railsDown.bootFail 3)) ∧
     (∀ e, s.power.rails = true → e < s.ioDies → exec (.pcieConventionalReset e) s = .next
       (((s.setPerst e true).withPower { (s.setPerst e true).power with
         links := dropBit (s.setPerst e true).power.links e }).pfReset e)) ∧
     (∀ e, s.power.rails = true → e < s.ioDies → exec (.pcieLinkTrain e) s = .next
       ((s.setPerst e false).withPower { (s.setPerst e false).power with
         links := addBit (s.setPerst e false).power.links e }))) ∧
  (∀ (s : State) (b : BootIn), s.bootResult = 0 →
     (s.bootStage = 4 → b.rails = true → ∃ t : State, s.runStage b = t.setStage 5 ∧ t.power.rails = true ∧ t.pins.pwrGood = true) ∧
     (s.bootStage = 4 → b.rails = false → (s.runStage b).bootResult = 3 ∧ (s.runStage b).power.rails = false) ∧
     (s.bootStage = 5 → b.plls = true → (s.runStage b).bootStage = 6 ∧ (s.runStage b).power.clocks = true) ∧
     (s.bootStage = 5 → b.plls = false → (s.runStage b).bootResult = 4 ∧ (s.runStage b).power.rails = false) ∧
     (s.bootStage = 3 → s.pins.pwrEn = false → s.runStage b = s) ∧
     (∀ n, s.bootStage = 11 → s.bootRun b n = s))
end

