-- ==== Sys2Proof/Laws/Bits.lean ====
section
/-! SUPPORT. What a bit field reads after a field is written, and after a value is narrowed to 32 bits. -/
namespace Sys2Proof.Machine

open Sys2Proof

/-- Each bit of a value with a field replaced. -/
theorem getBit_setBits (v : W64) (lo w x k : Nat) (hk : k < 64) :
    getBit (setBits v lo w x) k = if lo ≤ k ∧ k < lo + w then x.testBit (k - lo) else getBit v k := by
  unfold getBit setBits
  simp only [BitVec.getLsbD_or, BitVec.getLsbD_and, BitVec.getLsbD_not, BitVec.getLsbD_ofNat, hk, decide_true,
    Bool.true_and, Nat.testBit_shiftLeft, Nat.testBit_two_pow_sub_one, Nat.testBit_mod_two_pow]
  by_cases h1 : lo ≤ k
  · by_cases h2 : k < lo + w
    · have : k - lo < w := by omega
      simp [h1, h2, this]
    · have : ¬ (k - lo < w) := by omega
      simp [h1, h2, this]
  · simp [h1]

/-- A value narrowed to 32 bits keeps its low 32 bits. -/
theorem getBit_low (v : W64) (k : Nat) (hk : k < 32) : getBit (BitVec.ofNat 64 (v.toNat % 2 ^ 32)) k = getBit v k := by
  unfold getBit
  simp only [BitVec.getLsbD_ofNat, Nat.testBit_mod_two_pow]
  have h : k < 64 := by omega
  simp [hk, h, BitVec.getLsbD]

/-- Each bit of a field. -/
theorem testBit_getBits (v : W64) (lo w k : Nat) : (getBits v lo w).testBit k = (decide (k < w) && getBit v (lo + k)) := by
  unfold getBits getBit
  simp only [Nat.testBit_mod_two_pow, Nat.testBit_shiftRight, BitVec.getLsbD]

/-- A field reads what was written to it. -/
theorem getBits_setBits_same (v : W64) (lo w x : Nat) (h : lo + w ≤ 64) : getBits (setBits v lo w x) lo w = x % 2 ^ w := by
  apply Nat.eq_of_testBit_eq
  intro k
  rw [testBit_getBits, Nat.testBit_mod_two_pow]
  by_cases hk : k < w
  · rw [getBit_setBits _ _ _ _ _ (by omega)]
    simp [hk]
  · simp [hk]

/-- A field beside the one written keeps its value. -/
theorem getBits_setBits_of_disjoint (v : W64) (lo w x lo' w' : Nat) (h' : lo' + w' ≤ 64)
    (h : lo' + w' ≤ lo ∨ lo + w ≤ lo') : getBits (setBits v lo w x) lo' w' = getBits v lo' w' := by
  apply Nat.eq_of_testBit_eq
  intro k
  rw [testBit_getBits, testBit_getBits]
  by_cases hk : k < w'
  · rw [getBit_setBits _ _ _ _ _ (by omega), if_neg (by omega)]
  · simp [hk]

/-- A register's value narrowed to its width keeps a bit that the width holds. -/
theorem getBit_narrow (id : RegId) (v : W64) (k : Nat) (hk : k < 32 ∨ id.info.width = 64) :
    getBit (id.narrow v) k = getBit v k := by
  unfold RegId.narrow
  split
  · rfl
  · rename_i h
    exact getBit_low v k (hk.resolve_right h)

/-- A one-bit flag is set exactly where its bit is. -/
theorem flag_eq_getBit (s : State) (f : Fld) (i j : Nat) (h : f.w = 1) : s.flag f i j = getBit (s.reg f.id i j) f.lo := by
  unfold State.flag State.fld getBits getBit
  rw [h]
  simp only [Nat.shiftRight_eq_div_pow, BitVec.getLsbD, Nat.testBit_eq_decide_div_mod_eq, Nat.pow_one]
  rfl

end Sys2Proof.Machine
end

