-- ==== Sys2Proof/Laws/Access.lean ====
section
/-! SUPPORT. What an accepted register write comes to. -/
namespace Sys2Proof.Machine

open Sys2Proof

/-- Registers but the staging ones have the same index for every origin. -/
theorem ownIx_of_not_staging (a : Acc) (id : RegId) (i : Nat) (h : stagingReg id = false) : ownIx a id i = i := by
  simp [ownIx, h]

/-- An accepted write with what it starts given. -/
theorem rowWriteBy_of_accepts {s : State} {w : Wr} {id : RegId} {i j off : Nat} {act : State → State}
    (h : s.accepts w id i j off) : (s.rowWriteBy w id i j act).2 = act (s.stored w id i j off) := by
  obtain ⟨h1, h2, h3, h4, h5, h6⟩ := h
  simp only [State.rowWriteBy, h1, h2, h3, h4, if_true, State.regWriteBy, h5, State.acceptBy, h6]
  rfl

/-- An accepted write. -/
theorem rowWrite_of_accepts {s : State} {w : Wr} {id : RegId} {i j off : Nat} (h : s.accepts w id i j off) :
    (s.rowWrite w id i j).2 = (s.stored w id i j off).afterWrite w.acc id (ownIx w.acc id i) j (id.narrow w.value)
      (s.reg id (ownIx w.acc id i) j) :=
  rowWriteBy_of_accepts h

/-- An accepted write with one field fixed by the command. -/
theorem fieldWrite_of_accepts {s : State} {w : Wr} {f : Fld} {x i j off : Nat} (h : s.accepts (wrSet w f x) f.id i j off) :
    s.fieldWrite w f x i j = (s.stored (wrSet w f x) f.id i j off).afterWrite w.acc f.id (ownIx w.acc f.id i) j
      (f.id.narrow (setBits w.value f.lo f.w x)) (s.reg f.id (ownIx w.acc f.id i) j) :=
  rowWriteBy_of_accepts h

/-- A bit of the value that the register takes from a write with a field fixed. -/
theorem getBit_narrow_setBits (id : RegId) (v : W64) (lo w x k : Nat) (hk : k < 32 ∨ id.info.width = 64) (h : k < 64) :
    getBit (id.narrow (setBits v lo w x)) k = if lo ≤ k ∧ k < lo + w then x.testBit (k - lo) else getBit v k := by
  rw [getBit_narrow _ _ _ hk, getBit_setBits _ _ _ _ _ h]

end Sys2Proof.Machine
end

