-- ==== Sys2Proof/Laws/Frames.lean ====
section
/-! SUPPORT. What the arrival of a frame can do. -/
namespace Sys2Proof.Machine

open Sys2Proof

/-- A served frame whose command is carried out on the state with the frame counted: what the command makes of it. -/
theorem frameAt_served {s t u : State} {p : Nat} {f : Frame} {k : State → Bool × State} (h : s.serves t p f) (hk : k t = (true, u)) :
    s.frameAt p f k = u := by
  obtain ⟨hp, hb, hr, hl, hd, rfl⟩ := h
  have hd' : ¬(f.bcast = false ∧ f.linkLocal = false ∧ f.dest ≠ s.herdId) := by
    rintro ⟨h1, h2, h3⟩
    rcases hd with h | h | h
    · simp [h1] at h
    · simp [h2] at h
    · exact h3 h
  have hl' : ¬(s.role = 0 ∨ s.herd.lost.contains f.src = true) := by
    rintro (h | h)
    · exact hr h
    · rw [hl] at h; cases h
  simp only [State.frameAt, hp, hb, if_neg hd', if_neg hl', hk]
  rfl

/-- As `frameAt_served`, for a command that acts or leaves the state as it is. -/
theorem frameIn_served {s t u : State} {p : Nat} {f : Frame} {k : State → Option State} (h : s.serves t p f) (hk : k t = some u) :
    s.frameIn p f k = u := frameAt_served h (by simp [hk])

/-- A frame on a port that is not up is not seen. -/
theorem frameAt_down {s : State} {p : Nat} {f : Frame} (k : State → Bool × State) (h : s.portUp p = false) :
    s.frameAt p f k = s := by simp [State.frameAt, h]

/-- As `frameAt_down`. -/
theorem frameIn_down {s : State} {p : Nat} {f : Frame} (k : State → Option State) (h : s.portUp p = false) :
    s.frameIn p f k = s := frameAt_down _ h

end Sys2Proof.Machine
end

