-- ==== Sys2Proof/Laws/State.lean ====
section
/-! SUPPORT. One lemma for each field of State under each replacement of a field, true by rfl. -/
namespace Sys2Proof.Machine

variable (s : State)

@[simp] theorem State.withRegs_regs (x : Sparse W64) : (s.withRegs x).regs = x := rfl
@[simp] theorem State.withRegs_applied (x : Sparse W64) : (s.withRegs x).applied = s.applied := rfl
@[simp] theorem State.withRegs_shadowPend (x : Sparse W64) : (s.withRegs x).shadowPend = s.shadowPend := rfl
@[simp] theorem State.withRegs_pending (x : Sparse W64) : (s.withRegs x).pending = s.pending := rfl
@[simp] theorem State.withRegs_out (x : Sparse W64) : (s.withRegs x).out = s.out := rfl
@[simp] theorem State.withRegs_freeIdx (x : Sparse W64) : (s.withRegs x).freeIdx = s.freeIdx := rfl
@[simp] theorem State.withRegs_ft (x : Sparse W64) : (s.withRegs x).ft = s.ft := rfl
@[simp] theorem State.withRegs_audit (x : Sparse W64) : (s.withRegs x).audit = s.audit := rfl
@[simp] theorem State.withRegs_tm (x : Sparse W64) : (s.withRegs x).tm = s.tm := rfl
@[simp] theorem State.withRegs_ras (x : Sparse W64) : (s.withRegs x).ras = s.ras := rfl
@[simp] theorem State.withRegs_hbm (x : Sparse W64) : (s.withRegs x).hbm = s.hbm := rfl
@[simp] theorem State.withRegs_mule (x : Sparse W64) : (s.withRegs x).mule = s.mule := rfl
@[simp] theorem State.withRegs_lc (x : Sparse W64) : (s.withRegs x).lc = s.lc := rfl
@[simp] theorem State.withRegs_tr (x : Sparse W64) : (s.withRegs x).tr = s.tr := rfl
@[simp] theorem State.withRegs_st (x : Sparse W64) : (s.withRegs x).st = s.st := rfl
@[simp] theorem State.withRegs_eng (x : Sparse W64) : (s.withRegs x).eng = s.eng := rfl
@[simp] theorem State.withRegs_sc (x : Sparse W64) : (s.withRegs x).sc = s.sc := rfl
@[simp] theorem State.withRegs_hq (x : Sparse W64) : (s.withRegs x).hq = s.hq := rfl
@[simp] theorem State.withRegs_herd (x : Sparse W64) : (s.withRegs x).herd = s.herd := rfl
@[simp] theorem State.withRegs_pm (x : Sparse W64) : (s.withRegs x).pm = s.pm := rfl
@[simp] theorem State.withRegs_svc (x : Sparse W64) : (s.withRegs x).svc = s.svc := rfl
@[simp] theorem State.withRegs_pins (x : Sparse W64) : (s.withRegs x).pins = s.pins := rfl
@[simp] theorem State.withRegs_power (x : Sparse W64) : (s.withRegs x).power = s.power := rfl
@[simp] theorem State.withApplied_regs (x : Sparse W64) : (s.withApplied x).regs = s.regs := rfl
@[simp] theorem State.withApplied_applied (x : Sparse W64) : (s.withApplied x).applied = x := rfl
@[simp] theorem State.withApplied_shadowPend (x : Sparse W64) : (s.withApplied x).shadowPend = s.shadowPend := rfl
@[simp] theorem State.withApplied_pending (x : Sparse W64) : (s.withApplied x).pending = s.pending := rfl
@[simp] theorem State.withApplied_out (x : Sparse W64) : (s.withApplied x).out = s.out := rfl
@[simp] theorem State.withApplied_freeIdx (x : Sparse W64) : (s.withApplied x).freeIdx = s.freeIdx := rfl
@[simp] theorem State.withApplied_ft (x : Sparse W64) : (s.withApplied x).ft = s.ft := rfl
@[simp] theorem State.withApplied_audit (x : Sparse W64) : (s.withApplied x).audit = s.audit := rfl
@[simp] theorem State.withApplied_tm (x : Sparse W64) : (s.withApplied x).tm = s.tm := rfl
@[simp] theorem State.withApplied_ras (x : Sparse W64) : (s.withApplied x).ras = s.ras := rfl
@[simp] theorem State.withApplied_hbm (x : Sparse W64) : (s.withApplied x).hbm = s.hbm := rfl
@[simp] theorem State.withApplied_mule (x : Sparse W64) : (s.withApplied x).mule = s.mule := rfl
@[simp] theorem State.withApplied_lc (x : Sparse W64) : (s.withApplied x).lc = s.lc := rfl
@[simp] theorem State.withApplied_tr (x : Sparse W64) : (s.withApplied x).tr = s.tr := rfl
@[simp] theorem State.withApplied_st (x : Sparse W64) : (s.withApplied x).st = s.st := rfl
@[simp] theorem State.withApplied_eng (x : Sparse W64) : (s.withApplied x).eng = s.eng := rfl
@[simp] theorem State.withApplied_sc (x : Sparse W64) : (s.withApplied x).sc = s.sc := rfl
@[simp] theorem State.withApplied_hq (x : Sparse W64) : (s.withApplied x).hq = s.hq := rfl
@[simp] theorem State.withApplied_herd (x : Sparse W64) : (s.withApplied x).herd = s.herd := rfl
@[simp] theorem State.withApplied_pm (x : Sparse W64) : (s.withApplied x).pm = s.pm := rfl
@[simp] theorem State.withApplied_svc (x : Sparse W64) : (s.withApplied x).svc = s.svc := rfl
@[simp] theorem State.withApplied_pins (x : Sparse W64) : (s.withApplied x).pins = s.pins := rfl
@[simp] theorem State.withApplied_power (x : Sparse W64) : (s.withApplied x).power = s.power := rfl
@[simp] theorem State.withShadowPend_regs (x : List Nat) : (s.withShadowPend x).regs = s.regs := rfl
@[simp] theorem State.withShadowPend_applied (x : List Nat) : (s.withShadowPend x).applied = s.applied := rfl
@[simp] theorem State.withShadowPend_shadowPend (x : List Nat) : (s.withShadowPend x).shadowPend = x := rfl
@[simp] theorem State.withShadowPend_pending (x : List Nat) : (s.withShadowPend x).pending = s.pending := rfl
@[simp] theorem State.withShadowPend_out (x : List Nat) : (s.withShadowPend x).out = s.out := rfl
@[simp] theorem State.withShadowPend_freeIdx (x : List Nat) : (s.withShadowPend x).freeIdx = s.freeIdx := rfl
@[simp] theorem State.withShadowPend_ft (x : List Nat) : (s.withShadowPend x).ft = s.ft := rfl
@[simp] theorem State.withShadowPend_audit (x : List Nat) : (s.withShadowPend x).audit = s.audit := rfl
@[simp] theorem State.withShadowPend_tm (x : List Nat) : (s.withShadowPend x).tm = s.tm := rfl
@[simp] theorem State.withShadowPend_ras (x : List Nat) : (s.withShadowPend x).ras = s.ras := rfl
@[simp] theorem State.withShadowPend_hbm (x : List Nat) : (s.withShadowPend x).hbm = s.hbm := rfl
@[simp] theorem State.withShadowPend_mule (x : List Nat) : (s.withShadowPend x).mule = s.mule := rfl
@[simp] theorem State.withShadowPend_lc (x : List Nat) : (s.withShadowPend x).lc = s.lc := rfl
@[simp] theorem State.withShadowPend_tr (x : List Nat) : (s.withShadowPend x).tr = s.tr := rfl
@[simp] theorem State.withShadowPend_st (x : List Nat) : (s.withShadowPend x).st = s.st := rfl
@[simp] theorem State.withShadowPend_eng (x : List Nat) : (s.withShadowPend x).eng = s.eng := rfl
@[simp] theorem State.withShadowPend_sc (x : List Nat) : (s.withShadowPend x).sc = s.sc := rfl
@[simp] theorem State.withShadowPend_hq (x : List Nat) : (s.withShadowPend x).hq = s.hq := rfl
@[simp] theorem State.withShadowPend_herd (x : List Nat) : (s.withShadowPend x).herd = s.herd := rfl
@[simp] theorem State.withShadowPend_pm (x : List Nat) : (s.withShadowPend x).pm = s.pm := rfl
@[simp] theorem State.withShadowPend_svc (x : List Nat) : (s.withShadowPend x).svc = s.svc := rfl
@[simp] theorem State.withShadowPend_pins (x : List Nat) : (s.withShadowPend x).pins = s.pins := rfl
@[simp] theorem State.withShadowPend_power (x : List Nat) : (s.withShadowPend x).power = s.power := rfl
@[simp] theorem State.withPending_regs (x : List Instr) : (s.withPending x).regs = s.regs := rfl
@[simp] theorem State.withPending_applied (x : List Instr) : (s.withPending x).applied = s.applied := rfl
@[simp] theorem State.withPending_shadowPend (x : List Instr) : (s.withPending x).shadowPend = s.shadowPend := rfl
@[simp] theorem State.withPending_pending (x : List Instr) : (s.withPending x).pending = x := rfl
@[simp] theorem State.withPending_out (x : List Instr) : (s.withPending x).out = s.out := rfl
@[simp] theorem State.withPending_freeIdx (x : List Instr) : (s.withPending x).freeIdx = s.freeIdx := rfl
@[simp] theorem State.withPending_ft (x : List Instr) : (s.withPending x).ft = s.ft := rfl
@[simp] theorem State.withPending_audit (x : List Instr) : (s.withPending x).audit = s.audit := rfl
@[simp] theorem State.withPending_tm (x : List Instr) : (s.withPending x).tm = s.tm := rfl
@[simp] theorem State.withPending_ras (x : List Instr) : (s.withPending x).ras = s.ras := rfl
@[simp] theorem State.withPending_hbm (x : List Instr) : (s.withPending x).hbm = s.hbm := rfl
@[simp] theorem State.withPending_mule (x : List Instr) : (s.withPending x).mule = s.mule := rfl
@[simp] theorem State.withPending_lc (x : List Instr) : (s.withPending x).lc = s.lc := rfl
@[simp] theorem State.withPending_tr (x : List Instr) : (s.withPending x).tr = s.tr := rfl
@[simp] theorem State.withPending_st (x : List Instr) : (s.withPending x).st = s.st := rfl
@[simp] theorem State.withPending_eng (x : List Instr) : (s.withPending x).eng = s.eng := rfl
@[simp] theorem State.withPending_sc (x : List Instr) : (s.withPending x).sc = s.sc := rfl
@[simp] theorem State.withPending_hq (x : List Instr) : (s.withPending x).hq = s.hq := rfl
@[simp] theorem State.withPending_herd (x : List Instr) : (s.withPending x).herd = s.herd := rfl
@[simp] theorem State.withPending_pm (x : List Instr) : (s.withPending x).pm = s.pm := rfl
@[simp] theorem State.withPending_svc (x : List Instr) : (s.withPending x).svc = s.svc := rfl
@[simp] theorem State.withPending_pins (x : List Instr) : (s.withPending x).pins = s.pins := rfl
@[simp] theorem State.withPending_power (x : List Instr) : (s.withPending x).power = s.power := rfl
@[simp] theorem State.withOut_regs (x : List Out) : (s.withOut x).regs = s.regs := rfl
@[simp] theorem State.withOut_applied (x : List Out) : (s.withOut x).applied = s.applied := rfl
@[simp] theorem State.withOut_shadowPend (x : List Out) : (s.withOut x).shadowPend = s.shadowPend := rfl
@[simp] theorem State.withOut_pending (x : List Out) : (s.withOut x).pending = s.pending := rfl
@[simp] theorem State.withOut_out (x : List Out) : (s.withOut x).out = x := rfl
@[simp] theorem State.withOut_freeIdx (x : List Out) : (s.withOut x).freeIdx = s.freeIdx := rfl
@[simp] theorem State.withOut_ft (x : List Out) : (s.withOut x).ft = s.ft := rfl
@[simp] theorem State.withOut_audit (x : List Out) : (s.withOut x).audit = s.audit := rfl
@[simp] theorem State.withOut_tm (x : List Out) : (s.withOut x).tm = s.tm := rfl
@[simp] theorem State.withOut_ras (x : List Out) : (s.withOut x).ras = s.ras := rfl
@[simp] theorem State.withOut_hbm (x : List Out) : (s.withOut x).hbm = s.hbm := rfl
@[simp] theorem State.withOut_mule (x : List Out) : (s.withOut x).mule = s.mule := rfl
@[simp] theorem State.withOut_lc (x : List Out) : (s.withOut x).lc = s.lc := rfl
@[simp] theorem State.withOut_tr (x : List Out) : (s.withOut x).tr = s.tr := rfl
@[simp] theorem State.withOut_st (x : List Out) : (s.withOut x).st = s.st := rfl
@[simp] theorem State.withOut_eng (x : List Out) : (s.withOut x).eng = s.eng := rfl
@[simp] theorem State.withOut_sc (x : List Out) : (s.withOut x).sc = s.sc := rfl
@[simp] theorem State.withOut_hq (x : List Out) : (s.withOut x).hq = s.hq := rfl
@[simp] theorem State.withOut_herd (x : List Out) : (s.withOut x).herd = s.herd := rfl
@[simp] theorem State.withOut_pm (x : List Out) : (s.withOut x).pm = s.pm := rfl
@[simp] theorem State.withOut_svc (x : List Out) : (s.withOut x).svc = s.svc := rfl
@[simp] theorem State.withOut_pins (x : List Out) : (s.withOut x).pins = s.pins := rfl
@[simp] theorem State.withOut_power (x : List Out) : (s.withOut x).power = s.power := rfl
@[simp] theorem State.withFreeIdx_regs (x : Nat) : (s.withFreeIdx x).regs = s.regs := rfl
@[simp] theorem State.withFreeIdx_applied (x : Nat) : (s.withFreeIdx x).applied = s.applied := rfl
@[simp] theorem State.withFreeIdx_shadowPend (x : Nat) : (s.withFreeIdx x).shadowPend = s.shadowPend := rfl
@[simp] theorem State.withFreeIdx_pending (x : Nat) : (s.withFreeIdx x).pending = s.pending := rfl
@[simp] theorem State.withFreeIdx_out (x : Nat) : (s.withFreeIdx x).out = s.out := rfl
@[simp] theorem State.withFreeIdx_freeIdx (x : Nat) : (s.withFreeIdx x).freeIdx = x := rfl
@[simp] theorem State.withFreeIdx_ft (x : Nat) : (s.withFreeIdx x).ft = s.ft := rfl
@[simp] theorem State.withFreeIdx_audit (x : Nat) : (s.withFreeIdx x).audit = s.audit := rfl
@[simp] theorem State.withFreeIdx_tm (x : Nat) : (s.withFreeIdx x).tm = s.tm := rfl
@[simp] theorem State.withFreeIdx_ras (x : Nat) : (s.withFreeIdx x).ras = s.ras := rfl
@[simp] theorem State.withFreeIdx_hbm (x : Nat) : (s.withFreeIdx x).hbm = s.hbm := rfl
@[simp] theorem State.withFreeIdx_mule (x : Nat) : (s.withFreeIdx x).mule = s.mule := rfl
@[simp] theorem State.withFreeIdx_lc (x : Nat) : (s.withFreeIdx x).lc = s.lc := rfl
@[simp] theorem State.withFreeIdx_tr (x : Nat) : (s.withFreeIdx x).tr = s.tr := rfl
@[simp] theorem State.withFreeIdx_st (x : Nat) : (s.withFreeIdx x).st = s.st := rfl
@[simp] theorem State.withFreeIdx_eng (x : Nat) : (s.withFreeIdx x).eng = s.eng := rfl
@[simp] theorem State.withFreeIdx_sc (x : Nat) : (s.withFreeIdx x).sc = s.sc := rfl
@[simp] theorem State.withFreeIdx_hq (x : Nat) : (s.withFreeIdx x).hq = s.hq := rfl
@[simp] theorem State.withFreeIdx_herd (x : Nat) : (s.withFreeIdx x).herd = s.herd := rfl
@[simp] theorem State.withFreeIdx_pm (x : Nat) : (s.withFreeIdx x).pm = s.pm := rfl
@[simp] theorem State.withFreeIdx_svc (x : Nat) : (s.withFreeIdx x).svc = s.svc := rfl
@[simp] theorem State.withFreeIdx_pins (x : Nat) : (s.withFreeIdx x).pins = s.pins := rfl
@[simp] theorem State.withFreeIdx_power (x : Nat) : (s.withFreeIdx x).power = s.power := rfl
@[simp] theorem State.withFt_regs (x : FtState) : (s.withFt x).regs = s.regs := rfl
@[simp] theorem State.withFt_applied (x : FtState) : (s.withFt x).applied = s.applied := rfl
@[simp] theorem State.withFt_shadowPend (x : FtState) : (s.withFt x).shadowPend = s.shadowPend := rfl
@[simp] theorem State.withFt_pending (x : FtState) : (s.withFt x).pending = s.pending := rfl
@[simp] theorem State.withFt_out (x : FtState) : (s.withFt x).out = s.out := rfl
@[simp] theorem State.withFt_freeIdx (x : FtState) : (s.withFt x).freeIdx = s.freeIdx := rfl
@[simp] theorem State.withFt_ft (x : FtState) : (s.withFt x).ft = x := rfl
@[simp] theorem State.withFt_audit (x : FtState) : (s.withFt x).audit = s.audit := rfl
@[simp] theorem State.withFt_tm (x : FtState) : (s.withFt x).tm = s.tm := rfl
@[simp] theorem State.withFt_ras (x : FtState) : (s.withFt x).ras = s.ras := rfl
@[simp] theorem State.withFt_hbm (x : FtState) : (s.withFt x).hbm = s.hbm := rfl
@[simp] theorem State.withFt_mule (x : FtState) : (s.withFt x).mule = s.mule := rfl
@[simp] theorem State.withFt_lc (x : FtState) : (s.withFt x).lc = s.lc := rfl
@[simp] theorem State.withFt_tr (x : FtState) : (s.withFt x).tr = s.tr := rfl
@[simp] theorem State.withFt_st (x : FtState) : (s.withFt x).st = s.st := rfl
@[simp] theorem State.withFt_eng (x : FtState) : (s.withFt x).eng = s.eng := rfl
@[simp] theorem State.withFt_sc (x : FtState) : (s.withFt x).sc = s.sc := rfl
@[simp] theorem State.withFt_hq (x : FtState) : (s.withFt x).hq = s.hq := rfl
@[simp] theorem State.withFt_herd (x : FtState) : (s.withFt x).herd = s.herd := rfl
@[simp] theorem State.withFt_pm (x : FtState) : (s.withFt x).pm = s.pm := rfl
@[simp] theorem State.withFt_svc (x : FtState) : (s.withFt x).svc = s.svc := rfl
@[simp] theorem State.withFt_pins (x : FtState) : (s.withFt x).pins = s.pins := rfl
@[simp] theorem State.withFt_power (x : FtState) : (s.withFt x).power = s.power := rfl
@[simp] theorem State.withAudit_regs (x : AuditState) : (s.withAudit x).regs = s.regs := rfl
@[simp] theorem State.withAudit_applied (x : AuditState) : (s.withAudit x).applied = s.applied := rfl
@[simp] theorem State.withAudit_shadowPend (x : AuditState) : (s.withAudit x).shadowPend = s.shadowPend := rfl
@[simp] theorem State.withAudit_pending (x : AuditState) : (s.withAudit x).pending = s.pending := rfl
@[simp] theorem State.withAudit_out (x : AuditState) : (s.withAudit x).out = s.out := rfl
@[simp] theorem State.withAudit_freeIdx (x : AuditState) : (s.withAudit x).freeIdx = s.freeIdx := rfl
@[simp] theorem State.withAudit_ft (x : AuditState) : (s.withAudit x).ft = s.ft := rfl
@[simp] theorem State.withAudit_audit (x : AuditState) : (s.withAudit x).audit = x := rfl
@[simp] theorem State.withAudit_tm (x : AuditState) : (s.withAudit x).tm = s.tm := rfl
@[simp] theorem State.withAudit_ras (x : AuditState) : (s.withAudit x).ras = s.ras := rfl
@[simp] theorem State.withAudit_hbm (x : AuditState) : (s.withAudit x).hbm = s.hbm := rfl
@[simp] theorem State.withAudit_mule (x : AuditState) : (s.withAudit x).mule = s.mule := rfl
@[simp] theorem State.withAudit_lc (x : AuditState) : (s.withAudit x).lc = s.lc := rfl
@[simp] theorem State.withAudit_tr (x : AuditState) : (s.withAudit x).tr = s.tr := rfl
@[simp] theorem State.withAudit_st (x : AuditState) : (s.withAudit x).st = s.st := rfl
@[simp] theorem State.withAudit_eng (x : AuditState) : (s.withAudit x).eng = s.eng := rfl
@[simp] theorem State.withAudit_sc (x : AuditState) : (s.withAudit x).sc = s.sc := rfl
@[simp] theorem State.withAudit_hq (x : AuditState) : (s.withAudit x).hq = s.hq := rfl
@[simp] theorem State.withAudit_herd (x : AuditState) : (s.withAudit x).herd = s.herd := rfl
@[simp] theorem State.withAudit_pm (x : AuditState) : (s.withAudit x).pm = s.pm := rfl
@[simp] theorem State.withAudit_svc (x : AuditState) : (s.withAudit x).svc = s.svc := rfl
@[simp] theorem State.withAudit_pins (x : AuditState) : (s.withAudit x).pins = s.pins := rfl
@[simp] theorem State.withAudit_power (x : AuditState) : (s.withAudit x).power = s.power := rfl
@[simp] theorem State.withTm_regs (x : TmState) : (s.withTm x).regs = s.regs := rfl
@[simp] theorem State.withTm_applied (x : TmState) : (s.withTm x).applied = s.applied := rfl
@[simp] theorem State.withTm_shadowPend (x : TmState) : (s.withTm x).shadowPend = s.shadowPend := rfl
@[simp] theorem State.withTm_pending (x : TmState) : (s.withTm x).pending = s.pending := rfl
@[simp] theorem State.withTm_out (x : TmState) : (s.withTm x).out = s.out := rfl
@[simp] theorem State.withTm_freeIdx (x : TmState) : (s.withTm x).freeIdx = s.freeIdx := rfl
@[simp] theorem State.withTm_ft (x : TmState) : (s.withTm x).ft = s.ft := rfl
@[simp] theorem State.withTm_audit (x : TmState) : (s.withTm x).audit = s.audit := rfl
@[simp] theorem State.withTm_tm (x : TmState) : (s.withTm x).tm = x := rfl
@[simp] theorem State.withTm_ras (x : TmState) : (s.withTm x).ras = s.ras := rfl
@[simp] theorem State.withTm_hbm (x : TmState) : (s.withTm x).hbm = s.hbm := rfl
@[simp] theorem State.withTm_mule (x : TmState) : (s.withTm x).mule = s.mule := rfl
@[simp] theorem State.withTm_lc (x : TmState) : (s.withTm x).lc = s.lc := rfl
@[simp] theorem State.withTm_tr (x : TmState) : (s.withTm x).tr = s.tr := rfl
@[simp] theorem State.withTm_st (x : TmState) : (s.withTm x).st = s.st := rfl
@[simp] theorem State.withTm_eng (x : TmState) : (s.withTm x).eng = s.eng := rfl
@[simp] theorem State.withTm_sc (x : TmState) : (s.withTm x).sc = s.sc := rfl
@[simp] theorem State.withTm_hq (x : TmState) : (s.withTm x).hq = s.hq := rfl
@[simp] theorem State.withTm_herd (x : TmState) : (s.withTm x).herd = s.herd := rfl
@[simp] theorem State.withTm_pm (x : TmState) : (s.withTm x).pm = s.pm := rfl
@[simp] theorem State.withTm_svc (x : TmState) : (s.withTm x).svc = s.svc := rfl
@[simp] theorem State.withTm_pins (x : TmState) : (s.withTm x).pins = s.pins := rfl
@[simp] theorem State.withTm_power (x : TmState) : (s.withTm x).power = s.power := rfl
@[simp] theorem State.withRas_regs (x : RasState) : (s.withRas x).regs = s.regs := rfl
@[simp] theorem State.withRas_applied (x : RasState) : (s.withRas x).applied = s.applied := rfl
@[simp] theorem State.withRas_shadowPend (x : RasState) : (s.withRas x).shadowPend = s.shadowPend := rfl
@[simp] theorem State.withRas_pending (x : RasState) : (s.withRas x).pending = s.pending := rfl
@[simp] theorem State.withRas_out (x : RasState) : (s.withRas x).out = s.out := rfl
@[simp] theorem State.withRas_freeIdx (x : RasState) : (s.withRas x).freeIdx = s.freeIdx := rfl
@[simp] theorem State.withRas_ft (x : RasState) : (s.withRas x).ft = s.ft := rfl
@[simp] theorem State.withRas_audit (x : RasState) : (s.withRas x).audit = s.audit := rfl
@[simp] theorem State.withRas_tm (x : RasState) : (s.withRas x).tm = s.tm := rfl
@[simp] theorem State.withRas_ras (x : RasState) : (s.withRas x).ras = x := rfl
@[simp] theorem State.withRas_hbm (x : RasState) : (s.withRas x).hbm = s.hbm := rfl
@[simp] theorem State.withRas_mule (x : RasState) : (s.withRas x).mule = s.mule := rfl
@[simp] theorem State.withRas_lc (x : RasState) : (s.withRas x).lc = s.lc := rfl
@[simp] theorem State.withRas_tr (x : RasState) : (s.withRas x).tr = s.tr := rfl
@[simp] theorem State.withRas_st (x : RasState) : (s.withRas x).st = s.st := rfl
@[simp] theorem State.withRas_eng (x : RasState) : (s.withRas x).eng = s.eng := rfl
@[simp] theorem State.withRas_sc (x : RasState) : (s.withRas x).sc = s.sc := rfl
@[simp] theorem State.withRas_hq (x : RasState) : (s.withRas x).hq = s.hq := rfl
@[simp] theorem State.withRas_herd (x : RasState) : (s.withRas x).herd = s.herd := rfl
@[simp] theorem State.withRas_pm (x : RasState) : (s.withRas x).pm = s.pm := rfl
@[simp] theorem State.withRas_svc (x : RasState) : (s.withRas x).svc = s.svc := rfl
@[simp] theorem State.withRas_pins (x : RasState) : (s.withRas x).pins = s.pins := rfl
@[simp] theorem State.withRas_power (x : RasState) : (s.withRas x).power = s.power := rfl
@[simp] theorem State.withHbm_regs (x : HbmState) : (s.withHbm x).regs = s.regs := rfl
@[simp] theorem State.withHbm_applied (x : HbmState) : (s.withHbm x).applied = s.applied := rfl
@[simp] theorem State.withHbm_shadowPend (x : HbmState) : (s.withHbm x).shadowPend = s.shadowPend := rfl
@[simp] theorem State.withHbm_pending (x : HbmState) : (s.withHbm x).pending = s.pending := rfl
@[simp] theorem State.withHbm_out (x : HbmState) : (s.withHbm x).out = s.out := rfl
@[simp] theorem State.withHbm_freeIdx (x : HbmState) : (s.withHbm x).freeIdx = s.freeIdx := rfl
@[simp] theorem State.withHbm_ft (x : HbmState) : (s.withHbm x).ft = s.ft := rfl
@[simp] theorem State.withHbm_audit (x : HbmState) : (s.withHbm x).audit = s.audit := rfl
@[simp] theorem State.withHbm_tm (x : HbmState) : (s.withHbm x).tm = s.tm := rfl
@[simp] theorem State.withHbm_ras (x : HbmState) : (s.withHbm x).ras = s.ras := rfl
@[simp] theorem State.withHbm_hbm (x : HbmState) : (s.withHbm x).hbm = x := rfl
@[simp] theorem State.withHbm_mule (x : HbmState) : (s.withHbm x).mule = s.mule := rfl
@[simp] theorem State.withHbm_lc (x : HbmState) : (s.withHbm x).lc = s.lc := rfl
@[simp] theorem State.withHbm_tr (x : HbmState) : (s.withHbm x).tr = s.tr := rfl
@[simp] theorem State.withHbm_st (x : HbmState) : (s.withHbm x).st = s.st := rfl
@[simp] theorem State.withHbm_eng (x : HbmState) : (s.withHbm x).eng = s.eng := rfl
@[simp] theorem State.withHbm_sc (x : HbmState) : (s.withHbm x).sc = s.sc := rfl
@[simp] theorem State.withHbm_hq (x : HbmState) : (s.withHbm x).hq = s.hq := rfl
@[simp] theorem State.withHbm_herd (x : HbmState) : (s.withHbm x).herd = s.herd := rfl
@[simp] theorem State.withHbm_pm (x : HbmState) : (s.withHbm x).pm = s.pm := rfl
@[simp] theorem State.withHbm_svc (x : HbmState) : (s.withHbm x).svc = s.svc := rfl
@[simp] theorem State.withHbm_pins (x : HbmState) : (s.withHbm x).pins = s.pins := rfl
@[simp] theorem State.withHbm_power (x : HbmState) : (s.withHbm x).power = s.power := rfl
@[simp] theorem State.withMule_regs (x : MuleState) : (s.withMule x).regs = s.regs := rfl
@[simp] theorem State.withMule_applied (x : MuleState) : (s.withMule x).applied = s.applied := rfl
@[simp] theorem State.withMule_shadowPend (x : MuleState) : (s.withMule x).shadowPend = s.shadowPend := rfl
@[simp] theorem State.withMule_pending (x : MuleState) : (s.withMule x).pending = s.pending := rfl
@[simp] theorem State.withMule_out (x : MuleState) : (s.withMule x).out = s.out := rfl
@[simp] theorem State.withMule_freeIdx (x : MuleState) : (s.withMule x).freeIdx = s.freeIdx := rfl
@[simp] theorem State.withMule_ft (x : MuleState) : (s.withMule x).ft = s.ft := rfl
@[simp] theorem State.withMule_audit (x : MuleState) : (s.withMule x).audit = s.audit := rfl
@[simp] theorem State.withMule_tm (x : MuleState) : (s.withMule x).tm = s.tm := rfl
@[simp] theorem State.withMule_ras (x : MuleState) : (s.withMule x).ras = s.ras := rfl
@[simp] theorem State.withMule_hbm (x : MuleState) : (s.withMule x).hbm = s.hbm := rfl
@[simp] theorem State.withMule_mule (x : MuleState) : (s.withMule x).mule = x := rfl
@[simp] theorem State.withMule_lc (x : MuleState) : (s.withMule x).lc = s.lc := rfl
@[simp] theorem State.withMule_tr (x : MuleState) : (s.withMule x).tr = s.tr := rfl
@[simp] theorem State.withMule_st (x : MuleState) : (s.withMule x).st = s.st := rfl
@[simp] theorem State.withMule_eng (x : MuleState) : (s.withMule x).eng = s.eng := rfl
@[simp] theorem State.withMule_sc (x : MuleState) : (s.withMule x).sc = s.sc := rfl
@[simp] theorem State.withMule_hq (x : MuleState) : (s.withMule x).hq = s.hq := rfl
@[simp] theorem State.withMule_herd (x : MuleState) : (s.withMule x).herd = s.herd := rfl
@[simp] theorem State.withMule_pm (x : MuleState) : (s.withMule x).pm = s.pm := rfl
@[simp] theorem State.withMule_svc (x : MuleState) : (s.withMule x).svc = s.svc := rfl
@[simp] theorem State.withMule_pins (x : MuleState) : (s.withMule x).pins = s.pins := rfl
@[simp] theorem State.withMule_power (x : MuleState) : (s.withMule x).power = s.power := rfl
@[simp] theorem State.withLc_regs (x : LcState) : (s.withLc x).regs = s.regs := rfl
@[simp] theorem State.withLc_applied (x : LcState) : (s.withLc x).applied = s.applied := rfl
@[simp] theorem State.withLc_shadowPend (x : LcState) : (s.withLc x).shadowPend = s.shadowPend := rfl
@[simp] theorem State.withLc_pending (x : LcState) : (s.withLc x).pending = s.pending := rfl
@[simp] theorem State.withLc_out (x : LcState) : (s.withLc x).out = s.out := rfl
@[simp] theorem State.withLc_freeIdx (x : LcState) : (s.withLc x).freeIdx = s.freeIdx := rfl
@[simp] theorem State.withLc_ft (x : LcState) : (s.withLc x).ft = s.ft := rfl
@[simp] theorem State.withLc_audit (x : LcState) : (s.withLc x).audit = s.audit := rfl
@[simp] theorem State.withLc_tm (x : LcState) : (s.withLc x).tm = s.tm := rfl
@[simp] theorem State.withLc_ras (x : LcState) : (s.withLc x).ras = s.ras := rfl
@[simp] theorem State.withLc_hbm (x : LcState) : (s.withLc x).hbm = s.hbm := rfl
@[simp] theorem State.withLc_mule (x : LcState) : (s.withLc x).mule = s.mule := rfl
@[simp] theorem State.withLc_lc (x : LcState) : (s.withLc x).lc = x := rfl
@[simp] theorem State.withLc_tr (x : LcState) : (s.withLc x).tr = s.tr := rfl
@[simp] theorem State.withLc_st (x : LcState) : (s.withLc x).st = s.st := rfl
@[simp] theorem State.withLc_eng (x : LcState) : (s.withLc x).eng = s.eng := rfl
@[simp] theorem State.withLc_sc (x : LcState) : (s.withLc x).sc = s.sc := rfl
@[simp] theorem State.withLc_hq (x : LcState) : (s.withLc x).hq = s.hq := rfl
@[simp] theorem State.withLc_herd (x : LcState) : (s.withLc x).herd = s.herd := rfl
@[simp] theorem State.withLc_pm (x : LcState) : (s.withLc x).pm = s.pm := rfl
@[simp] theorem State.withLc_svc (x : LcState) : (s.withLc x).svc = s.svc := rfl
@[simp] theorem State.withLc_pins (x : LcState) : (s.withLc x).pins = s.pins := rfl
@[simp] theorem State.withLc_power (x : LcState) : (s.withLc x).power = s.power := rfl
@[simp] theorem State.withTr_regs (x : TrState) : (s.withTr x).regs = s.regs := rfl
@[simp] theorem State.withTr_applied (x : TrState) : (s.withTr x).applied = s.applied := rfl
@[simp] theorem State.withTr_shadowPend (x : TrState) : (s.withTr x).shadowPend = s.shadowPend := rfl
@[simp] theorem State.withTr_pending (x : TrState) : (s.withTr x).pending = s.pending := rfl
@[simp] theorem State.withTr_out (x : TrState) : (s.withTr x).out = s.out := rfl
@[simp] theorem State.withTr_freeIdx (x : TrState) : (s.withTr x).freeIdx = s.freeIdx := rfl
@[simp] theorem State.withTr_ft (x : TrState) : (s.withTr x).ft = s.ft := rfl
@[simp] theorem State.withTr_audit (x : TrState) : (s.withTr x).audit = s.audit := rfl
@[simp] theorem State.withTr_tm (x : TrState) : (s.withTr x).tm = s.tm := rfl
@[simp] theorem State.withTr_ras (x : TrState) : (s.withTr x).ras = s.ras := rfl
@[simp] theorem State.withTr_hbm (x : TrState) : (s.withTr x).hbm = s.hbm := rfl
@[simp] theorem State.withTr_mule (x : TrState) : (s.withTr x).mule = s.mule := rfl
@[simp] theorem State.withTr_lc (x : TrState) : (s.withTr x).lc = s.lc := rfl
@[simp] theorem State.withTr_tr (x : TrState) : (s.withTr x).tr = x := rfl
@[simp] theorem State.withTr_st (x : TrState) : (s.withTr x).st = s.st := rfl
@[simp] theorem State.withTr_eng (x : TrState) : (s.withTr x).eng = s.eng := rfl
@[simp] theorem State.withTr_sc (x : TrState) : (s.withTr x).sc = s.sc := rfl
@[simp] theorem State.withTr_hq (x : TrState) : (s.withTr x).hq = s.hq := rfl
@[simp] theorem State.withTr_herd (x : TrState) : (s.withTr x).herd = s.herd := rfl
@[simp] theorem State.withTr_pm (x : TrState) : (s.withTr x).pm = s.pm := rfl
@[simp] theorem State.withTr_svc (x : TrState) : (s.withTr x).svc = s.svc := rfl
@[simp] theorem State.withTr_pins (x : TrState) : (s.withTr x).pins = s.pins := rfl
@[simp] theorem State.withTr_power (x : TrState) : (s.withTr x).power = s.power := rfl
@[simp] theorem State.withSt_regs (x : Sparse StCtx) : (s.withSt x).regs = s.regs := rfl
@[simp] theorem State.withSt_applied (x : Sparse StCtx) : (s.withSt x).applied = s.applied := rfl
@[simp] theorem State.withSt_shadowPend (x : Sparse StCtx) : (s.withSt x).shadowPend = s.shadowPend := rfl
@[simp] theorem State.withSt_pending (x : Sparse StCtx) : (s.withSt x).pending = s.pending := rfl
@[simp] theorem State.withSt_out (x : Sparse StCtx) : (s.withSt x).out = s.out := rfl
@[simp] theorem State.withSt_freeIdx (x : Sparse StCtx) : (s.withSt x).freeIdx = s.freeIdx := rfl
@[simp] theorem State.withSt_ft (x : Sparse StCtx) : (s.withSt x).ft = s.ft := rfl
@[simp] theorem State.withSt_audit (x : Sparse StCtx) : (s.withSt x).audit = s.audit := rfl
@[simp] theorem State.withSt_tm (x : Sparse StCtx) : (s.withSt x).tm = s.tm := rfl
@[simp] theorem State.withSt_ras (x : Sparse StCtx) : (s.withSt x).ras = s.ras := rfl
@[simp] theorem State.withSt_hbm (x : Sparse StCtx) : (s.withSt x).hbm = s.hbm := rfl
@[simp] theorem State.withSt_mule (x : Sparse StCtx) : (s.withSt x).mule = s.mule := rfl
@[simp] theorem State.withSt_lc (x : Sparse StCtx) : (s.withSt x).lc = s.lc := rfl
@[simp] theorem State.withSt_tr (x : Sparse StCtx) : (s.withSt x).tr = s.tr := rfl
@[simp] theorem State.withSt_st (x : Sparse StCtx) : (s.withSt x).st = x := rfl
@[simp] theorem State.withSt_eng (x : Sparse StCtx) : (s.withSt x).eng = s.eng := rfl
@[simp] theorem State.withSt_sc (x : Sparse StCtx) : (s.withSt x).sc = s.sc := rfl
@[simp] theorem State.withSt_hq (x : Sparse StCtx) : (s.withSt x).hq = s.hq := rfl
@[simp] theorem State.withSt_herd (x : Sparse StCtx) : (s.withSt x).herd = s.herd := rfl
@[simp] theorem State.withSt_pm (x : Sparse StCtx) : (s.withSt x).pm = s.pm := rfl
@[simp] theorem State.withSt_svc (x : Sparse StCtx) : (s.withSt x).svc = s.svc := rfl
@[simp] theorem State.withSt_pins (x : Sparse StCtx) : (s.withSt x).pins = s.pins := rfl
@[simp] theorem State.withSt_power (x : Sparse StCtx) : (s.withSt x).power = s.power := rfl
@[simp] theorem State.withEng_regs (x : EngState) : (s.withEng x).regs = s.regs := rfl
@[simp] theorem State.withEng_applied (x : EngState) : (s.withEng x).applied = s.applied := rfl
@[simp] theorem State.withEng_shadowPend (x : EngState) : (s.withEng x).shadowPend = s.shadowPend := rfl
@[simp] theorem State.withEng_pending (x : EngState) : (s.withEng x).pending = s.pending := rfl
@[simp] theorem State.withEng_out (x : EngState) : (s.withEng x).out = s.out := rfl
@[simp] theorem State.withEng_freeIdx (x : EngState) : (s.withEng x).freeIdx = s.freeIdx := rfl
@[simp] theorem State.withEng_ft (x : EngState) : (s.withEng x).ft = s.ft := rfl
@[simp] theorem State.withEng_audit (x : EngState) : (s.withEng x).audit = s.audit := rfl
@[simp] theorem State.withEng_tm (x : EngState) : (s.withEng x).tm = s.tm := rfl
@[simp] theorem State.withEng_ras (x : EngState) : (s.withEng x).ras = s.ras := rfl
@[simp] theorem State.withEng_hbm (x : EngState) : (s.withEng x).hbm = s.hbm := rfl
@[simp] theorem State.withEng_mule (x : EngState) : (s.withEng x).mule = s.mule := rfl
@[simp] theorem State.withEng_lc (x : EngState) : (s.withEng x).lc = s.lc := rfl
@[simp] theorem State.withEng_tr (x : EngState) : (s.withEng x).tr = s.tr := rfl
@[simp] theorem State.withEng_st (x : EngState) : (s.withEng x).st = s.st := rfl
@[simp] theorem State.withEng_eng (x : EngState) : (s.withEng x).eng = x := rfl
@[simp] theorem State.withEng_sc (x : EngState) : (s.withEng x).sc = s.sc := rfl
@[simp] theorem State.withEng_hq (x : EngState) : (s.withEng x).hq = s.hq := rfl
@[simp] theorem State.withEng_herd (x : EngState) : (s.withEng x).herd = s.herd := rfl
@[simp] theorem State.withEng_pm (x : EngState) : (s.withEng x).pm = s.pm := rfl
@[simp] theorem State.withEng_svc (x : EngState) : (s.withEng x).svc = s.svc := rfl
@[simp] theorem State.withEng_pins (x : EngState) : (s.withEng x).pins = s.pins := rfl
@[simp] theorem State.withEng_power (x : EngState) : (s.withEng x).power = s.power := rfl
@[simp] theorem State.withSc_regs (x : ScState) : (s.withSc x).regs = s.regs := rfl
@[simp] theorem State.withSc_applied (x : ScState) : (s.withSc x).applied = s.applied := rfl
@[simp] theorem State.withSc_shadowPend (x : ScState) : (s.withSc x).shadowPend = s.shadowPend := rfl
@[simp] theorem State.withSc_pending (x : ScState) : (s.withSc x).pending = s.pending := rfl
@[simp] theorem State.withSc_out (x : ScState) : (s.withSc x).out = s.out := rfl
@[simp] theorem State.withSc_freeIdx (x : ScState) : (s.withSc x).freeIdx = s.freeIdx := rfl
@[simp] theorem State.withSc_ft (x : ScState) : (s.withSc x).ft = s.ft := rfl
@[simp] theorem State.withSc_audit (x : ScState) : (s.withSc x).audit = s.audit := rfl
@[simp] theorem State.withSc_tm (x : ScState) : (s.withSc x).tm = s.tm := rfl
@[simp] theorem State.withSc_ras (x : ScState) : (s.withSc x).ras = s.ras := rfl
@[simp] theorem State.withSc_hbm (x : ScState) : (s.withSc x).hbm = s.hbm := rfl
@[simp] theorem State.withSc_mule (x : ScState) : (s.withSc x).mule = s.mule := rfl
@[simp] theorem State.withSc_lc (x : ScState) : (s.withSc x).lc = s.lc := rfl
@[simp] theorem State.withSc_tr (x : ScState) : (s.withSc x).tr = s.tr := rfl
@[simp] theorem State.withSc_st (x : ScState) : (s.withSc x).st = s.st := rfl
@[simp] theorem State.withSc_eng (x : ScState) : (s.withSc x).eng = s.eng := rfl
@[simp] theorem State.withSc_sc (x : ScState) : (s.withSc x).sc = x := rfl
@[simp] theorem State.withSc_hq (x : ScState) : (s.withSc x).hq = s.hq := rfl
@[simp] theorem State.withSc_herd (x : ScState) : (s.withSc x).herd = s.herd := rfl
@[simp] theorem State.withSc_pm (x : ScState) : (s.withSc x).pm = s.pm := rfl
@[simp] theorem State.withSc_svc (x : ScState) : (s.withSc x).svc = s.svc := rfl
@[simp] theorem State.withSc_pins (x : ScState) : (s.withSc x).pins = s.pins := rfl
@[simp] theorem State.withSc_power (x : ScState) : (s.withSc x).power = s.power := rfl
@[simp] theorem State.withHq_regs (x : HqState) : (s.withHq x).regs = s.regs := rfl
@[simp] theorem State.withHq_applied (x : HqState) : (s.withHq x).applied = s.applied := rfl
@[simp] theorem State.withHq_shadowPend (x : HqState) : (s.withHq x).shadowPend = s.shadowPend := rfl
@[simp] theorem State.withHq_pending (x : HqState) : (s.withHq x).pending = s.pending := rfl
@[simp] theorem State.withHq_out (x : HqState) : (s.withHq x).out = s.out := rfl
@[simp] theorem State.withHq_freeIdx (x : HqState) : (s.withHq x).freeIdx = s.freeIdx := rfl
@[simp] theorem State.withHq_ft (x : HqState) : (s.withHq x).ft = s.ft := rfl
@[simp] theorem State.withHq_audit (x : HqState) : (s.withHq x).audit = s.audit := rfl
@[simp] theorem State.withHq_tm (x : HqState) : (s.withHq x).tm = s.tm := rfl
@[simp] theorem State.withHq_ras (x : HqState) : (s.withHq x).ras = s.ras := rfl
@[simp] theorem State.withHq_hbm (x : HqState) : (s.withHq x).hbm = s.hbm := rfl
@[simp] theorem State.withHq_mule (x : HqState) : (s.withHq x).mule = s.mule := rfl
@[simp] theorem State.withHq_lc (x : HqState) : (s.withHq x).lc = s.lc := rfl
@[simp] theorem State.withHq_tr (x : HqState) : (s.withHq x).tr = s.tr := rfl
@[simp] theorem State.withHq_st (x : HqState) : (s.withHq x).st = s.st := rfl
@[simp] theorem State.withHq_eng (x : HqState) : (s.withHq x).eng = s.eng := rfl
@[simp] theorem State.withHq_sc (x : HqState) : (s.withHq x).sc = s.sc := rfl
@[simp] theorem State.withHq_hq (x : HqState) : (s.withHq x).hq = x := rfl
@[simp] theorem State.withHq_herd (x : HqState) : (s.withHq x).herd = s.herd := rfl
@[simp] theorem State.withHq_pm (x : HqState) : (s.withHq x).pm = s.pm := rfl
@[simp] theorem State.withHq_svc (x : HqState) : (s.withHq x).svc = s.svc := rfl
@[simp] theorem State.withHq_pins (x : HqState) : (s.withHq x).pins = s.pins := rfl
@[simp] theorem State.withHq_power (x : HqState) : (s.withHq x).power = s.power := rfl
@[simp] theorem State.withHerd_regs (x : HerdState) : (s.withHerd x).regs = s.regs := rfl
@[simp] theorem State.withHerd_applied (x : HerdState) : (s.withHerd x).applied = s.applied := rfl
@[simp] theorem State.withHerd_shadowPend (x : HerdState) : (s.withHerd x).shadowPend = s.shadowPend := rfl
@[simp] theorem State.withHerd_pending (x : HerdState) : (s.withHerd x).pending = s.pending := rfl
@[simp] theorem State.withHerd_out (x : HerdState) : (s.withHerd x).out = s.out := rfl
@[simp] theorem State.withHerd_freeIdx (x : HerdState) : (s.withHerd x).freeIdx = s.freeIdx := rfl
@[simp] theorem State.withHerd_ft (x : HerdState) : (s.withHerd x).ft = s.ft := rfl
@[simp] theorem State.withHerd_audit (x : HerdState) : (s.withHerd x).audit = s.audit := rfl
@[simp] theorem State.withHerd_tm (x : HerdState) : (s.withHerd x).tm = s.tm := rfl
@[simp] theorem State.withHerd_ras (x : HerdState) : (s.withHerd x).ras = s.ras := rfl
@[simp] theorem State.withHerd_hbm (x : HerdState) : (s.withHerd x).hbm = s.hbm := rfl
@[simp] theorem State.withHerd_mule (x : HerdState) : (s.withHerd x).mule = s.mule := rfl
@[simp] theorem State.withHerd_lc (x : HerdState) : (s.withHerd x).lc = s.lc := rfl
@[simp] theorem State.withHerd_tr (x : HerdState) : (s.withHerd x).tr = s.tr := rfl
@[simp] theorem State.withHerd_st (x : HerdState) : (s.withHerd x).st = s.st := rfl
@[simp] theorem State.withHerd_eng (x : HerdState) : (s.withHerd x).eng = s.eng := rfl
@[simp] theorem State.withHerd_sc (x : HerdState) : (s.withHerd x).sc = s.sc := rfl
@[simp] theorem State.withHerd_hq (x : HerdState) : (s.withHerd x).hq = s.hq := rfl
@[simp] theorem State.withHerd_herd (x : HerdState) : (s.withHerd x).herd = x := rfl
@[simp] theorem State.withHerd_pm (x : HerdState) : (s.withHerd x).pm = s.pm := rfl
@[simp] theorem State.withHerd_svc (x : HerdState) : (s.withHerd x).svc = s.svc := rfl
@[simp] theorem State.withHerd_pins (x : HerdState) : (s.withHerd x).pins = s.pins := rfl
@[simp] theorem State.withHerd_power (x : HerdState) : (s.withHerd x).power = s.power := rfl
@[simp] theorem State.withPm_regs (x : PmState) : (s.withPm x).regs = s.regs := rfl
@[simp] theorem State.withPm_applied (x : PmState) : (s.withPm x).applied = s.applied := rfl
@[simp] theorem State.withPm_shadowPend (x : PmState) : (s.withPm x).shadowPend = s.shadowPend := rfl
@[simp] theorem State.withPm_pending (x : PmState) : (s.withPm x).pending = s.pending := rfl
@[simp] theorem State.withPm_out (x : PmState) : (s.withPm x).out = s.out := rfl
@[simp] theorem State.withPm_freeIdx (x : PmState) : (s.withPm x).freeIdx = s.freeIdx := rfl
@[simp] theorem State.withPm_ft (x : PmState) : (s.withPm x).ft = s.ft := rfl
@[simp] theorem State.withPm_audit (x : PmState) : (s.withPm x).audit = s.audit := rfl
@[simp] theorem State.withPm_tm (x : PmState) : (s.withPm x).tm = s.tm := rfl
@[simp] theorem State.withPm_ras (x : PmState) : (s.withPm x).ras = s.ras := rfl
@[simp] theorem State.withPm_hbm (x : PmState) : (s.withPm x).hbm = s.hbm := rfl
@[simp] theorem State.withPm_mule (x : PmState) : (s.withPm x).mule = s.mule := rfl
@[simp] theorem State.withPm_lc (x : PmState) : (s.withPm x).lc = s.lc := rfl
@[simp] theorem State.withPm_tr (x : PmState) : (s.withPm x).tr = s.tr := rfl
@[simp] theorem State.withPm_st (x : PmState) : (s.withPm x).st = s.st := rfl
@[simp] theorem State.withPm_eng (x : PmState) : (s.withPm x).eng = s.eng := rfl
@[simp] theorem State.withPm_sc (x : PmState) : (s.withPm x).sc = s.sc := rfl
@[simp] theorem State.withPm_hq (x : PmState) : (s.withPm x).hq = s.hq := rfl
@[simp] theorem State.withPm_herd (x : PmState) : (s.withPm x).herd = s.herd := rfl
@[simp] theorem State.withPm_pm (x : PmState) : (s.withPm x).pm = x := rfl
@[simp] theorem State.withPm_svc (x : PmState) : (s.withPm x).svc = s.svc := rfl
@[simp] theorem State.withPm_pins (x : PmState) : (s.withPm x).pins = s.pins := rfl
@[simp] theorem State.withPm_power (x : PmState) : (s.withPm x).power = s.power := rfl
@[simp] theorem State.withSvc_regs (x : SvcState) : (s.withSvc x).regs = s.regs := rfl
@[simp] theorem State.withSvc_applied (x : SvcState) : (s.withSvc x).applied = s.applied := rfl
@[simp] theorem State.withSvc_shadowPend (x : SvcState) : (s.withSvc x).shadowPend = s.shadowPend := rfl
@[simp] theorem State.withSvc_pending (x : SvcState) : (s.withSvc x).pending = s.pending := rfl
@[simp] theorem State.withSvc_out (x : SvcState) : (s.withSvc x).out = s.out := rfl
@[simp] theorem State.withSvc_freeIdx (x : SvcState) : (s.withSvc x).freeIdx = s.freeIdx := rfl
@[simp] theorem State.withSvc_ft (x : SvcState) : (s.withSvc x).ft = s.ft := rfl
@[simp] theorem State.withSvc_audit (x : SvcState) : (s.withSvc x).audit = s.audit := rfl
@[simp] theorem State.withSvc_tm (x : SvcState) : (s.withSvc x).tm = s.tm := rfl
@[simp] theorem State.withSvc_ras (x : SvcState) : (s.withSvc x).ras = s.ras := rfl
@[simp] theorem State.withSvc_hbm (x : SvcState) : (s.withSvc x).hbm = s.hbm := rfl
@[simp] theorem State.withSvc_mule (x : SvcState) : (s.withSvc x).mule = s.mule := rfl
@[simp] theorem State.withSvc_lc (x : SvcState) : (s.withSvc x).lc = s.lc := rfl
@[simp] theorem State.withSvc_tr (x : SvcState) : (s.withSvc x).tr = s.tr := rfl
@[simp] theorem State.withSvc_st (x : SvcState) : (s.withSvc x).st = s.st := rfl
@[simp] theorem State.withSvc_eng (x : SvcState) : (s.withSvc x).eng = s.eng := rfl
@[simp] theorem State.withSvc_sc (x : SvcState) : (s.withSvc x).sc = s.sc := rfl
@[simp] theorem State.withSvc_hq (x : SvcState) : (s.withSvc x).hq = s.hq := rfl
@[simp] theorem State.withSvc_herd (x : SvcState) : (s.withSvc x).herd = s.herd := rfl
@[simp] theorem State.withSvc_pm (x : SvcState) : (s.withSvc x).pm = s.pm := rfl
@[simp] theorem State.withSvc_svc (x : SvcState) : (s.withSvc x).svc = x := rfl
@[simp] theorem State.withSvc_pins (x : SvcState) : (s.withSvc x).pins = s.pins := rfl
@[simp] theorem State.withSvc_power (x : SvcState) : (s.withSvc x).power = s.power := rfl
@[simp] theorem State.withPins_regs (x : Pins) : (s.withPins x).regs = s.regs := rfl
@[simp] theorem State.withPins_applied (x : Pins) : (s.withPins x).applied = s.applied := rfl
@[simp] theorem State.withPins_shadowPend (x : Pins) : (s.withPins x).shadowPend = s.shadowPend := rfl
@[simp] theorem State.withPins_pending (x : Pins) : (s.withPins x).pending = s.pending := rfl
@[simp] theorem State.withPins_out (x : Pins) : (s.withPins x).out = s.out := rfl
@[simp] theorem State.withPins_freeIdx (x : Pins) : (s.withPins x).freeIdx = s.freeIdx := rfl
@[simp] theorem State.withPins_ft (x : Pins) : (s.withPins x).ft = s.ft := rfl
@[simp] theorem State.withPins_audit (x : Pins) : (s.withPins x).audit = s.audit := rfl
@[simp] theorem State.withPins_tm (x : Pins) : (s.withPins x).tm = s.tm := rfl
@[simp] theorem State.withPins_ras (x : Pins) : (s.withPins x).ras = s.ras := rfl
@[simp] theorem State.withPins_hbm (x : Pins) : (s.withPins x).hbm = s.hbm := rfl
@[simp] theorem State.withPins_mule (x : Pins) : (s.withPins x).mule = s.mule := rfl
@[simp] theorem State.withPins_lc (x : Pins) : (s.withPins x).lc = s.lc := rfl
@[simp] theorem State.withPins_tr (x : Pins) : (s.withPins x).tr = s.tr := rfl
@[simp] theorem State.withPins_st (x : Pins) : (s.withPins x).st = s.st := rfl
@[simp] theorem State.withPins_eng (x : Pins) : (s.withPins x).eng = s.eng := rfl
@[simp] theorem State.withPins_sc (x : Pins) : (s.withPins x).sc = s.sc := rfl
@[simp] theorem State.withPins_hq (x : Pins) : (s.withPins x).hq = s.hq := rfl
@[simp] theorem State.withPins_herd (x : Pins) : (s.withPins x).herd = s.herd := rfl
@[simp] theorem State.withPins_pm (x : Pins) : (s.withPins x).pm = s.pm := rfl
@[simp] theorem State.withPins_svc (x : Pins) : (s.withPins x).svc = s.svc := rfl
@[simp] theorem State.withPins_pins (x : Pins) : (s.withPins x).pins = x := rfl
@[simp] theorem State.withPins_power (x : Pins) : (s.withPins x).power = s.power := rfl
@[simp] theorem State.withPower_regs (x : PowerState) : (s.withPower x).regs = s.regs := rfl
@[simp] theorem State.withPower_applied (x : PowerState) : (s.withPower x).applied = s.applied := rfl
@[simp] theorem State.withPower_shadowPend (x : PowerState) : (s.withPower x).shadowPend = s.shadowPend := rfl
@[simp] theorem State.withPower_pending (x : PowerState) : (s.withPower x).pending = s.pending := rfl
@[simp] theorem State.withPower_out (x : PowerState) : (s.withPower x).out = s.out := rfl
@[simp] theorem State.withPower_freeIdx (x : PowerState) : (s.withPower x).freeIdx = s.freeIdx := rfl
@[simp] theorem State.withPower_ft (x : PowerState) : (s.withPower x).ft = s.ft := rfl
@[simp] theorem State.withPower_audit (x : PowerState) : (s.withPower x).audit = s.audit := rfl
@[simp] theorem State.withPower_tm (x : PowerState) : (s.withPower x).tm = s.tm := rfl
@[simp] theorem State.withPower_ras (x : PowerState) : (s.withPower x).ras = s.ras := rfl
@[simp] theorem State.withPower_hbm (x : PowerState) : (s.withPower x).hbm = s.hbm := rfl
@[simp] theorem State.withPower_mule (x : PowerState) : (s.withPower x).mule = s.mule := rfl
@[simp] theorem State.withPower_lc (x : PowerState) : (s.withPower x).lc = s.lc := rfl
@[simp] theorem State.withPower_tr (x : PowerState) : (s.withPower x).tr = s.tr := rfl
@[simp] theorem State.withPower_st (x : PowerState) : (s.withPower x).st = s.st := rfl
@[simp] theorem State.withPower_eng (x : PowerState) : (s.withPower x).eng = s.eng := rfl
@[simp] theorem State.withPower_sc (x : PowerState) : (s.withPower x).sc = s.sc := rfl
@[simp] theorem State.withPower_hq (x : PowerState) : (s.withPower x).hq = s.hq := rfl
@[simp] theorem State.withPower_herd (x : PowerState) : (s.withPower x).herd = s.herd := rfl
@[simp] theorem State.withPower_pm (x : PowerState) : (s.withPower x).pm = s.pm := rfl
@[simp] theorem State.withPower_svc (x : PowerState) : (s.withPower x).svc = s.svc := rfl
@[simp] theorem State.withPower_pins (x : PowerState) : (s.withPower x).pins = s.pins := rfl
@[simp] theorem State.withPower_power (x : PowerState) : (s.withPower x).power = x := rfl

end Sys2Proof.Machine
end

