-- ==== Sys2Proof/Laws/Keep.lean ====
section
/-! SUPPORT. What the named register operations leave alone, and what the updates of the other fields leave of the
registers. -/
namespace Sys2Proof.Machine

open Sys2Proof

@[simp] theorem State.setReg_applied (s : State) (id : RegId) (i j : Nat) (v : W64) : (s.setReg id i j v).applied = s.applied := State.withRegs_applied ..
@[simp] theorem State.setReg_shadowPend (s : State) (id : RegId) (i j : Nat) (v : W64) : (s.setReg id i j v).shadowPend = s.shadowPend := State.withRegs_shadowPend ..
@[simp] theorem State.setReg_pending (s : State) (id : RegId) (i j : Nat) (v : W64) : (s.setReg id i j v).pending = s.pending := State.withRegs_pending ..
@[simp] theorem State.setReg_out (s : State) (id : RegId) (i j : Nat) (v : W64) : (s.setReg id i j v).out = s.out := State.withRegs_out ..
@[simp] theorem State.setReg_freeIdx (s : State) (id : RegId) (i j : Nat) (v : W64) : (s.setReg id i j v).freeIdx = s.freeIdx := State.withRegs_freeIdx ..
@[simp] theorem State.setReg_ft (s : State) (id : RegId) (i j : Nat) (v : W64) : (s.setReg id i j v).ft = s.ft := State.withRegs_ft ..
@[simp] theorem State.setReg_audit (s : State) (id : RegId) (i j : Nat) (v : W64) : (s.setReg id i j v).audit = s.audit := State.withRegs_audit ..
@[simp] theorem State.setReg_tm (s : State) (id : RegId) (i j : Nat) (v : W64) : (s.setReg id i j v).tm = s.tm := State.withRegs_tm ..
@[simp] theorem State.setReg_ras (s : State) (id : RegId) (i j : Nat) (v : W64) : (s.setReg id i j v).ras = s.ras := State.withRegs_ras ..
@[simp] theorem State.setReg_hbm (s : State) (id : RegId) (i j : Nat) (v : W64) : (s.setReg id i j v).hbm = s.hbm := State.withRegs_hbm ..
@[simp] theorem State.setReg_mule (s : State) (id : RegId) (i j : Nat) (v : W64) : (s.setReg id i j v).mule = s.mule := State.withRegs_mule ..
@[simp] theorem State.setReg_lc (s : State) (id : RegId) (i j : Nat) (v : W64) : (s.setReg id i j v).lc = s.lc := State.withRegs_lc ..
@[simp] theorem State.setReg_tr (s : State) (id : RegId) (i j : Nat) (v : W64) : (s.setReg id i j v).tr = s.tr := State.withRegs_tr ..
@[simp] theorem State.setReg_st (s : State) (id : RegId) (i j : Nat) (v : W64) : (s.setReg id i j v).st = s.st := State.withRegs_st ..
@[simp] theorem State.setReg_eng (s : State) (id : RegId) (i j : Nat) (v : W64) : (s.setReg id i j v).eng = s.eng := State.withRegs_eng ..
@[simp] theorem State.setReg_sc (s : State) (id : RegId) (i j : Nat) (v : W64) : (s.setReg id i j v).sc = s.sc := State.withRegs_sc ..
@[simp] theorem State.setReg_hq (s : State) (id : RegId) (i j : Nat) (v : W64) : (s.setReg id i j v).hq = s.hq := State.withRegs_hq ..
@[simp] theorem State.setReg_herd (s : State) (id : RegId) (i j : Nat) (v : W64) : (s.setReg id i j v).herd = s.herd := State.withRegs_herd ..
@[simp] theorem State.setReg_pm (s : State) (id : RegId) (i j : Nat) (v : W64) : (s.setReg id i j v).pm = s.pm := State.withRegs_pm ..
@[simp] theorem State.setReg_svc (s : State) (id : RegId) (i j : Nat) (v : W64) : (s.setReg id i j v).svc = s.svc := State.withRegs_svc ..
@[simp] theorem State.setReg_pins (s : State) (id : RegId) (i j : Nat) (v : W64) : (s.setReg id i j v).pins = s.pins := State.withRegs_pins ..
@[simp] theorem State.setReg_power (s : State) (id : RegId) (i j : Nat) (v : W64) : (s.setReg id i j v).power = s.power := State.withRegs_power ..
@[simp] theorem State.setFld_applied (s : State) (f : Fld) (i j x : Nat) : (s.setFld f i j x).applied = s.applied := State.setReg_applied ..
@[simp] theorem State.setFld_shadowPend (s : State) (f : Fld) (i j x : Nat) : (s.setFld f i j x).shadowPend = s.shadowPend := State.setReg_shadowPend ..
@[simp] theorem State.setFld_pending (s : State) (f : Fld) (i j x : Nat) : (s.setFld f i j x).pending = s.pending := State.setReg_pending ..
@[simp] theorem State.setFld_out (s : State) (f : Fld) (i j x : Nat) : (s.setFld f i j x).out = s.out := State.setReg_out ..
@[simp] theorem State.setFld_freeIdx (s : State) (f : Fld) (i j x : Nat) : (s.setFld f i j x).freeIdx = s.freeIdx := State.setReg_freeIdx ..
@[simp] theorem State.setFld_ft (s : State) (f : Fld) (i j x : Nat) : (s.setFld f i j x).ft = s.ft := State.setReg_ft ..
@[simp] theorem State.setFld_audit (s : State) (f : Fld) (i j x : Nat) : (s.setFld f i j x).audit = s.audit := State.setReg_audit ..
@[simp] theorem State.setFld_tm (s : State) (f : Fld) (i j x : Nat) : (s.setFld f i j x).tm = s.tm := State.setReg_tm ..
@[simp] theorem State.setFld_ras (s : State) (f : Fld) (i j x : Nat) : (s.setFld f i j x).ras = s.ras := State.setReg_ras ..
@[simp] theorem State.setFld_hbm (s : State) (f : Fld) (i j x : Nat) : (s.setFld f i j x).hbm = s.hbm := State.setReg_hbm ..
@[simp] theorem State.setFld_mule (s : State) (f : Fld) (i j x : Nat) : (s.setFld f i j x).mule = s.mule := State.setReg_mule ..
@[simp] theorem State.setFld_lc (s : State) (f : Fld) (i j x : Nat) : (s.setFld f i j x).lc = s.lc := State.setReg_lc ..
@[simp] theorem State.setFld_tr (s : State) (f : Fld) (i j x : Nat) : (s.setFld f i j x).tr = s.tr := State.setReg_tr ..
@[simp] theorem State.setFld_st (s : State) (f : Fld) (i j x : Nat) : (s.setFld f i j x).st = s.st := State.setReg_st ..
@[simp] theorem State.setFld_eng (s : State) (f : Fld) (i j x : Nat) : (s.setFld f i j x).eng = s.eng := State.setReg_eng ..
@[simp] theorem State.setFld_sc (s : State) (f : Fld) (i j x : Nat) : (s.setFld f i j x).sc = s.sc := State.setReg_sc ..
@[simp] theorem State.setFld_hq (s : State) (f : Fld) (i j x : Nat) : (s.setFld f i j x).hq = s.hq := State.setReg_hq ..
@[simp] theorem State.setFld_herd (s : State) (f : Fld) (i j x : Nat) : (s.setFld f i j x).herd = s.herd := State.setReg_herd ..
@[simp] theorem State.setFld_pm (s : State) (f : Fld) (i j x : Nat) : (s.setFld f i j x).pm = s.pm := State.setReg_pm ..
@[simp] theorem State.setFld_svc (s : State) (f : Fld) (i j x : Nat) : (s.setFld f i j x).svc = s.svc := State.setReg_svc ..
@[simp] theorem State.setFld_pins (s : State) (f : Fld) (i j x : Nat) : (s.setFld f i j x).pins = s.pins := State.setReg_pins ..
@[simp] theorem State.setFld_power (s : State) (f : Fld) (i j x : Nat) : (s.setFld f i j x).power = s.power := State.setReg_power ..
@[simp] theorem State.setFlag_applied (s : State) (f : Fld) (i j : Nat) (b : Bool) : (s.setFlag f i j b).applied = s.applied := State.setFld_applied ..
@[simp] theorem State.setFlag_shadowPend (s : State) (f : Fld) (i j : Nat) (b : Bool) : (s.setFlag f i j b).shadowPend = s.shadowPend := State.setFld_shadowPend ..
@[simp] theorem State.setFlag_pending (s : State) (f : Fld) (i j : Nat) (b : Bool) : (s.setFlag f i j b).pending = s.pending := State.setFld_pending ..
@[simp] theorem State.setFlag_out (s : State) (f : Fld) (i j : Nat) (b : Bool) : (s.setFlag f i j b).out = s.out := State.setFld_out ..
@[simp] theorem State.setFlag_freeIdx (s : State) (f : Fld) (i j : Nat) (b : Bool) : (s.setFlag f i j b).freeIdx = s.freeIdx := State.setFld_freeIdx ..
@[simp] theorem State.setFlag_ft (s : State) (f : Fld) (i j : Nat) (b : Bool) : (s.setFlag f i j b).ft = s.ft := State.setFld_ft ..
@[simp] theorem State.setFlag_audit (s : State) (f : Fld) (i j : Nat) (b : Bool) : (s.setFlag f i j b).audit = s.audit := State.setFld_audit ..
@[simp] theorem State.setFlag_tm (s : State) (f : Fld) (i j : Nat) (b : Bool) : (s.setFlag f i j b).tm = s.tm := State.setFld_tm ..
@[simp] theorem State.setFlag_ras (s : State) (f : Fld) (i j : Nat) (b : Bool) : (s.setFlag f i j b).ras = s.ras := State.setFld_ras ..
@[simp] theorem State.setFlag_hbm (s : State) (f : Fld) (i j : Nat) (b : Bool) : (s.setFlag f i j b).hbm = s.hbm := State.setFld_hbm ..
@[simp] theorem State.setFlag_mule (s : State) (f : Fld) (i j : Nat) (b : Bool) : (s.setFlag f i j b).mule = s.mule := State.setFld_mule ..
@[simp] theorem State.setFlag_lc (s : State) (f : Fld) (i j : Nat) (b : Bool) : (s.setFlag f i j b).lc = s.lc := State.setFld_lc ..
@[simp] theorem State.setFlag_tr (s : State) (f : Fld) (i j : Nat) (b : Bool) : (s.setFlag f i j b).tr = s.tr := State.setFld_tr ..
@[simp] theorem State.setFlag_st (s : State) (f : Fld) (i j : Nat) (b : Bool) : (s.setFlag f i j b).st = s.st := State.setFld_st ..
@[simp] theorem State.setFlag_eng (s : State) (f : Fld) (i j : Nat) (b : Bool) : (s.setFlag f i j b).eng = s.eng := State.setFld_eng ..
@[simp] theorem State.setFlag_sc (s : State) (f : Fld) (i j : Nat) (b : Bool) : (s.setFlag f i j b).sc = s.sc := State.setFld_sc ..
@[simp] theorem State.setFlag_hq (s : State) (f : Fld) (i j : Nat) (b : Bool) : (s.setFlag f i j b).hq = s.hq := State.setFld_hq ..
@[simp] theorem State.setFlag_herd (s : State) (f : Fld) (i j : Nat) (b : Bool) : (s.setFlag f i j b).herd = s.herd := State.setFld_herd ..
@[simp] theorem State.setFlag_pm (s : State) (f : Fld) (i j : Nat) (b : Bool) : (s.setFlag f i j b).pm = s.pm := State.setFld_pm ..
@[simp] theorem State.setFlag_svc (s : State) (f : Fld) (i j : Nat) (b : Bool) : (s.setFlag f i j b).svc = s.svc := State.setFld_svc ..
@[simp] theorem State.setFlag_pins (s : State) (f : Fld) (i j : Nat) (b : Bool) : (s.setFlag f i j b).pins = s.pins := State.setFld_pins ..
@[simp] theorem State.setFlag_power (s : State) (f : Fld) (i j : Nat) (b : Bool) : (s.setFlag f i j b).power = s.power := State.setFld_power ..
@[simp] theorem State.emit_regs (s : State) (o : Out) : (s.emit o).regs = s.regs := rfl
@[simp] theorem State.emit_applied (s : State) (o : Out) : (s.emit o).applied = s.applied := rfl
@[simp] theorem State.emit_shadowPend (s : State) (o : Out) : (s.emit o).shadowPend = s.shadowPend := rfl
@[simp] theorem State.emit_pending (s : State) (o : Out) : (s.emit o).pending = s.pending := rfl
@[simp] theorem State.emit_freeIdx (s : State) (o : Out) : (s.emit o).freeIdx = s.freeIdx := rfl
@[simp] theorem State.emit_ft (s : State) (o : Out) : (s.emit o).ft = s.ft := rfl
@[simp] theorem State.emit_audit (s : State) (o : Out) : (s.emit o).audit = s.audit := rfl
@[simp] theorem State.emit_tm (s : State) (o : Out) : (s.emit o).tm = s.tm := rfl
@[simp] theorem State.emit_ras (s : State) (o : Out) : (s.emit o).ras = s.ras := rfl
@[simp] theorem State.emit_hbm (s : State) (o : Out) : (s.emit o).hbm = s.hbm := rfl
@[simp] theorem State.emit_mule (s : State) (o : Out) : (s.emit o).mule = s.mule := rfl
@[simp] theorem State.emit_lc (s : State) (o : Out) : (s.emit o).lc = s.lc := rfl
@[simp] theorem State.emit_tr (s : State) (o : Out) : (s.emit o).tr = s.tr := rfl
@[simp] theorem State.emit_st (s : State) (o : Out) : (s.emit o).st = s.st := rfl
@[simp] theorem State.emit_eng (s : State) (o : Out) : (s.emit o).eng = s.eng := rfl
@[simp] theorem State.emit_sc (s : State) (o : Out) : (s.emit o).sc = s.sc := rfl
@[simp] theorem State.emit_hq (s : State) (o : Out) : (s.emit o).hq = s.hq := rfl
@[simp] theorem State.emit_herd (s : State) (o : Out) : (s.emit o).herd = s.herd := rfl
@[simp] theorem State.emit_pm (s : State) (o : Out) : (s.emit o).pm = s.pm := rfl
@[simp] theorem State.emit_svc (s : State) (o : Out) : (s.emit o).svc = s.svc := rfl
@[simp] theorem State.emit_pins (s : State) (o : Out) : (s.emit o).pins = s.pins := rfl
@[simp] theorem State.emit_power (s : State) (o : Out) : (s.emit o).power = s.power := rfl
@[simp] theorem reg_withApplied (s : State) (x : Sparse W64) (id : RegId) (i j : Nat) : (s.withApplied x).reg id i j = s.reg id i j := rfl
@[simp] theorem fld_withApplied (s : State) (x : Sparse W64) (f : Fld) (i j : Nat) : (s.withApplied x).fld f i j = s.fld f i j := rfl
@[simp] theorem flag_withApplied (s : State) (x : Sparse W64) (f : Fld) (i j : Nat) : (s.withApplied x).flag f i j = s.flag f i j := rfl
@[simp] theorem now_withApplied (s : State) (x : Sparse W64) : (s.withApplied x).now = s.now := rfl
@[simp] theorem reg_withShadowPend (s : State) (x : List Nat) (id : RegId) (i j : Nat) : (s.withShadowPend x).reg id i j = s.reg id i j := rfl
@[simp] theorem fld_withShadowPend (s : State) (x : List Nat) (f : Fld) (i j : Nat) : (s.withShadowPend x).fld f i j = s.fld f i j := rfl
@[simp] theorem flag_withShadowPend (s : State) (x : List Nat) (f : Fld) (i j : Nat) : (s.withShadowPend x).flag f i j = s.flag f i j := rfl
@[simp] theorem now_withShadowPend (s : State) (x : List Nat) : (s.withShadowPend x).now = s.now := rfl
@[simp] theorem reg_withPending (s : State) (x : List Instr) (id : RegId) (i j : Nat) : (s.withPending x).reg id i j = s.reg id i j := rfl
@[simp] theorem fld_withPending (s : State) (x : List Instr) (f : Fld) (i j : Nat) : (s.withPending x).fld f i j = s.fld f i j := rfl
@[simp] theorem flag_withPending (s : State) (x : List Instr) (f : Fld) (i j : Nat) : (s.withPending x).flag f i j = s.flag f i j := rfl
@[simp] theorem now_withPending (s : State) (x : List Instr) : (s.withPending x).now = s.now := rfl
@[simp] theorem reg_withOut (s : State) (x : List Out) (id : RegId) (i j : Nat) : (s.withOut x).reg id i j = s.reg id i j := rfl
@[simp] theorem fld_withOut (s : State) (x : List Out) (f : Fld) (i j : Nat) : (s.withOut x).fld f i j = s.fld f i j := rfl
@[simp] theorem flag_withOut (s : State) (x : List Out) (f : Fld) (i j : Nat) : (s.withOut x).flag f i j = s.flag f i j := rfl
@[simp] theorem now_withOut (s : State) (x : List Out) : (s.withOut x).now = s.now := rfl
@[simp] theorem reg_withFreeIdx (s : State) (x : Nat) (id : RegId) (i j : Nat) : (s.withFreeIdx x).reg id i j = s.reg id i j := rfl
@[simp] theorem fld_withFreeIdx (s : State) (x : Nat) (f : Fld) (i j : Nat) : (s.withFreeIdx x).fld f i j = s.fld f i j := rfl
@[simp] theorem flag_withFreeIdx (s : State) (x : Nat) (f : Fld) (i j : Nat) : (s.withFreeIdx x).flag f i j = s.flag f i j := rfl
@[simp] theorem now_withFreeIdx (s : State) (x : Nat) : (s.withFreeIdx x).now = s.now := rfl
@[simp] theorem reg_withFt (s : State) (x : FtState) (id : RegId) (i j : Nat) : (s.withFt x).reg id i j = s.reg id i j := rfl
@[simp] theorem fld_withFt (s : State) (x : FtState) (f : Fld) (i j : Nat) : (s.withFt x).fld f i j = s.fld f i j := rfl
@[simp] theorem flag_withFt (s : State) (x : FtState) (f : Fld) (i j : Nat) : (s.withFt x).flag f i j = s.flag f i j := rfl
@[simp] theorem now_withFt (s : State) (x : FtState) : (s.withFt x).now = s.now := rfl
@[simp] theorem reg_withAudit (s : State) (x : AuditState) (id : RegId) (i j : Nat) : (s.withAudit x).reg id i j = s.reg id i j := rfl
@[simp] theorem fld_withAudit (s : State) (x : AuditState) (f : Fld) (i j : Nat) : (s.withAudit x).fld f i j = s.fld f i j := rfl
@[simp] theorem flag_withAudit (s : State) (x : AuditState) (f : Fld) (i j : Nat) : (s.withAudit x).flag f i j = s.flag f i j := rfl
@[simp] theorem now_withAudit (s : State) (x : AuditState) : (s.withAudit x).now = s.now := rfl
@[simp] theorem reg_withTm (s : State) (x : TmState) (id : RegId) (i j : Nat) : (s.withTm x).reg id i j = s.reg id i j := rfl
@[simp] theorem fld_withTm (s : State) (x : TmState) (f : Fld) (i j : Nat) : (s.withTm x).fld f i j = s.fld f i j := rfl
@[simp] theorem flag_withTm (s : State) (x : TmState) (f : Fld) (i j : Nat) : (s.withTm x).flag f i j = s.flag f i j := rfl
@[simp] theorem now_withTm (s : State) (x : TmState) : (s.withTm x).now = s.now := rfl
@[simp] theorem reg_withRas (s : State) (x : RasState) (id : RegId) (i j : Nat) : (s.withRas x).reg id i j = s.reg id i j := rfl
@[simp] theorem fld_withRas (s : State) (x : RasState) (f : Fld) (i j : Nat) : (s.withRas x).fld f i j = s.fld f i j := rfl
@[simp] theorem flag_withRas (s : State) (x : RasState) (f : Fld) (i j : Nat) : (s.withRas x).flag f i j = s.flag f i j := rfl
@[simp] theorem now_withRas (s : State) (x : RasState) : (s.withRas x).now = s.now := rfl
@[simp] theorem reg_withHbm (s : State) (x : HbmState) (id : RegId) (i j : Nat) : (s.withHbm x).reg id i j = s.reg id i j := rfl
@[simp] theorem fld_withHbm (s : State) (x : HbmState) (f : Fld) (i j : Nat) : (s.withHbm x).fld f i j = s.fld f i j := rfl
@[simp] theorem flag_withHbm (s : State) (x : HbmState) (f : Fld) (i j : Nat) : (s.withHbm x).flag f i j = s.flag f i j := rfl
@[simp] theorem now_withHbm (s : State) (x : HbmState) : (s.withHbm x).now = s.now := rfl
@[simp] theorem reg_withMule (s : State) (x : MuleState) (id : RegId) (i j : Nat) : (s.withMule x).reg id i j = s.reg id i j := rfl
@[simp] theorem fld_withMule (s : State) (x : MuleState) (f : Fld) (i j : Nat) : (s.withMule x).fld f i j = s.fld f i j := rfl
@[simp] theorem flag_withMule (s : State) (x : MuleState) (f : Fld) (i j : Nat) : (s.withMule x).flag f i j = s.flag f i j := rfl
@[simp] theorem now_withMule (s : State) (x : MuleState) : (s.withMule x).now = s.now := rfl
@[simp] theorem reg_withLc (s : State) (x : LcState) (id : RegId) (i j : Nat) : (s.withLc x).reg id i j = s.reg id i j := rfl
@[simp] theorem fld_withLc (s : State) (x : LcState) (f : Fld) (i j : Nat) : (s.withLc x).fld f i j = s.fld f i j := rfl
@[simp] theorem flag_withLc (s : State) (x : LcState) (f : Fld) (i j : Nat) : (s.withLc x).flag f i j = s.flag f i j := rfl
@[simp] theorem now_withLc (s : State) (x : LcState) : (s.withLc x).now = s.now := rfl
@[simp] theorem reg_withTr (s : State) (x : TrState) (id : RegId) (i j : Nat) : (s.withTr x).reg id i j = s.reg id i j := rfl
@[simp] theorem fld_withTr (s : State) (x : TrState) (f : Fld) (i j : Nat) : (s.withTr x).fld f i j = s.fld f i j := rfl
@[simp] theorem flag_withTr (s : State) (x : TrState) (f : Fld) (i j : Nat) : (s.withTr x).flag f i j = s.flag f i j := rfl
@[simp] theorem now_withTr (s : State) (x : TrState) : (s.withTr x).now = s.now := rfl
@[simp] theorem reg_withSt (s : State) (x : Sparse StCtx) (id : RegId) (i j : Nat) : (s.withSt x).reg id i j = s.reg id i j := rfl
@[simp] theorem fld_withSt (s : State) (x : Sparse StCtx) (f : Fld) (i j : Nat) : (s.withSt x).fld f i j = s.fld f i j := rfl
@[simp] theorem flag_withSt (s : State) (x : Sparse StCtx) (f : Fld) (i j : Nat) : (s.withSt x).flag f i j = s.flag f i j := rfl
@[simp] theorem now_withSt (s : State) (x : Sparse StCtx) : (s.withSt x).now = s.now := rfl
@[simp] theorem reg_withEng (s : State) (x : EngState) (id : RegId) (i j : Nat) : (s.withEng x).reg id i j = s.reg id i j := rfl
@[simp] theorem fld_withEng (s : State) (x : EngState) (f : Fld) (i j : Nat) : (s.withEng x).fld f i j = s.fld f i j := rfl
@[simp] theorem flag_withEng (s : State) (x : EngState) (f : Fld) (i j : Nat) : (s.withEng x).flag f i j = s.flag f i j := rfl
@[simp] theorem now_withEng (s : State) (x : EngState) : (s.withEng x).now = s.now := rfl
@[simp] theorem reg_withSc (s : State) (x : ScState) (id : RegId) (i j : Nat) : (s.withSc x).reg id i j = s.reg id i j := rfl
@[simp] theorem fld_withSc (s : State) (x : ScState) (f : Fld) (i j : Nat) : (s.withSc x).fld f i j = s.fld f i j := rfl
@[simp] theorem flag_withSc (s : State) (x : ScState) (f : Fld) (i j : Nat) : (s.withSc x).flag f i j = s.flag f i j := rfl
@[simp] theorem now_withSc (s : State) (x : ScState) : (s.withSc x).now = s.now := rfl
@[simp] theorem reg_withHq (s : State) (x : HqState) (id : RegId) (i j : Nat) : (s.withHq x).reg id i j = s.reg id i j := rfl
@[simp] theorem fld_withHq (s : State) (x : HqState) (f : Fld) (i j : Nat) : (s.withHq x).fld f i j = s.fld f i j := rfl
@[simp] theorem flag_withHq (s : State) (x : HqState) (f : Fld) (i j : Nat) : (s.withHq x).flag f i j = s.flag f i j := rfl
@[simp] theorem now_withHq (s : State) (x : HqState) : (s.withHq x).now = s.now := rfl
@[simp] theorem reg_withHerd (s : State) (x : HerdState) (id : RegId) (i j : Nat) : (s.withHerd x).reg id i j = s.reg id i j := rfl
@[simp] theorem fld_withHerd (s : State) (x : HerdState) (f : Fld) (i j : Nat) : (s.withHerd x).fld f i j = s.fld f i j := rfl
@[simp] theorem flag_withHerd (s : State) (x : HerdState) (f : Fld) (i j : Nat) : (s.withHerd x).flag f i j = s.flag f i j := rfl
@[simp] theorem now_withHerd (s : State) (x : HerdState) : (s.withHerd x).now = s.now := rfl
@[simp] theorem reg_withPm (s : State) (x : PmState) (id : RegId) (i j : Nat) : (s.withPm x).reg id i j = s.reg id i j := rfl
@[simp] theorem fld_withPm (s : State) (x : PmState) (f : Fld) (i j : Nat) : (s.withPm x).fld f i j = s.fld f i j := rfl
@[simp] theorem flag_withPm (s : State) (x : PmState) (f : Fld) (i j : Nat) : (s.withPm x).flag f i j = s.flag f i j := rfl
@[simp] theorem now_withPm (s : State) (x : PmState) : (s.withPm x).now = s.now := rfl
@[simp] theorem reg_withSvc (s : State) (x : SvcState) (id : RegId) (i j : Nat) : (s.withSvc x).reg id i j = s.reg id i j := rfl
@[simp] theorem fld_withSvc (s : State) (x : SvcState) (f : Fld) (i j : Nat) : (s.withSvc x).fld f i j = s.fld f i j := rfl
@[simp] theorem flag_withSvc (s : State) (x : SvcState) (f : Fld) (i j : Nat) : (s.withSvc x).flag f i j = s.flag f i j := rfl
@[simp] theorem now_withSvc (s : State) (x : SvcState) : (s.withSvc x).now = s.now := rfl
@[simp] theorem reg_withPins (s : State) (x : Pins) (id : RegId) (i j : Nat) : (s.withPins x).reg id i j = s.reg id i j := rfl
@[simp] theorem fld_withPins (s : State) (x : Pins) (f : Fld) (i j : Nat) : (s.withPins x).fld f i j = s.fld f i j := rfl
@[simp] theorem flag_withPins (s : State) (x : Pins) (f : Fld) (i j : Nat) : (s.withPins x).flag f i j = s.flag f i j := rfl
@[simp] theorem now_withPins (s : State) (x : Pins) : (s.withPins x).now = s.now := rfl
@[simp] theorem reg_withPower (s : State) (x : PowerState) (id : RegId) (i j : Nat) : (s.withPower x).reg id i j = s.reg id i j := rfl
@[simp] theorem fld_withPower (s : State) (x : PowerState) (f : Fld) (i j : Nat) : (s.withPower x).fld f i j = s.fld f i j := rfl
@[simp] theorem flag_withPower (s : State) (x : PowerState) (f : Fld) (i j : Nat) : (s.withPower x).flag f i j = s.flag f i j := rfl
@[simp] theorem now_withPower (s : State) (x : PowerState) : (s.withPower x).now = s.now := rfl

end Sys2Proof.Machine
end

