-- ==== Sys2Proof/Laws/Sparse.lean ====
section
/-! SUPPORT. Reading a sparse store after writing it, and the canonical form that every operation on it keeps. -/
namespace Sys2Proof.Machine

variable {α : Type}

theorem sget_serase_same (d : Nat → α) (m : Sparse α) (k : Nat) : sget d (serase m k) k = d k := by
  induction m with
  | nil => rfl
  | cons e t ih =>
    obtain ⟨k', v⟩ := e
    by_cases h : k' = k <;> simp [serase, sget, h, ih]

theorem sget_serase_ne (d : Nat → α) (m : Sparse α) (k k' : Nat) (h : k' ≠ k) : sget d (serase m k) k' = sget d m k' := by
  induction m with
  | nil => rfl
  | cons e t ih =>
    obtain ⟨k1, v⟩ := e
    by_cases h1 : k1 = k
    · subst h1
      have : ¬ k1 = k' := fun e => h e.symm
      simp [serase, sget, this, ih]
    · simp [serase, sget, h1, ih]

theorem sget_sinsert_ne (d : Nat → α) (m : Sparse α) (k k' : Nat) (v : α) (h : k' ≠ k) :
    sget d (sinsert m k v) k' = sget d m k' := by
  have hk : ¬ k = k' := fun e => h e.symm
  induction m with
  | nil => simp [sinsert, sget, hk]
  | cons e t ih =>
    obtain ⟨k1, v1⟩ := e
    unfold sinsert
    split
    · simp [sget, hk]
    · simp [sget, ih]

theorem sget_sinsert_same (d : Nat → α) (m : Sparse α) (k : Nat) (v : α) (h : ∀ e ∈ m, e.1 ≠ k) :
    sget d (sinsert m k v) k = v := by
  induction m with
  | nil => simp [sinsert, sget]
  | cons e t ih =>
    obtain ⟨k1, v1⟩ := e
    have h1 : k1 ≠ k := h (k1, v1) (by simp)
    have ht : ∀ e ∈ t, e.1 ≠ k := fun e he => h e (by simp [he])
    unfold sinsert
    split
    · simp [sget]
    · simp [sget, h1, ih ht]

theorem serase_keys (m : Sparse α) (k : Nat) : ∀ e ∈ serase m k, e.1 ≠ k := by
  induction m with
  | nil => simp [serase]
  | cons e t ih =>
    obtain ⟨k1, v1⟩ := e
    by_cases h : k1 = k
    · simpa [serase, h] using ih
    · intro e he
      simp only [serase, h, if_false, List.mem_cons] at he
      rcases he with rfl | he
      · exact h
      · exact ih e he

/-- A store reads the value written. -/
theorem sget_sset_same [DecidableEq α] (d : Nat → α) (m : Sparse α) (k : Nat) (v : α) : sget d (sset d m k v) k = v := by
  unfold sset
  split
  · rename_i h
    rw [sget_serase_same, h]
  · exact sget_sinsert_same _ _ _ _ (serase_keys m k)

/-- Every other key reads as before. -/
theorem sget_sset_ne [DecidableEq α] (d : Nat → α) (m : Sparse α) (k k' : Nat) (v : α) (h : k' ≠ k) :
    sget d (sset d m k v) k' = sget d m k' := by
  unfold sset
  split
  · exact sget_serase_ne _ _ _ _ h
  · rw [sget_sinsert_ne _ _ _ _ _ h, sget_serase_ne _ _ _ _ h]

/-! ## The canonical form -/

theorem swfFrom_mono [DecidableEq α] {d : Nat → α} {m : Sparse α} {lo lo' : Nat} (hl : lo' ≤ lo) (h : swfFrom d lo m = true) :
    swfFrom d lo' m = true := by
  cases m with
  | nil => rfl
  | cons e t =>
    obtain ⟨k, v⟩ := e
    simp only [swfFrom, Bool.and_eq_true, decide_eq_true_eq] at h ⊢
    exact ⟨⟨by omega, h.1.2⟩, h.2⟩

theorem swfFrom_serase [DecidableEq α] {d : Nat → α} {m : Sparse α} {lo k : Nat} (h : swfFrom d lo m = true) :
    swfFrom d lo (serase m k) = true := by
  induction m generalizing lo with
  | nil => rfl
  | cons e t ih =>
    obtain ⟨k1, v1⟩ := e
    simp only [swfFrom, Bool.and_eq_true, decide_eq_true_eq] at h
    by_cases hk : k1 = k
    · simp only [serase, hk, if_true]
      exact ih (swfFrom_mono (by omega) h.2)
    · simp only [serase, hk, if_false, swfFrom, Bool.and_eq_true, decide_eq_true_eq]
      exact ⟨h.1, ih h.2⟩

theorem swfFrom_sinsert [DecidableEq α] {d : Nat → α} {m : Sparse α} {lo k : Nat} {v : α} (h : swfFrom d lo m = true)
    (hk : lo ≤ k) (hv : v ≠ d k) (hm : ∀ e ∈ m, e.1 ≠ k) : swfFrom d lo (sinsert m k v) = true := by
  induction m generalizing lo with
  | nil => simp [sinsert, swfFrom, hk, hv]
  | cons e t ih =>
    obtain ⟨k1, v1⟩ := e
    simp only [swfFrom, Bool.and_eq_true, decide_eq_true_eq] at h
    have h1 : k1 ≠ k := hm (k1, v1) (by simp)
    unfold sinsert
    split
    · rename_i hlt
      simp only [swfFrom, Bool.and_eq_true, decide_eq_true_eq]
      exact ⟨⟨hk, hv⟩, ⟨by omega, h.1.2⟩, h.2⟩
    · simp only [swfFrom, Bool.and_eq_true, decide_eq_true_eq]
      exact ⟨h.1, ih h.2 (by omega) (fun e he => hm e (by simp [he]))⟩

/-- A write keeps the canonical form. -/
theorem swf_sset [DecidableEq α] {d : Nat → α} {m : Sparse α} (k : Nat) (v : α) (h : swf d m = true) :
    swf d (sset d m k v) = true := by
  unfold swf at *
  unfold sset
  split
  · exact swfFrom_serase h
  · rename_i hv
    exact swfFrom_sinsert (swfFrom_serase h) (Nat.zero_le _) hv (serase_keys m k)

/-- Several writes keep it. -/
theorem swf_ssetAll [DecidableEq α] {d : Nat → α} (l : List (Nat × α)) {m : Sparse α} (h : swf d m = true) :
    swf d (ssetAll d m l) = true := by
  induction l generalizing m with
  | nil => exact h
  | cons e t ih => exact ih (swf_sset e.1 e.2 h)

theorem swfFrom_filter [DecidableEq α] {d : Nat → α} {m : Sparse α} {lo : Nat} (p : Nat × α → Bool)
    (h : swfFrom d lo m = true) : swfFrom d lo (m.filter p) = true := by
  induction m generalizing lo with
  | nil => rfl
  | cons e t ih =>
    obtain ⟨k1, v1⟩ := e
    simp only [swfFrom, Bool.and_eq_true, decide_eq_true_eq] at h
    by_cases hp : p (k1, v1) = true
    · simp only [List.filter, hp, swfFrom, Bool.and_eq_true, decide_eq_true_eq]
      exact ⟨h.1, ih h.2⟩
    · simp only [List.filter, hp]
      exact ih (swfFrom_mono (by omega) h.2)

/-- Dropping keys keeps it. -/
theorem swf_sdrop [DecidableEq α] {d : Nat → α} {m : Sparse α} (p : Nat → Bool) (h : swf d m = true) :
    swf d (sdrop p m) = true :=
  swfFrom_filter _ h

theorem swf_nil [DecidableEq α] (d : Nat → α) : swf d ([] : Sparse α) = true := rfl

end Sys2Proof.Machine
end

