-- ==== Sys2Proof/Laws/Memory.lean ====
section
/-! SUPPORT. Memory and register files: a read after a write, what a write leaves alone, and that every operation that writes
one keeps its canonical form. -/
namespace Sys2Proof.Machine

open Sys2Proof

/-! ## Read after write -/

theorem mappedRow_setTmRaw (s : State) (c a : Nat) (w : W40) (c' bank row : Nat) :
    (s.setTmRaw c a w).mappedRow c' bank row = s.mappedRow c' bank row := rfl

/-- A word of tensor memory reads as stored. -/
theorem tmRaw_setTmRaw_same (s : State) (c a : Nat) (w : W40) : (s.setTmRaw c a w).tmRaw c a = w := by
  unfold State.tmRaw
  rw [mappedRow_setTmRaw]
  exact sget_sset_same _ _ _ _

/-- A word of steer memory reads as stored. -/
theorem steerRaw_setSteerRaw_same (s : State) (core w : Nat) (x : W40) : (s.setSteerRaw core w x).steerRaw core w = x :=
  sget_sset_same _ _ _ _

/-- Every other word of steer memory keeps its value. -/
theorem steerRaw_setSteerRaw_ne (s : State) (core w k v : Nat) (x : W40) (h : steerKey k v ≠ steerKey core w) :
    (s.setSteerRaw core w x).steerRaw k v = s.steerRaw k v :=
  sget_sset_ne _ _ _ _ _ h

/-- Words of steer memory at different places have different keys. -/
theorem steerKey_ne {k v core w : Nat} (hv : v < 131072) (hw : w < 131072) (h : k ≠ core ∨ v ≠ w) :
    steerKey k v ≠ steerKey core w := by
  unfold steerKey
  omega

/-- A sector reads as stored. -/
theorem sectorRaw_setSectorRaw_same (s : State) (stack pc bank row sec : Nat) (w : W288) :
    (s.setSectorRaw stack pc bank row sec w).sectorRaw stack pc bank row sec = w :=
  sget_sset_same _ _ _ _

/-- A g register but g0 reads as written. -/
theorem slG_setSlG_same (s : State) (core x r : Nat) (v : SlG) (h : r ≠ 0) : (s.setSlG core x r v).slG core x r = v := by
  simp only [State.slG, State.setSlG, h, if_false]
  exact sget_sset_same _ _ _ _

/-- g0 reads 0, whatever is written to it. -/
@[simp] theorem slG_zero (s : State) (core x : Nat) : s.slG core x 0 = ⟨0, false⟩ := rfl

/-- A write of g0 is discarded. -/
@[simp] theorem setSlG_zero (s : State) (core x : Nat) (v : SlG) : s.setSlG core x 0 v = s := rfl

/-- p0 reads 1, whatever is written to it. -/
@[simp] theorem slP_zero (s : State) (core x : Nat) : s.slP core x 0 = ⟨true, false, 0⟩ := rfl

/-- A write of p0 is discarded. -/
@[simp] theorem setSlP_zero (s : State) (core x : Nat) (v : SlP) : s.setSlP core x 0 v = s := rfl

/-- A predicate but p0 reads as written. -/
theorem slP_setSlP_same (s : State) (core x r : Nat) (v : SlP) (h : r ≠ 0) : (s.setSlP core x r v).slP core x r = v := by
  simp only [State.slP, State.setSlP, h, if_false]
  exact sget_sset_same _ _ _ _

/-- A d register reads as written. -/
theorem slD_setSlD_same (s : State) (core x r : Nat) (v : SlD) : (s.setSlD core x r v).slD core x r = v :=
  sget_sset_same _ _ _ _

/-- A program counter reads as written, in 64 bits. -/
theorem slPc_setSlPc_same (s : State) (core x pc : Nat) : (s.setSlPc core x pc).slPc core x = pc % 2 ^ 64 :=
  sget_sset_same _ _ _ _

/-- A mailbox word reads as written. -/
theorem mbxWord_setMbx_same (s : State) (w : Nat) (v : W32) : (s.setMbx w v).mbxWord w = v := sget_sset_same _ _ _ _

/-- A unit of the Nest reads as written. -/
theorem nestUnit_nestPut_same (s : State) (slot off : Nat) (v : BitVec 512) : (s.nestPut slot off v).nestUnit slot off = v :=
  sget_sset_same _ _ _ _

/-! ## The canonical form -/

/-- The parts of the state that the canonical form is about decide it. -/
theorem State.canonical_of_eq {s t : State} (h : s.canonical) (hr : t.regs = s.regs) (ha : t.applied = s.applied)
    (ht : t.tm = s.tm) (hh : t.hbm = s.hbm) (hv : t.svc = s.svc) (hc : t.sc = s.sc) : t.canonical := by
  unfold State.canonical at *
  rw [hr, ha, ht, hh, hv, hc]
  exact h

/-- The registers replaced. -/
theorem withRegs_canonical {s : State} {x : Sparse W64} (h : s.canonical) (hx : swf resetVal x) : (s.withRegs x).canonical := by
  unfold State.canonical at *
  simp only [State.withRegs_regs, State.withRegs_applied, State.withRegs_tm, State.withRegs_hbm, State.withRegs_svc,
    State.withRegs_sc]
  exact ⟨hx, h.2⟩

/-- The registers in force replaced. -/
theorem withApplied_canonical {s : State} {x : Sparse W64} (h : s.canonical) (hx : swf resetVal x) :
    (s.withApplied x).canonical := by
  unfold State.canonical at *
  simp only [State.withApplied_regs, State.withApplied_applied, State.withApplied_tm, State.withApplied_hbm,
    State.withApplied_svc, State.withApplied_sc]
  exact ⟨h.1, hx, h.2.2⟩

/-- Tensor and steer memory replaced. -/
theorem withTm_canonical {s : State} {x : TmState} (h : s.canonical) (hx : x.ok) : (s.withTm x).canonical := by
  unfold State.canonical at *
  simp only [State.withTm_regs, State.withTm_applied, State.withTm_tm, State.withTm_hbm, State.withTm_svc, State.withTm_sc]
  exact ⟨h.1, h.2.1, hx, h.2.2.2⟩

/-- The stacks replaced. -/
theorem withHbm_canonical {s : State} {x : HbmState} (h : s.canonical) (hx : x.ok) : (s.withHbm x).canonical := by
  unfold State.canonical at *
  simp only [State.withHbm_regs, State.withHbm_applied, State.withHbm_tm, State.withHbm_hbm, State.withHbm_svc,
    State.withHbm_sc]
  exact ⟨h.1, h.2.1, h.2.2.1, hx, h.2.2.2.2⟩

/-- The service block's state replaced. -/
theorem withSvc_canonical {s : State} {x : SvcState} (h : s.canonical) (hx : x.ok) : (s.withSvc x).canonical := by
  unfold State.canonical at *
  simp only [State.withSvc_regs, State.withSvc_applied, State.withSvc_tm, State.withSvc_hbm, State.withSvc_svc,
    State.withSvc_sc]
  exact ⟨h.1, h.2.1, h.2.2.1, h.2.2.2.1, hx, h.2.2.2.2.2⟩

/-- The cores' state replaced. -/
theorem withSc_canonical {s : State} {x : ScState} (h : s.canonical) (hx : x.ok) : (s.withSc x).canonical := by
  unfold State.canonical at *
  simp only [State.withSc_regs, State.withSc_applied, State.withSc_tm, State.withSc_hbm, State.withSc_svc, State.withSc_sc]
  exact ⟨h.1, h.2.1, h.2.2.1, h.2.2.2.1, h.2.2.2.2.1, hx⟩

theorem setReg_canonical {s : State} (id : RegId) (i j : Nat) (v : W64) (h : s.canonical) : (s.setReg id i j v).canonical :=
  withRegs_canonical h (swf_sset _ _ h.1)

theorem setFld_canonical {s : State} (f : Fld) (i j x : Nat) (h : s.canonical) : (s.setFld f i j x).canonical :=
  setReg_canonical _ _ _ _ h

theorem setFlag_canonical {s : State} (f : Fld) (i j : Nat) (b : Bool) (h : s.canonical) : (s.setFlag f i j b).canonical :=
  setFld_canonical _ _ _ _ h

theorem withShadowPend_canonical {s : State} (x : List Nat) (h : s.canonical) : (s.withShadowPend x).canonical :=
  State.canonical_of_eq h rfl rfl rfl rfl rfl rfl

theorem applyShadow_canonical {s : State} (id : RegId) (i j : Nat) (h : s.canonical) : (s.applyShadow id i j).canonical :=
  withShadowPend_canonical _ (withApplied_canonical h (swf_sset _ _ h.2.1))

theorem shadowWait_canonical {s : State} (id : RegId) (i j : Nat) (h : s.canonical) : (s.shadowWait id i j).canonical :=
  withShadowPend_canonical _ h

theorem resetRegs_canonical {s : State} (p : Nat → Bool) (h : s.canonical) : (s.resetRegs p).canonical :=
  withShadowPend_canonical _ (withApplied_canonical (withRegs_canonical h (swf_sdrop _ h.1)) (swf_sdrop _ h.2.1))

theorem setTmRaw_canonical {s : State} (c a : Nat) (w : W40) (h : s.canonical) : (s.setTmRaw c a w).canonical :=
  withTm_canonical h ⟨swf_sset _ _ h.2.2.1.1, h.2.2.1.2⟩

theorem setSteerRaw_canonical {s : State} (core w : Nat) (x : W40) (h : s.canonical) : (s.setSteerRaw core w x).canonical :=
  withTm_canonical h ⟨h.2.2.1.1, swf_sset _ _ h.2.2.1.2.1, h.2.2.1.2.2⟩

theorem steerBlank_canonical {s : State} (core : Nat) (h : s.canonical) : (s.steerBlank core).canonical :=
  withTm_canonical h ⟨h.2.2.1.1, swf_sdrop (fun k => k / 131072 == core) h.2.2.1.2.1, h.2.2.1.2.2⟩

theorem setSectorRaw_canonical {s : State} (stack pc bank row sec : Nat) (w : W288) (h : s.canonical) :
    (s.setSectorRaw stack pc bank row sec w).canonical :=
  withHbm_canonical h (swf_sset _ _ h.2.2.2.1)

theorem nestPut_canonical {s : State} (slot off : Nat) (v : BitVec 512) (h : s.canonical) : (s.nestPut slot off v).canonical :=
  withSvc_canonical h ⟨swf_sset _ _ h.2.2.2.2.1.1, h.2.2.2.2.1.2⟩

theorem nestEmpty_canonical {s : State} (slot : Nat) (h : s.canonical) : (s.nestEmpty slot).canonical :=
  withSvc_canonical h ⟨swf_sdrop (fun k => k / 64 == slot) h.2.2.2.2.1.1, h.2.2.2.2.1.2⟩

theorem setMbx_canonical {s : State} (w : Nat) (v : W32) (h : s.canonical) : (s.setMbx w v).canonical :=
  withSvc_canonical h ⟨h.2.2.2.2.1.1, swf_sset _ _ h.2.2.2.2.1.2⟩

theorem setSlG_canonical {s : State} (core x r : Nat) (v : SlG) (h : s.canonical) : (s.setSlG core x r v).canonical := by
  unfold State.setSlG
  split
  · exact h
  · exact withSc_canonical h ⟨swf_sset _ _ h.2.2.2.2.2.1, h.2.2.2.2.2.2⟩

theorem setSlD_canonical {s : State} (core x r : Nat) (v : SlD) (h : s.canonical) : (s.setSlD core x r v).canonical :=
  withSc_canonical h ⟨h.2.2.2.2.2.1, swf_sset _ _ h.2.2.2.2.2.2.1, h.2.2.2.2.2.2.2⟩

theorem setSlP_canonical {s : State} (core x r : Nat) (v : SlP) (h : s.canonical) : (s.setSlP core x r v).canonical := by
  unfold State.setSlP
  split
  · exact h
  · exact withSc_canonical h ⟨h.2.2.2.2.2.1, h.2.2.2.2.2.2.1, swf_sset _ _ h.2.2.2.2.2.2.2.1, h.2.2.2.2.2.2.2.2⟩

theorem setSlPc_canonical {s : State} (core x pc : Nat) (h : s.canonical) : (s.setSlPc core x pc).canonical :=
  withSc_canonical h ⟨h.2.2.2.2.2.1, h.2.2.2.2.2.2.1, h.2.2.2.2.2.2.2.1, swf_sset _ _ h.2.2.2.2.2.2.2.2⟩

/-- What holds of a state and is kept by each action of a list holds after all of them. -/
theorem each_induction {α : Type} {P : State → Prop} {f : α → State → State} (l : List α) (s : State) (h : P s)
    (hf : ∀ a t, P t → P (f a t)) : P (s.each l f) := by
  unfold State.each
  induction l generalizing s with
  | nil => exact h
  | cons a l ih => exact ih (f a s) (hf a s h)

end Sys2Proof.Machine
end

