-- ==== Sys2Proof/Laws/Registers.lean ====
section
/-! SUPPORT. Reading registers and fields after registers are written, and what the audit log leaves alone. -/
namespace Sys2Proof.Machine

open Sys2Proof

/-- Registers of different names never share a key. -/
theorem regKey_ne {a b : RegId} (h : a.ctorIdx ≠ b.ctorIdx) (i j i' j' : Nat) : regKey a i j ≠ regKey b i' j' := by
  unfold regKey
  have h1 : i % 2 ^ 20 < 2 ^ 20 := Nat.mod_lt _ (by decide)
  have h2 : j % 2 ^ 20 < 2 ^ 20 := Nat.mod_lt _ (by decide)
  have h3 : i' % 2 ^ 20 < 2 ^ 20 := Nat.mod_lt _ (by decide)
  have h4 : j' % 2 ^ 20 < 2 ^ 20 := Nat.mod_lt _ (by decide)
  generalize i % 2 ^ 20 = a1 at *
  generalize j % 2 ^ 20 = a2 at *
  generalize i' % 2 ^ 20 = a3 at *
  generalize j' % 2 ^ 20 = a4 at *
  omega

/-- The key of a register of one name at other indexes. -/
theorem regKey_ne_index (a : RegId) {i j i' j' : Nat} (h : i % 2 ^ 20 ≠ i' % 2 ^ 20 ∨ j % 2 ^ 20 ≠ j' % 2 ^ 20) :
    regKey a i j ≠ regKey a i' j' := by
  unfold regKey
  have h1 : i % 2 ^ 20 < 2 ^ 20 := Nat.mod_lt _ (by decide)
  have h2 : j % 2 ^ 20 < 2 ^ 20 := Nat.mod_lt _ (by decide)
  have h3 : i' % 2 ^ 20 < 2 ^ 20 := Nat.mod_lt _ (by decide)
  have h4 : j' % 2 ^ 20 < 2 ^ 20 := Nat.mod_lt _ (by decide)
  generalize i % 2 ^ 20 = a1 at *
  generalize j % 2 ^ 20 = a2 at *
  generalize i' % 2 ^ 20 = a3 at *
  generalize j' % 2 ^ 20 = a4 at *
  omega

@[simp] theorem reg_setReg_same (s : State) (id : RegId) (i j : Nat) (v : W64) : (s.setReg id i j v).reg id i j = v :=
  sget_sset_same _ _ _ _

theorem reg_setReg_ne (s : State) {id id' : RegId} (i j i' j' : Nat) (v : W64) (h : id.ctorIdx ≠ id'.ctorIdx) :
    (s.setReg id i j v).reg id' i' j' = s.reg id' i' j' :=
  sget_sset_ne _ _ _ _ _ (regKey_ne (fun e => h e.symm) _ _ _ _)

theorem reg_setReg_ne_index (s : State) (id : RegId) {i j i' j' : Nat} (v : W64)
    (h : i' % 2 ^ 20 ≠ i % 2 ^ 20 ∨ j' % 2 ^ 20 ≠ j % 2 ^ 20) : (s.setReg id i j v).reg id i' j' = s.reg id i' j' :=
  sget_sset_ne _ _ _ _ _ (regKey_ne_index id h)

theorem reg_setFld_ne (s : State) {f : Fld} {id : RegId} (i j i' j' x : Nat) (h : f.id.ctorIdx ≠ id.ctorIdx) :
    (s.setFld f i j x).reg id i' j' = s.reg id i' j' :=
  reg_setReg_ne s i j i' j' _ h

/-- A field reads what was written to it. -/
theorem fld_setFld_same (s : State) (f : Fld) (i j x : Nat) (h : f.lo + f.w ≤ 64) : (s.setFld f i j x).fld f i j = x % 2 ^ f.w := by
  unfold State.setFld State.fld
  rw [reg_setReg_same, getBits_setBits_same _ _ _ _ h]

/-- A field of another register keeps its value. -/
theorem fld_setFld_ne (s : State) {f g : Fld} (i j i' j' x : Nat) (h : f.id.ctorIdx ≠ g.id.ctorIdx) :
    (s.setFld f i j x).fld g i' j' = s.fld g i' j' := by
  unfold State.fld
  rw [reg_setFld_ne _ _ _ _ _ _ h]

/-- Another field of the same register keeps its value. -/
theorem fld_setFld_beside (s : State) {f g : Fld} (i j x : Nat) (hid : g.id = f.id) (hg : g.lo + g.w ≤ 64)
    (h : g.lo + g.w ≤ f.lo ∨ f.lo + f.w ≤ g.lo) : (s.setFld f i j x).fld g i j = s.fld g i j := by
  unfold State.setFld State.fld
  rw [hid, reg_setReg_same, getBits_setBits_of_disjoint _ _ _ _ _ _ hg h]

@[simp] theorem reg_emit (s : State) (o : Out) (id : RegId) (i j : Nat) : (s.emit o).reg id i j = s.reg id i j := rfl
@[simp] theorem reg_setCredits (s : State) (p vc sub : Nat) (h : Bool) (n : Nat) (id : RegId) (i j : Nat) :
    (s.setCredits p vc sub h n).reg id i j = s.reg id i j := rfl

/-- The registers that sending a frame and the audit log may change. -/
def logReg (id : RegId) : Bool :=
  decide (RegId.AU_SEQ.ctorIdx = id.ctorIdx ∨ RegId.AU_STATUS.ctorIdx = id.ctorIdx ∨
    RegId.HL_PORT_CNT.ctorIdx = id.ctorIdx ∨ RegId.HL_EVENT.ctorIdx = id.ctorIdx)

theorem logReg_idx {id : RegId} (h : logReg id = false) : RegId.AU_SEQ.ctorIdx ≠ id.ctorIdx ∧
    RegId.AU_STATUS.ctorIdx ≠ id.ctorIdx ∧ RegId.HL_PORT_CNT.ctorIdx ≠ id.ctorIdx ∧ RegId.HL_EVENT.ctorIdx ≠ id.ctorIdx := by
  unfold logReg at h
  have h := of_decide_eq_false h
  exact ⟨fun e => h (.inl e), fun e => h (.inr (.inl e)), fun e => h (.inr (.inr (.inl e))), fun e => h (.inr (.inr (.inr e)))⟩

theorem reg_wrapInc_ne (s : State) {f : Fld} {id : RegId} (i j n i' j' : Nat) (h : f.id.ctorIdx ≠ id.ctorIdx) :
    (s.wrapInc f i j n).reg id i' j' = s.reg id i' j' := reg_setFld_ne _ _ _ _ _ _ h

theorem reg_offerFrame (s : State) (p : Nat) (f : Frame) {id : RegId} (i j : Nat) (h : logReg id = false) :
    (s.offerFrame p f).reg id i j = s.reg id i j := by
  have hc := (logReg_idx h).2.2.1
  unfold State.offerFrame State.putFrame
  split
  · rw [reg_wrapInc_ne _ _ _ _ _ _ hc]; rfl
  · split
    · rw [reg_wrapInc_ne _ _ _ _ _ _ hc]; rfl
    · rfl

theorem reg_sendOrDrop (s : State) (f : Frame) {id : RegId} (i j : Nat) (h : logReg id = false) :
    (s.sendOrDrop f).reg id i j = s.reg id i j := by
  have he := (logReg_idx h).2.2.2
  unfold State.sendOrDrop State.sendFrame
  split
  · rfl
  · rfl
  · simp only [Option.getD_some]
    split
    · rw [State.setFlag, reg_setFld_ne _ _ _ _ _ _ he, reg_offerFrame _ _ _ _ _ h]
    · exact reg_offerFrame _ _ _ _ _ h

theorem reg_auditWrite (s : State) (k : AuditKind) (a : Acc) (cred obj : Nat) (old new : W64) (code : Nat) {id : RegId}
    (i j : Nat) (h : logReg id = false) : (s.auditWrite k a cred obj old new code).reg id i j = s.reg id i j := by
  unfold State.auditWrite
  rw [reg_setFld_ne _ _ _ _ _ _ (logReg_idx h).1]
  rfl

theorem reg_auditLimits (s : State) {id : RegId} (i j : Nat) (h : logReg id = false) :
    s.auditLimits.reg id i j = s.reg id i j := by
  have hs := (logReg_idx h).2.1
  unfold State.auditLimits
  extract_lets a1 a2 a3 s1
  have h1 : s1.reg id i j = s.reg id i j := by
    dsimp only [s1]
    split
    · rw [reg_sendOrDrop _ _ _ _ h, reg_withPins, reg_auditWrite _ _ _ _ _ _ _ _ _ _ h, State.setFlag,
        reg_setFld_ne _ _ _ _ _ _ hs]
    · rfl
  split
  · rw [State.setFlag, reg_setFld_ne _ _ _ _ _ _ hs, h1]
  · exact h1

/-- An audit entry leaves every register but AU_SEQ, AU_STATUS and the link counters as it is. -/
theorem reg_auditLog (s : State) (k : AuditKind) (a : Acc) (cred obj : Nat) (old new : W64) (code : Nat) {id : RegId}
    (i j : Nat) (h : logReg id = false) : (s.auditLog k a cred obj old new code).reg id i j = s.reg id i j := by
  unfold State.auditLog
  split
  · rw [State.satInc, reg_setFld_ne _ _ _ _ _ _ (logReg_idx h).2.1]
  · rw [reg_auditLimits _ _ _ h, reg_auditWrite _ _ _ _ _ _ _ _ _ _ h]

theorem reg_auditChange (s : State) (w : Wr) (off : Nat) (old new : W64) {id : RegId} (i j : Nat) (h : logReg id = false) :
    (s.auditChange w off old new).reg id i j = s.reg id i j :=
  reg_auditLog s .change w.acc 0 (regObject off w.wide) old new 0 i j h

theorem reg_shadowWait (s : State) (id id' : RegId) (i j i' j' : Nat) : (s.shadowWait id' i' j').reg id i j = s.reg id i j := rfl

/-- A write changes a register as its store, its SHADOW mark and the audit log do. -/
theorem reg_storeWrite (s : State) (w : Wr) (id : RegId) (i j off : Nat) {id' : RegId} (i' j' : Nat) (h : logReg id' = false) :
    (s.storeWrite w id i j off).reg id' i' j' = (s.setReg id i j (writtenValue id (s.keepBusy id i j w.value) (s.reg id i j))).reg id' i' j' := by
  unfold State.storeWrite
  extract_lets old new s1 s2
  have h2 : s2.reg id' i' j' = s1.reg id' i' j' := by
    by_cases hc : hasClass id .shadow = true
    · simp only [s2, hc, if_true]; exact reg_shadowWait _ _ _ _ _ _ _
    · simp only [s2, hc]; rfl
  by_cases ha : audited id = true
  · rw [if_pos ha, reg_auditChange _ _ _ _ _ _ _ h, h2]
  · rw [if_neg ha, h2]

/-- The register written holds its new value. -/
theorem reg_storeWrite_same (s : State) (w : Wr) (id : RegId) (i j off : Nat) (h : logReg id = false) :
    (s.storeWrite w id i j off).reg id i j = writtenValue id (s.keepBusy id i j w.value) (s.reg id i j) := by
  rw [reg_storeWrite _ _ _ _ _ _ _ _ h, reg_setReg_same]

/-- Another register keeps its value, but for the log's own. -/
theorem reg_storeWrite_ne (s : State) (w : Wr) (id : RegId) (i j off : Nat) {id' : RegId} (i' j' : Nat)
    (h : logReg id' = false) (hne : id.ctorIdx ≠ id'.ctorIdx) :
    (s.storeWrite w id i j off).reg id' i' j' = s.reg id' i' j' := by
  rw [reg_storeWrite _ _ _ _ _ _ _ _ h, reg_setReg_ne _ _ _ _ _ _ hne]

/-! ## Keys and reset values -/

/-- The register number in a key. -/
theorem regKey_number (id : RegId) (i j : Nat) : regKey id i j >>> 40 = id.ctorIdx := by
  unfold regKey
  rw [Nat.shiftRight_eq_div_pow]
  have h1 : i % 2 ^ 20 < 2 ^ 20 := Nat.mod_lt _ (by decide)
  have h2 : j % 2 ^ 20 < 2 ^ 20 := Nat.mod_lt _ (by decide)
  generalize i % 2 ^ 20 = a at *
  generalize j % 2 ^ 20 = b at *
  omega

/-- The first index in a key. -/
theorem regKey_first (id : RegId) (i j : Nat) : (regKey id i j >>> 20) % 2 ^ 20 = i % 2 ^ 20 := by
  unfold regKey
  rw [Nat.shiftRight_eq_div_pow]
  have h1 : i % 2 ^ 20 < 2 ^ 20 := Nat.mod_lt _ (by decide)
  have h2 : j % 2 ^ 20 < 2 ^ 20 := Nat.mod_lt _ (by decide)
  generalize i % 2 ^ 20 = a at *
  generalize j % 2 ^ 20 = b at *
  omega

/-- The second index in a key. -/
theorem regKey_second (id : RegId) (i j : Nat) : regKey id i j % 2 ^ 20 = j % 2 ^ 20 := by
  unfold regKey
  have h1 : i % 2 ^ 20 < 2 ^ 20 := Nat.mod_lt _ (by decide)
  have h2 : j % 2 ^ 20 < 2 ^ 20 := Nat.mod_lt _ (by decide)
  generalize i % 2 ^ 20 = a at *
  generalize j % 2 ^ 20 = b at *
  omega

theorem resetVal_unlisted {k : Nat} (h : resetTable.find? (fun e => e.1 == k >>> 40) = none) : resetVal k = 0 := by
  simp only [resetVal, h]

theorem resetVal_listed {k n : Nat} {f : Nat → Nat → Nat} (h : resetTable.find? (fun e => e.1 == k >>> 40) = some (n, f)) :
    resetVal k = BitVec.ofNat 64 (f ((k >>> 20) % 2 ^ 20) (k % 2 ^ 20)) := by
  simp only [resetVal, h]

theorem reset_reg (id : RegId) (i j : Nat) : State.reset.reg id i j = resetVal (regKey id i j) := by
  unfold State.reg
  rw [State.reset]
  exact sget.eq_1 ..

/-- A register of the reset table right after reset; `h` is closed by `rfl`. -/
theorem reset_reg_listed {id : RegId} {n : Nat} {f : Nat → Nat → Nat}
    (h : resetTable.find? (fun e => e.1 == id.ctorIdx) = some (n, f)) (i j : Nat) :
    State.reset.reg id i j = BitVec.ofNat 64 (f (i % 2 ^ 20) (j % 2 ^ 20)) := by
  rw [reset_reg, resetVal_listed (n := n) (f := f) (by rw [regKey_number]; exact h), regKey_first, regKey_second]

/-- A register that the reset table does not list is 0 right after reset; `h` is closed by `rfl`. -/
theorem reset_reg_unlisted {id : RegId} (h : resetTable.find? (fun e => e.1 == id.ctorIdx) = none) (i j : Nat) :
    State.reset.reg id i j = 0 := by
  rw [reset_reg, resetVal_unlisted (by rw [regKey_number]; exact h)]

end Sys2Proof.Machine
end

