-- ==== Sys2Proof/Laws/Sloak.lean ====
section
/-! SUPPORT. What running one Sloak instruction comes to: it completes, traps or stalls as its body says. -/
namespace Sys2Proof.Machine

open Sys2Proof

/-- An instruction whose body completes. -/
theorem slRun_done {s t u : State} {op : SlOp} {core x : Nat} {i : SlI} {body : SlI → State → SlOut}
    (h : s.issues t op core x i) (hb : body i t = .done u) : s.slRun op core x body = u := by
  obtain ⟨h1, h2, h3, h4, h5⟩ := h
  simp [State.slRun, h1, h2, h3, h4, h5, hb]

/-- An instruction whose body traps, when no answer is owed to the context. -/
theorem slRun_trap {s t u : State} {op : SlOp} {core x : Nat} {i : SlI} {body : SlI → State → SlOut}
    {c n epc : Nat} {tag : W32} (h : s.issues t op core x i) (hb : body i t = .trap c n tag epc u)
    (ho : s.owesAnswer core x = false) : s.slRun op core x body = u.slTrap core x c n tag epc := by
  obtain ⟨h1, h2, h3, h4, h5⟩ := h
  simp [State.slRun, h1, h2, h3, h4, h5, hb, ho]

/-- An instruction whose body cannot go on yet leaves the state as it is. -/
theorem slRun_stall {s t : State} {op : SlOp} {core x : Nat} {i : SlI} {body : SlI → State → SlOut}
    (h : s.issues t op core x i) (hb : body i t = .stall) : s.slRun op core x body = s := by
  obtain ⟨h1, h2, h3, h4, h5⟩ := h
  simp [State.slRun, h1, h2, h3, h4, h5, hb]

/-- A context that does not run, or a core that is off, runs nothing. -/
theorem slRun_idle {s : State} {op : SlOp} {core x : Nat} {body : SlI → State → SlOut}
    (h : (s.coreOn core && s.ctxState core x == 2) = false) : s.slRun op core x body = s := by
  simp [State.slRun, h]

/-- With its guard at a clean 1, a guarded instruction is its body. -/
theorem slGuarded_on {body : SlI → State → SlOut} {i : SlI} {t : State} (h : t.guardOn i) : slGuarded body i t = body i t := by
  simp [slGuarded, h.1, h.2]

/-- With its guard at a clean 0, it goes on to the next instruction. -/
theorem slGuarded_off {body : SlI → State → SlOut} {i : SlI} {t : State} (h : (t.slP i.core i.ctx i.pg).poison = false)
    (h0 : (t.slP i.core i.ctx i.pg).val = false) : slGuarded body i t = .done (t.slNext i) := by
  simp [slGuarded, h, h0]

/-- With its guard poisoned, it traps POISON. -/
theorem slGuarded_poison {body : SlI → State → SlOut} {i : SlI} {t : State} (h : (t.slP i.core i.ctx i.pg).poison = true) :
    slGuarded body i t = i.bite 2 (t.slP i.core i.ctx i.pg).tag t := by
  simp [slGuarded, h]

/-- A guarded instruction that runs and completes. -/
theorem slRun_guarded {s t u : State} {op : SlOp} {core x : Nat} {i : SlI} {body : SlI → State → SlOut}
    (h : s.runs t op core x i) (hb : body i t = .done u) : s.slRun op core x (slGuarded body) = u :=
  slRun_done h.1 (by rw [slGuarded_on h.2, hb])

end Sys2Proof.Machine
end

