-- ==== Sys2Proof/Laws/Strokes.lean ====
section
/-! SUPPORT. What the firing edge of a stroke comes to: nothing, TRIPPED, DEFERRED, or the action. -/
namespace Sys2Proof.Machine

open Sys2Proof

/-- A slot whose turn it is not leaves the state as it is. -/
theorem strokeFire_idle {s : State} {a i : Nat} {act : State → Nat → Nat × State} (h : s.strokeFires a i = false) :
    s.strokeFire a i act = s := by
  simp [State.strokeFire, h]

/-- After a trip the stroke fails, whatever its action. -/
theorem strokeFire_tripped {s : State} {a i : Nat} {act : State → Nat → Nat × State} (h : s.strokeFires a i = true)
    (ht : s.power.tripped = true) :
    s.strokeFire a i act = (s.setFld .FT_STK_FIRED_FIRED i 0 s.now).strokeFailed i 0x20 := by
  simp [State.strokeFire, h, ht]

/-- A herd-wide stroke is deferred above 10,000 ms of holdover. -/
theorem strokeFire_deferred {s : State} {a i : Nat} {act : State → Nat → Nat × State} (h : s.strokeFires a i = true)
    (ht : s.power.tripped = false) (hw : herdWide a = true) (ha : 10000 < s.holdAge) :
    s.strokeFire a i act = (s.setFld .FT_STK_STATE_STATE i 0 4).setFlag .FT_EVENT_DEFERRED 0 0 true := by
  simp [State.strokeFire, h, ht, hw, ha]

/-- The argument of a slot is not changed by recording its firing. -/
theorem arg_setFired (s : State) (i x : Nat) :
    (s.setFld .FT_STK_FIRED_FIRED i 0 x).fld .FT_STK_ARG_ARG i 0 = s.fld .FT_STK_ARG_ARG i 0 :=
  fld_setFld_ne _ _ _ _ _ _ (by decide)

/-- An action of the service firmware that fires while it does not run waits for it. -/
theorem strokeFire_waits {s : State} {a i : Nat} {act : State → Nat → Nat × State} (h : s.strokeFires a i = true)
    (ht : s.power.tripped = false) (ha : herdWide a = false ∨ s.holdAge ≤ 10000) (hc : fwCarries a = true)
    (hf : s.fwDown = true) :
    s.strokeFire a i act = ((s.setFld .FT_STK_FIRED_FIRED i 0 s.now).strokeFired i).withSvc
      { s.svc with held := s.svc.held ++ [⟨a, i, s.fld .FT_STK_ARG_ARG i 0, s.now⟩] } := by
  have hd : (herdWide a && decide (10000 < s.holdAge)) = false := by
    rcases ha with ha | ha
    · simp [ha]
    · simp [Nat.not_lt.mpr ha]
  simp only [State.strokeFire, h, ht, hd, hc, hf]
  rfl

/-- Otherwise its action happens to the state in which it has fired. -/
theorem strokeFire_acts {s t : State} {a i : Nat} {act : State → Nat → Nat × State} (h : s.strokeFires a i = true)
    (ht : s.power.tripped = false) (ha : herdWide a = false ∨ s.holdAge ≤ 10000)
    (hf : fwCarries a = false ∨ s.fwDown = false) (hact : act ((s.setFld .FT_STK_FIRED_FIRED i 0 s.now).strokeFired i) (s.fld .FT_STK_ARG_ARG i 0) = (0, t)) :
    s.strokeFire a i act = t := by
  have hd : (herdWide a && decide (10000 < s.holdAge)) = false := by
    rcases ha with ha | ha
    · simp [ha]
    · simp [Nat.not_lt.mpr ha]
  have hw : (fwCarries a && s.fwDown) = false := by
    rcases hf with hf | hf <;> simp [hf]
  simp only [State.strokeFire, h, ht, hd, hw, arg_setFired, hact]
  rfl

end Sys2Proof.Machine
end

