-- ==== Sys2Proof/WellFormed.lean ====
section
/-! DEFINITION. Well-formed commands: every operand in the range the spec gives it. -/
namespace Sys2Proof

/-- A physical cluster, 0-17 (R4). -/
def okCluster (c : Nat) : Bool := decide (c < 18)
/-- A spine, 0-1. -/
def okSpine (d : Nat) : Bool := decide (d < 2)
/-- A stack, 0-7 (R5). -/
def okStack (s : Nat) : Bool := decide (s < 8)
/-- A virtual instance, 0-63 (R5). -/
def okVi (v : Nat) : Bool := decide (v < 64)
/-- A Herdlink port, 0-15. -/
def okPort (p : Nat) : Bool := decide (p < 16)
/-- A stroke slot, 0-255 (R37). -/
def okSlot (i : Nat) : Bool := decide (i < 256)
/-- A herd ID, 0-4095 (R5). -/
def okHerd (h : Nat) : Bool := decide (h < 4096)

/-- A core: steer cores 0-17 by physical cluster, herd cores 18-21 (R367). -/
def okCore (c : Nat) : Bool := decide (c < 22)
/-- A context of a core, 0-15 (R335). -/
def okCtx (x : Nat) : Bool := decide (x < 16)

/-- A frame whose header fields fit their bits (R468). -/
def Frame.wf (f : Frame) : Bool :=
  decide (f.type < 256) && decide (f.vc < 5) && decide (f.sub < 2) && decide (f.detours < 4) && decide (f.dest < 4096) &&
    decide (f.src < 4096) && decide (f.len ≤ 4096) && decide (f.addr < 2 ^ 64) && decide (f.tag < 2 ^ 32) &&
    decide (f.arg < 65536)

/-- A frame of a type (R470). -/
def Frame.is (type : Nat) (f : Frame) : Bool := Frame.wf f && f.type == type

/-- Boot inputs that name units the module has: two images, 30 sensors, 18 clusters, 64 slices and 8 stacks (R628). -/
def BootIn.wf (b : BootIn) : Bool :=
  decide (b.images < 4) && b.temps.all (fun e => decide (e.1 < 30) && decide (e.2 < 1024)) && decide (b.clusters < 2 ^ 18) &&
    decide (b.slices < 2 ^ 64) && decide (b.stackBits < 256) && decide (b.tests < 256)

/-- The origins there are: 64 virtual instances, 18 steer cores, 4 herd cores, the service firmware, shepherd and BMC (R22). -/
def okOrigin : Origin → Bool
  | .vi v => okVi v
  | .steer c => okCluster c
  | .herdCore n => decide (n < 4)
  | .serviceFw => true
  | .shepherd => true
  | .bmc => true

/-- A sender of accesses whose numbers name units there are; a host function comes by PCIe port 0 or 1 (R420, R565). -/
def okAcc (a : Acc) : Bool :=
  okOrigin a.origin && decide (a.port < 6) && okVi a.vi && okCtx a.ctx && okHerd a.herd &&
    (match a.origin with
     | .vi v => a.port < 2 && a.vi == v
     | _ => true)

/-- A register write by such a sender. -/
def okWr (w : Wr) : Bool := okAcc w.acc


/-- Whether a command's operands lie in the ranges the spec gives them. -/
def Instr.wf : Instr → Bool
  | .registerWrite w off _ => okWr w && decide (off < 2 ^ 26)
  | .shadowApply off => decide (off < 2 ^ 26)
  | .accessErrClear w => okWr w
  | .ptpSync _ domain _ frac utc => decide (domain < 128) && decide (frac < 16) && decide (utc < 2 ^ 16)
  | .ptpDelayResp _ _ _ _ => true
  | .ppsPulse frac => decide (frac < 16)
  | .ppsOutPulse => true
  | .time p addr tag arg _ frac => okPort p && decide (addr < 2 ^ 64) && decide (tag < 2 ^ 32) && decide (arg < 2 ^ 16) && decide (frac < 16)
  | .timeSend => true
  | .delayReq p frac => okPort p && decide (frac < 16)
  | .delayResp p addr tag => okPort p && decide (addr < 2 ^ 64) && decide (tag < 2 ^ 32)
  | .holdoverEnter => true
  | .acceptStep w => okWr w
  | .strokeCommit w => okWr w
  | .strokeReplace w => okWr w
  | .strokeCancel w => okWr w
  | .genswap n => okSlot n
  | .genretire n => okSlot n
  | .phaseStroke n => okSlot n
  | .oxenter n => okSlot n
  | .oxleave n => okSlot n
  | .capset n => okSlot n
  | .scrubStroke n => okSlot n
  | .muwinOpen n => okSlot n
  | .muwinClose n => okSlot n
  | .fwactivate n => okSlot n
  | .tracemark n => okSlot n
  | .traceEnable w u => okWr w && okCluster u
  | .portIssue c port _ _ => okCluster c && decide (port < 9 ∧ port ≠ 2)
  | .bankGrant c bank => okCluster c && decide (bank < 64)
  | .readReturn c port => okCluster c && decide (port < 9)
  | .writeCommit c port upset => okCluster c && decide (port < 9) && upset.all (fun u => decide (u.1 < 256 ∧ u.2 < 4))
  | .mergeTimeout c port line => okCluster c && decide (port < 9) && decide (line < 2 ^ 18)
  | .tmxCounterClear w c => okWr w && okCluster c
  | .hotPeriodEnd c => okCluster c
  | .clusterDomainWake c => okCluster c
  | .tmClearDone c _ => okCluster c
  | .clusterDomainOff c => okCluster c
  | .spineDomainWake d fail => okSpine d && decide (fail < 2 ^ 32)
  | .fabAccess c cls src vi _ off _ _ _ => okCluster c && decide (cls < 3) && decide (src < 0x3000) && okVi vi && decide (off < 2 ^ 24)
  | .windowOpen w c n => okWr w && okCluster c && decide (n < 64)
  | .windowClose w c n => okWr w && okCluster c && decide (n < 64)
  | .windowBlank c w => okCluster c && decide (w < 64)
  | .wnCntWrite w c n => okWr w && okCluster c && decide (n < 256)
  | .wnCntSub w c n => okWr w && okCluster c && decide (n < 256)
  | .lockForce w d => okWr w && okSpine d
  | .scrubGo w d n => okWr w && okSpine d && decide (n < 16)
  | .scrubAccess d n _ _ => okSpine d && decide (n < 16)
  | .scrubPassEnd d n => okSpine d && decide (n < 16)
  | .scrubStop w d n => okWr w && okSpine d && decide (n < 16)
  | .errorCountClear w d => okWr w && okSpine d
  | .splitWrite w d => okWr w && okSpine d
  | .tmRowRepair w d => okWr w && okSpine d
  | .lcLineRepair w d => okWr w && okSpine d
  | .hbmRowRepair w d => okWr w && okSpine d
  | .hbmRepairDeferredStart stack pc => okStack stack && decide (pc < 64)
  | .plotEnable w k n => okWr w && okStack k && decide (n < 48)
  | .plotAttrChange w k n => okWr w && okStack k && decide (n < 48)
  | .plotFillDone p row => decide (p < 384) && decide (row ≤ 12288)
  | .plTagWrite w k n => okWr w && okStack k && decide (n < 48)
  | .rangeFill w k => okWr w && okStack k
  | .rangeFillDone k upto => okStack k && decide (upto ≤ 25165824)
  | .plotAccess _ addr _ _ _ vi _ _ => decide (addr < 2 ^ 48) && okVi vi
  | .priResponse vi _ _ => okVi vi
  | .priTimeout vi _ => okVi vi
  | .tlbInv w => okWr w
  | .tlbInvDone => true
  | .refresh stack pc bank => okStack stack && decide (pc < 64) && decide (bank < 48)
  | .refreshManagement stack pc bank => okStack stack && decide (pc < 64) && decide (bank < 48)
  | .stackInit k _ _ => okStack k
  | .muissue core x => decide (core < 22) && decide (x < 16)
  | .muCmdGo w => okWr w
  | .rowcopy stack pc _ _ => okStack stack && decide (pc < 64)
  | .rowinit stack pc _ _ => okStack stack && decide (pc < 64)
  | .rowand stack pc _ _ => okStack stack && decide (pc < 64)
  | .rowor stack pc _ _ => okStack stack && decide (pc < 64)
  | .rowxor stack pc _ _ => okStack stack && decide (pc < 64)
  | .rowandn stack pc _ _ => okStack stack && decide (pc < 64)
  | .rownot stack pc _ _ => okStack stack && decide (pc < 64)
  | .chain stack pc _ _ => okStack stack && decide (pc < 64)
  | .buscopy stack pc _ _ => okStack stack && decide (pc < 64)
  | .winopen _ vi _ => okVi vi
  | .winclose _ vi _ => okVi vi
  | .muleCommandDone stack pc => okStack stack && decide (pc < 64)
  | .muWinCmdOpen w => okWr w
  | .muWinCmdClose w => okWr w
  | .drainComplete stack pc => okStack stack && decide (pc < 64)
  | .exitComplete stack pc => okStack stack && decide (pc < 64)
  | .holdExpiry _ => true
  | .budgetPeriod => true
  | .suspectClear w k pc => okWr w && okStack k && decide (pc < 64)
  | .lcLookup asks upset =>
    asks.all (fun a => decide (a.addr < 2 ^ 48) && decide (0 < a.len ∧ a.len ≤ 128) && okVi a.vi && decide (a.cls < 3) &&
      okCluster a.cluster) &&
    upset.all (fun (i, t, w, b) => decide (i < 64) && decide (t < 512) && decide (w < 12) && decide (b < 40))
  | .lcRetry slice => decide (slice < 64)
  | .lcFillArrive slice la k _ => decide (slice < 64) && decide (la < 2 ^ 41) && decide (k < 4)
  | .lcInvalWrite addr _ _ vi _ => decide (addr < 2 ^ 48) && okVi vi
  | .lcPartWrite w v => okWr w && okVi v
  | .lcSweepDone v => okVi v
  | .lcOpFlush w => okWr w
  | .lcOpInval w => okWr w
  | .lcOpDone _ => true
  | .lcCounterClear w d => okWr w && okSpine d
  | .feedWindow arb _ => decide (arb < 26)
  | .arbiterGrant arb point _ => decide (arb < 26) && decide (point < 64)
  | .transferAbandon arb point _ => decide (arb < 26) && decide (point < 64)
  | .arbiterParityError arb _ ix => decide (arb < 26) && decide (ix < 64)
  | .trCounterClear w arb => okWr w && decide (arb < 26)
  | .stissue core x => decide (core < 22) && decide (x < 16)
  | .stCmdIssue w e c => okWr w && decide (e < 20) && decide (c < 32)
  | .stCmdCancel w e c => okWr w && decide (e < 20) && decide (c < 32)
  | .stCmdResume w e c => okWr w && decide (e < 20) && decide (c < 32)
  | .entryFetch e x _ _ _ => decide (e < 20) && decide (x < 32)
  | .blockRetire e x _ _ => decide (e < 20) && decide (x < 32)
  | .listEnd e x => decide (e < 20) && decide (x < 32)
  | .streamHalt e x _ _ _ _ => decide (e < 20) && decide (x < 32)
  | .cancelComplete e x _ => decide (e < 20) && decide (x < 32)
  | .stCounterClear w e => okWr w && decide (e < 20)
  | .mxNormal c _ => okCluster c
  | .mxExact c _ => okCluster c
  | .vxAdd c _ => okCluster c
  | .vxSub c _ => okCluster c
  | .vxMul c _ => okCluster c
  | .vxFma c _ => okCluster c
  | .vxMin c _ => okCluster c
  | .vxMax c _ => okCluster c
  | .vxCmp c _ => okCluster c
  | .vxSel c _ => okCluster c
  | .vxCvt c _ => okCluster c
  | .vxExp c _ => okCluster c
  | .vxLog c _ => okCluster c
  | .vxRcp c _ => okCluster c
  | .vxRsqrt c _ => okCluster c
  | .vxSigmoid c _ => okCluster c
  | .vxTanh c _ => okCluster c
  | .accclr c _ => okCluster c
  | .accsum c _ => okCluster c
  | .accdot c _ => okCluster c
  | .accmerge c _ => okCluster c
  | .accload c _ => okCluster c
  | .accstore c _ => okCluster c
  | .accround c _ => okCluster c
  | .topk c _ => okCluster c
  | .gtSum c => okCluster c
  | .gtMean c => okCluster c
  | .gtMax c => okCluster c
  | .gtWsum c => okCluster c
  | .gatherRowArrive c _ _ => okCluster c
  | .engineComplete c k _ => okCluster c && decide (k < 3)
  | .engineCounterClear w c k => okWr w && okCluster c && decide (k < 3)
  | .contextStart w core x => okWr w && okCore core && okCtx x
  | .contextStop w core x => okWr w && okCore core && okCtx x
  | .contextReset w core x => okWr w && okCore core && okCtx x
  | .coreReset w core => okWr w && okCore core
  | .hostKick w core x => okWr w && okCore core && okCtx x
  | .alarm core x => okCore core && okCtx x
  | .interruptDeliver core x => okCore core && okCtx x
  | .timeSliceEnd core => okCore core
  | .waitWake core x => okCore core && okCtx x
  | .remoteAccessComplete core x _ => decide (core < 22) && decide (x < 16)
  | .unitAnswer core x rd => okCore core && okCtx x && decide (rd < 32)
  | .regParityError core x => okCore core && okCtx x
  | .steerWindowAccess a core off _ _ => okAcc a && okCore core && decide (off < 0x80000)
  | .cfgErrClear w core => okWr w && okCore core
  | .scCounterClear w core => okWr w && okCore core
  | .add core x => decide (core < 22) && decide (x < 16)
  | .sub core x => decide (core < 22) && decide (x < 16)
  | .and core x => decide (core < 22) && decide (x < 16)
  | .or core x => decide (core < 22) && decide (x < 16)
  | .xor core x => decide (core < 22) && decide (x < 16)
  | .andn core x => decide (core < 22) && decide (x < 16)
  | .shl core x => decide (core < 22) && decide (x < 16)
  | .shr core x => decide (core < 22) && decide (x < 16)
  | .sra core x => decide (core < 22) && decide (x < 16)
  | .min core x => decide (core < 22) && decide (x < 16)
  | .max core x => decide (core < 22) && decide (x < 16)
  | .minu core x => decide (core < 22) && decide (x < 16)
  | .maxu core x => decide (core < 22) && decide (x < 16)
  | .clz core x => decide (core < 22) && decide (x < 16)
  | .popc core x => decide (core < 22) && decide (x < 16)
  | .mul core x => decide (core < 22) && decide (x < 16)
  | .mulh core x => decide (core < 22) && decide (x < 16)
  | .mulhu core x => decide (core < 22) && decide (x < 16)
  | .div core x => decide (core < 22) && decide (x < 16)
  | .divu core x => decide (core < 22) && decide (x < 16)
  | .rem core x => decide (core < 22) && decide (x < 16)
  | .remu core x => decide (core < 22) && decide (x < 16)
  | .addi core x => decide (core < 22) && decide (x < 16)
  | .andi core x => decide (core < 22) && decide (x < 16)
  | .ori core x => decide (core < 22) && decide (x < 16)
  | .xori core x => decide (core < 22) && decide (x < 16)
  | .shli core x => decide (core < 22) && decide (x < 16)
  | .shri core x => decide (core < 22) && decide (x < 16)
  | .srai core x => decide (core < 22) && decide (x < 16)
  | .lui core x => decide (core < 22) && decide (x < 16)
  | .li32 core x => decide (core < 22) && decide (x < 16)
  | .orhi core x => decide (core < 22) && decide (x < 16)
  | .addi32 core x => decide (core < 22) && decide (x < 16)
  | .cmpeq core x => decide (core < 22) && decide (x < 16)
  | .cmpne core x => decide (core < 22) && decide (x < 16)
  | .cmplt core x => decide (core < 22) && decide (x < 16)
  | .cmpge core x => decide (core < 22) && decide (x < 16)
  | .cmpltu core x => decide (core < 22) && decide (x < 16)
  | .cmpgeu core x => decide (core < 22) && decide (x < 16)
  | .tst core x => decide (core < 22) && decide (x < 16)
  | .tstz core x => decide (core < 22) && decide (x < 16)
  | .pand core x => decide (core < 22) && decide (x < 16)
  | .por core x => decide (core < 22) && decide (x < 16)
  | .pxor core x => decide (core < 22) && decide (x < 16)
  | .pandn core x => decide (core < 22) && decide (x < 16)
  | .pnot core x => decide (core < 22) && decide (x < 16)
  | .pset core x => decide (core < 22) && decide (x < 16)
  | .pclr core x => decide (core < 22) && decide (x < 16)
  | .ptog core x => decide (core < 22) && decide (x < 16)
  | .gtop core x => decide (core < 22) && decide (x < 16)
  | .dset core x => decide (core < 22) && decide (x < 16)
  | .dget core x => decide (core < 22) && decide (x < 16)
  | .dcopy core x => decide (core < 22) && decide (x < 16)
  | .dzero core x => decide (core < 22) && decide (x < 16)
  | .br core x => decide (core < 22) && decide (x < 16)
  | .call core x => decide (core < 22) && decide (x < 16)
  | .jr core x => decide (core < 22) && decide (x < 16)
  | .ld core x => decide (core < 22) && decide (x < 16)
  | .st core x => decide (core < 22) && decide (x < 16)
  | .ldd core x => decide (core < 22) && decide (x < 16)
  | .std core x => decide (core < 22) && decide (x < 16)
  | .mxissue core x => decide (core < 22) && decide (x < 16)
  | .vxissue core x => decide (core < 22) && decide (x < 16)
  | .gtissue core x => decide (core < 22) && decide (x < 16)
  | .stcancel core x => decide (core < 22) && decide (x < 16)
  | .stresume core x => decide (core < 22) && decide (x < 16)
  | .waitcnt core x => decide (core < 22) && decide (x < 16)
  | .waitmu core x => decide (core < 22) && decide (x < 16)
  | .waitft core x => decide (core < 22) && decide (x < 16)
  | .fence core x => decide (core < 22) && decide (x < 16)
  | .lock core x err => decide (core < 22) && decide (x < 16) && decide (err < 4)
  | .unlock core x err => decide (core < 22) && decide (x < 16) && decide (err < 4)
  | .lcflush core x => decide (core < 22) && decide (x < 16)
  | .lcinval core x => decide (core < 22) && decide (x < 16)
  | .phase core x => okCore core && okCtx x
  | .setcfg core x => okCore core && okCtx x
  | .getcfg core x => okCore core && okCtx x
  | .trap core x => decide (core < 22) && decide (x < 16)
  | .eret core x => decide (core < 22) && decide (x < 16)
  | .pcieUnsupportedRequest port => decide (port < 2)
  | .bar2Access port off _ _ _ _ => decide (port < 2) && decide (off < 2 ^ 29)
  | .atsInvalidation port vi addr _ _ => decide (port < 2) && decide (vi < 64) && decide (addr < 2 ^ 64)
  | .queueEnable w q => okWr w && decide (q < 65536)
  | .doorbell port fn k _ _ _ => decide (port < 2) && decide (fn < 64) && decide (k < 1024)
  | .sqFetch q => decide (q < 65536)
  | .entryStaged q => decide (q < 65536)
  | .admission die => decide (die < 2)
  | .hqPost w c _ => okWr w && (c.all okCluster)
  | .completionWrite q _ => decide (q < 65536)
  | .msixCoalesceTimeout q => decide (q < 65536)
  | .operatorEnable w v op => okWr w && okVi v && decide (op < 64)
  | .queueCancel w q => okWr w && decide (q < 65536)
  | .viReset w => okWr w
  | .viResetDone v => decide (v < 64)
  | .flr port fn => decide (port < 2) && decide (fn < 64)
  | .pcieLinkLoss port => decide (port < 2)
  | .pcieCompletionTimeout q ix => decide (q < 65536) && decide (ix < 65536)
  | .slotParityError slot => decide (slot < 32768)
  | .credit p vc subch _ n => decide (p < 16) && decide (vc < 5) && decide (subch < 2) && decide (n < 2048)
  | .linkReplay p _ cell => decide (p < 16) && decide (cell < 32768)
  | .laneLoss p l => decide (p < 16) && decide (l < 4)
  | .portDown p => decide (p < 16)
  | .portTrained p lanes neighbour nport => decide (p < 16) && decide (lanes < 16) && decide (neighbour < 4096) && decide (nport < 16)
  | .sparePortTakeover p => decide (p < 16)
  | .frameRoute p f => decide (p < 16) && Frame.wf f
  | .write p f => decide (p < 16) && Frame.is 0x01 f
  | .post p f => decide (p < 16) && Frame.is 0x02 f
  | .readReq p f => decide (p < 16) && Frame.is 0x03 f
  | .readResp p f => decide (p < 16) && Frame.is 0x04 f
  | .writeAck p f => decide (p < 16) && Frame.is 0x05 f
  | .refuse p f => decide (p < 16) && Frame.is 0x06 f
  | .lockReq p f err => decide (p < 16) && Frame.is 0x07 f && decide (err < 4)
  | .lockResp p f => decide (p < 16) && Frame.is 0x08 f
  | .msg p f => okPort p && Frame.is 0x09 f
  | .heartbeat p f _ => decide (p < 16) && Frame.is 0x18 f
  | .heartbeatSend => true
  | .beatAck p f => decide (p < 16) && Frame.is 0x19 f
  | .memberLost h => decide (h < 4096)
  | .joinSend => true
  | .join p f => decide (p < 16) && Frame.is 0x1A f
  | .assign p f dims bcast => decide (p < 16) && Frame.is 0x1B f && decide (dims < 4096) && decide (bcast < 65536)
  | .takeover => true
  | .swapReq p f => decide (p < 16) && Frame.is 0x1C f
  | .handover p f => decide (p < 16) && Frame.is 0x1D f
  | .taken p f => decide (p < 16) && Frame.is 0x1E f
  | .swapResult p f => decide (p < 16) && Frame.is 0x1F f
  | .lost p f => decide (p < 16) && Frame.is 0x20 f
  | .release p f => decide (p < 16) && Frame.is 0x21 f
  | .force p f => decide (p < 16) && Frame.is 0x22 f
  | .stroke p f => decide (p < 16) && Frame.is 0x23 f
  | .strokeResult p f => decide (p < 16) && Frame.is 0x24 f
  | .strokeResultTimeout h => decide (h < 4096)
  | .route p f => decide (p < 16) && Frame.is 0x25 f
  | .mirror p f => decide (p < 16) && Frame.is 0x26 f
  | .expel p f => decide (p < 16) && Frame.is 0x27 f
  | .transactionTimeout tag => decide (tag < 2 ^ 32)
  | .hdFound w => okWr w
  | .hdSwap w => okWr w
  | .hdLeave w => okWr w
  | .hdExpel w => okWr w
  | .pmStart w => okWr w
  | .estimateWindow _ _ _ _ _ => true
  | .dvfsStepComplete g _ => decide (g < 3)
  | .regulatorTimeout g => decide (g < 3)
  | .calibrationPeriod _ _ _ => true
  | .railLimitWindow r mean => decide (r < 9) && decide (mean < 65536)
  | .activityParityError g => decide (g < 5)
  | .sensorSample n temp => decide (n < 30) && decide (temp < 1024)
  | .sensorBad n => decide (n < 30)
  | .thermalTrip n temp => decide (n < 30) && decide (temp < 1024)
  | .railStuck => true
  | .regAlert rail => decide (rail < 16)
  | .extAlert => true
  | .regAlertRelease => true
  | .extAlertRelease => true
  | .alertHoldEnd n => decide (n < 2)
  | .huReady volt soc _ => decide (volt < 8192) && decide (soc < 128)
  | .gaugeDisagree => true
  | .gaugeRezero => true
  | .huFault => true
  | .powerLoss => true
  | .shutdownSaveDone _ _ => true
  | .inputOvervoltage => true
  | .watchdogRestart => true
  | .auditAckMsg p f => okPort p && Frame.is 0x09 f
  | .registerWriteMsg p f => okPort p && Frame.is 0x09 f
  | .lfReq w => okWr w
  | .lfChallengeRead a k => okAcc a && decide (k < 4)
  | .nestRead w _ => okWr w
  | .nestWrite w => okWr w
  | .nestEmptySlot w => okWr w
  | .nestWipe w => okWr w
  | .tamper => true
  | .nestWipeDone => true
  | .auditMirror _ => true
  | .auditExportPush => true
  | .auditAck w => okWr w
  | .auditRead w => okWr w
  | .fwLoad w => okWr w
  | .fwLoadDone _ ver => decide (ver < 65536)
  | .fwVerifyDone image _ => decide (image < 2)
  | .debugUnlock _ _ => true
  | .spiRead addr n _ => decide (addr < 65536) && decide (n < 65536)
  | .spiWrite addr _ _ => decide (addr < 65536)
  | .spiStatus => true
  | .spiRing b => decide (b < 256)
  | .mctpControl cmd eid => decide (cmd < 256) && decide (eid < 256)
  | .getIdentity => true
  | .getTelemetry => true
  | .setPowerLimit watts => decide (watts < 65536)
  | .readReg off _ => decide (off < 2 ^ 26)
  | .writeReg off _ _ => decide (off < 2 ^ 26)
  | .readAudit seq n => decide (seq < 2 ^ 64) && decide (n < 256)
  | .ackAudit seq => decide (seq < 2 ^ 64)
  | .fwStage image off _ => decide (image < 2) && decide (off < 2 ^ 32)
  | .fwStatus => true
  | .getChallenge => true
  | .lfRequest target _ => decide (target < 8)
  | .sparePrepare w d => okWr w && okSpine d
  | .sparePrepared d _ => okSpine d
  | .spareMigrate w d => okWr w && okSpine d
  | .migrateSwitch d _ => okSpine d
  | .spareFresh w d => okWr w && okSpine d
  | .spareCancel w d => okWr w && okSpine d
  | .stackRetire w => okWr w
  | .sliceRetire w => okWr w
  | .stackReinstate w _ => okWr w
  | .sliceReinstate w _ => okWr w
  | .svcPowerOn addr => decide (addr < 8)
  | .moduleColdReset => true
  | .tripHoldEnd => true
  | .bootSequence b _ => BootIn.wf b
  | .thermalHoldRetry b _ => BootIn.wf b
  | .pwrEnRise b _ => BootIn.wf b
  | .pwrEnFall => true
  | .railFault => true
  | .pcieConventionalReset e => decide (e < 2)
  | .pcieLinkTrain e => decide (e < 2)
  | .tapReset => true
  | .spineDomainOff d => okSpine d
  | .hbmAccess _ _ => true
  | .uncorrectableCodeword p cell _ => decide (p < 16) && decide (cell < 32768)
  | .badFrame p => decide (p < 16)
  | .herdSilent => true
  | .registerRead a _ off => okAcc a && decide (off < 2 ^ 26)
  | .hostReadCompletion q ix _ _ _ => decide (q < 65536) && decide (ix < 65536)
  | .rejectedResetPulse => true

end Sys2Proof
end

