-- ==== Sys2Proof/Tests/Slice0.lean ====
section
/-! SUPPORT. The model's own tests: ill-formed commands that are refused, words written out from the encoding tables, worked
examples of the spec, and for each statement with hypotheses a concrete state and operands that meet them. -/
set_option maxRecDepth 1000000

namespace Sys2Proof.Tests

open Sys2Proof Sys2Proof.Machine

/-! ## States of the tests -/

/-- The module on: rails, clocks and every domain, the boot at stage 11, PERST_N high, cluster 0 cleared. -/
def on : State :=
  { State.reset with
    power := { PowerState.reset with
      rails := true
      clocks := true
      clusters := 2 ^ 18 - 1
      spines := 3
      stackBits := 255
      links := 3 }
    pins := { Pins.reset with
      perst0 := false
      perst1 := false
      pwrEn := true
      pwrGood := true } }.setStage 11 |>.setFlag .TM_STATUS_CLEARING 0 0 false

/-- VI0 over host port 0. -/
def host : Acc := ⟨.vi 0, 0, 0, 0, true, 0⟩

/-- Context 0 of a core RUNNING at PRIV, about to run the instruction of two words, with values in g1 and g2, in d1 and in p1. -/
def run (core w m g1 g2 : Nat) (d1 : Nat := 0) (p1 : Bool := true) : State :=
  ((((((((on.setCtxState core 0 2).setFlag .SC_CTX_STATUS_LEVEL core 0 true).steerStore core 0 ⟨BitVec.ofNat 32 w, false⟩).steerStore
    core 1 ⟨BitVec.ofNat 32 m, false⟩).setSlG core 0 1 ⟨BitVec.ofNat 64 g1, false⟩).setSlG core 0 2
    ⟨BitVec.ofNat 64 g2, false⟩).setSlD core 0 1 ⟨BitVec.ofNat 256 d1, false⟩).setSlP core 0 1 ⟨p1, false, 0⟩)

/-- Whether context 0 of a core issues `op`, and what `q` says of the instruction and the state then holds. -/
def issuesB (s : State) (op : SlOp) (core x : Nat) (q : SlI → State → Bool) : Bool :=
  s.coreOn core && s.ctxState core x == 2 && (match s.slFetch core x with
    | (.inl i, t) => slDecode i.w == some op && !(s.slStalls i) && q i t
    | _ => false)

theorem issues_of {s : State} {op : SlOp} {core x : Nat} {q : SlI → State → Bool} (h : issuesB s op core x q = true) :
    ∃ t i, s.issues t op core x i ∧ q i t = true := by
  unfold issuesB at h
  simp only [Bool.and_eq_true, beq_iff_eq] at h
  obtain ⟨⟨h1, h2⟩, h3⟩ := h
  split at h3
  · rename_i i t ht
    simp only [Bool.and_eq_true, beq_iff_eq, Bool.not_eq_true'] at h3
    exact ⟨t, i, ⟨h1, h2, ht, h3.1.1, h3.1.2⟩, h3.2⟩
  · exact absurd h3 (by decide)

/-! ## Sloak instructions -/

/-- An R-format word (R351): major, rd, ra, rb, pg, fn. -/
def rWord (major rd ra rb pg fn : Nat) : Nat := major * 2 ^ 26 + rd * 2 ^ 21 + ra * 2 ^ 16 + rb * 2 ^ 11 + pg * 2 ^ 8 + fn
/-- An I-format word (R351): major, rd, ra, imm16. -/
def iWord (major rd ra imm : Nat) : Nat := major * 2 ^ 26 + rd * 2 ^ 21 + ra * 2 ^ 16 + imm
/-- An E-format word (R351): major, rd, ra, rb, pg, ds, fn. -/
def eWord (major rd ra rb pg ds fn : Nat) : Nat := rWord major rd ra rb pg (ds * 16 + fn)
/-- An M-format word (R351): major, rd, ra, space, size, offset. -/
def mWord (major rd ra sp sz off : Nat) : Nat := iWord major rd ra (sp * 2 ^ 14 + sz * 2 ^ 11 + off)

/-- What holds of the state a command answers. -/
def next (o : Host.Outcome State Fault Refusal) (q : State → Bool) : Bool :=
  match o with
  | .next t => q t
  | _ => false

/-- g3 of context 0 after a command on core 0. -/
def g3Is (c : Instr) (w m g1 g2 v : Nat) : Bool :=
  next (exec c (run 0 w m g1 g2)) (fun t => t.slG 0 0 3 == ⟨BitVec.ofNat 64 v, false⟩ && t.slPc 0 0 == (if w < 0xFC000000 then 4 else 8))

/-- The integer table (R383), by hand: fn, ra, rb, rd. -/
theorem test_integer :
    ([(Instr.add 0 0, 0x00, 2 ^ 64 - 1, 2, 1), (.sub 0 0, 0x01, 5, 7, 2 ^ 64 - 2), (.and 0 0, 0x02, 12, 10, 8),
      (.or 0 0, 0x03, 12, 10, 14), (.xor 0 0, 0x04, 12, 10, 6), (.andn 0 0, 0x05, 12, 10, 4), (.shl 0 0, 0x06, 3, 65, 6),
      (.shr 0 0, 0x07, 2 ^ 63, 63, 1), (.sra 0 0, 0x08, 2 ^ 63, 63, 2 ^ 64 - 1), (.min 0 0, 0x09, 2 ^ 64 - 1, 1, 2 ^ 64 - 1),
      (.max 0 0, 0x0A, 2 ^ 64 - 1, 1, 1), (.minu 0 0, 0x0B, 2 ^ 64 - 1, 1, 1), (.maxu 0 0, 0x0C, 2 ^ 64 - 1, 1, 2 ^ 64 - 1),
      (.mul 0 0, 0x10, 2 ^ 63 + 3, 2, 6), (.mulh 0 0, 0x11, 2 ^ 64 - 1, 1, 2 ^ 64 - 1), (.mulhu 0 0, 0x12, 2 ^ 63, 2, 1),
      (.div 0 0, 0x18, 2 ^ 64 - 7, 2, 2 ^ 64 - 3), (.divu 0 0, 0x19, 7, 0, 2 ^ 64 - 1), (.rem 0 0, 0x1A, 2 ^ 64 - 7, 2, 2 ^ 64 - 1),
      (.remu 0 0, 0x1B, 7, 0, 7)].all (fun (c, fn, a, b, v) => g3Is c (rWord 0x01 3 1 2 0 fn) 0 a b v)) = true := by decide

theorem test_count_bits :
    g3Is (.clz 0 0) (rWord 0x01 3 1 0 0 0x0D) 0 0 0 64 = true ∧ g3Is (.clz 0 0) (rWord 0x01 3 1 0 0 0x0D) 0 1 0 63 = true ∧
    g3Is (.popc 0 0) (rWord 0x01 3 1 0 0 0x0E) 0 0x8000_00FF 0 9 = true := by decide

/-- The most negative number over -1, and each divisor of 0 (R383). -/
theorem test_division_corners :
    g3Is (.div 0 0) (rWord 0x01 3 1 2 0 0x18) 0 (2 ^ 63) (2 ^ 64 - 1) (2 ^ 63) = true ∧
    g3Is (.rem 0 0) (rWord 0x01 3 1 2 0 0x1A) 0 (2 ^ 63) (2 ^ 64 - 1) 0 = true ∧
    g3Is (.div 0 0) (rWord 0x01 3 1 2 0 0x18) 0 9 0 (2 ^ 64 - 1) = true ∧
    g3Is (.rem 0 0) (rWord 0x01 3 1 2 0 0x1A) 0 9 0 9 = true := by decide

/-- The immediate tables (R384, R385). -/
theorem test_immediate :
    ([(Instr.addi 0 0, iWord 0x08 3 1 0xFFFF, 0, 4), (.andi 0 0, iWord 0x09 3 1 0xFFFF, 0, 5), (.ori 0 0, iWord 0x0A 3 1 0x8000, 0, 0x8005),
      (.xori 0 0, iWord 0x0B 3 1 1, 0, 4), (.shli 0 0, iWord 0x0C 3 1 4, 0, 80), (.shri 0 0, iWord 0x0D 3 1 1, 0, 2),
      (.srai 0 0, iWord 0x0E 3 1 2, 0, 1), (.lui 0 0, iWord 0x0F 3 0 0x8000, 0, 0xFFFF_FFFF_8000_0000),
      (.li32 0 0, rWord 0x3F 3 0 0 0 0, 0xFFFF_FFFE, 2 ^ 64 - 2), (.orhi 0 0, rWord 0x3F 3 1 1 0 0, 1, 0x1_0000_0005),
      (.addi32 0 0, rWord 0x3F 3 1 2 0 0, 0xFFFF_FFFF, 4)].all (fun (c, w, m, v) => g3Is c w m 5 0 v)) = true := by decide

/-- Predicate 3 of context 0 after a command on core 0. -/
def p3Is (c : Instr) (w g1 g2 : Nat) (v : Bool) : Bool :=
  next (exec c (run 0 w 0 g1 g2)) (fun t => t.slP 0 0 3 == ⟨v, false, 0⟩)

/-- The compares (R386): -1 and 1. -/
theorem test_compare :
    ([(Instr.cmpeq 0 0, 0, false), (.cmpne 0 0, 1, true), (.cmplt 0 0, 2, true), (.cmpge 0 0, 3, false), (.cmpltu 0 0, 4, false),
      (.cmpgeu 0 0, 5, true), (.tst 0 0, 6, true), (.tstz 0 0, 7, false)].all
        (fun (c, fn, v) => p3Is c (rWord 0x02 3 1 2 0 fn) (2 ^ 64 - 1) 1 v)) = true := by decide

/-- The predicate instructions (R387) on p1 = 1 and p0 = 1, and GTOP. -/
theorem test_predicates :
    ([(Instr.pand 0 0, rWord 0x03 3 1 0 0 0, true), (.por 0 0, rWord 0x03 3 1 0 0 1, true), (.pxor 0 0, rWord 0x03 3 1 0 0 2, false),
      (.pandn 0 0, rWord 0x03 3 1 0 0 3, false), (.pnot 0 0, rWord 0x03 3 1 0 0 4, false), (.pset 0 0, rWord 0x03 3 0 0 0 5, true),
      (.pclr 0 0, rWord 0x03 3 0 0 0 6, false), (.gtop 0 0, rWord 0x04 3 1 0 0 1, true)].all
        (fun (c, w, v) => p3Is c w 5 0 v)) = true := by decide

/-- The moves (R388): PTOG, DGET of lane 1, and DSET of lane 2. -/
theorem test_moves :
    g3Is (.ptog 0 0) (rWord 0x04 3 1 0 0 0) 0 0 0 1 = true ∧
    next (exec (.dget 0 0) (run 0 (rWord 0x04 3 1 1 0 3) 0 0 0 (2 ^ 64 * 7))) (fun t => t.slG 0 0 3 == ⟨7, false⟩) = true ∧
    next (exec (.dset 0 0) (run 0 (rWord 0x04 1 1 2 0 2) 0 9 0 5)) (fun t => t.slD 0 0 1 == ⟨BitVec.ofNat 256 (9 * 2 ^ 128 + 5), false⟩) = true ∧
    next (exec (.dcopy 0 0) (run 0 (rWord 0x04 3 1 0 0 4) 0 0 0 5)) (fun t => t.slD 0 0 3 == ⟨5, false⟩) = true ∧
    next (exec (.dzero 0 0) (run 0 (rWord 0x04 1 0 0 0 5) 0 0 0 5)) (fun t => t.slD 0 0 1 == ⟨0, false⟩) = true := by decide

/-- A poisoned operand poisons the result with its tag, and a guard of 0 keeps rd (R344, R382). -/
theorem test_poison_and_guard :
    next (exec (.add 0 0) ((run 0 (rWord 0x01 3 1 4 0 0) 0 5 7).setSlG 0 0 4 (slPoisoned 0x1234))) (fun t =>
      t.slG 0 0 3 == slPoisoned 0x1234) = true ∧
    next (exec (.add 0 0) (run 0 (rWord 0x01 1 1 2 1 0) 0 5 7 0 false)) (fun t => t.slG 0 0 1 == ⟨5, false⟩ && t.slPc 0 0 == 4) = true := by
  decide

/-- BR back by one word, CALL, and JR (R389, R390). -/
theorem test_branches :
    next (exec (.br 0 0) (run 0 (0x10 * 2 ^ 26 + (2 ^ 22 - 1)) 0 0 0)) (fun t => t.slPc 0 0 == 2 ^ 64 - 4) = true ∧
    next (exec (.call 0 0) (run 0 (0x11 * 2 ^ 26 + 1 * 2 ^ 23 + 5) 0 0 0)) (fun t => t.slPc 0 0 == 20 && t.slG 0 0 31 == ⟨4, false⟩) = true ∧
    next (exec (.jr 0 0) (run 0 (iWord 0x12 3 1 2) 0 0x100 0)) (fun t => t.slPc 0 0 == 0x108 && t.slG 0 0 3 == ⟨4, false⟩) = true := by
  decide

/-- ST.B of 0x80 and LD.BS of it (R392): a sign-extended byte; and a 256-bit store and load. -/
theorem test_load_store :
    next (exec (.st 0 0) (run 0 (mWord 0x21 2 1 3 0 5) 0 0x100 0x80)) (fun t => t.steerByte 0 0x105 == none) = true ∧
    next (exec (.st 0 0) ((run 0 (mWord 0x21 2 1 3 0 5) 0 0x100 0x80).steerStore 0 0x41 ⟨0x11223344, false⟩)) (fun t =>
      t.steerByte 0 0x105 == some 0x80 && t.steerByte 0 0x104 == some 0x44) = true ∧
    next (exec (.ld 0 0) ((run 0 (mWord 0x20 3 1 3 1 5) 0 0x100 0).steerStore 0 0x41 ⟨0x11228044, false⟩)) (fun t =>
      t.slG 0 0 3 == ⟨0x80, false⟩) = true ∧
    next (exec (.ld 0 0) ((run 0 (mWord 0x20 3 1 3 0 5) 0 0x100 0).steerStore 0 0x41 ⟨0x11228044, false⟩)) (fun t =>
      t.slG 0 0 3 == ⟨0xFFFF_FFFF_FFFF_FF80, false⟩) = true ∧
    next (exec (.std 0 0) (run 0 (mWord 0x23 1 1 3 0 1) 0 0x100 0 (2 ^ 255 + 3))) (fun t =>
      t.steerByte 0 0x120 == some 3 && t.steerByte 0 0x13F == some 0x80) = true ∧
    next (exec (.ldd 0 0) ((run 0 (mWord 0x22 3 1 3 0 0) 0 0 0).steerStore 0 7 ⟨0, false⟩)) (fun t =>
      (t.slD 0 0 3).poison) = true := by decide

/-! ## Witnesses: the statements about Sloak instructions -/

/-- A guard that is a clean 1. -/
def guarded (i : SlI) (t : State) : Bool := !(t.slP i.core i.ctx i.pg).poison && (t.slP i.core i.ctx i.pg).val

theorem every_row_issues : slTable.all (fun (r : SlRow) => issuesB (run 0 r.val 0 5 7) r.op 0 0 guarded) = true := by
  decide

/-- Each instruction issues with its guard at 1 (IntegerResults, PredicateAndMoveResults, SloakFrames, SloakDecoding). -/
theorem witness_runs (r : SlRow) (h : r ∈ slTable) : ∃ t i, (run 0 r.val 0 5 7).runs t r.op 0 0 i := by
  obtain ⟨t, i, hi, hq⟩ := issues_of (List.all_eq_true.mp every_row_issues r h)
  simp only [guarded, Bool.and_eq_true, Bool.not_eq_true'] at hq
  exact ⟨t, i, hi, hq⟩

theorem witness_SloakFrames : ∃ u v w, exec (.add 0 0) (run 0 0x04000000 0 5 7) = .next u ∧
    exec (.addi 0 0) (run 0 0x20000000 0 5 7) = .next v ∧ exec (.cmpeq 0 0) (run 0 0x08000000 0 5 7) = .next w :=
  ⟨_, _, _, rfl, rfl, rfl⟩

/-- A word that no row of the encoding table matches. -/
theorem witness_SloakDecoding : slTable.all (fun (r : SlRow) => 0 &&& r.mask != r.val) = true := by decide

/-- The guard p1 at 0 and the guard p2 poisoned, nothing owed (GuardRule). -/
theorem witness_GuardRule :
    issuesB (run 0 (rWord 0x01 3 1 2 1 0) 0 5 7 0 false) .opAdd 0 0 (fun i t =>
      !(t.slP i.core i.ctx i.pg).poison && !(t.slP i.core i.ctx i.pg).val) = true ∧
    issuesB (run 0 (rWord 0x01 3 1 2 2 0) 0 5 7) .opAdd 0 0 (fun i t => (t.slP i.core i.ctx i.pg).poison) = true ∧
    (run 0 (rWord 0x01 3 1 2 2 0) 0 5 7).owesAnswer 0 0 = false := by decide

/-- A clean and a poisoned predicate and target, an aligned and a misaligned one. -/
theorem witness_BranchResults :
    issuesB (run 0 0x40000004 0 0 0) .opBr 0 0 (fun i t => !(t.slP 0 0 (nfield i.w 23 3)).poison) = true ∧
    issuesB (run 0 0x44000004 0 0 0) .opCall 0 0 (fun i t => !(t.slP 0 0 (nfield i.w 23 3)).poison) = true ∧
    issuesB (run 0 (iWord 0x12 3 1 1) 0 8 0) .opJr 0 0 (fun i t => !(t.slRa i).poison &&
      decide (wrapInt 64 (((t.slRa i).data.toNat : Int) + 4 * sextNat 16 i.w) % 4 = 0)) = true ∧
    issuesB (run 0 0x41000004 0 0 0) .opBr 0 0 (fun i t => (t.slP 0 0 (nfield i.w 23 3)).poison && !(t.owesAnswer 0 0)) = true ∧
    issuesB (run 0 0x45000004 0 0 0) .opCall 0 0 (fun i t => (t.slP 0 0 (nfield i.w 23 3)).poison && !(t.owesAnswer 0 0)) = true ∧
    issuesB (run 0 (iWord 0x12 3 5 1) 0 8 0) .opJr 0 0 (fun i t => (t.slRa i).poison && !(t.owesAnswer 0 0)) = true ∧
    issuesB (run 0 (iWord 0x12 3 1 1) 0 9 0) .opJr 0 0 (fun i t => !(t.slRa i).poison &&
      decide (wrapInt 64 (((t.slRa i).data.toNat : Int) + 4 * sextNat 16 i.w) % 4 ≠ 0) && !(t.owesAnswer 0 0)) = true := by
  decide

/-- An address of steer memory as a load or store forms it, with what the statement asks of it. -/
def steerAsk (size : Nat) (aligned allowed : Bool) (i : SlI) (t : State) : Bool :=
  let addr := wrapInt 64 (((t.slRa i).data.toNat : Int) + i.off11 * size)
  i.sp == 3 && !(t.slRa i).poison && decide (addr % size = 0) == aligned && t.steerAllowed i.core i.ctx addr size == allowed &&
    !(t.owesAnswer 0 0)

/-- The first and the last doubleword, one misaligned and one past the end (SteerLoadStore, MemoryFrames). -/
theorem witness_SteerLoadStore :
    issuesB (run 0 (mWord 0x20 3 1 3 6 0) 0 0 0) .opLd 0 0 (steerAsk 8 true true) = true ∧
    issuesB (run 0 (mWord 0x21 2 1 3 6 0) 0 0x7FFF8 0) .opSt 0 0 (steerAsk 8 true true) = true ∧
    issuesB (run 0 (mWord 0x22 1 1 3 0 1) 0 0 0) .opLdd 0 0 (steerAsk 32 true true) = true ∧
    issuesB (run 0 (mWord 0x23 1 1 3 0 1) 0 0 0) .opStd 0 0 (steerAsk 32 true true) = true ∧
    issuesB (run 0 (mWord 0x21 2 1 3 6 0) 0 4 0) .opSt 0 0 (steerAsk 8 false true) = true ∧
    issuesB (run 0 (mWord 0x20 3 1 3 6 0) 0 0x80000 0) .opLd 0 0 (steerAsk 8 true false) = true := by decide

/-- A descriptor of zeros for each unit, a list at device address 0 for stream context 0, and waits that are met. -/
theorem witness_UnitIssuesAndWaits :
    issuesB (run 0 (eWord 0x18 3 0 0 0 1 0) 0 0 0) .opMxissue 0 0 (fun i t => guarded i t && !(t.slD 0 0 i.ds).poison) = true ∧
    issuesB (run 0 (eWord 0x18 3 0 0 0 1 1) 0 0 0) .opVxissue 0 0 (fun i t => guarded i t && !(t.slD 0 0 i.ds).poison) = true ∧
    issuesB (run 0 (eWord 0x18 3 0 0 0 1 2) 0 0 0) .opGtissue 0 0 (fun i t => guarded i t && !(t.slD 0 0 i.ds).poison) = true ∧
    issuesB (run 0 (eWord 0x18 3 0 0 0 1 4) 0 0 0) .opMuissue 0 0 (fun i t =>
      guarded i t && !(t.slD 0 0 i.ds).poison && t.slMuleMay (t.slD 0 0 i.ds).data (t.slVi i)) = true ∧
    issuesB (run 0 (eWord 0x18 3 1 2 0 0 3) 0 0 0) .opStissue 0 0 (fun i t =>
      guarded i t && !(t.slRa i).poison && !(t.slRb i).poison && stExists (slStreams i.core) (t.slRb i).data.toNat &&
        nfield (t.slRa i).data.toNat 50 14 == 0) = true ∧
    issuesB (run 0 (eWord 0x19 3 0 2 0 0 0) 0 0 0) .opStcancel 0 0 (fun i t =>
      guarded i t && !(t.slRb i).poison && stExists (slStreams i.core) (t.slRb i).data.toNat) = true ∧
    issuesB (run 0 (eWord 0x19 3 0 2 0 0 1) 0 0 0) .opStresume 0 0 (fun i t =>
      guarded i t && !(t.slRb i).poison && stExists (slStreams i.core) (t.slRb i).data.toNat) = true := by decide

theorem witness_waits :
    issuesB (run 0 (eWord 0x1A 3 1 2 0 0 0) 0 0 0) .opWaitcnt 0 0 (fun i t =>
      guarded i t && !(t.slRa i).poison && !(t.slRb i).poison && nfield (t.slRa i).data.toNat 12 52 == 0 &&
        t.logCluster 0 == some (nfield (t.slRa i).data.toNat 8 4) &&
        t.waitMet (.cnt (t.physCluster (nfield (t.slRa i).data.toNat 8 4)) (nfield (t.slRa i).data.toNat 0 8)
          ((t.slRb i).data.toNat % 2 ^ 32))) = true ∧
    issuesB (run 0 (eWord 0x1A 3 1 2 0 0 1) 0 7 0) .opWaitmu 0 0 (fun i t =>
      guarded i t && !(t.slRa i).poison && !(t.slRb i).poison && decide ((t.slRa i).data.toNat < 8) &&
        t.stackPresent (t.slRa i).data.toNat && t.waitMet (.mu (t.slRa i).data.toNat (t.slRb i).data.toNat)) = true ∧
    issuesB (run 0 (eWord 0x1A 3 1 0 0 0 2) 0 0 0) .opWaitft 0 0 (fun i t =>
      guarded i t && !(t.slRa i).poison && t.waitMet (.ft (t.slRa i).data.toNat)) = true ∧
    issuesB (run 0 (eWord 0x1A 0 0 0 0 1 3) 0 0 0) .opFence 0 0 guarded = true ∧
    issuesB (run 20 (eWord 0x1A 0 0 0 0 2 3) 0 0 0) .opFence 20 0 guarded = true := by decide

/-- A device range of a byte at address 0 in g1 and its length in g2. -/
def devRange (i : SlI) (t : State) : Bool :=
  guarded i t && !(t.slRa i).poison && !(t.slRb i).poison && nfield (t.slRa i).data.toNat 48 2 == 2 && t.slVi i == 0 &&
    decide (0 < (t.slRb i).data.toNat) && decide ((t.slRb i).data.toNat < 2 ^ 40)

theorem witness_LockCacheTrap :
    issuesB (run 0 (rWord 0x1B 3 1 0 0 0) 0 0x1FFF 0) .opLock 0 0 (fun i t =>
      guarded i t && !(t.slRa i).poison && decide ((t.slRa i).data.toNat < 2 ^ 13)) = true ∧
    issuesB (run 0 (rWord 0x1B 3 1 0 0 1) 0 0 0) .opUnlock 0 0 (fun i t =>
      guarded i t && !(t.slRa i).poison && decide ((t.slRa i).data.toNat < 2 ^ 13)) = true ∧
    issuesB (run 0 (eWord 0x1C 3 1 2 0 0 0) 0 (2 ^ 49) 1) .opLcflush 0 0 devRange = true ∧
    issuesB (run 0 (eWord 0x1C 3 1 2 0 0 1) 0 (2 ^ 49) (2 ^ 40 - 1)) .opLcinval 0 0 devRange = true ∧
    issuesB (run 0 (rWord 0x1E 0 0 5 0 0) 0 0 0) .opTrap 0 0 (fun i t => guarded i t && !(t.owesAnswer 0 0)) = true ∧
    issuesB (run 0 0x78000001 0 0 0) .opEret 0 0 (fun _ t => t.ctxPriv 0 0) = true ∧
    issuesB ((run 0 0x78000001 0 0 0).setFlag .SC_CTX_STATUS_LEVEL 0 0 false)
      .opEret 0 0 (fun _ t => !(t.ctxPriv 0 0) && !(t.owesAnswer 0 0)) = true := by decide

/-- PHASE 15, a SETCFG of FT_STG_ARG at PRIV and at USER, and a GETCFG of SV_ID. -/
theorem witness_ConfigurationInstructions :
    issuesB (run 0 (eWord 0x1D 3 1 0 0 0 0) 0 15 0) .opPhase 0 0 (fun i t =>
      guarded i t && !(t.slRa i).poison && decide ((t.slRa i).data.toNat < 16)) = true ∧
    issuesB (run 0 (eWord 0x1D 3 1 2 0 0 1) 0 0x1_0010_0108 7) .opSetcfg 0 0 (fun i t =>
      guarded i t && t.ctxPriv 0 0 && !(t.slRa i).poison && !(t.slRb i).poison && cfgClean (t.slRa i).data &&
        (t.cfgWrite ⟨t.slAcc i, cfgWide (t.slRa i).data, (t.slRb i).data⟩ (cfgOff (t.slRa i).data)).1 == 0) = true ∧
    issuesB ((run 0 (eWord 0x1D 3 1 2 0 0 1) 0 0x1_0010_0108 7).setFlag .SC_CTX_STATUS_LEVEL 0 0 false) .opSetcfg 0 0 (fun i t =>
      guarded i t && !(t.ctxPriv 0 0) && !(t.owesAnswer 0 0)) = true ∧
    issuesB (run 0 (eWord 0x1D 3 1 0 0 0 2) 0 0 0) .opGetcfg 0 0 (fun i t =>
      guarded i t && !(t.slRa i).poison && t.ctxPriv 0 0 &&
        (t.busRead (t.slAcc i) (cfgWide (t.slRa i).data) (cfgOff (t.slRa i).data)).1 == 0) = true := by decide

/-! ## Witnesses: register writes -/

/-- A write, as its command fixes the value, is accepted. -/
def accB (s : State) (w : Wr) (id : RegId) (i j : Nat) : Bool :=
  match offset? id i j with
  | some off => decide (s.accepts w id i j off)
  | none => false

/-- Each of some writes by VI0 of the value 0, but for the fields its command fixes, is accepted. -/
def writesB (l : List ((Wr → Wr) × RegId × Nat × Nat)) : Bool :=
  l.all (fun (g, id, i, j) => accB on (g ⟨host, true, 0⟩) id i j)

theorem accepts_of {s : State} {w : Wr} {id : RegId} {i j : Nat} (h : accB s w id i j = true) :
    ∃ off, s.accepts w id i j off := by
  unfold accB at h
  split at h
  · exact ⟨_, of_decide_eq_true h⟩
  · exact absurd h (by decide)

theorem witness_TimeWindowLockIntegrityWrites : writesB [
    (fun w => wrSet w .SV_ACCESS_ERR_VALID 1, Fld.SV_ACCESS_ERR_VALID.id, 0, 0),
    (fun w => wrSet w .FT_CTRL_ACCEPT_STEP 1, Fld.FT_CTRL_ACCEPT_STEP.id, 0, 0),
    (fun w => wrSet w .FT_TRACE_CTL_EN 1, Fld.FT_TRACE_CTL_EN.id, 17, 0),
    (fun w => wrSet w .TMX_CNT_CTL_CLEAR 1, Fld.TMX_CNT_CTL_CLEAR.id, 17, 0),
    (fun w => wrSet w .WN_CTL_OPEN 1, Fld.WN_CTL_OPEN.id, 17, 63),
    (fun w => wrSet w .WN_CTL_OPEN 0, Fld.WN_CTL_OPEN.id, 17, 63),
    (fun w => wrSet w .LK_FORCE_GO 1, Fld.LK_FORCE_GO.id, 1, 0),
    (fun w => wrSet w .IN_SCRUB_CTL_GO 1, Fld.IN_SCRUB_CTL_GO.id, 1, 15),
    (fun w => wrSet w .IN_SCRUB_CTL_STOP 1, Fld.IN_SCRUB_CTL_STOP.id, 1, 15),
    (fun w => wrSet w .IN_ECNT_CLR_CLEAR 1, Fld.IN_ECNT_CLR_CLEAR.id, 1, 0),
    (fun w => wrSet w .IN_DIAG_GO 1, Fld.IN_DIAG_GO.id, 1, 0),
    (fun w => wrSet (commitWr w 0 0) .FT_STG_CTL_COMMIT 1, .FT_STG_CTL, 0, 0),
    (fun w => wrSet (commitWr w 1 0) .FT_STG_CTL_COMMIT 1, .FT_STG_CTL, 0, 0),
    (fun w => wrSet (commitWr w 0 1) .FT_STG_CTL_COMMIT 1, .FT_STG_CTL, 0, 0),
    (fun w => w, .WN_CNT, 17, 255),
    (fun w => w, .WN_CNT_SUB, 17, 255),
    (fun w => wrSet (wrSet w .IN_REPAIR_KIND 0) .IN_REPAIR_GO 1, .IN_REPAIR, 1, 0),
    (fun w => wrSet (wrSet w .IN_REPAIR_KIND 1) .IN_REPAIR_GO 1, .IN_REPAIR, 1, 0),
    (fun w => wrSet (wrSet w .IN_REPAIR_KIND 2) .IN_REPAIR_GO 1, .IN_REPAIR, 1, 0)] = true := by decide

theorem witness_PlotMuleCacheWrites : writesB [
    (fun w => wrSet w .PL_CTL_ENABLE 1, Fld.PL_CTL_ENABLE.id, 7, 47),
    (fun w => wrSet w .PL_FILL_GO 1, Fld.PL_FILL_GO.id, 7, 0),
    (fun w => wrSet w .PL_TLB_INV_GO 1, Fld.PL_TLB_INV_GO.id, 0, 0),
    (fun w => wrSet w .MU_CMD_GO_GO 1, Fld.MU_CMD_GO_GO.id, 0, 0),
    (fun w => wrSet w .MU_SUSPECT_VALID 1, Fld.MU_SUSPECT_VALID.id, 7, 63),
    (fun w => wrSet w .LC_CNT_CTL_CLEAR 1, Fld.LC_CNT_CTL_CLEAR.id, 1, 0),
    (fun w => wrSet w .TR_CNT_CLR_CLEAR 1, Fld.TR_CNT_CLR_CLEAR.id, 1, 0),
    (fun w => w, .PL_TAG, 7, 47),
    (fun w => wrSet (wrSet w .MU_WIN_CMD_CLOSE 0) .MU_WIN_CMD_GO 1, .MU_WIN_CMD, 0, 0),
    (fun w => wrSet (wrSet w .MU_WIN_CMD_CLOSE 1) .MU_WIN_CMD_GO 1, .MU_WIN_CMD, 0, 0),
    (fun w => wrSet (wrSet w .LC_OP_FLUSH 1) .LC_OP_GO 1, .LC_OP, 0, 0),
    (fun w => wrSet (wrSet w .LC_OP_FLUSH 0) .LC_OP_GO 1, .LC_OP, 0, 0),
    (fun w => w, .LC_PART, 63, 0)] = true := by decide

theorem witness_StreamCoreQueueHerdWrites : writesB [
    (fun w => wrSet w .ST_CMD_ISSUE 1, Fld.ST_CMD_ISSUE.id, 17, 15),
    (fun w => wrSet w .ST_CMD_CANCEL 1, Fld.ST_CMD_CANCEL.id, 17, 15),
    (fun w => wrSet w .ST_CMD_RESUME 1, Fld.ST_CMD_RESUME.id, 17, 15),
    (fun w => wrSet w .ST_CNT_CLR_CLEAR 1, Fld.ST_CNT_CLR_CLEAR.id, 17, 0),
    (fun w => wrSet w .MX_CNT_CLR_CLEAR 1, Fld.MX_CNT_CLR_CLEAR.id, 17, 0),
    (fun w => wrSet w .VX_CNT_CLR_CLEAR 1, Fld.VX_CNT_CLR_CLEAR.id, 17, 0),
    (fun w => wrSet w .GT_CNT_CLR_CLEAR 1, Fld.GT_CNT_CLR_CLEAR.id, 17, 0),
    (fun w => wrSet w .SC_CTX_CTL_START 1, Fld.SC_CTX_CTL_START.id, 21, 15),
    (fun w => wrSet w .SC_CTX_CTL_STOP 1, Fld.SC_CTX_CTL_STOP.id, 21, 15),
    (fun w => wrSet w .SC_CTX_CTL_RESET 1, Fld.SC_CTX_CTL_RESET.id, 21, 15),
    (fun w => wrSet w .SC_CORE_CTL_RESET 1, Fld.SC_CORE_CTL_RESET.id, 21, 0),
    (fun w => wrSet w .SC_CTX_KICK_HOST 1, Fld.SC_CTX_KICK_HOST.id, 21, 15),
    (fun w => wrSet w .SC_CFG_ERR_VALID 1, Fld.SC_CFG_ERR_VALID.id, 21, 0),
    (fun w => wrSet w .SC_CNT_CLR_CLEAR 1, Fld.SC_CNT_CLR_CLEAR.id, 21, 0),
    (fun w => wrSet w .HQ_Q_CFG_ENABLE 1, Fld.HQ_Q_CFG_ENABLE.id, 1023, 0),
    (fun w => wrSet w .HQ_OP_EN 1, Fld.HQ_OP_EN.id, 63, 63),
    (fun w => wrSet w .HQ_Q_CTL_CANCEL 1, Fld.HQ_Q_CTL_CANCEL.id, 1023, 0),
    (fun w => wrSet w .HQ_VI_RESET_GO 1, Fld.HQ_VI_RESET_GO.id, 0, 0),
    (fun w => wrSet w .PM_CTL_START 1, Fld.PM_CTL_START.id, 0, 0),
    (fun w => w, .HQ_POST_HQ, 0, 0),
    (fun w => wrSet (wrSet w .HD_CTL_ACTION 1) .HD_CTL_GO 1, .HD_CTL, 0, 0),
    (fun w => wrSet (wrSet w .HD_CTL_ACTION 2) .HD_CTL_GO 1, .HD_CTL, 0, 0),
    (fun w => wrSet (wrSet w .HD_CTL_ACTION 3) .HD_CTL_GO 1, .HD_CTL, 0, 0),
    (fun w => wrSet (wrSet w .HD_CTL_ACTION 4) .HD_CTL_GO 1, .HD_CTL, 0, 0),
    (fun w => w, .HQ_POST, 17, 0)] = true := by decide

theorem witness_ServiceWrites : writesB [
    (fun w => wrSet w .LF_REQ_GO 1, Fld.LF_REQ_GO.id, 0, 0),
    (fun w => wrSet w .SV_FW_LEN_GO 1, Fld.SV_FW_LEN_GO.id, 0, 0),
    (fun w => wrSet (wrSet w .NS_CMD_OP 0) .NS_CMD_GO 1, .NS_CMD, 0, 0),
    (fun w => wrSet (wrSet w .NS_CMD_OP 1) .NS_CMD_GO 1, .NS_CMD, 0, 0),
    (fun w => wrSet (wrSet w .NS_CMD_OP 2) .NS_CMD_GO 1, .NS_CMD, 0, 0),
    (fun w => wrSet (wrSet w .NS_CMD_OP 3) .NS_CMD_GO 1, .NS_CMD, 0, 0),
    (fun w => w, .AU_ACK, 0, 0),
    (fun w => w, .AU_RD_SEQ, 0, 0),
    (fun w => wrSet (wrSet w .SV_SPARE_CMD_ACTION 1) .SV_SPARE_CMD_GO 1, .SV_SPARE_CMD, 1, 0),
    (fun w => wrSet (wrSet w .SV_SPARE_CMD_ACTION 2) .SV_SPARE_CMD_GO 1, .SV_SPARE_CMD, 1, 0),
    (fun w => wrSet (wrSet w .SV_SPARE_CMD_ACTION 3) .SV_SPARE_CMD_GO 1, .SV_SPARE_CMD, 1, 0),
    (fun w => wrSet (wrSet w .SV_SPARE_CMD_ACTION 4) .SV_SPARE_CMD_GO 1, .SV_SPARE_CMD, 1, 0),
    (fun w => wrSet (wrSet (wrSet w .SV_RETIRE_KIND 0) .SV_RETIRE_ACTION 1) .SV_RETIRE_GO 1, .SV_RETIRE, 0, 0),
    (fun w => wrSet (wrSet (wrSet w .SV_RETIRE_KIND 1) .SV_RETIRE_ACTION 1) .SV_RETIRE_GO 1, .SV_RETIRE, 0, 0),
    (fun w => wrSet (wrSet (wrSet w .SV_RETIRE_KIND 0) .SV_RETIRE_ACTION 2) .SV_RETIRE_GO 1, .SV_RETIRE, 0, 0),
    (fun w => wrSet (wrSet (wrSet w .SV_RETIRE_KIND 1) .SV_RETIRE_ACTION 2) .SV_RETIRE_GO 1, .SV_RETIRE, 0, 0)] = true := by decide

/-- The conditions that some of these statements add hold of a value of 0 and of the module as it comes on. -/
theorem witness_write_conditions :
    on.flag .FT_TRACE_CTL_EN 17 0 = false ∧ on.flag .IN_REPAIR_GO 1 0 = false ∧ on.flag .PL_CTL_ENABLE 7 47 = false ∧
    on.flag .PL_TLB_INV_GO 0 0 = false ∧ on.flag .LC_OP_GO 0 0 = false ∧ on.flag .HQ_Q_CFG_ENABLE 1023 0 = false ∧
    on.flag .HQ_OP_EN 63 63 = false ∧ on.flag .HQ_VI_RESET_GO 0 0 = false ∧ on.flag .HD_CTL_GO 0 0 = false := by decide

/-- A plot that is enabled, and a write of its attributes. -/
theorem witness_plotAttrChange :
    accB (on.setFlag .PL_CTL_ENABLE 7 47 true) (wrSet ⟨host, true, 2⟩ .PL_CTL_ENABLE 1) .PL_CTL 7 47 = true ∧
    (on.setFlag .PL_CTL_ENABLE 7 47 true).fld .PL_CTL_ENABLE 7 47 = 1 ∧
    getBits ((on.setFlag .PL_CTL_ENABLE 7 47 true).reg .PL_CTL 7 47) 1 2 ≠ getBits (2 : W64) 1 2 := by decide

/-! ## Witnesses: any register -/

/-- Bit 0 of FT_CTRL is a field, bit 63 is reserved; a value that agrees with another on the fields (RegisterFieldTypes). -/
theorem witness_RegisterFieldTypes :
    (RegId.FT_CTRL.info.fields.any (fun f => decide (f.lo ≤ 0 ∧ 0 < f.lo + f.w))) = true ∧
    (RegId.FT_CTRL.info.fields.all (fun f => decide (¬(f.lo ≤ 63 ∧ 63 < f.lo + f.w)))) = true ∧
    (RegId.FT_CTRL.info.fields.all (fun f => (List.range 64).all (fun k =>
      !(decide (f.lo ≤ k ∧ k < f.lo + f.w)) || getBit (2 ^ 63 + 1 : W64) k == getBit (1 : W64) k))) = true := by decide

/-- A write and a read of FT_STG_ARG, which is 64 bits wide, by VI0; the window of the last herd core's last word; and
LF_CHALLENGE's last part. -/
theorem witness_RegisterAccess :
    (on.pathOpen host = true ∧ on.pathOffset host 0x100108 = some 0x100108 ∧ alignOff true 0x100108 = 0x100108 ∧
      on.blockKind 0x100108 = 0 ∧ steerWinAt 0x100108 = none ∧ (regAt 0x100108).map (fun r => r.id) = some .FT_STG_ARG ∧
      RegId.FT_STG_ARG.info.width = 64) ∧
    (on.power.svcOn = true ∧ (on.busRead (accBmc on) true 0x100108).1 = 0 ∧
      (on.busWrite ⟨accBmc on, true, 5⟩ 0x100108).1 = 0) ∧
    (host.origin = .vi 0 ∧ on.blockKind (steerWinOff 21 0x7FFFC) = 0) ∧
    on.pathOffset host (0x301040 + 8 * 3) = some (0x301040 + 8 * 3) ∧
    ((regAt 0x100040).map (fun r => r.id) = some .FT_PORT_ASYM ∧
      (on.busWrite ⟨host, true, 5⟩ 0x100040).2.isPending .FT_PORT_ASYM 0 0 = true) := by decide

/-- A register of the module that has been written waits for its boundary, and `q` holds of the state. -/
def waitsB (id : RegId) (i j : Nat) (q : State → Bool) (a : Acc := host) : Bool :=
  match offset? id i j with
  | some off => ((regAt off).map (fun r => (r.id == id, r.i, r.j)) == some (true, i, j)) &&
    (on.busWrite ⟨a, id.info.width == 64, 1⟩ off).2.isPending id i j && q (on.busWrite ⟨a, id.info.width == 64, 1⟩ off).2
  | none => false

/-- Each boundary of the statement, and a LOCKED field that is busy. -/
theorem witness_RegisterAccess_boundaries :
    (waitsB .FT_PORT_ASYM 15 0 (fun s => (s.portTime 15).t3.isNone) &&
      waitsB .TMX_HOT_CFG 17 0 (fun s => s.inForce .TMX_HOT_CFG_EN 17 0 == 0) &&
      waitsB .MU_HOLD 7 0 (fun s => (List.range 64).all (fun pc => s.chMode 7 pc == 0)) &&
      waitsB .GT_CFG 17 0 (fun s => (s.engQueue 17 2).isEmpty) && waitsB .SC_CORE_CFG 21 0 (fun _ => true) &&
      waitsB .SC_CORE_QUANTUM 21 0 (fun s => !(s.coreRuns 21)) && waitsB .HQ_VI_CFG 63 0 (fun s => s.hq.staged.isEmpty) &&
      waitsB .TH_CFG 0 0 (fun s => !(s.flag .PM_STATUS_RUNNING 0 0)) (accService on) && waitsB .TR_REQ 25 0 (fun _ => true) &&
      waitsB .PL_PT_ROOT 63 0 (fun _ => true)) = true ∧
    (RegId.WN_CTL.info.fields.any (fun f => f.ap == .locked && f.ty == .rw &&
      (on.setFlag .WN_CTL_OPEN 17 63 true).lockBusy .WN_CTL 17 63 f.lo 0)) = true := by decide

/-! ## Witnesses: Herdlink -/

/-- The module 5 of a herd whose shepherd is the module 1 (or itself), with port 0 UP. -/
def inHerd (role : Nat) : State :=
  ((((on.setFld .HL_PORT_STATUS_STATE 0 0 2).setFld .HD_STATUS_ROLE 0 0 role).setFld .HD_STATUS_HERD_ID 0 0 5).setFld
    .HD_STATUS_SHEPHERD 0 0 (if role = 3 then 5 else 1)).setFld .HD_STATUS_EPOCH 0 0 9

/-- A frame from the module 7 to the module 5. -/
def frm (addr arg : Nat) (payload : List PW) : Frame := ⟨0x01, 1, 0, 0, 5, false, false, 7, 4 * payload.length, addr, 6, arg, payload⟩

/-- A frame is served, and what `q` says of the state that serves it holds. -/
def servesB (s : State) (p : Nat) (f : Frame) (q : State → Bool) : Bool :=
  s.portUp p && !(badFrame f) && s.role != 0 && !(s.herd.lost.contains f.src) && (f.bcast || f.linkLocal || f.dest == s.herdId) &&
    q ((s.portCount p 4).freeBuffer p f.vc f.sub (frameBeats f))

theorem serves_of {s : State} {p : Nat} {f : Frame} {q : State → Bool} (h : servesB s p f q = true) :
    ∃ t, s.serves t p f ∧ q t = true := by
  unfold servesB at h
  simp only [Bool.and_eq_true, bne_iff_ne, ne_eq, Bool.not_eq_true', Bool.or_eq_true, beq_iff_eq] at h
  obtain ⟨⟨⟨⟨⟨h1, h6⟩, h2⟩, h3⟩, h4⟩, h5⟩ := h
  exact ⟨_, ⟨h1, h6, h2, h3, by rcases h4 with (h4 | h4) | h4 <;> simp [h4], rfl⟩, h5⟩

/-- A window of cluster 0 over its first 64 KiB, open both ways to the module 7. -/
def herdWindow : State :=
  (((((inHerd 1).setFld .WN_RANGE_LIMIT 0 0 255).setFlag .WN_SRC_HERD_EN 0 0 true).setFld .WN_SRC_HERD_LO 0 0 7).setFld
    .WN_SRC_HERD_HI 0 0 7)

/-- The window takes its three bits. -/
def herdWindowOpen : State :=
  ((herdWindow.setFlag .WN_CTL_OPEN 0 0 true).setFlag .WN_CTL_RD 0 0 true).setFlag .WN_CTL_WR 0 0 true

/-- An outcome of a remote access that is done. -/
def isDone (r : HerdOut) : Bool :=
  match r with
  | .done _ => true
  | _ => false

/-- Whether it is refused. -/
def isRefused (r : HerdOut) : Bool :=
  match r with
  | .refused _ _ => true
  | _ => false

/-- Transactions of a stream (past its deadline), of a core's lock and of a stream's entry. -/
def withTxns (s : State) : State :=
  s.withHerd { s.herd with txns := [⟨6, 1, 7, 0, .stream 0 0 0 0, 0⟩, ⟨8, 7, 7, 0, .core 0 0 3 0, 0⟩, ⟨9, 1, 7, 0, .entry 0 0 1, 0⟩] }

theorem witness_HerdTransactions :
    servesB herdWindowOpen 0 (frm 0x40000000 0 [⟨5, false⟩]) (fun t =>
      isDone (t.frameAccess 0 (frm 0x40000000 0 [⟨5, false⟩]) 4 true false).1 &&
      isDone (t.frameAccess 0 (frm 0x40000000 0 [⟨5, false⟩]) 1 true true).1) = true ∧
    servesB herdWindowOpen 0 (frm 0x4000FF00 256 []) (fun t =>
      isDone (t.frameAccess 0 (frm 0x4000FF00 256 []) 256 false false).1) = true ∧
    servesB herdWindowOpen 0 (frm 0x4000FFFD 4 [⟨5, false⟩]) (fun t =>
      isRefused (t.frameAccess 0 (frm 0x4000FFFD 4 [⟨5, false⟩]) 4 true false).1 &&
      isRefused (t.frameAccess 0 (frm 0x4000FFFD 4 [⟨5, false⟩]) 4 false false).1) = true ∧
    servesB herdWindow 0 (frm 0x40000000 0 []) (fun t =>
      isRefused (t.frameAccess 0 (frm 0x40000000 0 []) 1 true true).1) = true ∧
    servesB (withTxns (inHerd 1)) 0 (frm 0 0 []) (fun t => t.txnOf (frm 0 0 []) == some ⟨6, 1, 7, 0, .stream 0 0 0 0, 0⟩) = true ∧
    servesB (withTxns (inHerd 1)) 0 { frm 0 0 [] with tag := 8 } (fun t =>
      t.txnOf { frm 0 0 [] with tag := 8 } == some ⟨8, 7, 7, 0, .core 0 0 3 0, 0⟩) = true ∧
    servesB (withTxns (inHerd 1)) 0 { frm 0 0 [] with tag := 9 } (fun t =>
      t.txnOf { frm 0 0 [] with tag := 9 } == some ⟨9, 1, 7, 0, .entry 0 0 1, 0⟩) = true ∧
    (withTxns (inHerd 1)).herd.txns.find? (fun (y : Txn) => y.tag == 6 && decide (y.deadline ≤ (withTxns (inHerd 1)).now)) =
      some ⟨6, 1, 7, 0, .stream 0 0 0 0, 0⟩ := by decide

theorem witness_Membership :
    servesB (inHerd 3) 0 (frm 9 0 []) (fun t => t.role == 3 && 9 % 2 ^ 32 == t.epoch) = true ∧
    servesB (inHerd 1) 0 { frm 9 0 [] with bcast := true } (fun _ => true) = true ∧
    servesB (inHerd 3) 0 { frm 9 0 [] with src := (inHerd 3).herdId, linkLocal := true } (fun t => t.role == 3) = true ∧
    ((on.setFld .HL_PORT_STATUS_STATE 0 0 3).role = 0 ∧ (on.setFld .HL_PORT_STATUS_STATE 0 0 3).portUp 0 = true) ∧
    servesB (inHerd 2) 0 (frm 9 0 []) (fun t => t.role == 2) = true := by decide

/-- What HD_CTL's actions start from: an accepted write whose ACTION is `k`, and what `q` says of the state with it stored. -/
def asksB (s : State) (k : Nat) (q : State → Bool) : Bool :=
  let w := wrSet (wrSet ⟨host, true, 7 * 2 ^ 16⟩ .HD_CTL_ACTION k) .HD_CTL_GO 1
  match offset? .HD_CTL 0 0 with
  | some off =>
    let u := (s.stored w .HD_CTL 0 0 off).setFlag .HD_CTL_GO 0 0 true
    decide (s.accepts w .HD_CTL 0 0 off) && !(s.flag .HD_CTL_GO 0 0) && u.fld .HD_CTL_ACTION 0 0 == k && q u
  | none => false

/-- FOUND by a member and by a module that is ALONE with a table, SWAP by a shepherd with and without a standby and by a member,
LEAVE alone and in a herd, and EXPEL by a shepherd of another member and by a member. -/
theorem witness_Membership_actions :
    asksB (inHerd 1) 1 (fun u => u.role != 0) = true ∧
    asksB (on.setReg .HD_TABLE 0 0 5) 1 (fun u => u.role == 0 &&
      u.regs.any (fun e => keyId e.1 == RegId.HD_TABLE.ctorIdx && e.2 != 0)) = true ∧
    asksB ((inHerd 3).withHerd { (inHerd 3).herd with standby := 0xFFF }) 2 (fun u => u.role == 3 && u.herd.standby == 0xFFF) = true ∧
    asksB ((inHerd 3).withHerd { (inHerd 3).herd with standby := 7 }) 2 (fun u => u.role == 3 && u.herd.standby != 0xFFF) = true ∧
    asksB (inHerd 1) 2 (fun u => u.role != 3 && u.role != 2) = true ∧
    asksB on 3 (fun u => u.role == 0) = true ∧ asksB (inHerd 1) 3 (fun u => u.role != 0) = true ∧
    asksB (inHerd 3) 4 (fun u => u.role == 3 && u.fld .HD_CTL_TARGET 0 0 != u.herdId) = true ∧
    asksB (inHerd 1) 4 (fun u => u.role != 3) = true := by decide

theorem witness_HerdTimers :
    ((inHerd 3).role = 3 ∧ ((inHerd 3).setFld .HD_TABLE_ENTRY_STATE 4095 0 1).entryState 4095 = 1 ∧
      20 ≤ sget (fun _ => 0) (sset (fun _ => 0) (inHerd 3).herd.missed 4095 20) 4095) ∧
    ((inHerd 3).role = 3 ∧ (inHerd 3).now % 100000 = 0 ∧ (inHerd 3).herd.beats = []) ∧ (on.role = 0 ∧ on.herd.nextJoin ≤ on.now) ∧
    ((inHerd 1).role = 1 ∧ ((inHerd 1).setReg .FT_NOW 0 0 2000000).silent = true) ∧
    ((inHerd 2).role = 2 ∧ ((inHerd 2).setReg .FT_NOW 0 0 2000000).silent = true) ∧
    [StrokeWait.mk 7 0 0].find? (fun (w : StrokeWait) => w.member == 7 && decide (w.deadline ≤ on.now)) = some ⟨7, 0, 0⟩ := by
  decide

/-- A shepherd that has handed over, with and without another that asked for it. -/
def handing (by_ : Nat) : State :=
  (inHerd 3).withHerd { (inHerd 3).herd with
    swap := .handoverSent
    swapBy := by_
    standby := 7 }

theorem witness_SwapShepherdAndMessageFrames :
    servesB ((inHerd 3).withHerd { (inHerd 3).herd with standby := 7 }) 0 (frm 0 0 []) (fun t =>
      t.role == 3 && t.herd.swap != .handoverSent && t.herd.standby == 7) = true ∧
    servesB (inHerd 2) 0 (frm 0 0 []) (fun t => t.role == 2 && t.herd.swap != .requested) = true ∧
    servesB ((inHerd 2).withHerd { (inHerd 2).herd with swap := .requested, swapBy := 6 }) 0 (frm 0 0 []) (fun t =>
      t.role == 2 && t.herd.swapBy == 6) = true ∧
    servesB ((inHerd 2).withHerd { (inHerd 2).herd with swap := .requested, swapBy := 8 }) 0 (frm 0 0 []) (fun t =>
      t.role == 2 && t.herd.swap == .requested && t.herd.swapBy != 6) = true ∧
    servesB (handing 0) 0 (frm 0 0 []) (fun t => t.role == 3 && t.herd.swap == .handoverSent && t.herd.swapBy == 0) = true ∧
    servesB (handing 8) 0 (frm 0 0 []) (fun t => t.role == 3 && t.herd.swap == .handoverSent && t.herd.swapBy != 0) = true ∧
    servesB ((inHerd 3).withHerd { (inHerd 3).herd with strokeWaits := [⟨7, 6, 0⟩] }) 0 (frm 0 0x10 []) (fun t =>
      t.herd.strokeWaits.find? (fun (w : StrokeWait) => w.member == 7 && w.tag == 6) == some ⟨7, 6, 0⟩ && 0x10 % 16 == 0) = true ∧
    servesB (inHerd 1) 0 (frm 0x1000 0 []) (fun _ => nfield 0x1000 12 2 == 1 && !(toService (frm 0x1000 0 []))) = true ∧
    servesB (inHerd 1) 0 { frm 60 0 [⟨3, false⟩] with src := 1 } (fun t =>
      serviceKind { frm 60 0 [⟨3, false⟩] with src := 1 } == some 3 && t.shepherdId == 1) = true ∧
    servesB (inHerd 1) 0 { frm 60 0 [⟨5, false⟩] with src := 1 } (fun t =>
      serviceKind { frm 60 0 [⟨5, false⟩] with src := 1 } == some 5 && t.shepherdId == 1) = true := by decide

/-- Port 1 is UP and a spare of direction 0, which the port 0 serves that is down. -/
def spare : State :=
  (((on.setFld .HL_PORT_STATUS_STATE 1 0 2).setFld .HL_PORT_CFG_DIR 1 0 6).setFld .HL_PORT_CFG_BACKS 1 0 0).setFld .HL_PORT_CFG_DIR 0
    0 0

/-- Ports 0 UP and 1 not, port 1 a spare of the direction of port 0 once that is down, and a port that may train. -/
theorem witness_Ports :
    ((inHerd 1).portUp 0 = true ∧ (inHerd 1).role ≠ 0 ∧
      6 ≠ (inHerd 1).herdId ∧ (inHerd 1).herd.lost.contains 7 = false ∧
      nbit (((inHerd 1).setFld .HL_PORT_STATUS_LANES 0 0 15).fld .HL_PORT_STATUS_LANES 0 0) 3 = true) ∧
    (spare.portUp 1 = true ∧ spare.fld .HL_PORT_CFG_DIR 1 0 = 6 ∧
      ((spare.portsOf (spare.fld .HL_PORT_CFG_BACKS 1 0)).filter (fun q => q / 8 == 1 / 8 && q != 1)).map
        (fun q => spare.portUp q) = [false]) ∧
    (on.power.rails = true ∧ on.portUp 14 = false ∧ 14 < 8 * on.ioDies ∧ on.fld .HL_PORT_CFG_DIR 14 0 ≠ 7 ∧
      3 ≤ laneCount 7) := by decide

/-! ## Witnesses: fleet time and strokes -/

/-- A reference of one kind, with the module LOCKED to it. -/
def follows (mode : Nat) : State := (on.setFld .FT_SRC_MODE 0 0 mode).setFld .FT_STATUS_STATE 0 0 1

/-- A HERD member in a ring of 16 in Z, with a stable port in the direction of the master, module 6. -/
def herdTimed : State :=
  let s := (((inHerd 1).setFld .FT_SRC_MODE 0 0 3).setFld .HL_DIMS_DZ 0 0 15).setFld .HL_PORT_STATUS_STATE 4 0 2
  s.setPortTime 4 ⟨0, 0, some 4, [100, 100], 16, false⟩

theorem witness_FleetTimeCommands :
    ((follows 1).fld .FT_SRC_MODE 0 0 = 1 ∧ ((follows 1).withFt { (follows 1).ft with ptpDelay := some 5 }).ft.ptpDelay = some 5 ∧
      (follows 1).ft.ptpDelay = none) ∧
    ((follows 2).fld .FT_SRC_MODE 0 0 = 2 ∧ (follows 2).ft.ppsSec < ((follows 2).setFld .FT_PPS_SEC_SEC 0 0 1).fld .FT_PPS_SEC_SEC 0 0 ∧
      (follows 2).ft.stepped = false) ∧
    (-4000 ≤ (4 * ((follows 2).setReg .FT_NOW 0 0 999999000).now + 0 : Int) - 4000000000 * 1 ∧
      (4 * ((follows 2).setReg .FT_NOW 0 0 1000001000).now + 0 : Int) - 4000000000 * 1 ≤ 4000) ∧
    ((on.setReg .FT_NOW 0 0 1000000000).now % 1000000000 = 0 ∧ on.ft.ppsOutSec < (on.setReg .FT_NOW 0 0 1000000000).now / 1000000000) ∧
    ((follows 2).fld .FT_SRC_MODE 0 0 ≠ 3 ∧ herdTimed.timePort 6 ≠ some 5 ∧ (on.portTime 4).exch = []) ∧
    (herdTimed.fld .FT_SRC_MODE 0 0 = 3 ∧ (herdTimed.portTime 4).exch ≠ [] ∧ herdTimed.timePort 6 = some 4) ∧
    ((inHerd 3).timeToSend = some 0 ∧ (on.withFt { on.ft with herdOff := some 0 }).timeToSend = some 0) ∧
    ([((0 : Nat), (0 : Nat)), (1, 3000000000), (2, 2000001000), (3, 50000)].all (fun (m, limit) =>
      let s := (follows m).setReg .FT_NOW 0 0 (BitVec.ofNat 64 limit)
      s.fld .FT_STATUS_STATE 0 0 == 1 && s.fld .FT_SRC_MODE 0 0 == m && decide (limit ≤ s.now - s.ft.lastRef))) = true := by decide

/-- Exchanges that move by 201 and by 200 units, and a port that was dropped, 15 stable exchanges on. -/
theorem witness_FleetTimeCommands_delay :
    (herdTimed.portTime 4).exch = 100 :: [100] ∧ (301 : Int) - 100 > 200 ∧ (300 : Int) - 100 ≤ 200 ∧ (100 : Int) - 300 ≤ 200 ∧
    (herdTimed.portTime 4).t3 = some 4 ∧ ((herdTimed.setPortTime 4 ⟨0, 0, some 4, [100], 15, true⟩).portTime 4).dropped = true := by
  decide

/-- Slot 255 armed for time 0 with an action, its argument. -/
def armed (s : State) (action arg : Nat) : State :=
  ((s.setFld .FT_STK_STATE_STATE 255 0 1).setFld .FT_STK_STATE_ACTION 255 0 action).setFld .FT_STK_ARG_ARG 255 0 arg

/-- Plots 0 and 1 READY under BANKLIN without protection, window 0 naming channel 0 of bank 0. -/
def muleReady : State :=
  (((((((on.setFld .PL_STATUS_STATE 0 1 2).setFlag .PL_CTL_PROT 0 1 false).setFld .PL_CTL_LAYOUT 0 1 1).setFld .PL_STATUS_STATE 0 0 2).setFlag .PL_CTL_PROT 0 0 false).setFld .PL_CTL_LAYOUT 0 0 1).setFld .MU_WIN_MASK_PCMASK 0 0
    1).setFld .MU_WIN_CTL_STATE 0 0 0

/-- Window 0 open on channel 0. -/
def muleOpen : State := (muleReady.muOpen 0).2

/-- Image 1 verified, version 3, not yet running. -/
def imageReady : State :=
  let s := ((on.setFld (fwState 1) 0 0 4).setFld (fwVer 1) 0 0 3)
  s.withSvc { s.svc with bank := some 1 }

/-- The service firmware restarts. -/
def fwOff : State := on.withSvc { on.svc with down := 5000000 }

theorem witness_StrokesFire :
    on.power.tripped = false ∧ on.holdAge ≤ 10000 ∧ on.fwDown = false ∧
    (armed on 1 0).strokeFires 1 255 = true ∧ (armed on 2 0).strokeFires 2 255 = true ∧
    ((armed on 3 0).strokeFires 3 255 = true ∧ (on.setFlag .PM_PHASE_VALID 0 0 true).flag .PM_PHASE_VALID 0 0 = true) ∧
    (armed on 4 0).strokeFires 4 255 = true ∧ (armed on 5 0).strokeFires 5 255 = true ∧ (armed on 6 0).strokeFires 6 255 = true ∧
    ((armed on 7 0).strokeFires 7 255 = true ∧ (on.scrubStart 0 0).1 = 0) := by decide

theorem witness_StrokesFire_units :
    on.mainsOn = true ∧ ((armed muleReady 8 0).strokeFires 8 255 = true ∧ (muleReady.muOpen 0).1 = 0) ∧
    ((armed muleOpen 9 0).strokeFires 9 255 = true ∧ (muleOpen.muClose 0 0x0D).1 = 0) ∧
    ((armed imageReady 10 0x30001).strokeFires 10 255 = true ∧ (imageReady.fwActivate 0x30001).1 = 0) ∧
    (armed on 11 0).strokeFires 11 255 = true ∧
    [3, 4, 5, 6, 10].all (fun a => (armed fwOff a 0).strokeFires a 255 && fwOff.fwDown) = true := by decide

/-- After a trip; with the holdover age at 10,001 ms; on time; and late. -/
theorem witness_StrokeStates :
    (let s := armed (on.withPower { on.power with tripped := true }) 6 0
     s.strokeFires 6 255 = true ∧ s.power.tripped = true) ∧
    (let s := armed (on.withFt { on.ft with herdAge := 10001 }) 10 0
     s.strokeFires 10 255 = true ∧ s.power.tripped = false ∧ 10000 < s.holdAge) ∧
    ((armed on 6 99).strokeFires 6 255 = true ∧ (armed on 6 99).strokeLate 255 = false) ∧
    (let s := (armed on 6 99).setReg .FT_NOW 0 0 5
     s.strokeFires 6 255 = true ∧ s.strokeLate 255 = true) := by decide

/-! ## Witnesses: tensor memory, windows, integrity -/

/-- The state with issues in cluster 0. -/
def issuing (l : List TmIssue) (f : List FabAcc) : State :=
  on.withTm { on.tm with
    issues := l
    fab := f }

/-- A read of word 0 that waits at bank 0, one that has been granted, and a write that has, of port 2 and of port 0. -/
def waitingRead : TmIssue := ⟨0, 1, false, [⟨0, 15, ⟨0, false⟩⟩], [⟨0, 0, 0, true⟩], [], [], 0⟩
/-- A granted read. -/
def grantedRead : TmIssue := ⟨0, 1, false, [⟨0, 15, ⟨0, false⟩⟩], [], [], [⟨0, blankWord, 0, 0⟩], 0⟩
/-- A granted write of a FAB access. -/
def grantedWrite : TmIssue := ⟨0, 2, true, [], [], [], [], 1⟩

/-- The sampler of cluster 0 enabled. -/
def sampling : State := (on.setFlag .TMX_HOT_CFG_EN 0 0 true).applyShadow .TMX_HOT_CFG 0 0

theorem witness_TensorMemoryCycles :
    on.clusterOn 0 = true ∧ on.tmReady 0 = true ∧
    (on.portBusy 0 1 = false ∧ portReads 1 = true ∧ portWrites 3 = true ∧
      issueOk (List.replicate 16 ⟨0, 15, ⟨0, false⟩⟩) = true ∧ issueOk (maskedWords 2 64 []) = true ∧
      issueOk (maskedWords 0 68 []) = false) ∧
    (let s := issuing [waitingRead] []
     s.tm.cycBanks.contains (0, 0) = false ∧
       pickGrant (((s.withTm { s.tm with cycBanks := (0, 0) :: s.tm.cycBanks }).reachBank 0 0).asks 0 0) =
         some (.issue waitingRead ⟨0, 0, 0, true⟩)) ∧
    (let s := (issuing [waitingRead] []).withTm { (issuing [waitingRead] []).tm with cycBanks := [(0, 0)] }
     s.tm.cycBanks.contains (0, 0) = true ∧
       (pickGrant ((((s.newCycle 0).withTm { (s.newCycle 0).tm with cycBanks := (0, 0) :: (s.newCycle 0).tm.cycBanks }).reachBank
         0 0).asks 0 0)).isSome = true) ∧
    (issuing [grantedRead] []).tm.issues.find? (fun i => i.c == 0 && i.port == 1 && !i.write && !i.busy) = some grantedRead ∧
    (sampling.inForce .TMX_HOT_CFG_EN 0 0 = 1 ∧
      (sampling.ringNext .TMX_HOT_HEAD_NEXT .TMX_HOT_HEAD_WRAPS 0 8 (fun k => sampling.flag .TMX_HOT_RING_VALID 0 k)).1 = 0) ∧
    on.inForce .TMX_HOT_CFG_EN 0 0 = 0 := by decide

/-- Requests of one age at ports 0 and 8, and one that is OLD at the last. -/
theorem witness_TensorMemoryCycles_order :
    let r0 : BankAsk := .issue ⟨0, 0, true, [], [], [], [], 0⟩ ⟨0, 0, 0, true⟩
    let r8 : BankAsk := .issue ⟨0, 8, true, [], [], [], [], 0⟩ ⟨0, 0, 0, true⟩
    let old8 : BankAsk := .issue ⟨0, 8, true, [], [], [], [], 0⟩ ⟨0, 0, 64, false⟩
    pickGrant [r0, r8] = some r0 ∧ old8.isOld = true ∧ pickGrant [r0, old8] = some old8 ∧ r0.port < r8.port := by decide

theorem witness_WindowCommands :
    (herdWindowOpen.fabHolds 0 = false ∧ herdWindowOpen.admitWindow 0 0x2007 true 0xFFFC 4 = some 0 ∧
      herdWindowOpen.admitWindow 0 0x2007 true 0x10000 4 = none ∧ herdWindowOpen.admitWindow 0 0x2007 true 0xFFFD 4 = none) ∧
    (on.setFlag .TM_STATUS_CLEARING 0 0 true).fabHolds 0 = true ∧
    (issuing [grantedWrite] []).tm.issues.find? (fun i => i.c == 0 && i.port == 2 && i.write && !i.busy) = some grantedWrite ∧
    (let i := { grantedWrite with port := 0 }
     (issuing [i] []).tm.issues.find? (fun i => i.c == 0 && i.port == 0 && i.write && !i.busy) = some i) ∧
    (let s := on.withTm { on.tm with blanks := [(0, 63)] }
     s.tm.blanks.contains (0, 63) = true ∧ s.wnInflight 0 63 = false ∧ s.tmReady 0 = true ∧
       s.fld .WN_RANGE_BASE 0 63 ≤ s.fld .WN_RANGE_LIMIT 0 63) := by decide

/-- The last byte of a cluster and the last word. -/
theorem witness_TensorMemoryPlacesAndWords :
    (0xFFFFFF < 2 ^ 24 ∧ 4095 + 4096 * 63 < 2 ^ 24 ∧ tmKey 17 0 0 0 ≠ tmKey 0 (tmBank 0) (on.mappedRow 0 (tmBank 0) (tmRow 0)) 0) ∧
    tmBank (4095 * 4096 + 63 * 64) = 0 := by decide

/-- A pass of slot 0 of die 0 over a kind of memory (R142), at a position. -/
def scrubbing (kind pos : Nat) : State :=
  ((on.setFld .IN_SCRUB_CTL_KIND 0 0 kind).setFld .IN_SCRUB_LIMIT_LIMIT 0 0 0).withRas
    { on.ras with runs := [⟨0, 0, pos, 0, 0, 0, 0, 0, 0, 0, 0, []⟩] }

/-- What the statement asks of a pass before its next access. -/
def scrubAsk (s : State) (t : ScrubTarget) : Bool :=
  s.ras.runs.find? (fun (r : ScrubRun) => r.die == 0 && r.slot == 0) == some ⟨0, 0, 0, 0, 0, 0, 0, 0, 0, 0, 0, []⟩ &&
    s.scrubTarget 0 0 == t && s.scrubOn t && decide (0 < s.scrubStop 0 0 t)

/-- The slice 0 in service, with and without a line at the first place of its array. -/
def scrubLc (l : List LcLine) : State :=
  ((scrubbing 2 0).setFlag .LC_SLICE_STATUS_IN_SERVICE 0 0 true).withLc { on.lc with lines := l }

/-- A deferred repair of stack 7's channel 63; a pass at the start of each memory; one whose sector's channel is held until the limit; and
passes that end. -/
theorem witness_RepairAndScrub :
    (let s := on.withRas { on.ras with deferred := [⟨2, 511, 0, 0, 0, 0, 0⟩] }
     s.ras.deferred.find? (fun (f : SoftFuse) => f.unit == 7 * 64 + 63) = some ⟨2, 511, 0, 0, 0, 0, 0⟩ ∧ s.chMode 7 63 = 0 ∧
       s.stackOn 7 = true) ∧
    (scrubAsk (scrubbing 0 0) (.tm 0) && (scrubbing 0 0).tmReady 0) = true ∧
    (scrubAsk (scrubbing 1 0) (.steer 0) && (scrubbing 1 0).tmReady 0) = true ∧
    (scrubAsk (scrubLc [⟨0, 0, 0, 0, 0, false, []⟩]) (.lc 0) && ((scrubLc [⟨0, 0, 0, 0, 0, false, []⟩]).lcAt 0 0 0).isSome) = true ∧
    (scrubAsk (scrubLc []) (.lc 0) && ((scrubLc []).lcAt 0 0 0).isNone) = true ∧
    (scrubAsk (scrubbing 3 0) (.hbm 0) &&
      ((scrubbing 3 0).admitParts (scrubFront 0 0) 0 [(scrubbing 3 0).plotLoc 0 0] false).1 == .go) = true := by decide

/-- A sector of channel 0 has waited beyond the limit while the channel is in DRAIN. -/
def scrubHeld : State :=
  let s := (scrubbing 3 0).setFld .MU_CH_MODE 0 0 1
  ((s.admitParts (scrubFront 0 0) 0 [s.plotLoc 0 0] false).2).setReg .FT_NOW 0 0 0x1000000000

theorem witness_RepairAndScrub_ends :
    (scrubAsk scrubHeld (.hbm 0) && (scrubHeld.admitParts (scrubFront 0 0) 0 [scrubHeld.plotLoc 0 0] false).1 == .expired 0) = true ∧
    (let s := (scrubbing 0 0).withPower { on.power with clusters := 0 }
     s.scrubTarget 0 0 = .tm 0 ∧ s.scrubOn (.tm 0) = false) ∧
    (let s := (scrubbing 3 0).setFld .MU_THERM_LEVEL 0 0 3
     s.scrubTarget 0 0 = .hbm 0 ∧ s.scrubOn (.hbm 0) = true ∧ s.stackLevel (plotStack 0) = 3) ∧
    (let s := scrubbing 0 256
     s.scrubOn (.tm 0) = true ∧ s.scrubStop 0 0 (.tm 0) = 256) := by decide

/-! ## Witnesses: plots and mules -/

theorem witness_PlotPlaces : plotSize - 1 < plotSize ∧ 0 < plotSize ∧ 16383 / 16384 = 0 / 16384 := by decide

/-- Plot 0 READY, and the state with accesses, pages and fills of it. -/
def plotReady : State := on.setFld .PL_STATUS_STATE 0 0 2

/-- An access of the first sector of plot 0, of group 1. -/
def sectorAcc (write : Bool) : SectorAcc :=
  ⟨1, 0, 0, 0, 0, write, 0xFFFFFFFF, List.replicate 8 ⟨7, false⟩, 0, .trace 0, 0, false, false, 0, 0, true⟩

/-- A page that waits. -/
def aPage : PageWait := ⟨63, 3, 3 * 65536, false, 32, [], none, .bar2 0, 0, true⟩

/-- Queued accesses of plot 0. -/
def queuedAccs (l : List SectorAcc) : State := plotReady.withHbm { plotReady.hbm with accs := l }

theorem witness_PlotCommands_fills :
    (let s := on.withHbm { on.hbm with fills := [(383, 5)] }
     s.hbm.fills.find? (fun x => x.1 == 383) = some (383, 5) ∧ s.stackOn (plotStack 383) = true ∧ 5 ≤ 5 ∧ 5 ≤ 12288 ∧
       (List.range 64).all (fun pc => s.fillFree (plotStack 383) pc (plotBank 383)) = true) ∧
    (let s := plotReady.withHbm { plotReady.hbm with rangeFill := [(0, 0)] }
     s.hbm.rangeFill.find? (fun x => x.1 == 0) = some (0, 0) ∧ s.plotState (48 * 0 + s.fld .PL_FILL_PLOT 0 0) = 2 ∧
       min (s.fld .PL_FILL_RANGE_LIMIT 0 0 * 8 + 8) (plotSize / 32) = 8 ∧
       (List.range 8).all (fun i => s.fillFree 0 (s.plotLoc 0 (i * 32)).pc (plotBank 0)) = true ∧ s.hbm.accs = []) := by decide

/-- A root table of VI 63 at plot 0 whose first entry asks for its page (R177). -/
def asksPage : State :=
  (((plotReady.plotWriteRange 0 0 8 [⟨0x30, false⟩, ⟨0, false⟩]).setFld .PL_PT_ROOT_ROOT 63 0 (plotDpa 0 0 / 4096)).applyShadow
    .PL_PT_ROOT 63 0)

set_option exponentiation.threshold 512 in
theorem witness_PlotCommands_page : (asksPage.translate 63 aPage.addr aPage.write).1 = .pri := by decide

theorem witness_PlotCommands :
    on.viResetting 63 = false ∧
    (let s := on.withHbm { on.hbm with waits := [aPage] }
     s.hbm.waits = [aPage] ∧ ((s.withHbm { s.hbm with waits := [] }).translate 63 aPage.addr aPage.write).1 ≠ .pri) ∧
    max 1 (on.fld .PL_PRI_CFG_TIMEOUT 0 0) * 1000 ≤ (on.setReg .FT_NOW 0 0 0x1000000000).now - aPage.since ∧
    (on.withHbm { on.hbm with invs := [⟨63, false, 3, 1⟩] }).hbm.invs = ⟨63, false, 3, 1⟩ :: [] ∧
    on.stackOn 7 = true ∧
    on.rfmThresh 7 < sget (fun _ => 0) (sset (fun _ => 0) on.hbm.acts ((7 * 64 + 63) * 48 + 47) 10000) ((7 * 64 + 63) * 48 + 47) := by
  decide

/-- A write and a read that are ready, a read behind a write of its sector, and an URGENT one before it. -/
theorem witness_PlotCommands_accesses :
    (let s := queuedAccs [sectorAcc true]
     s.hbm.accs.find? (fun a => a.group == 1 && !a.held && !a.own) = some (sectorAcc true) ∧ s.accReady (sectorAcc true) = true ∧
       s.urgentFirst (sectorAcc true) = false) ∧
    (let s := queuedAccs [sectorAcc false]
     s.accReady (sectorAcc false) = true ∧ s.urgentFirst (sectorAcc false) = false ∧
       (s.accsAhead (sectorAcc false)).any (fun b => b.write) = false) ∧
    (let a := { sectorAcc false with group := 2 }
     let s := queuedAccs [sectorAcc true, a]
     s.hbm.accs.find? (fun a => a.group == 2 && !a.held && !a.own) = some a ∧ s.accReady a = true ∧ s.urgentFirst a = false ∧
       (s.accsAhead a).any (fun b => b.write) = true) := by decide

/-- The descriptor of a row operation on rows 0 to COUNT - 1 (R192). -/
def md (op count : Nat) : BitVec 256 := BitVec.ofNat 256 (op + count * 2 ^ 96)

/-- A command of VI0. -/
def mcmd (d : BitVec 256) (begun : Bool) (done : Option Nat) : MuleCmd := ⟨d, 0, false, none, begun, done, 0⟩

/-- Channel 0 of the open window in PROC, with a command at its head. -/
def proc (d : BitVec 256) (begun : Bool) (done : Option Nat) : State :=
  (muleOpen.setFld .MU_CH_MODE 0 0 2).setMuQueue 0 0 [mcmd d begun done]

/-- The head of channel 0 may start, and may go on in PROC or EXIT. -/
def procOk (op : Nat) : Bool :=
  let s := proc (md op 1) false none
  let t := proc (md op 1) true none
  s.muQueue 0 0 == [mcmd (md op 1) false none] && s.chMode 0 0 == 2 && s.muCheck 0 0 (mcmd (md op 1) false none) == 0 &&
    (op != 9 || s.busNext 0 == some 0) && t.muQueue 0 0 == [mcmd (md op 1) true none] && t.chMode 0 0 == 2 &&
    (t.setFld .MU_CH_MODE 0 0 3).chMode 0 0 == 3 && mdOp (md op 1) == op

/-- Every operation; the checks that let a row step of ROWAND go. -/
theorem witness_MuleRowOperations :
    [1, 2, 3, 4, 5, 6, 7, 8, 9].all procOk = true ∧
    (let s := proc (md 3 1) false none
     s.muSpent (md 3 1) 0 0 = false ∧ s.bankHeld 0 0 0 = false ∧ (muDest (md 3 1) 0 0 0) = (0, 0, 0) ∧
       s.muReadsSuspect ⟨3, 3, true, true, fun a b _ => a &&& b⟩ (md 3 1) 0 0 0 0 = false ∧
       s.muBad ⟨3, 3, true, true, fun a b _ => a &&& b⟩ (md 3 1) 0 0 0 0 = none) := by decide

theorem witness_MuleRowStep : mdOp (md 3 1) < 8 ∧ mdRowD (md 3 1) + 12287 < 12288 := by decide

theorem witness_MuleChannels :
    (mdOp (md 0x10 0) = 0x10 ∧ mdOp (md 0x11 0) = 0x11 ∧ muleReady.muMayWin 0 0 false = true) ∧
    (muleReady.muWinDue = false ∧ (armed muleReady 8 0).muWinDue = true) ∧
    (let s := proc (md 3 1) true (some 0)
     s.muQueue 0 0 = [mcmd (md 3 1) true (some 0)] ∧ s.muOwes 0 0 (md 3 1) = false ∧
       (s.setFld .MU_CH_MODE 0 0 3).chMode 0 0 ≠ 2) ∧
    ((proc (md 0x1F 1) false none).muCheck 0 0 (mcmd (md 0x1F 1) false none) ≠ 0 ∧ (proc (md 0x1F 1) false none).chMode 0 0 = 2) ∧
    (muleOpen.chMode 0 0 = 1 ∧
      muleOpen.hbm.accs.any (fun (a : SectorAcc) => !a.held && plotStack a.plot == 0 && a.pc == 0) = false) ∧
    ((muleOpen.setFld .MU_CH_MODE 0 0 3).chMode 0 0 = 3 ∧ (muleOpen.setFld .MU_CH_MODE 0 0 3).muRunning 0 0 = false) := by decide

/-! ## Witnesses: cache and arbiters -/

/-- A cache waiter of a class on the first line of plot 0, and a miss register of it. -/
def lcWaits (cls : Nat) : LcWaiter := ⟨.bar2 0, 0, 0, cls, true, false, plotDpa 0 0, 32, none, 1, plotDpa 0 0, true, false⟩
/-- The miss register. -/
def lcMiss (marks : List Nat) : LcReg := ⟨3, plotDpa 0 0 / 128, 0, 0, 1, 0, marks, [lcWaits 1]⟩

/-- Plot 0 READY, with a miss register on it. -/
def lcMissing (marks : List Nat) : State := plotReady.withLc { plotReady.lc with regs := [lcMiss marks] }

/-- Slice 3 with a BULK and an URGENT lookup that wait, and a retry of slice 63; a fill that may be made, and one whose plot went off. -/
theorem witness_CacheCommands :
    (LcAsk.looks ⟨plotDpa 0 0 + 100, 100, 0, 1, true, false, 0, none, .bar2 0⟩).length = 2 ∧
    [LcLook.mk 63 (lcWaits 1)].find? (fun (r : LcLook) => r.slice == 63) = some ⟨63, lcWaits 1⟩ ∧
    (on.withLc { on.lc with queue := [⟨3, lcWaits 0⟩, ⟨3, lcWaits 2⟩] }).lcNext 3 = some ⟨3, lcWaits 2⟩ ∧
    (let s := lcMissing []
     let l := s.plotLoc 0 (plotDpa 0 0 / 128 * 128 + 0 * 32 - plotDpa 0 0)
     s.lcReg 3 (plotDpa 0 0 / 128) = some (lcMiss []) ∧ nbit (lcMiss []).pend 0 = true ∧
       s.plotCheck 0 none false none = none ∧ (s.admitParts ⟨.cache 3, 0, 0⟩ 0 [l] false).1 = .go) ∧
    (let s := on.withLc { on.lc with regs := [lcMiss []] }
     s.lcReg 3 (plotDpa 0 0 / 128) = some (lcMiss []) ∧ s.admitted ⟨.cache 3, 0, 0⟩ 0 0 32 false = false ∧
       s.plotCheck 0 none false none = some 8) ∧
    (let s := (lcMissing [7]).setFlag .LC_PART_STATE_SWEEPING 63 0 true
     s.lcSweeping 63 = true ∧
       s.lc.regs.any (fun (r : LcReg) => r.marks.contains 0 && nbit (s.fld .LC_PART_SLICES 63 0) r.slice) = false) ∧
    (on.dpaTarget (plotDpa 383 0) = .plot 383 0 ∧ reqInvalidates (.trace 0) = true ∧ on.lcInvFull 383 0 32 = false) := by decide

/-- An operation of LC_OP and one of a core, whose marked registers are free. -/
theorem witness_CacheCommands_ops :
    (let s := (lcMissing [7]).withLc { (lcMissing [7]).lc with ops := [⟨1, 0, true, false, 0, 1, none, 0⟩, ⟨2, 0, true, false, 0, 1, some (21, 15, 31), 0⟩] }
     s.lc.ops[0]? = some ⟨1, 0, true, false, 0, 1, none, 0⟩ ∧ s.lc.ops[1]? = some ⟨2, 0, true, false, 0, 1, some (21, 15, 31), 0⟩ ∧
       s.lc.regs.any (fun (r : LcReg) => r.marks.contains 1) = false ∧ s.lc.regs.any (fun (r : LcReg) => r.marks.contains 2) = false ∧
       (s.lc.ops.eraseIdx 1).any (fun (q : LcOp) => q.who == some (21, 15, 31)) = false) := by decide

/-- Requests at point 63 of arbiter 0. -/
def atPoint (l : List TrReq) : State := on.withTr { on.tr with reqs := l }
/-- A NORMAL holder with 4 beats, one moved. -/
def holds1 : TrReq := ⟨1, 0, 63, 5, 1, 4, 1, true, .unit, 0, 0⟩
/-- An URGENT holder. -/
def holds2 : TrReq := ⟨1, 0, 63, 5, 2, 4, 1, true, .unit, 0, 0⟩
/-- An URGENT request. -/
def asks2 : TrReq := ⟨2, 0, 63, 7, 2, 4, 0, false, .unit, 0, 0⟩
/-- A NORMAL request. -/
def asks1 : TrReq := ⟨2, 0, 63, 7, 1, 4, 0, false, .unit, 0, 0⟩

/-- The point takes beats and is not gated, the class of a request is its own, and its holder is as `q` says. -/
def pointB (l : List TrReq) (q : State → Option TrReq → Bool) : Bool :=
  let s := atPoint l
  s.trTakes 0 63 && !(s.trGated 0 63) && q s ((s.trAt 0 63).find? (fun (r : TrReq) => r.holder))

/-- Whether another URGENT request waits at the point. -/
def urgentWaits (s : State) : Bool := (s.trAt 0 63).any (fun (r : TrReq) => !r.holder && s.trCls r == 2)

theorem witness_TroughCommands :
    (on.arbOn 0 = true ∧ 63 < arbPoints 0 ∧ on.arbOn 25 = true ∧ 0 < arbPoints 25) ∧
    ((on.withPower { on.power with links := 0 }).trTakes 25 0 = false) ∧
    (pointB [asks1] (fun s h => h == none && s.trWinner (s.trAt 0 63) == some asks1) &&
      pointB [{ holds1 with moved := 3 }] (fun _ h => h == some { holds1 with moved := 3 }) &&
      pointB [holds1, asks1] (fun s h => h == some holds1 && s.trCls holds1 == 1 && !(urgentWaits s)) &&
      pointB [holds2, asks2] (fun s h => h == some holds2 && s.trCls holds2 == 2) &&
      pointB [holds1, asks2] (fun s h => h == some holds1 && s.trCls holds1 != 2 && urgentWaits s) &&
      pointB [{ holds1 with drop := 1 }, asks2] (fun s h => h == some { holds1 with drop := 1 } &&
        s.trCls { holds1 with drop := 1 } != 2 && urgentWaits s)) = true ∧
    ((atPoint [{ holds1 with drop := 1 }]).trAt 0 63).find? (fun (r : TrReq) => r.holder && r.drop != 0) =
      some { holds1 with drop := 1 } := by decide

/-- A NORMAL holder in a gated cycle. -/
theorem witness_TroughCommands_gated :
    ((atPoint [holds1]).withPm { on.pm with gates := sset (fun _ => 0) on.pm.gates 0 16 }).trGated 0 63 = true := by decide

theorem witness_TroughWinner : (atPoint [holds1, asks2]).trWinner [holds1, asks2] = some asks2 := by decide

/-! ## Witnesses: cores and streams -/

theorem witness_TrapEntry :
    21 < 22 ∧ on.flag .SC_CTX_STATUS_EXL 21 15 = false ∧
    (on.setFlag .SC_CTX_STATUS_EXL 21 15 true).flag .SC_CTX_STATUS_EXL 21 15 = true := by decide

/-- A context with interrupt 4 pending and enabled. -/
def interrupted (st : Nat) : State :=
  ((on.setCtxState 0 15 st).setFld .SC_CTX_STATUS_PENDING 0 15 16).setFld .SC_CTX_CFG_INTEN 0 15 16

/-- The store of a word by a PHYS access to plot 0. -/
def physStore : SlAccess := ⟨0, true, false, true, plotDpa 0 0, 4, false, 3, [⟨9, false⟩]⟩

theorem witness_CoreEvents :
    ((interrupted 2).ctxState 0 15 = 2 ∧ (interrupted 2).flag .SC_CTX_STATUS_EXL 0 15 = false ∧
      (interrupted 2).owesAnswer 0 15 = false ∧ (interrupted 2).inAccess 0 15 = false ∧ (interrupted 2).irqSource 0 15 = some 4 ∧
      (interrupted 2).waitHeld 0 15 = none) ∧
    ((interrupted 3).ctxState 0 15 = 3 ∧ (interrupted 3).irqSource 0 15 = some 4 ∧ (interrupted 3).waitHeld 0 15 = none) ∧
    (let s := (interrupted 3).withSc { (interrupted 3).sc with waits := [⟨0, 15, .ft 0, false, false⟩] }
     s.ctxState 0 15 = 3 ∧ s.irqSource 0 15 = some 4 ∧ s.owesAnswer 0 15 = false ∧ s.inAccess 0 15 = false ∧
       s.waitHeld 0 15 = some ⟨0, 15, .ft 0, false, false⟩) ∧
    (on.coreOn 21 = true ∧ (on.setFld .SC_CTX_ALARM_AT 21 15 1).fld .SC_CTX_ALARM_AT 21 15 ≠ 0 ∧
      (on.setFld .SC_CTX_ALARM_AT 21 15 1).fld .SC_CTX_ALARM_AT 21 15 ≤ (on.setReg .FT_NOW 0 0 1).now) ∧
    (let s := (on.setCtxState 0 0 2).setCtxState 0 1 1
     (List.range 16).find? (fun x => s.ctxState 0 x == 2) = some 0 ∧ (s.nextReady 0).isSome = true) ∧
    (let s := (on.setCtxState 0 0 3).withSc { on.sc with waits := [⟨0, 0, .ft 0, false, false⟩] }
     s.slWait 0 0 = some ⟨0, 0, .ft 0, false, false⟩ ∧ s.ctxState 0 0 = 3 ∧ s.waitMet (.ft 0) = true) ∧
    (let s := on.withSc { on.sc with answers := [⟨0, 0, 3, 1, true⟩] }
     (s.lockAnswer 0 0 3).sc.answers.find? (fun (a : SlAnswer) => a.core == 0 && a.ctx == 0 && a.rd == 3 && a.ready) =
       some ⟨0, 0, 3, 1, true⟩) := by decide

set_option exponentiation.threshold 512 in
/-- A context's access to plot 0 that is made (a store, a load, one to be discarded), and one whose channel is in DRAIN. -/
theorem witness_CoreEvents_access :
    (let s := fun (w : SlWait) => plotReady.withSc { on.sc with waits := [w] }
     [physStore, { physStore with store := false, data := [] }].all (fun a => [false, true].all (fun d =>
       (s ⟨0, 0, .access a, false, d⟩).sc.waits.find? (fun (w : SlWait) => w.core == 0 && w.ctx == 0 && (match w.kind with
         | .access _ => true
         | _ => false)) == some ⟨0, 0, .access a, false, d⟩ &&
       (match ((s ⟨0, 0, .access a, false, d⟩).slAccess 0 0 a []).1 with
         | .ok _ => true
         | _ => false)))) = true ∧
    (((plotReady.each (List.range 64) (fun pc t => t.setFld .MU_CH_MODE 0 pc 1)).slAccess 0 0 physStore []).1 = .waits) := by decide

/-- A write of the value 0, but for the fields `g` sets, is accepted, and `q` holds of the state with it stored. -/
def storedB (s : State) (g : Wr → Wr) (id : RegId) (i j : Nat) (q : State → Bool) : Bool :=
  match offset? id i j with
  | some off => decide (s.accepts (g ⟨host, true, 0⟩) id i j off) && q (s.stored (g ⟨host, true, 0⟩) id i j off)
  | none => false

/-- START of a STOPPED and of a FAULTED context, STOP of a READY one, with and without an access in flight. -/
theorem witness_CoreEvents_writes :
    (storedB on (fun w => wrSet w .SC_CTX_CTL_START 1) .SC_CTX_CTL 21 15 (fun t => t.ctxState 21 15 == 0) &&
      storedB (on.setCtxState 21 15 4) (fun w => wrSet w .SC_CTX_CTL_START 1) .SC_CTX_CTL 21 15 (fun t => t.ctxState 21 15 == 4) &&
      storedB (on.setCtxState 21 15 1) (fun w => wrSet w .SC_CTX_CTL_STOP 1) .SC_CTX_CTL 21 15 (fun t =>
        t.ctxState 21 15 == 1 && !(t.inAccess 21 15)) &&
      storedB ((on.setCtxState 21 15 3).withSc { on.sc with waits := [⟨21, 15, .access physStore, false, false⟩] })
        (fun w => wrSet w .SC_CTX_CTL_STOP 1) .SC_CTX_CTL 21 15 (fun t => t.ctxState 21 15 == 3 && t.inAccess 21 15)) = true := by
  decide

/-- Words of cluster 0 from offset 0 on. -/
def tmWords (s : State) (l : List Nat) : State :=
  s.each l.zipIdx (fun e t => t.tmStore 0 (4 * e.2) ⟨BitVec.ofNat 32 e.1, false⟩)

/-- Stream context 0 of cluster 0 RUNNING, with entries. -/
def streaming (s : State) (st : Nat) (es : List StEntry) : State :=
  (s.setStState 0 0 st).setStCtx 0 0 { StCtx.reset with
    lists := [(0, 1)]
    entries := es
    next := ⟨1, 0, 0⟩ }

/-- An END entry, and a DATA entry that moves 32 bytes within the cluster. -/
def stEnd : StEntry :=
  ⟨0, 0, ⟨1, 0, 0⟩, 1, ⟨3, ⟨0, 0, 0⟩, ⟨0, 0, 0⟩, 0, 1, 0, 0, false, false, false, false, false, 0, 0, 0⟩, 0, none, 0, 0, [], 0, false, 0, []⟩
/-- The DATA entry. -/
def stData : StEntry :=
  ⟨0, 0, ⟨1, 0, 0⟩, 1, ⟨0, ⟨1, 0, 0⟩, ⟨1, 0, 64⟩, 32, 1, 0, 0, false, false, false, false, false, 0, 0, 0⟩, 0, none, 0, 0, [], 0, false, 0, []⟩

/-- The eight words of a list entry of a kind at offset 0 of cluster 0, in the context's list. -/
def fetching (l : List Nat) : State := streaming (tmWords on l) 1 []

/-- The context may fetch its entry, and what `q` says of the words and of its fault holds. -/
def fetchB (s : State) (q : List PW → Option StFault → Bool) : Bool :=
  stExists 0 0 && s.stMayFetch 0 0 (s.stCtx 0 0) && decide ((s.stCtx 0 0).next.addr % 32 = 0) &&
    !(badSpace 0 (s.stVi 0 0) (s.stCtx 0 0).next.space) && (s.stCtx 0 0).next.space == 1 &&
    (match s.stEntryRead 0 0 (s.stCtx 0 0).next 0 [] with
      | (.done ws, _) => q ws (stEntryFault 0 (s.stVi 0 0) (s.stCtx 0 0).next ws (stDecode (natOfBytes (wordsBytes ws)))
          (s.stCtx 0 0).resumeOff)
      | _ => false)

/-- An END entry, a LINK to LOCAL 0x40, a DATA entry, and one of length 0. -/
theorem witness_StreamCommands_fetch :
    fetchB (fetching [0, 0xC0000000, 0, 0, 0, 0, 0, 0]) (fun ws f => f.isNone && (stDecode (natOfBytes (wordsBytes ws))).kind == 3) = true ∧
    fetchB (fetching [0x40, 0x80010000, 0, 0, 0, 0, 0, 0]) (fun ws f => f.isNone && (stDecode (natOfBytes (wordsBytes ws))).kind == 2) = true ∧
    fetchB (fetching [0, 0x10000, 64, 0x10000, 32, 0, 0, 0]) (fun ws f => f.isNone && (stDecode (natOfBytes (wordsBytes ws))).kind == 0) = true ∧
    fetchB (fetching [0, 0x10000, 64, 0x10000, 0, 0, 0, 0]) (fun ws f => f.isSome && (stDecode (natOfBytes (wordsBytes ws))).kind != 1) = true := by
  decide

/-- A block within the cluster that is delivered, and one to another module whose replies have come. -/
theorem witness_StreamCommands_blocks :
    (let s := streaming (tmWords on [1, 2, 3, 4, 5, 6, 7, 8]) 1 [stData]
     let t := s.stServe 0
     s.stOn 0 = true ∧ s.stState 0 0 = 1 ∧ (t.stCtx 0 0).entries.length = 1 ∧ (t.stCtx 0 0).entries.all (fun b =>
       decide (b.blk.kind ≤ 1) && b.fault.isNone && b.blk.dst.space != 3 && b.blk.src.space != 3 &&
         (t.stRunTo 0 0 b [] [] b.blk.total).fault.isNone && !((t.stRunTo 0 0 b [] [] b.blk.total).waits)) = true) ∧
    (let b := { stData with blk := { stData.blk with dst := ⟨3, 7, 0⟩ }, stage := 2, opened := true }
     let s := streaming ((inHerd 1).setFlag .TM_STATUS_CLEARING 0 0 false) 1 [b]
     let t := s.stServe 0
     s.stOn 0 = true ∧ (t.stCtx 0 0).entries.all (fun b => b.stage == 2 && b.fault.isNone && !(t.ownHerd b.blk.dst) &&
       !(t.stWaiting 0 0 b.seq)) = true ∧ (t.stCtx 0 0).entries.length = 1) := by decide

/-- A list that ends, alone and with another behind it; faults of an END-like entry and of a DATA block; and a cancel. -/
theorem witness_StreamCommands_ends :
    (let s := streaming on 1 [stEnd]
     (s.stCtx 0 0).entries = stEnd :: [] ∧ stEnd.blk.kind = 3 ∧ stEnd.fault = none ∧ (s.stCtx 0 0).lists.drop 1 = []) ∧
    (let s := (streaming on 1 [stEnd]).setStCtx 0 0 { (streaming on 1 [stEnd]).stCtx 0 0 with lists := [(0, 1), (32, 1)] }
     (s.stCtx 0 0).entries = stEnd :: [] ∧ (s.stCtx 0 0).lists.drop 1 = (32, 1) :: [] ∧ (s.stCtx 0 0).reading ≠ 1) ∧
    ([stEnd, stData].all (fun b =>
      let s := streaming on 1 [{ b with fault := some ⟨7, 16, 0, ⟨1, 0, 0⟩, 0⟩ }]
      s.stOn 0 && s.stState 0 0 == 1 && ((s.stServe 0).stCtx 0 0).entries.length == 1 &&
        ((s.stServe 0).stCtx 0 0).entries.all (fun b => b.fault == some ⟨7, 16, 0, ⟨1, 0, 0⟩, 0⟩ && b.blk.dst.space != 3))) = true ∧
    (streaming on 3 []).stState 0 0 = 3 := by decide

/-- ISSUE to an IDLE and a RUNNING context and to one with four lists; CANCEL of a RUNNING and an IDLE one; RESUME of a HALTED and a
RUNNING one. -/
theorem witness_StreamCommands_writes :
    (let four := (on.setStState 0 0 1).setStCtx 0 0 { StCtx.reset with lists := List.replicate 4 (0, 1) }
     storedB on (fun w => wrSet w .ST_CMD_ISSUE 1) .ST_CMD 17 15 (fun t =>
        t.stMay 17 15 0 && decide ((t.stCtx 17 15).lists.length < 4) && t.stState 17 15 == 0) &&
      storedB (streaming on 1 []) (fun w => wrSet w .ST_CMD_ISSUE 1) .ST_CMD 0 0 (fun t =>
        t.stMay 0 0 0 && decide ((t.stCtx 0 0).lists.length < 4) && t.stState 0 0 != 0) &&
      storedB four (fun w => wrSet w .ST_CMD_ISSUE 1) .ST_CMD 0 0 (fun t => t.stMay 0 0 0 && (t.stCtx 0 0).lists.length == 4) &&
      storedB (streaming on 1 []) (fun w => wrSet w .ST_CMD_CANCEL 1) .ST_CMD 0 0 (fun t => t.stMay 0 0 0 && t.stState 0 0 == 1) &&
      storedB on (fun w => wrSet w .ST_CMD_CANCEL 1) .ST_CMD 17 15 (fun t => t.stMay 17 15 0 && t.stState 17 15 == 0) &&
      storedB (streaming on 2 []) (fun w => wrSet w .ST_CMD_RESUME 1) .ST_CMD 0 0 (fun t => t.stMay 0 0 0 && t.stState 0 0 == 2) &&
      storedB (streaming on 1 []) (fun w => wrSet w .ST_CMD_RESUME 1) .ST_CMD 0 0 (fun t => t.stMay 0 0 0 && t.stState 0 0 != 2)) =
      true := by decide

/-! ## Witnesses: engines -/

/-- A 1 × 1 matrix operation of BF16 into FP32, exact or not. -/
def mxDesc (ex : Nat) : BitVec 256 :=
  BitVec.ofNat 256 (4 * 2 ^ 24 + 8 * 2 ^ 48 + 2 ^ 72 + 2 ^ 86 + 2 ^ 100 + 4 * 2 ^ 114 + 4 * 2 ^ 138 + 4 * 2 ^ 162 +
    2 ^ 186 + 2 ^ 189 + ex * 2 ^ 196)

/-- A vector operation on one element. -/
def vxDesc (op : Nat) : BitVec 256 := BitVec.ofNat 256 (op + 2 ^ 104)

/-- The descriptor at the head of an engine of cluster 0, for VI 0. -/
def headed (k : Nat) (d : BitVec 256) : State := on.withEng { on.eng with queues := [(k, ⟨d, 0, none⟩)] }

theorem witness_EngineOperations :
    ([0, 1].all (fun ex => (headed 0 (mxDesc ex)).engHead 0 0 == some ⟨mxDesc ex, 0, none⟩ && (mxBad ⟨mxDesc ex, 0, none⟩).isNone &&
      EngOp.fld ⟨mxDesc ex, 0, none⟩ 196 1 == ex)) = true ∧
    ([1, 2, 3, 4, 5, 6, 7, 8, 9, 0x10, 0x11, 0x12, 0x13, 0x14, 0x15, 0x20, 0x21, 0x22, 0x23, 0x24, 0x25, 0x26, 0x30].all (fun op =>
      (headed 1 (vxDesc op)).engHead 0 1 == some ⟨vxDesc op, 0, none⟩ && (vxBad ⟨vxDesc op, 0, none⟩).isNone &&
        EngOp.fld ⟨vxDesc op, 0, none⟩ 0 8 == op)) = true := by decide

/-- A gather of one bag. -/
def gtDesc (mode : Nat) : BitVec 256 := BitVec.ofNat 256 (2 ^ 120 + mode * 2 ^ 160)

/-- A table of 32-byte rows at DVA 0, and a gather of its row 0 that runs. -/
def gathers : GtRun := ⟨0, 32 * 2 ^ 48 + 2 ^ 64, [⟨0, false⟩, ⟨1, false⟩], [⟨0, false⟩], [], [0], [], [0], false, []⟩

/-- The gather runs with a table, and DVA 0 is the first page of plot 0, whose channels are in a mode and which is in a state. -/
def gathering (tab mode st : Nat) : State :=
  ((((headed 2 (gtDesc 0)).setGtRun 0 (some { gathers with tab := tab })).setFld .PL_STATUS_STATE 0 0 st).setFld .MU_CH_MODE 0 0
    mode).withHbm { on.hbm with tlb := [⟨0, 0, 65536, plotDpa 0 0, false, true, true⟩] }

/-- What `q` says of the gather's read of its row 0 holds. -/
def rowB (s : State) (q : GtRead → State → Bool) : Bool :=
  match s.gtRun 0 with
  | some r => ((r.want.filter (fun p => !(r.rows.any (fun (q : GtRow) => q.pos == p)))).take
      (max 1 (min 512 (s.inForce .GT_CFG_MAX_OUT 0 0)))).contains 0 && s.engHead 0 2 == some ⟨gtDesc 0, 0, none⟩ &&
    q (s.gtReadRow 3 r 0 0 0 (nfield r.tab 0 48 + (r.idx.getD 0 ⟨0, false⟩).data.toNat * tabRowLen r.tab) (tabRowLen r.tab)).1
      (s.gtReadRow 3 r 0 0 0 (nfield r.tab 0 48 + (r.idx.getD 0 ⟨0, false⟩).data.toNat * tabRowLen r.tab) (tabRowLen r.tab)).2
  | none => false

/-- Whether the row came, and how its check went. -/
def cameB (tab : Nat) (bad : Bool) (o : GtRead) : Bool :=
  match o with
  | .row ws chk => (gtCheck 0 tab 0 chk (realign ws 0 (tabRowLen tab))).2 == (bad, false)
  | _ => false

/-- Slice 0 alone serves VI 0 and holds the row. -/
def cachedRow : State :=
  let s := ((gathering (gathers.tab + 2 ^ 145) 0 2).setFld .LC_PART_SLICES 0 0 1).setFlag .LC_SLICE_STATUS_IN_SERVICE 0 0 true
  let la := plotDpa 0 0 / 128
  s.withLc { s.lc with lines := [⟨0, lcSet la, 0, encodeWord ⟨BitVec.ofNat 32 (la / 512), false⟩, 15, false,
    List.replicate 32 blankWord⟩] }

set_option exponentiation.threshold 512 in
theorem witness_GatherAndCompletion :
    ([0, 1, 2, 3].all (fun m => (headed 2 (gtDesc m)).engHead 0 2 == some ⟨gtDesc m, 0, none⟩ && (gtBad ⟨gtDesc m, 0, none⟩).isNone &&
      ((headed 2 (gtDesc m)).gtRun 0).isNone && EngOp.fld ⟨gtDesc m, 0, none⟩ 160 2 == m)) = true ∧
    ((headed 0 0).engQueue 0 0 = [⟨0, 0, none⟩] ∧ (EngOp.ending ⟨0, 0, none⟩ 0).isSome = true ∧
      (headed 2 0).engQueue 0 2 = [⟨0, 0, none⟩]) := by decide

set_option exponentiation.threshold 512 in
/-- A row that comes and whose check holds, one whose check fails, one refused by its plot, one that waits for its channel, one that has
waited too long, and one that the cache holds. -/
theorem witness_GatherAndCompletion_rows :
    rowB (gathering gathers.tab 0 2) (fun o _ => cameB gathers.tab false o) = true ∧
    rowB (gathering (gathers.tab + 2 ^ 147) 0 2) (fun o _ => cameB (gathers.tab + 2 ^ 147) true o) = true ∧
    rowB (gathering gathers.tab 0 0) (fun o _ => o == .refused 8) = true ∧
    rowB (gathering gathers.tab 2 2) (fun o t => o == .waits && rowB (t.setReg .FT_NOW 0 0 0x1000000000) (fun o2 _ => match o2 with
      | .expired _ => true
      | _ => false)) = true ∧
    (gathering gathers.tab 0 2).gtHit 0 0 gathers.tab 0 (tabRowLen gathers.tab) = false ∧
    (gathering (gathers.tab + 2 ^ 147) 0 2).gtHit 0 0 (gathers.tab + 2 ^ 147) 0 (tabRowLen gathers.tab) = false := by decide

theorem witness_GatherAndCompletion_hit :
    cachedRow.gtHit 0 0 (gathers.tab + 2 ^ 145) 0 (tabRowLen gathers.tab) = true ∧
    rowB cachedRow (fun o _ => cameB (gathers.tab + 2 ^ 145) false o) = true := by decide

/-! ## Witnesses: queues -/

/-- Queue 1023 of VI0 live with 16 entries, one of them posted. -/
def queued : State :=
  ((on.setFlag .HQ_Q_CFG_ENABLE 1023 0 true).setFld .HQ_Q_CFG_SIZE 1023 0 4).setQueue 1023 { HqQueue.reset with sqTail := 1 }

/-- A staged entry, a completion and a slot of it. -/
def staged1 : HqStaged := ⟨1023, 0, 0⟩
/-- A completion that frees slot 0. -/
def comp1 : HqComp := ⟨1023, 0, false, 0, some 0⟩
/-- Slot 0 in use. -/
def slot1 : HqSlot := ⟨0, 1023, 0, 0, 0, 0, 0, 0, none, false⟩

set_option exponentiation.threshold 1024 in
theorem witness_QueueCommands :
    (on.fnVi 0 0 = some 0 ∧ on.fnVi 1 0 = some 0 ∧ queued.queueLive (1024 * 0 + 1023 % 1024) = true) ∧
    (queued.mayFetch 1023 = true ∧ queued.flag .HQ_Q_CFG_SPACE 1023 0 = false) ∧
    [HqRead.mk 1023 0 none].any (fun (r : HqRead) => r.queue == 1023 && r.index == 0 && r.data == none) = true ∧
    (let s := queued.withHq { queued.hq with reads := [⟨1023, 0, some [⟨1, false⟩]⟩] }
     s.readsOf 1023 = ⟨1023, 0, some [⟨1, false⟩]⟩ :: [] ∧ [PW.mk 1 false].any (fun w => w.poison) = false ∧
       s.flag .HQ_Q_STATE_FROZEN 1023 0 = false) ∧
    (let s := queued.withHq { queued.hq with reads := [⟨1023, 0, some [⟨1, true⟩]⟩] }
     s.readsOf 1023 = ⟨1023, 0, some [⟨1, true⟩]⟩ :: [] ∧ [PW.mk 1 true].any (fun w => w.poison) = true) ∧
    (on.hostReading 0 0 4096 = false) ∧
    (let s := queued.withHq { queued.hq with staged := [staged1] }
     (s.freeSlotIx 0).isSome = true ∧ (s.pickEntry 0).1 = some staged1 ∧
       (((s.pickEntry 0).2.admitAt 0 staged1).hq.staged.length ≠ (s.pickEntry 0).2.hq.staged.length)) ∧
    ([slot1].find? (fun (x : HqSlot) => x.slot == 0) = some slot1 ∧ slot1.done = false) ∧
    (let s := queued.withHq { queued.hq with comps := [comp1] }
     s.hq.comps.find? (fun (c : HqComp) => c.queue == 1023) = some comp1 ∧ s.fld .HQ_Q_STATE_ERR 1023 0 = 0 ∧ s.cqSpace 1023 = true ∧
       s.queueLive 1023 = true ∧ s.viResetting (queueVi 1023) = false ∧ (s.writeComp comp1).1 = true ∧ comp1.slot = some 0) := by decide

set_option exponentiation.threshold 1024 in
theorem witness_QueueCommands_host :
    ((queued.setQueue 1023 { HqQueue.reset with coal := 1 }).queue 1023).coal ≠ 0 ∧
    ((queued.setQueue 1023 { HqQueue.reset with coal := 1 }).queue 1023).coalFt + queued.fld .HQ_Q_CFG_COAL_US 1023 0 * 1000 ≤ queued.now ∧
    queued.queueLive 1023 = true ∧ queued.hq.resets = [] ∧
    ([ViReset.mk 63 false false].find? (fun (r : ViReset) => r.vi == 63) = some ⟨63, false, false⟩ ∧ on.lcSweeping 63 = false ∧
      on.tm.blanks = []) ∧
    on.fnVi 0 63 = some 63 ∧ nbit on.power.links 1 = true := by decide

/-- The aperture over plot 0, which is in a state, with its channels in a mode. -/
def aperture (st mode : Nat) : State :=
  ((plotReady.setFld .PL_STATUS_STATE 0 0 st).setFld .HQ_APERTURE_BASE 0 0 (plotBase / 2 ^ 21)).setFld .MU_CH_MODE 0 0 mode

/-- The request of an access through the aperture at offset 0. -/
def apertureReq (s : State) : MemReq := ⟨0x1000, ⟨.bar2 0, 1, 0⟩, none, s.fld .HQ_APERTURE_BASE 0 0 * 2 ^ 21 + 0, true⟩

set_option exponentiation.threshold 512 in
/-- A read and a write through the aperture that are made, a poisoned write too, a read that waits and one that its plot refuses. -/
theorem witness_QueueCommands_aperture :
    (let s := aperture 2 0
     (match (s.physRead (apertureReq s) (s.fld .HQ_APERTURE_BASE 0 0 * 2 ^ 21 + 0) 32).1 with
        | .done _ => true
        | _ => false) = true ∧
       [List.replicate 8 ⟨5, false⟩, linkWords 0 0 8].all (fun ws =>
         match (s.physWrite (apertureReq s) (s.fld .HQ_APERTURE_BASE 0 0 * 2 ^ 21 + 0) 32 1 ws false).1 with
         | .done _ => true
         | _ => false) = true ∧ s.hq.bar2 = []) ∧
    (let s := aperture 2 1
     (s.physRead (apertureReq s) (s.fld .HQ_APERTURE_BASE 0 0 * 2 ^ 21 + 0) 32).1 = .waits ∧
       (s.physRead (apertureReq s) (s.fld .HQ_APERTURE_BASE 0 0 * 2 ^ 21 + 0) 32).2.hq.bar2 = []) ∧
    (let s := aperture 0 0
     (s.physRead (apertureReq s) (s.fld .HQ_APERTURE_BASE 0 0 * 2 ^ 21 + 0) 32).1 = .plotRefused 8) := by decide

/-- A write of HQ_POST_HQ for slot 0, with a status and with none, and one of HQ_POST that names no slot; CANCEL of a queue that is live. -/
theorem witness_QueueCommands_writes :
    (let s := queued.withHq { queued.hq with slots := [slot1] }
     (match offset? .HQ_POST_HQ 0 0 with
      | some off => [0, 0x30000].all (fun (v : Nat) => decide (s.accepts ⟨host, true, BitVec.ofNat 64 v⟩ .HQ_POST_HQ 0 0 off) &&
          (let t := s.stored ⟨host, true, BitVec.ofNat 64 v⟩ .HQ_POST_HQ 0 0 off
           t.hq.slots.find? (fun (x : HqSlot) => x.slot == getBits (BitVec.ofNat 64 v) 0 16) == some slot1 && !(t.viResetting 0) &&
             getBits (BitVec.ofNat 64 v) 32 32 == slot1.seq && postVi host == slot1.vi && slot1.deadline == 0))
      | none => false)) = true ∧
    (getBits (0x30000 : W64) 16 8 ≠ 0 ∧ postable (getBits (0x30000 : W64) 16 8) = true) ∧
    storedB on (fun w => w) .HQ_POST 17 0 (fun t => (t.hq.slots.find? (fun (x : HqSlot) => x.slot == 0)).isNone) = true ∧
    storedB queued (fun w => wrSet w .HQ_Q_CTL_CANCEL 1) .HQ_Q_CTL 1023 0 (fun t => t.queueLive 1023 && (t.stagedOf 1023).isEmpty) =
      true := by decide

/-! ## Witnesses: domains, power, heat -/

/-- The module with cluster 17, spine 1 and stack 7 off. -/
def someOff : State := on.withPower { on.power with
  clusters := 2 ^ 17 - 1
  spines := 1
  stackBits := 127 }

theorem witness_DomainCommands :
    (someOff.mainsOn = true ∧ someOff.clusterOn 17 = false ∧ someOff.clusterRetired 17 = false) ∧
    (on.clusterOn 17 = true ∧ on.flag .TM_STATUS_CLEARING 17 0 = true) ∧
    (on.tm.issues.any (fun (x : TmIssue) => x.c == 17 && x.write) = false) ∧
    someOff.spineOn 1 = false ∧ on.spineOn 1 = true ∧ (nbit someOff.power.stackBits 7 = false ∧ someOff.stackPresent 7 = true) ∧
    ((on.setReg .FT_NOW 0 0 1000).now / 1000 - on.mule.period = 1 ∧ on.mule.since = []) ∧
    (let s := fun (a : SectorAcc) => (on.withHbm { on.hbm with accs := [a] }).setReg .FT_NOW 0 0 0x1000000000
     [{ sectorAcc true with held := true }, { sectorAcc true with held := true, req := .bar2 0 },
      { sectorAcc false with held := true, req := .bar2 0 }].all (fun a =>
        (s a).hbm.accs.find? (fun (b : SectorAcc) => !b.own && b.group == 1 && b.held &&
          decide ((s a).holdLimit (plotStack b.plot) < (s a).now - b.arrived)) == some a)) = true := by decide

/-- The power manager runs. -/
def pmOn : State := on.setFlag .PM_STATUS_RUNNING 0 0 true

/-- Group 0 in a step. -/
def stepping (up : Bool) : State := pmOn.setPmG 0 { pmOn.pmG 0 with step := some up }

theorem witness_PowerCommands :
    (pmOn.flag .PM_STATUS_RUNNING 0 0 = true ∧ pmOn.fwDown = false) ∧
    (((stepping true).pmG 0).step = some true ∧ ((stepping true).pmG 0).half = false) ∧
    (((stepping false).pmG 0).step = some false ∧ ((stepping false).pmG 0).half = false) ∧
    ((List.replicate 50 (0 : Nat)).length = 50 ∧ (List.replicate 10 (List.replicate 50 (0 : Nat))).length = 10 ∧
      (List.replicate 10 (List.replicate 50 (0 : Nat))).any (fun l => l.length != 50) = false) ∧
    (on.power.rails = true ∧ on.fld .PM_RAIL_ILIMIT 8 0 < on.fld .PM_RAIL_ILIMIT 8 0 + 1) := by decide

/-- A start with a point table that is good, and with one whose first point is out of range. -/
theorem witness_PowerCommands_start :
    (storedB (((on.each (List.range 3) (fun g s => s.each (List.range 16) (fun n t => t.setFld .PM_VF_VFUSE g n 700)))))
        (fun w => wrSet w .PM_CTL_START 1) .PM_CTL 0 0 (fun t => !(t.flag .PM_STATUS_RUNNING 0 0) &&
          (List.range 3).all (fun g => t.vfFail g == none)) &&
      storedB (on.setFld .PM_VF_VFUSE 0 0 0) (fun w => wrSet w .PM_CTL_START 1) .PM_CTL 0 0 (fun t =>
        !(t.flag .PM_STATUS_RUNNING 0 0) && t.vfFail 0 == some 0)) = true := by decide

/-- A sensor read, a bad one, the alerts raised and released, and hold-up readings. -/
theorem witness_HeatTripAndPowerLoss :
    (on.power.svcOn = true ∧ on.sensorOn 21 = true ∧ on.sensorOn (22 + 7) = true) ∧
    (let s := (on.withPower { on.power with tripped := true }).withPins { on.pins with thermtrip := true }
     s.power.tripped = true ∧ s.pins.thermtrip = true) ∧
    (on.pins.regAlert = false ∧ on.pins.extAlert = false) ∧
    (let s := on.withPm { on.pm with holds := [(1, 0)] }
     s.pm.holds = [(1, 0)] ∧ 0 ≤ s.now) ∧
    ((on.setFld .TH_HU_STATUS_SOC 0 0 55).fld .TH_HU_STATUS_SOC 0 0 < 56 ∧
      (on.setFlag .TH_HU_STATUS_READY 0 0 true).flag .TH_HU_STATUS_READY 0 0 = true ∧
      4750 ≤ (on.setFld .TH_HU_STATUS_VOLT 0 0 4750).fld .TH_HU_STATUS_VOLT 0 0 ∧
      (on.setFlag .TH_HU_STATUS_READY 0 0 false).flag .TH_HU_STATUS_READY 0 0 = false) ∧
    (on.power.tripped = false ∧ on.power.rails = true ∧ on.flag .TH_SENSOR_BAD 21 0 = false ∧ on.power.saving = false ∧
      (on.withPower { on.power with saving := true }).power.saving = true) := by decide

/-- A DVFS group over its share, and the soft limit. -/
theorem witness_PointDecision :
    ((pmOn.pmG 0).parity = false ∧ (pmOn.withPm { pmOn.pm with soft := true }).pm.soft = true ∧
      4 * pmOn.softTj ≤ ((pmOn.setFld .TH_SENSOR_TEMP 0 0 440).setFlag .TH_SENSOR_VALID 0 0 true).hottestCore) ∧
    pmOn.shareOf 0 < pmOn.shareOf 0 + 1 := ⟨by decide, lt_add_one _⟩

/-- A DVFS group that rises. -/
theorem witness_PointDecision_rise : pmOn.fld .PM_GROUP_CUR_OP 0 0 < (pmOn.decide508 0 0).1 := by
  have hs : 0 ≤ pmOn.shareOf 0 * (1 - ((pmOn.fld .PM_CFG_HYST 0 0 : Nat) : Rat) / 100) := by
    have h1 : pmOn.pm.scale = 1 := rfl
    have h2 : pmOn.fld .PM_CFG_HYST 0 0 = 3 := by decide
    rw [h2, State.shareOf, h1]
    refine mul_nonneg (mul_nonneg (by positivity) ?_) (by norm_num)
    split <;> norm_num
  have hm : (decide (pmOn.fld .PM_GROUP_CUR_OP 0 0 < pmOn.wanted 0) && !(pmOn.pmG 0).busy &&
      decide ((pmOn.pmG 0).noUpTill ≤ pmOn.now) && !(pmOn.pmG 0).parity) = true := by decide
  have hw : pmOn.fld .PM_GROUP_CUR_OP 0 0 + 1 ≤ pmOn.wanted 0 := by decide
  have hp : pmOn.pm.soft = false := rfl
  have hx : (decide (pmOn.shareOf 0 < 0) && !(pmOn.pmG 0).parity) = false := by
    have : 0 ≤ pmOn.shareOf 0 := by
      have h1 : pmOn.pm.scale = 1 := rfl
      rw [State.shareOf, h1]
      refine mul_nonneg (by positivity) ?_
      split <;> norm_num
    simp [not_lt.mpr this]
  simp only [State.decide508, zero_mul, hs, hm, hx, hp, decide_true, Bool.and_self, if_true, Bool.false_eq_true, if_false]
  omega


/-! ## Witnesses: the service domain -/

/-- The module with a wipe under way, an entry to mirror, an export on, image A loading and image A loaded. -/
def serviceBusy : State :=
  ((on.withSvc { on.svc with
    wipe := some true
    load := some ⟨0, false, 0, 0⟩ }).setFld .AU_SEQ_SEQ 0 0 5).setFld (fwState 0) 0 0 3

theorem witness_ServiceEvents :
    on.power.svcOn = true ∧ serviceBusy.power.svcOn = true ∧ serviceBusy.fwDown = false ∧
    (serviceBusy.svc.wipe = some true ∧ serviceBusy.svc.openAfter = false) ∧
    serviceBusy.audit.mirrored < serviceBusy.fld .AU_SEQ_SEQ 0 0 ∧
    serviceBusy.fld (fwState 0) 0 0 = 3 ∧ (serviceBusy.setFld (fwState 1) 0 0 3).fld (fwState 1) 0 0 = 3 := by decide

/-- A firmware load of four bytes of plot 0, which is READY and blank, by the service firmware. -/
def fwLoading : State := plotReady.withSvc { plotReady.svc with load := some ⟨1, false, plotBase, 4⟩ }

set_option exponentiation.threshold 1024 in
theorem witness_ServiceEvents_load :
    fwLoading.svc.load = some ⟨1, false, plotBase, 4⟩ ∧
    (match (fwLoading.svcRead plotBase 4).1 with
      | .bytes b => b.length == 4
      | _ => false) = true ∧
    ((fwLoading.setFld .MU_CH_MODE 0 0 1).svcRead plotBase 4).1 = .waits := by decide

/-- The shepherd, whose audit log has one mirrored entry to push to context 0 of its own herd core 0. -/
def exporting : State :=
  let s := inHerd 3 |>.setFlag .AU_EXPORT_DEST_EN 0 0 true
  s.withAudit { s.audit with mirrored := 1 }

theorem witness_ServiceEvents_export :
    exporting.flag .AU_EXPORT_DEST_EN 0 0 = true ∧ exporting.fwDown = false ∧ exporting.audit.pushed < exporting.audit.mirrored ∧
    exporting.audit.flight.length < 64 ∧
    (exporting.msgToShepherd (exporting.fld .AU_EXPORT_DEST_CORE 0 0) (exporting.fld .AU_EXPORT_DEST_CONTEXT 0 0)
      (bytesOf 8 2)).1 = true := by decide

theorem witness_ManagementCommands :
    on.power.svcOn = true ∧ on.fwDown = false ∧ (fwOff.power.svcOn = true ∧ fwOff.fwDown = true ∧
      (fwOff.withSvc { fwOff.svc with handover := true }).svc.handover = true) ∧ (15 : Nat) ≤ 15 ∧ (List.replicate 960 (0 : Byte)).length ≤ 960 ∧ on.fwRefusal 1 true = 0 ∧
    (on.commitStroke (accService on)
      { time := on.now + 4, arg := 300, action := 6, slot := 0xFF, lateOk := true, replace := false, cancel := false }).1 = 0 := by
  decide

theorem witness_AuditAcknowledgement :
    (serviceBusy.fld .AU_ACKED_SEQ 0 0 ≤ 0 ∧ 0 ≤ serviceBusy.fld .AU_SEQ_SEQ 0 0) ∧
    (serviceBusy.fld .AU_ACKED_SEQ 0 0 ≤ 5 ∧ 5 ≤ serviceBusy.fld .AU_SEQ_SEQ 0 0) ∧
    (serviceBusy.setFld .AU_ACKED_SEQ 0 0 2).fld .AU_ACKED_SEQ 0 0 > 1 ∧ serviceBusy.fld .AU_SEQ_SEQ 0 0 < 6 := by decide

/-- A spare in a state, for one of the I/O dies. -/
def spareIn (d n : Nat) : State := on.setFld .SV_SPARE_STATUS_STATE d 0 n

theorem witness_SpareCommands :
    (spareIn 0 2).spareState 0 = 2 ∧ (spareIn 1 2).spareState 1 = 2 ∧ (spareIn 1 4).spareState 1 = 4 ∧
    (spareIn 1 4).tm.fab.any (fun (a : FabAcc) =>
      a.c == (spareIn 1 4).physCluster (sget (fun _ => 0) (spareIn 1 4).ras.moving 1 - 1)) = false ∧
    (spareIn 1 4).tm.blanks = [] := by decide

/-- Boot inputs in which every unit passes. -/
def allPass : BootIn := ⟨3, true, true, [], 0, 0, 0, 0⟩

theorem witness_BootCommands :
    (on.withPower { on.power with svcOn := false }).power.svcOn = false ∧
    (on.power.svcOn = true ∧ on.power.saving = false ∧ on.power.tripped = false) ∧
    (let s := on.withPower { on.power with tripped := true }
     s.power.tripped = true ∧ s.now < s.coolEnd) ∧
    (let s := (on.withPower { on.power with tripped := true, coldHeld := true }).setReg .FT_NOW 0 0 0x4000000000
     s.power.coldHeld = true ∧ s.power.saving = false ∧ s.coolEnd ≤ s.now) ∧
    (let s := (on.setStage 6).bootFail 5
     s.bootStage = 6 ∧ s.bootResult = 5 ∧ s.pins.pwrEn = true) ∧
    (let s := (on.setStage 3).withPins { on.pins with pwrEn := false }
     s.pins.pwrEn = false ∧ s.bootStage = 3 ∧ s.bootResult = 0) ∧
    ((on.setStage 4).bootStage = 4 ∧ (on.setStage 4).bootResult = 0) ∧
    (on.power.rails = true ∧ 1 < on.ioDies) ∧
    ((on.setStage 5).bootStage = 5 ∧ (on.setStage 5).bootResult = 0 ∧ on.bootStage = 11 ∧ on.bootResult = 0) ∧
    (allPass.rails = true ∧ allPass.plls = true ∧ BootIn.wf allPass = true) := by decide

/-! ## Witnesses: the block -/

theorem witness_StepRunsFront :
    on.pending = [] ∧ on.power.svcOn = true ∧ (on.svc.held = [] ∧ on.svc.unlocks = []) ∧ fwOff.tick.fwDown = true ∧
    (∀ i, i < 256 → on.strokeDue i = false) ∧ (armed on 1 0).strokeDue 255 = true ∧
    (on.withPower { on.power with svcOn := false }).power.svcOn = false := by decide

/-! ## Worked examples of the spec -/

/-- R58: byte 0x123456 of a cluster lies in bank 50, row 291, word 5, byte 2. -/
theorem test_tensor_place : tmBank 0x123456 = 50 ∧ tmRow 0x123456 = 291 ∧ tmWordIx 0x123456 = 5 ∧ 0x123456 % 4 = 2 := by decide

/-- R165: offset 0x01234567 of a plot under both layouts. -/
theorem test_plot_place :
    striped 0x01234567 = ⟨34, 291, 359⟩ ∧ bankLin 0x01234567 = ⟨1, 6353, 359⟩ := by decide

/-- R126: a blank word. -/
theorem test_blank_word : blankWord = 0xD100000000 := by decide

/-- R148: the model's decoders give the self-test every result its patterns P1 to P12 expect. -/
theorem test_word_checker : wordCheckerOk decodeWord = true := by decide

set_option exponentiation.threshold 512 in
theorem test_sector_checker : sectorCheckerOk decodeSector = true := by decide

theorem test_crc_checker : crcCheckerOk crc32c = true := by decide

/-- No row of the command table has bits, so no word spells a command. -/
theorem test_table_word : decodeTableWord 32 0x123456 = none ∧ State.reset.withFetchWord 32 5 = State.reset := by decide

/-! ## Ill-formed commands are refused -/

/-- A frame that is well-formed. -/
def aFrame : Frame := frm 0 0 []

theorem test_wf_units :
    (okCluster 17 && okSpine 1 && okStack 7 && okVi 63 && okPort 15 && okSlot 255 && okHerd 4095 && okCore 21 && okCtx 15) = true ∧
    (okCluster 18 || okSpine 2 || okStack 8 || okVi 64 || okPort 16 || okSlot 256 || okHerd 4096 || okCore 22 || okCtx 16) =
      false := by decide

theorem test_wf_origin :
    okOrigin .bmc = true ∧ okOrigin (.vi 64) = false ∧ okOrigin (.steer 18) = false ∧ okOrigin (.herdCore 4) = false := by decide

theorem test_wf_sender :
    okWr ⟨host, 0, 0⟩ = true ∧ okAcc { host with port := 2 } = false ∧ okAcc { host with vi := 1 } = false ∧
    okAcc { host with ctx := 16 } = false ∧ okAcc { host with herd := 4096 } = false ∧
    okWr ⟨⟨.serviceFw, 6, 0, 0, true, 0⟩, 0, 0⟩ = false := by decide

theorem test_wf_frame :
    Frame.wf aFrame = true ∧ Frame.wf { aFrame with type := 256 } = false ∧ Frame.wf { aFrame with vc := 5 } = false ∧
    Frame.wf { aFrame with sub := 2 } = false ∧ Frame.wf { aFrame with detours := 4 } = false ∧
    Frame.wf { aFrame with dest := 4096 } = false ∧ Frame.wf { aFrame with src := 4096 } = false ∧
    Frame.wf { aFrame with len := 4097 } = false ∧ Frame.wf { aFrame with addr := 2 ^ 64 } = false ∧
    Frame.wf { aFrame with tag := 2 ^ 32 } = false ∧ Frame.wf { aFrame with arg := 65536 } = false := by decide

theorem test_wf_boot :
    BootIn.wf { allPass with images := 4 } = false ∧ BootIn.wf { allPass with temps := [(30, 0)] } = false ∧
    BootIn.wf { allPass with temps := [(0, 1024)] } = false ∧ BootIn.wf { allPass with clusters := 2 ^ 18 } = false ∧
    BootIn.wf { allPass with slices := 2 ^ 64 } = false ∧ BootIn.wf { allPass with stackBits := 256 } = false ∧
    BootIn.wf { allPass with tests := 256 } = false := by decide

/-- One command past each bound that stands in `Instr.wf` itself. -/
theorem test_wf_bounds :
    ∀ i ∈ ([.registerWrite ⟨host, 0, 0⟩ (2 ^ 26) false, .ptpSync true 128 0 0 0, .ppsPulse 16, .portIssue 0 9 false [],
      .bankGrant 0 64, .windowBlank 0 64, .plotFillDone 384 0, .refresh 0 64 0,
      .lcLookup [⟨0, 129, 0, 0, false, false, 0, none, .bar2 0⟩] [], .lcRetry 64, .feedWindow 26 [], .blockRetire 20 0 [] [], .add 22 0, .add 0 16, .doorbell 2 0 0 none none false, .sqFetch 65536,
      .admission 2, .slotParityError 32768, .laneLoss 0 4, .portDown 16, .dvfsStepComplete 3 true, .railLimitWindow 9 0,
      .sensorBad 30, .regAlert 16, .alertHoldEnd 2, .huReady 8192 0 false, .fwVerifyDone 2 true, .spiRing 256, .lfRequest 8 [],
      .svcPowerOn 8, .pcieLinkTrain 2] : List Instr), Instr.wf i = false := by decide

/-! ## Witness of the invariant -/

/-- A state with a register written: fleet time at 8. -/
def ticked : State := State.reset.setReg .FT_NOW 0 0 8

theorem witness_StepKeepsForm : ticked.canonical ∧ ticked.regs ≠ [] ∧ step ticked = .next ticked.idle :=
  ⟨⟨by decide, by decide, ⟨rfl, rfl, rfl⟩, rfl, ⟨rfl, rfl⟩, rfl, rfl, rfl, rfl⟩, by decide, rfl⟩

end Sys2Proof.Tests
end

section
/-! The places of R58: a cluster offset as bank, row, word and byte, and its way back. -/
namespace Sys2Proof.Machine

open Sys2Proof

theorem nfield_eq_div_mod (x lo w : Nat) : nfield x lo w = x / 2 ^ lo % 2 ^ w := by
  rw [nfield, Nat.shiftRight_eq_div_pow]

theorem tmWordIx_eq (a : Nat) : tmWordIx a = a / 4 % 16 := nfield_eq_div_mod a 2 4

theorem tmRow_eq_mod (a : Nat) : tmRow a = a / 4096 % 4096 := nfield_eq_div_mod a 12 12

theorem tmRow_eq {a : Nat} (ha : a < 2 ^ 24) : tmRow a = a / 4096 := by
  rw [tmRow_eq_mod]
  omega

theorem tmBank_eq (a : Nat) : tmBank a = (a / 64 % 64) ^^^ (a / 4096 % 64) := by
  simp only [tmBank, nfield_eq_div_mod, Nat.reducePow]

theorem tmRow_lt (a : Nat) : tmRow a < 4096 := by
  rw [tmRow_eq_mod]
  omega

theorem tmBank_lt (a : Nat) : tmBank a < 64 := by
  rw [tmBank_eq]
  exact Nat.xor_lt_two_pow (n := 6) (by omega) (by omega)

/-- R58's inverse of the fold: the line index of an offset is its bank XOR its row modulo 64. -/
theorem tmBank_xor_tmRow (a : Nat) : tmBank a ^^^ tmRow a % 64 = a / 64 % 64 := by
  have hrow : tmRow a % 64 = a / 4096 % 64 := by
    rw [tmRow_eq_mod]
    omega
  rw [hrow, tmBank_eq, Nat.xor_assoc, Nat.xor_self, Nat.xor_zero]

theorem eq_tmRow_line_word_byte {a : Nat} (ha : a < 2 ^ 24) :
    a = tmRow a * 4096 + (tmBank a ^^^ tmRow a % 64) * 64 + tmWordIx a * 4 + a % 4 := by
  rw [tmBank_xor_tmRow, tmRow_eq ha, tmWordIx_eq]
  omega

theorem tmOffset_tmBank_tmRow_tmWordIx {a : Nat} (ha : a < 2 ^ 24) :
    tmOffset (tmBank a) (tmRow a) (tmWordIx a) + a % 4 = a :=
  (eq_tmRow_line_word_byte ha).symm

/-- Lines of one row share the row's part of the fold, so their banks tell their indexes apart. -/
theorem line_eq_of_tmBank_eq {r l m : Nat} (hl : l < 64) (hm : m < 64)
    (h : tmBank (r * 4096 + l * 64) = tmBank (r * 4096 + m * 64)) : l = m := by
  have hline (k : Nat) (hk : k < 64) : tmBank (r * 4096 + k * 64) = k ^^^ (r % 64) := by
    rw [tmBank_eq, show (r * 4096 + k * 64) / 64 % 64 = k by omega, show (r * 4096 + k * 64) / 4096 = r by omega]
  rw [hline l hl, hline m hm] at h
  exact Nat.xor_left_injective h

/-- Offsets a stride of 4 KiB apart share the line index, so their banks tell fewer than 64 strides apart. -/
theorem stride_eq_of_tmBank_eq {a k l : Nat} (hk : k < 64) (hl : l < 64)
    (h : tmBank (a + 4096 * k) = tmBank (a + 4096 * l)) : k = l := by
  have hstride (n : Nat) : tmBank (a + 4096 * n) = (a / 64 % 64) ^^^ ((a / 4096 + n) % 64) := by
    rw [tmBank_eq, show (a + 4096 * n) / 64 % 64 = a / 64 % 64 by omega, show (a + 4096 * n) / 4096 = a / 4096 + n by omega]
  rw [hstride k, hstride l] at h
  have hrow : (a / 4096 + k) % 64 = (a / 4096 + l) % 64 := Nat.xor_right_injective h
  omega

end Sys2Proof.Machine
end

section
/-! The word code read back (R123, R124), and a word of tensor memory read after it is stored. -/
namespace Sys2Proof.Machine

open Sys2Proof

theorem b2n_le_one (b : Bool) : b2n b ≤ 1 := by cases b <;> decide

theorem xorMasks_lt_two_pow {n : Nat} {ms : List Nat} (h : ∀ m ∈ ms, m < 2 ^ n) (v : Nat) : xorMasks ms v < 2 ^ n := by
  induction ms generalizing v with
  | nil => exact Nat.two_pow_pos n
  | cons m ms ih =>
    have hm : (if v % 2 = 1 then m else 0) < 2 ^ n := by
      split
      · exact h m (by simp)
      · exact Nat.two_pow_pos n
    exact Nat.xor_lt_two_pow hm (ih (fun x hx => h x (by simp [hx])) (v / 2))

theorem checkBits_lt (data : W32) (poison : Bool) : checkBits data poison < 128 :=
  xorMasks_lt_two_pow (n := 7) (by decide) _

/-- The stored word's fields do not overlap: data below bit 32, poison in bit 32, the check bits above. -/
theorem toNat_encodeWord (p : PW) :
    (encodeWord p).toNat = p.data.toNat + 2 ^ 32 * b2n p.poison + 2 ^ 33 * checkBits p.data p.poison := by
  have hdata := p.data.isLt
  have hcheck := checkBits_lt p.data p.poison
  have hpoison := b2n_le_one p.poison
  rw [encodeWord, rawWord, BitVec.toNat_ofNat, Nat.mod_eq_of_lt hcheck]
  omega

theorem ofNat_toNat_encodeWord (p : PW) : BitVec.ofNat 32 (encodeWord p).toNat = p.data := by
  apply BitVec.eq_of_toNat_eq
  rw [BitVec.toNat_ofNat, toNat_encodeWord]
  have hdata := p.data.isLt
  omega

theorem getLsbD_encodeWord_poison (p : PW) : (encodeWord p).getLsbD 32 = p.poison := by
  have hdata := p.data.isLt
  have hbit : (encodeWord p).toNat / 2 ^ 32 % 2 = b2n p.poison := by
    have hpoison := b2n_le_one p.poison
    rw [toNat_encodeWord]
    omega
  rw [BitVec.getLsbD, Nat.testBit_eq_decide_div_mod_eq, hbit]
  cases p.poison <;> rfl

theorem shiftRight_encodeWord_check (p : PW) : (encodeWord p).toNat >>> 33 = checkBits p.data p.poison := by
  have hdata := p.data.isLt
  have hpoison := b2n_le_one p.poison
  rw [Nat.shiftRight_eq_div_pow, toNat_encodeWord]
  omega

/-- A stored word has syndrome 0, so it decodes to what was encoded, poison included. -/
theorem decodeWord_encodeWord (p : PW) : decodeWord (encodeWord p) = ⟨p, .ok⟩ := by
  simp only [decodeWord, ofNat_toNat_encodeWord, getLsbD_encodeWord_poison, shiftRight_encodeWord_check, Nat.xor_self, if_true]

/-- A read of an intact word gives the word and counts nothing. -/
theorem tallyTm_of_decodeWord_ok {s : State} {c a : Nat} {raw : W40} {p : PW} (h : decodeWord raw = ⟨p, .ok⟩) :
    s.tallyTm c a raw = (p, s) := by
  simp [State.tallyTm, State.tallyWord, h]

theorem tmFetch_tmStore_same (s : State) (c a : Nat) (p : PW) : (s.tmStore c a p).tmFetch c a = (p, s.tmStore c a p) := by
  have hraw : (s.tmStore c a p).tmRaw c a = encodeWord p := tmRaw_setTmRaw_same s c a (encodeWord p)
  rw [State.tmFetch, hraw]
  exact tallyTm_of_decodeWord_ok (decodeWord_encodeWord p)

theorem sget_tmStore_ne (s : State) (c a : Nat) (p : PW) (k : Nat)
    (h : k ≠ tmKey c (tmBank a) (s.mappedRow c (tmBank a) (tmRow a)) (tmWordIx a)) :
    sget (fun _ => blankWord) (s.tmStore c a p).tm.words k = sget (fun _ => blankWord) s.tm.words k :=
  sget_sset_ne _ _ _ _ _ h

@[simp] theorem steer_tmStore (s : State) (c a : Nat) (p : PW) : (s.tmStore c a p).tm.steer = s.tm.steer := rfl
@[simp] theorem regs_tmStore (s : State) (c a : Nat) (p : PW) : (s.tmStore c a p).regs = s.regs := rfl
@[simp] theorem hbm_tmStore (s : State) (c a : Nat) (p : PW) : (s.tmStore c a p).hbm = s.hbm := rfl

/-- Settles O33: the places by R58's fold and its inverse, and the word by the read of a sparse store after its write and
the word code's round trip. -/
theorem tensorMemoryPlacesAndWords : Obligations.TensorMemoryPlacesAndWords := by
  refine ⟨fun a ha => ?places, fun r l m _ hl hm h => ?lines, fun a k l _ _ hk hl h => ?strides, fun s c a p _ _ => ?words⟩
  case places =>
    exact ⟨tmWordIx_eq a, tmRow_eq ha, tmBank_eq a, tmBank_lt a, tmRow_lt a, eq_tmRow_line_word_byte ha,
      tmOffset_tmBank_tmRow_tmWordIx ha⟩
  case lines => exact line_eq_of_tmBank_eq hl hm h
  case strides => exact stride_eq_of_tmBank_eq hk hl h
  case words =>
    rw [tmFetch_tmStore_same]
    exact ⟨rfl, rfl, sget_tmStore_ne s c a p, steer_tmStore s c a p, regs_tmStore s c a p, hbm_tmStore s c a p⟩

end Sys2Proof.Machine
end

section
/-! The places of R164 and R165: a plot offset as pseudo-channel, row and byte, and its way back. -/
namespace Sys2Proof.Machine

open Sys2Proof

theorem foldRow_eq (r : Nat) : foldRow r = (r % 64) ^^^ (r / 64 % 64) ^^^ (r / 4096 % 4) := by
  simp only [foldRow, nfield_eq_div_mod, Nat.reducePow, Nat.div_one]

theorem foldRow_lt (r : Nat) : foldRow r < 64 := by
  have hlow : (r % 64) ^^^ (r / 64 % 64) < 2 ^ 6 := Nat.xor_lt_two_pow (by omega) (by omega)
  rw [foldRow_eq]
  exact Nat.xor_lt_two_pow (n := 6) hlow (by omega)

theorem bankLin_pc (o : Nat) : (bankLin o).pc = o / 12582912 := rfl
theorem bankLin_row (o : Nat) : (bankLin o).row = o % 12582912 / 1024 := rfl
theorem bankLin_byte (o : Nat) : (bankLin o).byte = o % 1024 := rfl

theorem bankLin_pc_lt {o : Nat} (ho : o < plotSize) : (bankLin o).pc < 64 := by
  rw [plotSize] at ho
  rw [bankLin_pc]
  omega

theorem bankLin_row_lt (o : Nat) : (bankLin o).row < 12288 := by
  rw [bankLin_row]
  omega

/-- A slice of 12 MiB is a whole number of rows, so the byte in the row is left over by the slice's remainder too. -/
theorem bankLinInv_bankLin (o : Nat) : bankLinInv (bankLin o) = o := by
  rw [bankLinInv, bankLin_pc, bankLin_row, bankLin_byte]
  omega

theorem striped_row (o : Nat) : (striped o).row = o / 256 / 64 / 4 := rfl
theorem striped_byte (o : Nat) : (striped o).byte = o / 256 / 64 % 4 * 256 + o % 256 := rfl
theorem striped_pc (o : Nat) : (striped o).pc = (o / 256 % 64) ^^^ foldRow (striped o).row := rfl

theorem striped_byte_div (o : Nat) : (striped o).byte / 256 = o / 256 / 64 % 4 := by
  rw [striped_byte]
  omega

theorem striped_byte_mod (o : Nat) : (striped o).byte % 256 = o % 256 := by
  rw [striped_byte]
  omega

theorem striped_byte_lt (o : Nat) : (striped o).byte < 1024 := by
  rw [striped_byte]
  omega

theorem striped_pc_lt (o : Nat) : (striped o).pc < 64 := by
  have hfold := foldRow_lt (striped o).row
  rw [striped_pc]
  exact Nat.xor_lt_two_pow (n := 6) (by omega) hfold

theorem channelGranule_lt {o : Nat} (ho : o < plotSize) : o / 256 / 64 < 49152 := by
  rw [plotSize] at ho
  omega

theorem striped_row_lt {o : Nat} (ho : o < plotSize) : (striped o).row < 12288 := by
  have hgranule := channelGranule_lt ho
  rw [striped_row]
  omega

/-- R165's inverse of the fold: the unhashed channel is the pseudo-channel XOR the fold of the row. -/
theorem striped_pc_xor_foldRow (o : Nat) : (striped o).pc ^^^ foldRow (striped o).row = o / 256 % 64 := by
  rw [striped_pc, Nat.xor_assoc, Nat.xor_self, Nat.xor_zero]

theorem eq_striped_row_channel_byte (o : Nat) :
    o = 256 * (64 * (4 * (striped o).row + (striped o).byte / 256) + ((striped o).pc ^^^ foldRow (striped o).row)) +
      (striped o).byte % 256 := by
  rw [striped_pc_xor_foldRow, striped_byte_div, striped_byte_mod, striped_row]
  omega

theorem stripedInv_striped (o : Nat) : stripedInv (striped o) = o := by
  have ho := eq_striped_row_channel_byte o
  rw [stripedInv]
  omega

section
variable {o o' : Nat} (hrun : o' / 16384 = o / 16384)
include hrun

/-- Within a 16 KiB run the granule in the channel does not change. -/
theorem channelGranule_eq_of_run_eq : o' / 256 / 64 = o / 256 / 64 := by
  omega

theorem striped_row_eq_of_run_eq : (striped o').row = (striped o).row := by
  rw [striped_row, striped_row, channelGranule_eq_of_run_eq hrun]

theorem striped_rowGranule_eq_of_run_eq : (striped o').byte / 256 = (striped o).byte / 256 := by
  rw [striped_byte_div, striped_byte_div, channelGranule_eq_of_run_eq hrun]

/-- Granules of one run share their row's fold, so their pseudo-channels tell their unhashed channels apart. -/
theorem granule_eq_of_striped_pc_eq (hpc : (striped o').pc = (striped o).pc) : o' / 256 = o / 256 := by
  rw [striped_pc, striped_pc, striped_row_eq_of_run_eq hrun] at hpc
  have hchannel : o' / 256 % 64 = o / 256 % 64 := Nat.xor_left_injective hpc
  have hgranule := channelGranule_eq_of_run_eq hrun
  omega

end

/-- The way back takes the same layout bit as the way there. -/
theorem plotInv_plotLoc (s : State) (p o : Nat) : s.plotInv p (s.plotLoc p o) = o := by
  rw [State.plotInv, State.plotLoc]
  split
  · exact bankLinInv_bankLin o
  · exact stripedInv_striped o

/-- Settles O36: BANKLIN by division with remainder, STRIPED by its fold, which XOR undoes and which the granules of a
run share. -/
theorem plotPlaces : Obligations.PlotPlaces := by
  intro o ho
  refine ⟨?banklin, ?striped, bankLin_pc_lt ho, bankLin_row_lt o, striped_pc_lt o, striped_row_lt ho, striped_byte_lt o,
    fun s p => ⟨rfl, plotInv_plotLoc s p o⟩⟩
  case banklin => exact ⟨bankLin_pc o, bankLin_row o, bankLin_byte o, (bankLinInv_bankLin o).symm⟩
  case striped =>
    refine ⟨striped_row o, striped_byte o, ?fold, channelGranule_lt ho, ?run, eq_striped_row_channel_byte o⟩
    case fold => rw [striped_pc, foldRow_eq]
    case run =>
      exact fun o' _ hrun => ⟨striped_row_eq_of_run_eq hrun, striped_rowGranule_eq_of_run_eq hrun,
        granule_eq_of_striped_pc_eq hrun⟩

end Sys2Proof.Machine
end

section
/-! Branches and jumps (R389, R390): the words that decode to them, and what each comes to when it issues. -/
namespace Sys2Proof.Machine

open Sys2Proof

/-! ## Decoding by the major opcode -/

/-- A word under a mask, cut into its major opcode and the bits below it. -/
theorem and_eq_iff_div_and_mod (w m v : Nat) :
    w &&& m = v ↔ (w / 2 ^ 26 &&& m / 2 ^ 26) = v / 2 ^ 26 ∧ (w % 2 ^ 26 &&& m % 2 ^ 26) = v % 2 ^ 26 := by
  rw [← Nat.and_div_two_pow, ← Nat.and_mod_two_pow]
  omega

/-- Every row's mask takes in the whole major opcode. -/
theorem slTable_mask_major : ∀ r ∈ slTable, r.mask / 2 ^ 26 = 2 ^ 6 - 1 := by decide

/-- A branch or jump has a major opcode to itself, and the row fixes no bit below it. -/
theorem slJump_major : ∀ r ∈ slJump, r ∈ slTable ∧ r.mask % 2 ^ 26 = 0 ∧ r.val % 2 ^ 26 = 0 ∧
    ∀ q ∈ slTable, q.op = r.op ↔ q.val / 2 ^ 26 = r.val / 2 ^ 26 := by decide

section
variable {w : Nat} (hw : w < 2 ^ 32)
include hw

theorem major_and_mask {r : SlRow} (hr : r ∈ slTable) : (w / 2 ^ 26 &&& r.mask / 2 ^ 26) = w / 2 ^ 26 := by
  rw [slTable_mask_major r hr, Nat.and_two_pow_sub_one_eq_mod]
  omega

/-- A word that matches a row has the row's major opcode. -/
theorem major_eq_of_matches {r : SlRow} (hr : r ∈ slTable) (h : w &&& r.mask = r.val) : w / 2 ^ 26 = r.val / 2 ^ 26 := by
  rw [← major_and_mask hw hr]
  exact ((and_eq_iff_div_and_mod w r.mask r.val).mp h).1

/-- For a branch or jump the major opcode is all there is to match. -/
theorem matches_of_major_eq {r : SlRow} (hr : r ∈ slJump) (h : w / 2 ^ 26 = r.val / 2 ^ 26) : w &&& r.mask = r.val := by
  obtain ⟨hmem, hmask, hval, -⟩ := slJump_major r hr
  rw [and_eq_iff_div_and_mod, major_and_mask hw hmem, hmask, hval, Nat.and_zero]
  exact ⟨h, rfl⟩

/-- A word decodes to a branch or jump exactly where it has its major opcode. -/
theorem slDecode_eq_slJump_iff {r : SlRow} (hr : r ∈ slJump) : slDecode w = some r.op ↔ w / 2 ^ 26 = r.val / 2 ^ 26 := by
  obtain ⟨hmem, -, -, hop⟩ := slJump_major r hr
  have hfound : ∀ q, slTable.find? (fun q => w &&& q.mask == q.val) = some q →
      (q.op = r.op ↔ w / 2 ^ 26 = r.val / 2 ^ 26) := by
    intro q hq
    have hqmem := List.mem_of_find?_eq_some hq
    have hqmatch : w &&& q.mask = q.val := by simpa using List.find?_some hq
    rw [hop q hqmem, major_eq_of_matches hw hqmem hqmatch]
  rw [slDecode, Option.map_eq_some_iff]
  constructor
  · rintro ⟨q, hq, hqop⟩
    exact (hfound q hq).mp hqop
  · intro h
    have hsome : (slTable.find? (fun q => w &&& q.mask == q.val)).isSome := by
      rw [List.find?_isSome]
      exact ⟨r, hmem, by simpa using matches_of_major_eq hw hr h⟩
    obtain ⟨q, hq⟩ := Option.isSome_iff_exists.mp hsome
    exact ⟨q, hq, (hfound q hq).mpr h⟩

end

/-! ## The registers of an instruction that issues -/

/-- An instruction belongs to the core and the context that fetched it. -/
theorem slFetch_core_ctx {s t : State} {core x : Nat} {i : SlI} (h : s.slFetch core x = (.inl i, t)) :
    i.core = core ∧ i.ctx = x := by
  simp only [State.slFetch] at h
  split at h
  case h_1 => cases h
  case h_2 =>
    split at h
    · split at h <;> cases h
      exact ⟨rfl, rfl⟩
    · cases h
      exact ⟨rfl, rfl⟩

/-- As `slFetch_core_ctx`, for an instruction that issues. -/
theorem issues_core_ctx {s t : State} {op : SlOp} {core x : Nat} {i : SlI} (h : s.issues t op core x i) :
    i.core = core ∧ i.ctx = x := by
  obtain ⟨-, -, hfetch, -, -⟩ := h
  exact slFetch_core_ctx hfetch

@[simp] theorem cntInc_sc (s : State) (cnt wraps ovf : Fld) (i j n : Nat) : (s.cntInc cnt wraps ovf i j n).sc = s.sc := by
  rw [State.cntInc]
  split
  · simp
  · simp [State.satInc]

@[simp] theorem scCount_sc (s : State) (core e : Nat) : (s.scCount core e).sc = s.sc := cntInc_sc ..

/-- Going on to the next instruction leaves the g registers of every context. -/
@[simp] theorem slG_slNext (s : State) (i : SlI) (core x r : Nat) : (s.slNext i).slG core x r = s.slG core x r := by
  simp [State.slNext, State.slG, State.setSlPc]

/-! ## What the instructions come to -/

theorem exec_br (core x : Nat) (s : State) : exec (.br core x) s = .next (s.slBranch .opBr core x false) := rfl
theorem exec_call (core x : Nat) (s : State) : exec (.call core x) s = .next (s.slBranch .opCall core x true) := rfl

section
variable {s t : State} {op : SlOp} {core x : Nat} {i : SlI}

/-- R389 with a clean predicate. -/
theorem slBranch_clean (link : Bool) (h : s.issues t op core x i) (hp : (t.slP core x (nfield i.w 23 3)).poison = false) :
    s.slBranch op core x link =
      if (t.slP core x (nfield i.w 23 3)).val != nbit i.w 22 then
        (if link then t.setSlG core x 31 ⟨BitVec.ofNat 64 (i.pc + 4), false⟩ else t).slJump i
          (wrapInt 64 ((i.pc : Int) + 4 * i.off22))
      else t.slNext i := by
  split
  case isTrue htaken => exact slRun_done h (by simp only [hp, htaken]; rfl)
  case isFalse hnot => exact slRun_done h (by simp only [hp, hnot]; rfl)

/-- R389 and R345 with a poisoned predicate. -/
theorem slBranch_poison (link : Bool) (h : s.issues t op core x i) (hp : (t.slP core x (nfield i.w 23 3)).poison = true)
    (ho : s.owesAnswer core x = false) :
    s.slBranch op core x link =
      (t.bite (coreDie core) 1).slTrap core x 4 2 (t.slP core x (nfield i.w 23 3)).tag i.pc := by
  obtain ⟨rfl, -⟩ := issues_core_ctx h
  exact slRun_trap h (by simp only [hp]; rfl) ho

variable (h : s.issues t .opJr core x i)
include h

/-- R390 with a clean register and an aligned target. -/
theorem execJr_aligned {target : Nat} (htarget : wrapInt 64 (((t.slRa i).data.toNat : Int) + 4 * sextNat 16 i.w) = target)
    (ha : (t.slRa i).poison = false) (halign : target % 4 = 0) :
    execJr core x s = .next ((t.setSlG core x i.rd ⟨BitVec.ofNat 64 (i.pc + 4), false⟩).slJump i target) :=
  congrArg _ (slRun_done h (by simp [htarget, ha, halign]))

/-- R390 with a clean register and a misaligned target. -/
theorem execJr_misaligned {target : Nat} (htarget : wrapInt 64 (((t.slRa i).data.toNat : Int) + 4 * sextNat 16 i.w) = target)
    (ha : (t.slRa i).poison = false) (halign : target % 4 ≠ 0) (ho : s.owesAnswer core x = false) :
    execJr core x s = .next (t.slTrap core x 3 target 0 i.pc) :=
  congrArg _ (slRun_trap h (by simp only [htarget, ha, if_pos halign]; rfl) ho)

/-- R390 with a poisoned register. -/
theorem execJr_poison (ha : (t.slRa i).poison = true) (ho : s.owesAnswer core x = false) :
    execJr core x s = .next ((t.bite (coreDie core) 0).slTrap core x 4 3 (t.slRa i).tag i.pc) := by
  obtain ⟨rfl, -⟩ := issues_core_ctx h
  exact congrArg _ (slRun_trap h (by simp only [ha]; rfl) ho)

end

/-- Settles O11: a word is a branch or jump by its major opcode alone, and each comes to what its body does with a clean or a
poisoned operand. -/
theorem branchResults : Obligations.BranchResults := by
  refine ⟨?decoding, fun s core x i => ⟨slP_zero s core x, slG_slNext s i core x 31⟩, ?results⟩
  case decoding =>
    exact fun w hw => ⟨slDecode_eq_slJump_iff hw (r := ⟨.opBr, 0xFC000000, 0x40000000⟩) (by decide),
      slDecode_eq_slJump_iff hw (r := ⟨.opCall, 0xFC000000, 0x44000000⟩) (by decide),
      slDecode_eq_slJump_iff hw (r := ⟨.opJr, 0xFC000000, 0x48000000⟩) (by decide)⟩
  case results =>
    intro s t core x i
    refine ⟨?br, ?call, ?jr, fun ho => ⟨?brPoison, ?callPoison, ?jrPoison, ?jrAlign⟩⟩
    case br => exact fun h hp => by rw [exec_br, slBranch_clean false h hp]; rfl
    case call => exact fun h hp => by rw [exec_call, slBranch_clean true h hp]; rfl
    case jr => exact fun h ha halign => execJr_aligned h rfl ha halign
    case brPoison => exact fun h hp => by rw [exec_br, slBranch_poison false h hp ho]
    case callPoison => exact fun h hp => by rw [exec_call, slBranch_poison true h hp ho]
    case jrPoison => exact fun h ha => execJr_poison h ha ho
    case jrAlign => exact fun h ha halign => execJr_misaligned h rfl ha halign ho

end Sys2Proof.Machine
end

section
/-! What an acknowledgement of the audit log does (R567, R568, R579). -/
namespace Sys2Proof.Machine

open Sys2Proof

/-- A flag written leaves the fields of another register. -/
theorem fld_setFlag_ne (s : State) {f g : Fld} (i j i' j' : Nat) (b : Bool) (h : f.id.ctorIdx ≠ g.id.ctorIdx) :
    (s.setFlag f i j b).fld g i' j' = s.fld g i' j' :=
  fld_setFld_ne s i j i' j' (b2n b) h

section
variable {s : State} {seq : Nat}

/-- R567: a number below AU_ACKED or above AU_SEQ. -/
theorem auditAck_out_of_range (h : seq < s.fld .AU_ACKED_SEQ 0 0 ∨ s.fld .AU_SEQ_SEQ 0 0 < seq) : s.auditAck seq = s := by
  rw [State.auditAck, if_pos h]

section
variable (h : ¬(seq < s.fld .AU_ACKED_SEQ 0 0 ∨ s.fld .AU_SEQ_SEQ 0 0 < seq))
include h

/-- An accepted acknowledgement writes AU_ACKED, and besides it only the warnings of AU_STATUS. -/
theorem fld_auditAck_in_range {g : Fld} (hg : RegId.AU_STATUS.ctorIdx ≠ g.id.ctorIdx) (i j : Nat) :
    (s.auditAck seq).fld g i j = (s.setFld .AU_ACKED_SEQ 0 0 seq).fld g i j := by
  rw [State.auditAck, if_neg h]
  extract_lets acked audit moved freed
  have hfreed : freed.fld g i j = acked.fld g i j := by
    dsimp only [freed]
    split
    · rw [fld_setFlag_ne _ _ _ _ _ _ hg, fld_withAudit]
    · rw [fld_withAudit]
  split
  · rw [fld_withPins, fld_setFlag_ne _ _ _ _ _ _ hg, hfreed]
  · exact hfreed

/-- An accepted acknowledgement moves the export on and keeps every entry. -/
theorem entries_auditAck_in_range : (s.auditAck seq).audit.entries = s.audit.entries := by
  rw [State.auditAck, if_neg h]
  extract_lets acked audit moved freed
  have hfreed : freed.audit.entries = s.audit.entries := by
    dsimp only [freed]
    split <;> simp [moved, audit, acked]
  split
  · simpa using hfreed
  · exact hfreed

end

theorem fld_AU_SEQ_auditAck : (s.auditAck seq).fld .AU_SEQ_SEQ 0 0 = s.fld .AU_SEQ_SEQ 0 0 := by
  by_cases h : seq < s.fld .AU_ACKED_SEQ 0 0 ∨ s.fld .AU_SEQ_SEQ 0 0 < seq
  · rw [auditAck_out_of_range h]
  · rw [fld_auditAck_in_range h (by decide), fld_setFld_ne _ _ _ _ _ _ (by decide)]

theorem entries_auditAck : (s.auditAck seq).audit.entries = s.audit.entries := by
  by_cases h : seq < s.fld .AU_ACKED_SEQ 0 0 ∨ s.fld .AU_SEQ_SEQ 0 0 < seq
  · rw [auditAck_out_of_range h]
  · exact entries_auditAck_in_range h

/-- R579: AU_ACKED takes the number acknowledged, which its 64 bits hold. -/
theorem fld_AU_ACKED_auditAck (hseq : seq < 2 ^ 64) (hacked : s.fld .AU_ACKED_SEQ 0 0 ≤ seq) (hwritten : seq ≤ s.fld .AU_SEQ_SEQ 0 0) :
    (s.auditAck seq).fld .AU_ACKED_SEQ 0 0 = seq := by
  have h : ¬(seq < s.fld .AU_ACKED_SEQ 0 0 ∨ s.fld .AU_SEQ_SEQ 0 0 < seq) := by omega
  rw [fld_auditAck_in_range h (by decide), fld_setFld_same _ _ _ _ _ (by decide)]
  exact Nat.mod_eq_of_lt hseq

end

/-- Settles O58: an acknowledgement in range writes AU_ACKED and, of the other registers, AU_STATUS alone, and one out of
range is dropped. -/
theorem auditAcknowledgement : Obligations.AuditAcknowledgement := fun _ _ hseq =>
  ⟨fld_AU_ACKED_auditAck hseq, auditAck_out_of_range, fld_AU_SEQ_auditAck, entries_auditAck⟩

end Sys2Proof.Machine
end

section
/-! What the messages of the power manager leave of the module: the main rails, the RAS state and fleet time. -/
namespace Sys2Proof.Machine

open Sys2Proof

/-- Fleet time and its strokes: the registers that a cold reset clears (R56) and no alert, throttle or message writes. -/
def timeReg (id : RegId) : Bool :=
  [RegId.FT_NOW, .FT_STATUS, .FT_STK_STATE].any (fun r => r.ctorIdx == id.ctorIdx)

theorem ctorIdx_ne_of_timeReg {a b : RegId} (ha : timeReg a = false) (hb : timeReg b = true) : a.ctorIdx ≠ b.ctorIdx := by
  intro h
  rw [timeReg, h] at ha
  exact Bool.false_ne_true (ha.symm.trans hb)

/-- From `s` to `t`, the main rails, the RAS state and the registers of fleet time stay as they are. -/
structure KeepsRails (s t : State) : Prop where
  rails : t.power.rails = s.power.rails
  ras : t.ras = s.ras
  reg : ∀ id i j, timeReg id = true → t.reg id i j = s.reg id i j

namespace KeepsRails
variable {s t : State}

theorem refl (s : State) : KeepsRails s s := ⟨rfl, rfl, fun _ _ _ _ => rfl⟩

theorem setReg (h : KeepsRails s t) {id : RegId} {i j : Nat} {v : W64} (hid : timeReg id = false := by rfl) :
    KeepsRails s (t.setReg id i j v) where
  rails := by rw [State.setReg_power, h.rails]
  ras := by rw [State.setReg_ras, h.ras]
  reg id' i' j' ht := (reg_setReg_ne t i j i' j' v (ctorIdx_ne_of_timeReg hid ht)).trans (h.reg id' i' j' ht)

theorem setFld (h : KeepsRails s t) {f : Fld} {i j x : Nat} (hf : timeReg f.id = false := by rfl) :
    KeepsRails s (t.setFld f i j x) := h.setReg hf

theorem setFlag (h : KeepsRails s t) {f : Fld} {i j : Nat} {b : Bool} (hf : timeReg f.id = false := by rfl) :
    KeepsRails s (t.setFlag f i j b) := h.setReg hf

theorem withPm (h : KeepsRails s t) {x : PmState} : KeepsRails s (t.withPm x) := ⟨h.rails, h.ras, h.reg⟩
theorem withTm (h : KeepsRails s t) {x : TmState} : KeepsRails s (t.withTm x) := ⟨h.rails, h.ras, h.reg⟩
theorem withHerd (h : KeepsRails s t) {x : HerdState} : KeepsRails s (t.withHerd x) := ⟨h.rails, h.ras, h.reg⟩
theorem emit (h : KeepsRails s t) {o : Out} : KeepsRails s (t.emit o) := ⟨h.rails, h.ras, h.reg⟩

theorem withPower (h : KeepsRails s t) {x : PowerState} (hx : x.rails = t.power.rails := by rfl) :
    KeepsRails s (t.withPower x) := ⟨hx.trans h.rails, h.ras, h.reg⟩

theorem each {α : Type} (h : KeepsRails s t) {l : List α} {f : α → State → State}
    (hf : ∀ a u, KeepsRails s u → KeepsRails s (f a u)) : KeepsRails s (t.each l f) :=
  each_induction l t h hf

/-! ## Error counts, steer memory and frames -/

theorem ecc (h : KeepsRails s t) {d src ev n : Nat} : KeepsRails s (t.ecc d src ev n) := by
  unfold State.ecc
  split
  · exact h.setFld.setFld
  · exact h.setFld

theorem ueLog (h : KeepsRails s t) {d addr : Nat} {tag : W32} : KeepsRails s (t.ueLog d addr tag) := by
  unfold State.ueLog State.ringNext
  dsimp only
  split
  · exact h.setFld.setFld.setFld.setFld.setFld.setFlag
  · exact h.setFld.setFld.setFld.setFld.setFlag

theorem tallyWord (h : KeepsRails s t) {d src addr : Nat} {k : PoisonKind} {origin : Nat} {w : W40} :
    KeepsRails s (t.tallyWord d src addr k origin w).2 := by
  unfold State.tallyWord
  extract_lets r
  split
  all_goals dsimp only
  · exact h
  · exact h.ecc
  · exact h.ecc
  · exact h.ecc.ueLog

theorem steerStore (h : KeepsRails s t) {core w : Nat} {p : PW} : KeepsRails s (t.steerStore core w p) := h.withTm

theorem steerMerge (h : KeepsRails s t) {core w mask data : Nat} : KeepsRails s (t.steerMerge core w mask data) := by
  have hr : KeepsRails s (t.steerWord core w).2 := h.tallyWord
  unfold State.steerMerge
  dsimp only
  split
  · split
    · exact hr.steerStore
    · exact hr
  · exact hr.steerStore

theorem steerWriteWords (h : KeepsRails s t) {core : Nat} {ws : List TmWord} : KeepsRails s (t.steerWriteWords core ws) := by
  refine h.each fun w u hu => ?_
  split
  · exact hu.steerStore
  · exact hu.steerMerge

theorem offerFrame (h : KeepsRails s t) {p : Nat} {f : Frame} : KeepsRails s (t.offerFrame p f) := by
  unfold State.offerFrame
  split
  · exact h.emit.emit.setFld
  · split
    · exact h.withHerd.withHerd.emit.emit.setFld
    · exact h.withHerd

theorem sendFrame (h : KeepsRails s t) {f : Frame} {u : State} (hu : t.sendFrame f = some u) : KeepsRails s u := by
  unfold State.sendFrame at hu
  split at hu
  · cases hu
  · cases hu
  · obtain rfl := Option.some.inj hu
    split
    · exact h.offerFrame.setFlag
    · exact h.offerFrame

theorem deliverMsg (h : KeepsRails s t) {n x src : Nat} {payload : List Byte} :
    KeepsRails s (t.deliverMsg n x src payload).2 := by
  unfold State.deliverMsg State.deliverMsgWords
  dsimp only
  split
  · exact h
  · exact h.steerWriteWords.setFld.setFld

theorem msgToShepherd (h : KeepsRails s t) {n x : Nat} {payload : List Byte} :
    KeepsRails s (t.msgToShepherd n x payload).2 := by
  unfold State.msgToShepherd
  split
  · exact h
  · split
    · exact h.deliverMsg
    · dsimp only
      split
      next => exact h
      next u hu => exact (h.sendFrame hu).withHerd

/-! ## Throttle accounts and alerts -/

theorem powerAlert (h : KeepsRails s t) {r : Nat} : KeepsRails s (t.powerAlert r) := by
  unfold State.powerAlert
  split
  · extract_lets payload
    have hm : KeepsRails s (t.msgToShepherd (t.fld .PM_ALERT_DEST_CORE 0 0) (t.fld .PM_ALERT_DEST_CONTEXT 0 0) payload).2 :=
      h.msgToShepherd
    split
    next u hu =>
      rw [hu] at hm
      exact hm.setFlag
    next u hu =>
      rw [hu] at hm
      exact hm.setFlag
  · exact h

theorem throttle (h : KeepsRails s t) {r : Nat} {on : Bool} : KeepsRails s (t.throttle r on) := by
  unfold State.throttle
  dsimp only
  split
  · exact h
  · split
    · split
      · exact h.withPower.setFld.setFld
      · exact h.withPower.setFld.setFld.powerAlert
    · exact h.setFld.withPm.setFld.withPower (by rw [State.setFld_power])

theorem reasons (h : KeepsRails s t) : KeepsRails s t.reasons := by
  unfold State.reasons
  extract_lets s1 below gated rail broken s2 s3
  have h1 : KeepsRails s s1 := by
    refine h.each fun g u hu => ?_
    split
    · exact hu
    · exact hu.withPm
  have h2 : KeepsRails s s2 := h1.throttle.throttle.throttle.throttle
  have h3 : KeepsRails s s3 := h2.throttle.throttle.throttle
  exact h3.setFlag

theorem forceOp0 (h : KeepsRails s t) : KeepsRails s t.forceOp0 := by
  refine h.each fun g u hu => ?_
  dsimp only
  split
  · exact hu.setFld.setFld.setFlag.withPm
  · exact hu.setFld.setFld

theorem alert (h : KeepsRails s t) {n : Nat} : KeepsRails s (t.alert n) :=
  h.setFlag.setFlag.withPm.forceOp0.throttle.reasons

end KeepsRails

end Sys2Proof.Machine
end

section
/-! Power on, resets and the boot (R536, R626 to R632, R642, R643, R648, R649). -/
namespace Sys2Proof.Machine

open Sys2Proof

/-! ## Removal of the main rails -/

/-- R632: what follows the removal of the rails, the power manager's stop and its accounts, leaves them off. -/
theorem rails_railsDown (s : State) : s.railsDown.power.rails = false := by
  unfold State.railsDown
  extract_lets s1 s2 s3 s4 power pins s5 s6 s7 pm s8
  have h6 : KeepsRails s5 s6 := (KeepsRails.refl s5).each fun g t h => h.setFld.setFld.setFlag
  have h7 : KeepsRails s5 s7 := h6.each fun r t h => h.setFld
  have h8 : KeepsRails s5 s8 := h7.setFlag.withPm
  exact h8.setFld.setFld.throttle.reasons.rails

/-! ## The cold reset -/

theorem sget_filter_of_dropped {α : Type} (d : Nat → α) (p : Nat → Bool) (m : Sparse α) {k : Nat} (hk : p k = false) :
    sget d (m.filter (fun e => p e.1)) k = d k := by
  induction m with
  | nil => rfl
  | cons e m ih =>
    by_cases he : p e.1 = true
    · have hne : e.1 ≠ k := fun h => by rw [h, hk] at he; exact Bool.false_ne_true he
      rw [List.filter_cons_of_pos (p := fun e : Nat × α => p e.1) he, sget, if_neg hne, ih]
    · rw [List.filter_cons_of_neg (p := fun e : Nat × α => p e.1) he, ih]

theorem ctorIdx_of_timeReg {id : RegId} (h : timeReg id = true) :
    RegId.FT_NOW.ctorIdx = id.ctorIdx ∨ RegId.FT_STATUS.ctorIdx = id.ctorIdx ∨ RegId.FT_STK_STATE.ctorIdx = id.ctorIdx := by
  simpa [timeReg] using h

/-- The registers of fleet time are none of those that a reset keeps (R626). -/
theorem fusedRegs_any_of_timeReg {id : RegId} (h : timeReg id = true) :
    fusedRegs.any (fun r => r.ctorIdx == id.ctorIdx) = false ∧ (RegId.TH_HU_STATUS.ctorIdx == id.ctorIdx) = false := by
  rcases ctorIdx_of_timeReg h with h | h | h <;> rw [← h] <;> decide

theorem resetVal_of_timeReg {id : RegId} (h : timeReg id = true) (i j : Nat) : resetVal (regKey id i j) = 0 := by
  refine resetVal_unlisted ?_
  rw [regKey_number]
  rcases ctorIdx_of_timeReg h with h | h | h <;> rw [← h] <;> rfl

/-- Fleet time at 0, the main rails off and the soft-fuse table `fuses`: what a cold reset leaves (R56, R626). -/
structure ColdStart (fuses : List SoftFuse) (s : State) : Prop where
  reg : ∀ id i j, timeReg id = true → s.reg id i j = 0
  rails : s.power.rails = false
  fuses : s.ras.fuses = fuses

theorem ColdStart.of_keepsRails {fuses : List SoftFuse} {s t : State} (h : ColdStart fuses s) (hk : KeepsRails s t) :
    ColdStart fuses t where
  reg id i j ht := (hk.reg id i j ht).trans (h.reg id i j ht)
  rails := hk.rails.trans h.rails
  fuses := hk.ras ▸ h.fuses

theorem ColdStart.fld {fuses : List SoftFuse} {s : State} (h : ColdStart fuses s) {f : Fld} (hf : timeReg f.id = true)
    (i j : Nat) : s.fld f i j = 0 := by
  rw [State.fld, h.reg f.id i j hf]
  simp [getBits]

/-- R626: a reset of everything keeps the soft-fuse table, and fleet time begins anew. -/
theorem coldStart_svcReset (s : State) (cold : Bool) : ColdStart s.ras.fuses (s.svcReset cold) := by
  unfold State.svcReset
  extract_lets seq kept life img au ents svc₀ svc pins₀ pins reset ras pm r r0 r1
  have hr : ColdStart s.ras.fuses r := by
    refine ⟨fun id i j ht => ?_, rfl, rfl⟩
    have hkept : kept (regKey id i j) = false := by
      obtain ⟨hfused, hstatus⟩ := fusedRegs_any_of_timeReg ht
      simp only [kept, keyId, regKey_number, hfused, hstatus, Bool.and_false, Bool.or_false]
    exact (sget_filter_of_dropped resetVal kept s.regs hkept).trans (resetVal_of_timeReg ht i j)
  have h1 : KeepsRails r r1 := (KeepsRails.refl r).setFld.setFld.setFld.setFld.setFlag
  exact hr.of_keepsRails h1.setFlag.setFlag

theorem KeepsRails.svcStart {s t : State} (h : KeepsRails s t) : KeepsRails s t.svcStart := by
  unfold State.svcStart
  extract_lets rec_ s1 unclean s2 s3
  have h1 : KeepsRails s s1 := h.each fun k u hu => hu.setReg
  have h2 : KeepsRails s s2 := by
    dsimp only [s2]
    split
    · exact h1.setFlag
    · exact h1
  have h3 : KeepsRails s s3 := by
    dsimp only [s3]
    split
    · exact h2.setFlag.alert
    · exact h2
  split
  · exact h3.setFlag.alert
  · exact h3

theorem coldStart_coldReset (s : State) : ColdStart s.ras.fuses s.coldReset :=
  (coldStart_svcReset s true).of_keepsRails (KeepsRails.refl _).setReg.setFlag.setFlag.setFlag.svcStart

/-! ## The stages of the boot (R628, R648, R649) -/

section
variable {s : State} {b : BootIn}

theorem bootStage_setStage (n : Nat) : (s.setStage n).bootStage = n % 16 := fld_setFld_same _ _ _ _ _ (by decide)

@[simp] theorem power_setStage (n : Nat) : (s.setStage n).power = s.power := State.setFld_power ..

@[simp] theorem power_bootFail (r : Nat) : (s.bootFail r).power = s.power := State.setFld_power ..

theorem bootResult_bootFail (r : Nat) : (s.bootFail r).bootResult = r % 16 := fld_setFld_same _ _ _ _ _ (by decide)

theorem runStage_four (h : s.bootStage = 4) : s.runStage b = s.bootRails b := by simp only [State.runStage, h]
theorem runStage_five (h : s.bootStage = 5) : s.runStage b = s.bootPlls b := by simp only [State.runStage, h]
theorem runStage_eleven (h : s.bootStage = 11) : s.runStage b = s := by simp only [State.runStage, h]

/-- R628: stage 3 waits for PWR_EN. -/
theorem runStage_three_waits (h : s.bootStage = 3) (hen : s.pins.pwrEn = false) : s.runStage b = s := by
  simp only [State.runStage, h]
  exact if_neg (by simp [hen])

theorem rails_each_trStart (l : List Nat) : (s.each l (fun a t => t.trStart a)).power.rails = s.power.rails :=
  each_induction (P := fun t => t.power.rails = s.power.rails) l s rfl fun _ _ h => h

/-- Main rails in regulation: the boot goes on to stage 5 with PWR_GOOD high. -/
theorem bootRails_passes (h : b.rails = true) :
    ∃ t : State, s.bootRails b = t.setStage 5 ∧ t.power.rails = true ∧ t.pins.pwrGood = true := by
  unfold State.bootRails
  extract_lets s1 power
  rw [if_pos h]
  exact ⟨_, rfl, by rw [State.withPins_power, rails_each_trStart]; rfl, rfl⟩

/-- R648: a rail that is not in regulation. -/
theorem bootRails_fails (h : b.rails = false) :
    (s.bootRails b).bootResult = 3 ∧ (s.bootRails b).power.rails = false := by
  unfold State.bootRails
  extract_lets s1 power
  rw [if_neg (by simp [h])]
  exact ⟨bootResult_bootFail 3, by rw [power_bootFail, rails_railsDown]⟩

/-- Every PLL locks: the boot goes on to stage 6 with the clocks on. -/
theorem bootPlls_passes (h : b.plls = true) : (s.bootPlls b).bootStage = 6 ∧ (s.bootPlls b).power.clocks = true := by
  unfold State.bootPlls
  rw [if_pos h]
  extract_lets power s1 ports
  have hports : (s1.each ports fun p t => t.setFld .HL_PORT_STATUS_STATE p 0 1).power.clocks = true :=
    each_induction (P := fun t => t.power.clocks = true) ports s1 rfl fun _ _ ht => by rw [State.setFld_power, ht]
  exact ⟨bootStage_setStage 6, by rw [power_setStage, hports]⟩

/-- R649: a PLL that does not lock. -/
theorem bootPlls_fails (h : b.plls = false) : (s.bootPlls b).bootResult = 4 ∧ (s.bootPlls b).power.rails = false := by
  rw [State.bootPlls, if_neg (by simp [h])]
  exact ⟨bootResult_bootFail 4, by rw [power_bootFail, rails_railsDown]⟩

/-- A module that is RUNNING has no stage left to run. -/
theorem bootRun_eleven (h : s.bootStage = 11) (n : Nat) : s.bootRun b n = s := by
  induction n with
  | zero => rfl
  | succ n ih => rw [State.bootRun, runStage_eleven h, ih, ite_self]

end

/-! ## The commands -/

/-- Settles O60: each command by the branch that its condition takes, and the boot's stages by what they do when they pass
and when they fail. That `bootRun` runs a given number of stages is log entry 37, and that PWR_EN_CYCLE is set where
SV_BOOT.ATTEMPTS is not 0 is log entry 39: the model's choices. -/
theorem bootCommands : Obligations.BootCommands := by
  refine ⟨fun s => ⟨?powerOn, ?coldReset, ?coldResetInSave, ?coldStart, ?coldResetHeld, ?holdEnd, ?shortPulse, rfl, ?boot,
    ?retry, ?enable, ?disable, ?railFault, ?linkReset, ?linkTrain⟩,
    fun s b _ => ⟨?railsPass, ?railsFail, ?pllsPass, ?pllsFail, runStage_three_waits, fun n h => bootRun_eleven h n⟩⟩
  case powerOn => exact fun addr hoff => congrArg Host.Outcome.next (if_neg (by simp [hoff]))
  case coldReset =>
    intro hon hsave htrip
    exact congrArg Host.Outcome.next ((if_neg (by simp [hon, hsave])).trans (if_neg (by simp [htrip])))
  case coldResetInSave => exact fun hsave => congrArg Host.Outcome.next (if_pos (.inr hsave))
  case coldStart =>
    have h := coldStart_coldReset s
    exact ⟨h.fld rfl 0 0, h.fld rfl 0 0, fun k _ => h.fld rfl k 0, h.rails, h.fuses⟩
  case coldResetHeld =>
    intro hon hsave htrip hcool
    exact congrArg Host.Outcome.next ((if_neg (by simp [hon, hsave])).trans (if_pos ⟨htrip, hcool⟩))
  case holdEnd => exact fun hheld hsave hcool => congrArg Host.Outcome.next (if_pos ⟨hheld, hsave, hcool⟩)
  case shortPulse => exact fun hon => congrArg Host.Outcome.next (if_pos hon)
  case boot => exact fun b n hon hsave htrip => congrArg Host.Outcome.next (if_pos ⟨hon, hsave, htrip⟩)
  case retry =>
    exact fun b n hon hstage hresult hen htrip => congrArg Host.Outcome.next (if_pos ⟨hon, hstage, hresult, hen, htrip⟩)
  case enable =>
    intro b n hen hon hstage hsave htrip
    exact congrArg Host.Outcome.next ((if_neg (by simp [hen])).trans (if_pos ⟨hon, hstage, hsave, htrip⟩))
  case disable => exact fun hen hon => congrArg Host.Outcome.next ((if_pos hen).trans (if_pos hon))
  case railFault => exact fun hstage hresult => congrArg Host.Outcome.next (if_pos ⟨hstage, hresult⟩)
  case linkReset => exact fun e hrails he => congrArg Host.Outcome.next (if_pos ⟨hrails, he⟩)
  case linkTrain => exact fun e hrails he => congrArg Host.Outcome.next (if_pos ⟨hrails, he⟩)
  case railsPass =>
    intro hstage hb
    rw [runStage_four hstage]
    exact bootRails_passes hb
  case railsFail =>
    intro hstage hb
    rw [runStage_four hstage]
    exact bootRails_fails hb
  case pllsPass =>
    intro hstage hb
    rw [runStage_five hstage]
    exact bootPlls_passes hb
  case pllsFail =>
    intro hstage hb
    rw [runStage_five hstage]
    exact bootPlls_fails hb

end Sys2Proof.Machine
end

section
/-! The Sloak encoding table: rows that a common word matches are of one instruction (R352). -/
namespace Sys2Proof.Machine

open Sys2Proof

/-- Two rows whose values agree under both masks encode the same instruction. -/
theorem slTable_op_eq : ∀ r ∈ slTable, ∀ q ∈ slTable, r.val &&& q.mask = q.val &&& r.mask → r.op = q.op := by
  decide +kernel

/-- Rows that match one word agree under both masks. -/
theorem val_and_mask_eq_of_matches {w : Nat} {r q : SlRow} (hr : w &&& r.mask = r.val) (hq : w &&& q.mask = q.val) :
    r.val &&& q.mask = q.val &&& r.mask := by
  rw [← hr, ← hq, Nat.and_right_comm]

theorem slDecode_eq_some_of_matches {w : Nat} {r : SlRow} (hmem : r ∈ slTable) (hr : w &&& r.mask = r.val) :
    slDecode w = some r.op := by
  have hsome : (slTable.find? (fun q => w &&& q.mask == q.val)).isSome :=
    List.find?_isSome.mpr ⟨r, hmem, by simpa using hr⟩
  obtain ⟨q, hq⟩ := Option.isSome_iff_exists.mp hsome
  have hqmatch : w &&& q.mask = q.val := by simpa using List.find?_some hq
  have hop := slTable_op_eq q (List.mem_of_find?_eq_some hq) r hmem (val_and_mask_eq_of_matches hqmatch hr)
  rw [slDecode, hq, Option.map_some, hop]

theorem slDecode_eq_none_of_unmatched {w : Nat} (h : ∀ r ∈ slTable, w &&& r.mask ≠ r.val) : slDecode w = none := by
  rw [slDecode, Option.map_eq_none_iff, List.find?_eq_none]
  simpa using h

/-- Settles O6: the first row that matches a word has the operation of every row that does. -/
theorem sloakDecoding : Obligations.SloakDecoding :=
  ⟨fun _ _ hmem hr => slDecode_eq_some_of_matches hmem hr, fun _ h => slDecode_eq_none_of_unmatched h⟩

end Sys2Proof.Machine
end

section
/-! The address map (R15, R17): the offsets of a place, its indexes back, and that no offset lies in two places. -/
namespace Sys2Proof.Machine

open Sys2Proof

/-! ## Indexes and offsets under (count, stride) pairs -/

/-- Indexes that their counts allow. -/
abbrev InCounts : List (Nat × Nat) → List Nat → Prop := List.Forall₂ (fun d x => x < d.1)

/-- The byte offset of indexes. -/
def strideSum : List (Nat × Nat) → List Nat → Nat
  | (_, st) :: ds, x :: xs => x * st + strideSum ds xs
  | _, _ => 0

/-- The number of indexes under a list of pairs. -/
def countProd (ds : List (Nat × Nat)) : Nat := ds.foldl (fun m d => m * d.1) 1

/-- The bytes from the first one of a place to the end of its last register, of `w` bytes. -/
def extent (w : Nat) : List (Nat × Nat) → Nat
  | [] => w
  | (n, st) :: ds => (n - 1) * st + extent w ds

/-- Each stride spans all that the pairs after it spell. -/
def nested (w : Nat) : List (Nat × Nat) → Bool
  | [] => true
  | (_, st) :: ds => Nat.ble (extent w ds) st && nested w ds

theorem foldl_counts (ds : List (Nat × Nat)) (a : Nat) : ds.foldl (fun m d => m * d.1) a = a * countProd ds := by
  induction ds generalizing a with
  | nil => exact (Nat.mul_one a).symm
  | cons d ds ih => rw [countProd, List.foldl_cons, List.foldl_cons, ih, ih, Nat.one_mul, Nat.mul_assoc]

theorem countProd_cons (d : Nat × Nat) (ds : List (Nat × Nat)) : countProd (d :: ds) = d.1 * countProd ds := by
  rw [countProd, List.foldl_cons, foldl_counts, Nat.one_mul]

theorem strideSum_append {ds es : List (Nat × Nat)} {xs ys : List Nat} (h : InCounts ds xs) :
    strideSum (ds ++ es) (xs ++ ys) = strideSum ds xs + strideSum es ys := by
  induction h with
  | nil => exact (Nat.zero_add _).symm
  | cons _ _ ih => rw [List.cons_append, List.cons_append, strideSum, strideSum, ih, Nat.add_assoc]

theorem strideSum_add_lt_extent {ds : List (Nat × Nat)} {xs : List Nat} {w r : Nat} (h : InCounts ds xs) (hr : r < w) :
    strideSum ds xs + r < extent w ds := by
  induction h with
  | nil => simpa [strideSum, extent] using hr
  | @cons d x ds xs hx _ ih =>
    have hle : x * d.2 ≤ (d.1 - 1) * d.2 := Nat.mul_le_mul_right _ (by omega)
    rw [strideSum, extent]
    omega

/-- The indexes of an offset are found again, each by its stride. -/
theorem unstride_strideSum {ds : List (Nat × Nat)} {xs : List Nat} {w r : Nat} (h : InCounts ds xs) (hn : nested w ds = true)
    (hr : r < w) : unstride ds (strideSum ds xs + r) = some (xs, r) := by
  induction h with
  | nil => simp [strideSum, unstride]
  | @cons d x ds xs hx htail ih =>
    rw [nested, Bool.and_eq_true, Nat.ble_eq] at hn
    have hlt : strideSum ds xs + r < d.2 := (strideSum_add_lt_extent htail hr).trans_le hn.1
    have hdiv : (x * d.2 + (strideSum ds xs + r)) / d.2 = x := by
      rw [Nat.mul_comm, Nat.mul_add_div (by omega), Nat.div_eq_of_lt hlt, Nat.add_zero]
    have hmod : (x * d.2 + (strideSum ds xs + r)) % d.2 = strideSum ds xs + r := by
      rw [Nat.mul_comm, Nat.mul_add_mod, Nat.mod_eq_of_lt hlt]
    rw [strideSum, Nat.add_assoc, unstride, hdiv, hmod, if_pos hx, ih hn.2]

theorem inCounts_of_unstride {ds : List (Nat × Nat)} {xs : List Nat} {o r : Nat} (h : unstride ds o = some (xs, r)) :
    InCounts ds xs ∧ o = strideSum ds xs + r := by
  induction ds generalizing o xs with
  | nil =>
    cases h
    exact ⟨.nil, (Nat.zero_add _).symm⟩
  | cons d ds ih =>
    rw [unstride] at h
    split at h
    case isFalse => cases h
    next hx =>
    split at h
    case h_2 => cases h
    next hrest =>
    cases h
    obtain ⟨htail, hsum⟩ := ih hrest
    have hdiv := Nat.div_add_mod' o d.2
    exact ⟨.cons hx htail, by rw [strideSum]; omega⟩

/-! ## Two indexes as one number -/

theorem flatIxFrom_eq {ds : List (Nat × Nat)} {xs : List Nat} (h : InCounts ds xs) (a : Nat) :
    flatIx.flatIxFrom ds xs a = a * countProd ds + flatIx ds xs := by
  induction h generalizing a with
  | nil => simp [flatIx.flatIxFrom, flatIx, countProd]
  | @cons d x ds xs hx _ ih =>
    rw [flatIx.flatIxFrom, ih, flatIx, Nat.mod_eq_of_lt hx, ih x, countProd_cons]
    ring

theorem flatIx_cons {d : Nat × Nat} {ds : List (Nat × Nat)} {x : Nat} {xs : List Nat} (hx : x < d.1) (h : InCounts ds xs) :
    flatIx (d :: ds) (x :: xs) = x * countProd ds + flatIx ds xs := by
  rw [flatIx, Nat.mod_eq_of_lt hx, flatIxFrom_eq h]

theorem flatIx_lt_countProd {ds : List (Nat × Nat)} {xs : List Nat} (h : InCounts ds xs) : flatIx ds xs < countProd ds := by
  induction h with
  | nil => exact Nat.one_pos
  | @cons d x ds xs hx htail ih =>
    have hle : (x + 1) * countProd ds ≤ d.1 * countProd ds := Nat.mul_le_mul_right _ hx
    rw [flatIx_cons hx htail, countProd_cons]
    linarith

theorem strideOff_cons (d : Nat × Nat) (ds : List (Nat × Nat)) (k : Nat) :
    strideOff (d :: ds) k = k / countProd ds * d.2 + strideOff ds (k % countProd ds) := rfl

theorem strideOff_flatIx {ds : List (Nat × Nat)} {xs : List Nat} (h : InCounts ds xs) :
    strideOff ds (flatIx ds xs) = strideSum ds xs := by
  induction h with
  | nil => rfl
  | @cons d x ds xs hx htail ih =>
    have hlt := flatIx_lt_countProd htail
    have hdiv : (x * countProd ds + flatIx ds xs) / countProd ds = x := by
      rw [Nat.mul_comm, Nat.mul_add_div (by omega), Nat.div_eq_of_lt hlt, Nat.add_zero]
    have hmod : (x * countProd ds + flatIx ds xs) % countProd ds = flatIx ds xs := by
      rw [Nat.mul_comm, Nat.mul_add_mod, Nat.mod_eq_of_lt hlt]
    rw [flatIx_cons hx htail, strideOff_cons, hdiv, hmod, ih, strideSum]

/-- Every number below the count is the number of some indexes. -/
theorem exists_flatIx_eq {ds : List (Nat × Nat)} {k : Nat} (hk : k < countProd ds) : ∃ xs, InCounts ds xs ∧ flatIx ds xs = k := by
  induction ds generalizing k with
  | nil => exact ⟨[], .nil, (Nat.lt_one_iff.mp hk).symm⟩
  | cons d ds ih =>
    rw [countProd_cons] at hk
    have hpos : 0 < countProd ds := Nat.pos_of_mul_pos_left (Nat.zero_lt_of_lt hk)
    obtain ⟨xs, hxs, hflat⟩ := ih (Nat.mod_lt k hpos)
    have hx : k / countProd ds < d.1 := (Nat.div_lt_iff_lt_mul hpos).mpr hk
    exact ⟨_ :: xs, .cons hx hxs, by rw [flatIx_cons hx hxs, hflat, Nat.div_add_mod']⟩

theorem inDims_iff (ds : List (Nat × Nat)) (k : Nat) : inDims ds k = true ↔ k < countProd ds := decide_eq_true_iff

/-! ## One place -/

/-- The bytes of a register of the place. -/
def Place.bytes (p : Place) : Nat := p.id.info.width / 8

/-- The strides of the place nest, and the pairs of the first index are some of them. -/
def Place.regular (p : Place) : Bool := nested p.bytes p.dims && Nat.ble p.lead p.dims.length && Nat.ble 1 p.bytes

/-- The indexes `xs` and `ys` spell the two indexes `i` and `j` of the register that lies at `off` under this place. -/
structure Place.Spells (p : Place) (xs ys : List Nat) (i j off : Nat) : Prop where
  fstIn : InCounts (p.dims.take p.lead) xs
  sndIn : InCounts (p.dims.drop p.lead) ys
  fst : i = flatIx (p.dims.take p.lead) xs + p.add
  snd : j = flatIx (p.dims.drop p.lead) ys
  off_eq : off = p.base + (strideSum (p.dims.take p.lead) xs + strideSum (p.dims.drop p.lead) ys)

section
variable {p : Place} {xs ys : List Nat} {i j off : Nat}

theorem Place.Spells.inCounts (h : p.Spells xs ys i j off) :
    InCounts p.dims (xs ++ ys) ∧ off = p.base + strideSum p.dims (xs ++ ys) := by
  have hdims := List.take_append_drop p.lead p.dims
  constructor
  · rw [← hdims]
    exact List.rel_append h.fstIn h.sndIn
  · rw [h.off_eq, ← strideSum_append h.fstIn, hdims]

theorem Place.at_of_spells (hp : p.regular = true) (h : p.Spells xs ys i j off) :
    p.at off = some ⟨p.id, i, j, 0, p.dom⟩ := by
  obtain ⟨hcounts, hoff⟩ := h.inCounts
  simp only [Place.regular, Bool.and_eq_true, Nat.ble_eq] at hp
  obtain ⟨⟨hnested, hlead⟩, hbytes⟩ := hp
  have hback : unstride p.dims (off - p.base) = some (xs ++ ys, 0) := by
    rw [hoff, Nat.add_sub_cancel_left]
    exact unstride_strideSum hcounts hnested hbytes
  have hlen : xs.length = p.lead := by rw [← h.fstIn.length_eq, List.length_take, Nat.min_eq_left hlead]
  rw [Place.at, if_neg (by omega), hback]
  simp only [List.take_left' hlen, List.drop_left' hlen, ← h.fst, ← h.snd]
  exact if_pos hbytes

theorem Place.spells_of_at {a : RegRef} (h : p.at off = some a) :
    a.id = p.id ∧ a.byte < p.bytes ∧ ∃ xs ys, p.Spells xs ys a.i a.j (off - a.byte) ∧ a.byte ≤ off := by
  rw [Place.at] at h
  split at h
  · cases h
  next hbase =>
  split at h
  case h_2 => cases h
  next l r hback =>
  split at h
  case isFalse => cases h
  next hr =>
  cases h
  obtain ⟨hcounts, hsum⟩ := inCounts_of_unstride hback
  have htake := List.forall₂_take p.lead hcounts
  have hoff : strideSum p.dims l = strideSum (p.dims.take p.lead) (l.take p.lead) + strideSum (p.dims.drop p.lead) (l.drop p.lead) := by
    rw [← strideSum_append htake, List.take_append_drop, List.take_append_drop]
  exact ⟨rfl, hr, _, _, ⟨htake, List.forall₂_drop p.lead hcounts, rfl, rfl, by dsimp only; omega⟩, by dsimp only; omega⟩

theorem Place.off?_of_spells (h : p.Spells xs ys i j off) : p.off? p.id i j = some off := by
  obtain ⟨hxs, hys, rfl, rfl, rfl⟩ := h
  simp only [Place.off?, Nat.add_sub_cancel, inDims_iff, strideOff_flatIx hxs, strideOff_flatIx hys, Nat.add_assoc]
  exact if_pos ⟨trivial, Nat.le_add_left _ _, flatIx_lt_countProd hxs, flatIx_lt_countProd hys⟩

theorem Place.spells_of_off? {id : RegId} (h : p.off? id i j = some off) : id = p.id ∧ ∃ xs ys, p.Spells xs ys i j off := by
  simp only [Place.off?, inDims_iff] at h
  split at h
  case isFalse => cases h
  next hin =>
  obtain ⟨hid, hadd, hfst, hsnd⟩ := hin
  obtain ⟨xs, hxs, hi⟩ := exists_flatIx_eq hfst
  obtain ⟨ys, hys, hj⟩ := exists_flatIx_eq hsnd
  rw [← hi, ← hj, strideOff_flatIx hxs, strideOff_flatIx hys, Nat.add_assoc] at h
  exact ⟨hid.symm, xs, ys, hxs, hys, by omega, hj.symm, (Option.some.inj h).symm⟩

/-- A register has the offset under a place exactly where the place finds it at that offset. -/
theorem Place.off?_eq_some_iff {id : RegId} (hp : p.regular = true) :
    p.off? id i j = some off ↔ ∃ dom, p.at off = some ⟨id, i, j, 0, dom⟩ := by
  constructor
  · intro h
    obtain ⟨rfl, xs, ys, hspells⟩ := spells_of_off? h
    exact ⟨p.dom, at_of_spells hp hspells⟩
  · rintro ⟨dom, h⟩
    obtain ⟨rfl, -, xs, ys, hspells, -⟩ := spells_of_at h
    exact off?_of_spells hspells

end

/-! ## Two places -/

/-- The first stride of a list of pairs. -/
def firstStride : List (Nat × Nat) → Nat
  | [] => 0
  | (_, st) :: _ => st

/-- The pairs without the first one, where its stride is `st`. -/
def peel (st : Nat) : List (Nat × Nat) → List (Nat × Nat)
  | [] => []
  | (n, st') :: ds => if st' = st then ds else (n, st') :: ds

/-- No register of `w` bytes under the pairs `A` from `a` on meets one of `v` bytes under `B` from `b` on: the two spans are
apart, or, by the larger of the first two strides, those of each single step of it are. The number bounds such steps. -/
def apart (w v a b : Nat) : Nat → List (Nat × Nat) → List (Nat × Nat) → Bool
  | 0, A, B => Nat.ble (a + extent w A) b || Nat.ble (b + extent v B) a
  | k + 1, A, B =>
    let st := max (firstStride A) (firstStride B)
    Nat.ble (a + extent w A) b || Nat.ble (b + extent v B) a ||
      (Nat.ble (a + extent w (peel st A)) (min a b + st) && Nat.ble (b + extent v (peel st B)) (min a b + st) &&
        apart w v a b k (peel st A) (peel st B))

/-- One step of the stride `st` taken off: the offset within it. -/
theorem exists_strideSum_peel {ds : List (Nat × Nat)} {xs : List Nat} (st : Nat) (h : InCounts ds xs) :
    ∃ k ys, InCounts (peel st ds) ys ∧ strideSum ds xs = k * st + strideSum (peel st ds) ys := by
  cases h with
  | nil => exact ⟨0, [], .nil, by simp [strideSum, peel]⟩
  | @cons d x ds xs hx htail =>
    by_cases hst : d.2 = st
    · rw [peel, if_pos hst, strideSum, hst]
      exact ⟨x, xs, htail, rfl⟩
    · rw [peel, if_neg hst]
      exact ⟨0, x :: xs, .cons hx htail, by rw [Nat.zero_mul, Nat.zero_add]⟩

/-- Two offsets within one step of a stride from a common start are equal only in the same step. -/
theorem step_eq_of_window {st c k l x y : Nat} (hx : c ≤ x) (hx' : x < c + st) (hy : c ≤ y) (hy' : y < c + st)
    (h : k * st + x = l * st + y) : x = y := by
  have hk : (k * st + (x - c)) / st = k := by
    rw [Nat.mul_comm, Nat.mul_add_div (by omega), Nat.div_eq_of_lt (by omega), Nat.add_zero]
  have hl : (l * st + (y - c)) / st = l := by
    rw [Nat.mul_comm, Nat.mul_add_div (by omega), Nat.div_eq_of_lt (by omega), Nat.add_zero]
  have hkl : k = l := by rw [← hk, ← hl, show k * st + (x - c) = l * st + (y - c) by omega]
  rw [hkl] at h
  exact Nat.add_left_cancel h

theorem ne_of_apart {w v a b r q : Nat} (hr : r < w) (hq : q < v) {k : Nat} {A B : List (Nat × Nat)} {xs ys : List Nat}
    (hxs : InCounts A xs) (hys : InCounts B ys) (h : apart w v a b k A B = true) :
    a + (strideSum A xs + r) ≠ b + (strideSum B ys + q) := by
  have hA := strideSum_add_lt_extent hxs hr
  have hB := strideSum_add_lt_extent hys hq
  induction k generalizing A B xs ys with
  | zero =>
    simp only [apart, Bool.or_eq_true, Nat.ble_eq] at h
    omega
  | succ k ih =>
    simp only [apart, Bool.or_eq_true, Bool.and_eq_true, Nat.ble_eq] at h
    generalize max (firstStride A) (firstStride B) = st at h
    rcases h with h | ⟨⟨hwA, hwB⟩, hrest⟩
    · omega
    · obtain ⟨m, xs', hxs', hm⟩ := exists_strideSum_peel st hxs
      obtain ⟨n, ys', hys', hn⟩ := exists_strideSum_peel st hys
      have hA' := strideSum_add_lt_extent hxs' hr
      have hB' := strideSum_add_lt_extent hys' hq
      intro heq
      exact ih hxs' hys' hrest hA' hB' (step_eq_of_window (st := st) (c := min a b) (k := m) (l := n) (by omega) (by omega)
        (by omega) (by omega) (by omega))

/-- The places lie apart, and where they are of one register, so do their first indexes. -/
def Place.apart (p q : Place) : Bool :=
  Machine.apart p.bytes q.bytes p.base q.base (p.dims.length + q.dims.length) p.dims q.dims &&
    (Nat.ble (p.add + countProd (p.dims.take p.lead)) q.add || Nat.ble (q.add + countProd (q.dims.take q.lead)) p.add ||
      !(Nat.beq p.id.ctorIdx q.id.ctorIdx))

theorem Place.at_eq_none_of_apart {p q : Place} (h : p.apart q = true) {off : Nat} {a : RegRef} (ha : p.at off = some a) :
    q.at off = none := by
  by_contra hq
  obtain ⟨b, hb⟩ := Option.ne_none_iff_exists'.mp hq
  obtain ⟨-, hpbyte, xs, ys, hp, hpoff⟩ := spells_of_at ha
  obtain ⟨-, hqbyte, xs', ys', hq, hqoff⟩ := spells_of_at hb
  obtain ⟨hpin, hpsum⟩ := hp.inCounts
  obtain ⟨hqin, hqsum⟩ := hq.inCounts
  rw [Place.apart, Bool.and_eq_true] at h
  exact ne_of_apart hpbyte hqbyte hpin hqin h.1 (by omega)

theorem Place.off?_eq_none_of_apart {p q : Place} (h : p.apart q = true) {id : RegId} {i j off : Nat}
    (hp : p.off? id i j = some off) : q.off? id i j = none := by
  by_contra hq
  obtain ⟨off', hq⟩ := Option.ne_none_iff_exists'.mp hq
  obtain ⟨hpid, xs, ys, hp⟩ := spells_of_off? hp
  obtain ⟨hqid, xs', ys', hq⟩ := spells_of_off? hq
  have hpfst := flatIx_lt_countProd hp.fstIn
  have hqfst := flatIx_lt_countProd hq.fstIn
  have hpi := hp.fst
  have hqi := hq.fst
  simp only [Place.apart, Bool.and_eq_true, Bool.or_eq_true, Nat.ble_eq, ← hpid, ← hqid] at h
  obtain ⟨-, h | h⟩ := h
  · omega
  · rw [Nat.beq_refl] at h
    cases h

/-! ## The table -/

theorem places_regular : ∀ p ∈ places, p.regular = true := by decide +kernel

theorem places_apart : places.Pairwise (fun p q => p.apart q = true) := by decide +kernel

theorem findSome?_eq_some_iff_of_pairwise {α β : Type} {l : List α} {f : α → Option β} {b : β}
    (h : l.Pairwise (fun x y => ∀ c, f x = some c → f y = none)) :
    l.findSome? f = some b ↔ ∃ x ∈ l, f x = some b := by
  constructor
  · exact List.exists_of_findSome?_eq_some
  · rintro ⟨x, hx, hb⟩
    induction h with
    | nil => cases hx
    | @cons y l hy _ ih =>
      cases hfy : f y with
      | none =>
        rcases List.mem_cons.mp hx with rfl | hx
        · rw [hb] at hfy; cases hfy
        · rw [List.findSome?_cons, hfy]; exact ih hx
      | some c =>
        rcases List.mem_cons.mp hx with rfl | hx
        · rw [List.findSome?_cons, hb]
        · rw [hy x hx c hfy] at hb; cases hb

theorem offset?_eq_some_iff (id : RegId) (i j off : Nat) :
    offset? id i j = some off ↔ ∃ p ∈ places, p.off? id i j = some off :=
  findSome?_eq_some_iff_of_pairwise (places_apart.imp fun h _ hp => Place.off?_eq_none_of_apart h hp)

theorem regAt_eq_some_iff (off : Nat) (a : RegRef) : regAt off = some a ↔ ∃ p ∈ places, p.at off = some a :=
  findSome?_eq_some_iff_of_pairwise (places_apart.imp fun h _ hp => Place.at_eq_none_of_apart h hp)

/-- Settles O5: each place gives its registers the offsets at which it finds them, and no two places meet. -/
theorem registerAddresses : Obligations.RegisterAddresses := by
  intro id i j off
  simp only [offset?_eq_some_iff, regAt_eq_some_iff]
  constructor
  · rintro ⟨p, hp, hoff⟩
    obtain ⟨dom, hat⟩ := (Place.off?_eq_some_iff (places_regular p hp)).mp hoff
    exact ⟨dom, p, hp, hat⟩
  · rintro ⟨dom, p, hp, hat⟩
    exact ⟨p, hp, (Place.off?_eq_some_iff (places_regular p hp)).mpr ⟨dom, hat⟩⟩

end Sys2Proof.Machine
end

section
/-! Integer, immediate, predicate and move instructions: what each completes with (R383 to R388). -/
namespace Sys2Proof.Machine

open Sys2Proof

/-! ## A command that is one of the shared forms -/

section
variable {cmd : Nat → Nat → Instr} {op : SlOp}

theorem writesAlu_of_exec {f : W64 → W64 → W64}
    (hexec : ∀ core x s, exec (cmd core x) s = .next (s.slAlu op core x f)) : WritesAlu cmd op f :=
  fun s _ core x _ h => (hexec core x s).trans (congrArg _ (slRun_guarded h rfl))

theorem writesAlu1_of_exec {f : W64 → W64}
    (hexec : ∀ core x s, exec (cmd core x) s = .next (s.slAlu1 op core x f)) : WritesAlu1 cmd op f :=
  fun s _ core x _ h => (hexec core x s).trans (congrArg _ (slRun_guarded h rfl))

theorem writesImm_of_exec {f : SlI → W64 → W64}
    (hexec : ∀ core x s, exec (cmd core x) s = .next (s.slImmOp op core x f)) : WritesImm cmd op f :=
  fun s _ core x _ h => (hexec core x s).trans (congrArg _ (slRun_done h rfl))

theorem writesCmp_of_exec {f : W64 → W64 → Bool}
    (hexec : ∀ core x s, exec (cmd core x) s = .next (s.slCompare op core x f)) : WritesCmp cmd op f :=
  fun s _ core x _ h => (hexec core x s).trans (congrArg _ (slRun_guarded h rfl))

theorem writesLogic_of_exec {f : Bool → Bool → Bool}
    (hexec : ∀ core x s, exec (cmd core x) s = .next (s.slLogic op core x f)) : WritesLogic cmd op f :=
  fun s _ core x _ h => (hexec core x s).trans (congrArg _ (slRun_guarded h rfl))

end

/-- A command that runs a guarded body, which completes. -/
theorem exec_of_runs {s t u : State} {op : SlOp} {core x : Nat} {i : SlI} {c : Instr} {body : SlI → State → SlOut}
    (hexec : exec c s = .next (s.slRun op core x (slGuarded body))) (h : s.runs t op core x i) (hb : body i t = .done u) :
    exec c s = .next u :=
  hexec.trans (congrArg _ (slRun_guarded h hb))

/-- A command that runs an unguarded body, which completes. -/
theorem exec_of_issues {s t u : State} {op : SlOp} {core x : Nat} {i : SlI} {c : Instr} {body : SlI → State → SlOut}
    (hexec : exec c s = .next (s.slRun op core x body)) (h : s.issues t op core x i) (hb : body i t = .done u) :
    exec c s = .next u :=
  hexec.trans (congrArg _ (slRun_done h hb))

/-- Settles O9: each integer or immediate instruction is one of the shared forms, with its function. -/
theorem integerResults : Obligations.IntegerResults := by
  refine ⟨⟨?_, ?_, ?_, ?_, ?_, ?_, ?_, ?_, ?_, ?_, ?_, ?_, ?_, ?clz, ?popc, ?_, ?_, ?_, ?_, ?_, ?_, ?_⟩,
    ?addi, ?andi, ?ori, ?xori, ?shli, ?shri, ?srai, ?lui, ?li32, ?orhi, ?addi32⟩
  case lui => exact fun s t core x i h => exec_of_issues rfl h rfl
  case li32 => exact fun s t core x i h => exec_of_runs rfl h rfl
  case orhi => exact fun s t core x i h => exec_of_runs rfl h rfl
  case addi32 => exact fun s t core x i h => exec_of_runs rfl h rfl
  case clz => exact writesAlu1_of_exec fun _ _ _ => rfl
  case popc => exact writesAlu1_of_exec fun _ _ _ => rfl
  case addi => exact writesImm_of_exec fun _ _ _ => rfl
  case andi => exact writesImm_of_exec fun _ _ _ => rfl
  case ori => exact writesImm_of_exec fun _ _ _ => rfl
  case xori => exact writesImm_of_exec fun _ _ _ => rfl
  case shli => exact writesImm_of_exec fun _ _ _ => rfl
  case shri => exact writesImm_of_exec fun _ _ _ => rfl
  case srai => exact writesImm_of_exec fun _ _ _ => rfl
  all_goals exact writesAlu_of_exec fun _ _ _ => rfl

/-- Settles O10: each compare, predicate instruction and move is one of the shared forms or its own body. That DSET takes the
tag of a poisoned ra before that of the old d register is log entry 26: the model's choice. -/
theorem predicateAndMoveResults : Obligations.PredicateAndMoveResults := by
  refine ⟨⟨?_, ?_, ?_, ?_, ?_, ?_, ?_, ?_, ?pand, ?por, ?pxor, ?pandn, ?pnot, ?pset, ?pclr⟩,
    fun s t core x i => ⟨?_, ?_, ?_, ?_, ?_, ?_⟩⟩
  case pand => exact writesLogic_of_exec fun _ _ _ => rfl
  case por => exact writesLogic_of_exec fun _ _ _ => rfl
  case pxor => exact writesLogic_of_exec fun _ _ _ => rfl
  case pandn => exact writesLogic_of_exec fun _ _ _ => rfl
  case pnot => exact fun s t core x i h => exec_of_runs rfl h rfl
  case pset => exact fun s t core x i h => exec_of_runs rfl h rfl
  case pclr => exact fun s t core x i h => exec_of_runs rfl h rfl
  iterate 8 exact writesCmp_of_exec fun _ _ _ => rfl
  all_goals exact fun h => exec_of_runs rfl h rfl

/-- A guarded instruction that issues with its guard at a clean 0 goes on to the next one, and with its guard poisoned traps
POISON (R345, R382). -/
theorem exec_of_guard {s t : State} {op : SlOp} {core x : Nat} {i : SlI} {c : Instr} {body : SlI → State → SlOut}
    (hexec : exec c s = .next (s.slRun op core x (slGuarded body))) (h : s.issues t op core x i) :
    ((t.slP i.core i.ctx i.pg).poison = false → (t.slP i.core i.ctx i.pg).val = false → exec c s = .next (t.slNext i)) ∧
    ((t.slP i.core i.ctx i.pg).poison = true → s.owesAnswer core x = false →
      exec c s = .next ((t.bite (coreDie i.core) 1).slTrap core x 4 2 (t.slP i.core i.ctx i.pg).tag i.pc)) := by
  constructor
  · exact fun hp hv => hexec.trans (congrArg _ (slRun_done h (slGuarded_off hp hv)))
  · exact fun hp ho => hexec.trans (congrArg _ (slRun_trap h (slGuarded_poison hp) ho))

/-- Settles O16: every row of the list runs a guarded body. That an X-format instruction with a poisoned guard traps is log
entry 96: the model's choice. -/
theorem guardRule : Obligations.GuardRule := by
  intro s t core x i err op c hmem h
  have hexec : ∃ body, exec c s = .next (s.slRun op core x (slGuarded body)) := by
    simp only [List.mem_cons, List.not_mem_nil, or_false, Prod.mk.injEq] at hmem
    casesm* _ ∨ _
    all_goals
      obtain ⟨rfl, rfl⟩ := hmem
      exact ⟨_, rfl⟩
  obtain ⟨body, hexec⟩ := hexec
  exact exec_of_guard hexec h

end Sys2Proof.Machine
end

section
/-! Loads and stores of steer memory, issues to units, waits, locks, cache control, TRAP, ERET and configuration instructions:
what each completes with, or the trap it takes (R340, R344 to R347, R351, R358, R392, R395 to R407). -/
namespace Sys2Proof.Machine

open Sys2Proof

section
variable {s t : State} {op : SlOp} {core x : Nat} {i : SlI} {c : Instr} {body : SlI → State → SlOut}

/-- A command that runs an unguarded body, which traps. -/
theorem exec_of_issues_trap {u : State} {cause info epc : Nat} {tag : W32} (hexec : exec c s = .next (s.slRun op core x body))
    (h : s.issues t op core x i) (ho : s.owesAnswer core x = false) (hb : body i t = .trap cause info tag epc u) :
    exec c s = .next (u.slTrap core x cause info tag epc) :=
  hexec.trans (congrArg _ (slRun_trap h hb ho))

/-- A command that runs a guarded body, which traps. -/
theorem exec_of_runs_trap {u : State} {cause info epc : Nat} {tag : W32}
    (hexec : exec c s = .next (s.slRun op core x (slGuarded body))) (h : s.runs t op core x i)
    (ho : s.owesAnswer core x = false) (hb : body i t = .trap cause info tag epc u) :
    exec c s = .next (u.slTrap core x cause info tag epc) :=
  exec_of_issues_trap hexec h.1 ho (by rw [slGuarded_on h.2, hb])

/-! ## Loads and stores of steer memory (R340, R392) -/

/-- The bytes of a load or store. -/
def SlI.memSize (i : SlI) (wide : Bool) : Nat := if wide then 32 else i.size

section
variable {store wide : Bool} {addr : Nat} (hsp : i.sp = 3) (hbase : (t.slRa i).poison = false)
  (haddr : addr = wrapInt 64 (((t.slRa i).data.toNat : Int) + i.off11 * i.memSize wide))
include hsp hbase haddr

/-- R392, log entry 27: a clean base register and a misaligned address. -/
theorem slMemory_misaligned (halign : addr % i.memSize wide ≠ 0) : State.slMemory store wide i t = i.trap 3 addr 0 t := by
  rw [SlI.memSize] at haddr halign
  simp only [State.slMemory, hsp, hbase, ← haddr]
  rw [if_neg (by simp), if_neg (by simp), if_neg (by simp), if_pos halign]

variable (halign : addr % i.memSize wide = 0)
include halign

/-- Space 3 at an aligned address: the range is checked, and the words are stored or loaded. -/
theorem slMemory_steer : State.slMemory store wide i t =
    if t.steerAllowed i.core i.ctx addr (i.memSize wide) = false then i.trap 7 addr 0 t
    else if store then
      .done ((t.steerWriteWords i.core (maskedWords addr (i.memSize wide) (t.slStoreData i wide addr (i.memSize wide)))).slNext i)
    else
      .done (((t.steerReadWords i.core (maskedWords addr (i.memSize wide) [])).2.slLoaded i wide
        (!wide && i.sz % 2 == 0 && decide (i.sz < 6)) addr (i.memSize wide)
        (t.steerReadWords i.core (maskedWords addr (i.memSize wide) [])).1).slNext i) := by
  rw [SlI.memSize] at haddr halign ⊢
  simp only [State.slMemory, hsp, hbase, ← haddr]
  rw [if_neg (by simp), if_neg (by simp), if_neg (by simp), if_neg (by simp [halign])]

theorem slMemory_refused (hallow : t.steerAllowed i.core i.ctx addr (i.memSize wide) = false) :
    State.slMemory store wide i t = i.trap 7 addr 0 t := by
  rw [slMemory_steer hsp hbase haddr halign, if_pos hallow]

theorem slMemory_store (hallow : t.steerAllowed i.core i.ctx addr (i.memSize wide) = true) :
    State.slMemory true wide i t =
      .done ((t.steerWriteWords i.core (maskedWords addr (i.memSize wide) (t.slStoreData i wide addr (i.memSize wide)))).slNext
        i) := by
  rw [slMemory_steer hsp hbase haddr halign, if_neg (by simp [hallow])]
  rfl

theorem slMemory_load (hallow : t.steerAllowed i.core i.ctx addr (i.memSize wide) = true) :
    State.slMemory false wide i t =
      .done (((t.steerReadWords i.core (maskedWords addr (i.memSize wide) [])).2.slLoaded i wide
        (!wide && i.sz % 2 == 0 && decide (i.sz < 6)) addr (i.memSize wide)
        (t.steerReadWords i.core (maskedWords addr (i.memSize wide) [])).1).slNext i) := by
  rw [slMemory_steer hsp hbase haddr halign, if_neg (by simp [hallow])]
  rfl

end

/-- The row of a load or store: whether it stores, and whether it takes a d register. -/
theorem exec_slMemory_of_mem {size : Nat} (hmem : (op, c, size) ∈ [(SlOp.opLd, Instr.ld core x, i.size),
    (.opSt, .st core x, i.size), (.opLdd, .ldd core x, 32), (.opStd, .std core x, 32)]) :
    ∃ store wide, size = i.memSize wide ∧ exec c s = .next (s.slRun op core x (State.slMemory store wide)) := by
  simp only [List.mem_cons, List.not_mem_nil, or_false, Prod.mk.injEq] at hmem
  rcases hmem with ⟨rfl, rfl, rfl⟩ | ⟨rfl, rfl, rfl⟩ | ⟨rfl, rfl, rfl⟩ | ⟨rfl, rfl, rfl⟩
  · exact ⟨false, false, rfl, rfl⟩
  · exact ⟨true, false, rfl, rfl⟩
  · exact ⟨false, true, rfl, rfl⟩
  · exact ⟨true, true, rfl, rfl⟩

end

/-- Settles O12: at a clean, aligned address in range the words are loaded or stored; else the trap. That an address both
misaligned and out of range traps ALIGN is log entry 27: the model's choice. -/
theorem steerLoadStore : Obligations.SteerLoadStore := by
  intro s t core x i addr hsp hbase
  refine ⟨?ld, ?st, ?ldd, ?std, ?traps⟩
  case ld => exact fun h ha halign hallow => exec_of_issues rfl h (slMemory_load (wide := false) hsp hbase ha halign hallow)
  case st => exact fun h ha halign hallow => exec_of_issues rfl h (slMemory_store (wide := false) hsp hbase ha halign hallow)
  case ldd => exact fun h ha halign hallow => exec_of_issues rfl h (slMemory_load (wide := true) hsp hbase ha halign hallow)
  case std => exact fun h ha halign hallow => exec_of_issues rfl h (slMemory_store (wide := true) hsp hbase ha halign hallow)
  case traps =>
    intro op c size hmem h ho ha
    obtain ⟨hcore, hctx⟩ := issues_core_ctx h
    obtain ⟨store, wide, rfl, hexec⟩ := exec_slMemory_of_mem (s := s) hmem
    constructor
    · exact fun halign => exec_of_issues_trap hexec h ho (slMemory_misaligned hsp hbase ha halign)
    · rw [← hcore, ← hctx]
      intro halign hallow
      rw [hcore, hctx]
      exact exec_of_issues_trap hexec h ho (slMemory_refused hsp hbase ha halign hallow)

/-! ## Issues to the units and waits (R358, R395 to R401) -/

section
variable {s t : State} {op : SlOp} {core x : Nat} {i : SlI}

/-- R395: an engine of a cluster takes a clean descriptor. -/
theorem slEngine_clean {c : Instr} {k : Nat} (hexec : exec c s = .next (s.slEngine op core x k)) (h : s.runs t op core x i)
    (hcore : core < 18) (hd : (t.slD core x i.ds).poison = false) :
    exec c s = .next ((t.engIssue core k (t.slD core x i.ds).data (t.slVi i)).2.slAnswer i
      (t.engIssue core k (t.slD core x i.ds).data (t.slVi i)).1 true) :=
  exec_of_runs hexec h (by
    rw [if_neg (by simpa [isHerdCore] using hcore), if_neg (by simp [hd])])

/-- R395: a clean rb that names a stream context of the core's engine. -/
theorem slOnStream_exists {f : Nat → SlI → State → SlOut} (hb : (t.slRb i).poison = false)
    (he : stExists (slStreams i.core) (t.slRb i).data.toNat = true) : slOnStream f i t = f (t.slRb i).data.toNat i t := by
  rw [slOnStream, if_neg (by simp [hb]), if_neg (by simp [he])]

/-- R397: a wait whose condition is true at issue. -/
theorem slWaitFor_met {k : SlWaitKind} (hk : t.waitMet k = true) :
    t.slWaitFor i k = .done ((t.dropWait i.core i.ctx).slPut i ⟨BitVec.ofNat 64 (t.waitValue k), false⟩) := by
  rw [State.slWaitFor, hk, Bool.or_true, if_pos rfl]

end

/-- Settles O13: each clean operand passes its checks, and the unit's answer is owed, or the wait is met, or the buffers are
flushed. -/
theorem unitIssuesAndWaits : Obligations.UnitIssuesAndWaits := by
  refine ⟨fun s t core x i => ⟨?mx, ?vx, ?gt, ?mu, ?st, ?stcancel, ?stresume⟩,
    fun s t core x i => ⟨?cnt, ?waitmu, ?ft, ?fence⟩⟩
  case mx => exact slEngine_clean rfl
  case vx => exact slEngine_clean rfl
  case gt => exact slEngine_clean rfl
  case mu => exact fun h hd hmay => exec_of_runs rfl h (by rw [if_neg (by simp [hd]), if_neg (by simp [hmay])])
  case st =>
    intro h ha hb he hz
    refine exec_of_runs rfl h ?_
    rw [if_neg (by simp [ha]), slOnStream_exists hb he, if_neg (by simp [hz])]
  case stcancel =>
    intro h hb he
    exact exec_of_runs rfl h (slOnStream_exists hb he)
  case stresume =>
    intro h hb he
    exact exec_of_runs rfl h (slOnStream_exists hb he)
  case cnt =>
    intro h ha hb hz hl hmet
    refine exec_of_runs rfl h ?_
    have hok : ¬(nfield (t.slRa i).data.toNat 12 52 ≠ 0 ∨
        (core < 18 ∧ t.logCluster core ≠ some (nfield (t.slRa i).data.toNat 8 4))) := by
      rintro (hne | ⟨hlt, hne⟩)
      · exact hne hz
      · exact hne (hl hlt)
    rw [if_neg (by simp [ha]), if_neg (by simp [hb]), if_neg hok]
    exact slWaitFor_met hmet
  case waitmu =>
    intro h ha hb hlt hp hmet
    refine exec_of_runs rfl h ?_
    rw [if_neg (by simp [ha]), if_neg (by simp [hb]), if_neg (by simp [hp]; omega)]
    exact slWaitFor_met hmet
  case ft =>
    intro h ha hmet
    refine exec_of_runs rfl h ?_
    rw [if_neg (by simp [ha])]
    exact slWaitFor_met hmet
  case fence =>
    intro h
    refine exec_of_runs rfl h ?_
    simp only [isHerdCore, decide_eq_true_eq]
    split
    · rfl
    · split <;> rfl

/-! ## Locks, cache control, TRAP and ERET (R402, R403, R407) -/

section
variable {t : State} {i : SlI}

/-- R402: a clean lock number, with every other bit of ra 0. -/
theorem slLock_local {unlock : Bool} {err : Nat} (ha : (t.slRa i).poison = false) (hv : (t.slRa i).data.toNat < 2 ^ 13) :
    slLock unlock err i t = .done ((t.withTm { t.tm with lockQ := t.tm.lockQ ++ [⟨(t.slRa i).data.toNat,
      t.lockSource (t.slRa i).data.toNat i.core, t.ctxOwner i.core i.ctx, unlock, err, some (i.core, i.ctx, i.rd)⟩] }).slAnswer
        i 0 false) := by
  have hfield (lo w : Nat) (hlo : 13 ≤ lo) : nfield (t.slRa i).data.toNat lo w = 0 := by
    have hpow : 2 ^ 13 ≤ 2 ^ lo := Nat.pow_le_pow_right (by decide) hlo
    rw [nfield_eq_div_mod, Nat.div_eq_of_lt (by omega), Nat.zero_mod]
  have hlow : nfield (t.slRa i).data.toNat 0 13 = (t.slRa i).data.toNat := by
    rw [nfield_eq_div_mod]
    omega
  have hbit : nbit (t.slRa i).data.toNat 31 = false := by
    rw [nbit, Nat.testBit_lt_two_pow (hv.trans (by decide))]
  simp only [slLock, ha, hfield 13 3 (by decide), hfield 28 3 (by decide), hfield 32 32 (by decide), hlow, hbit]
  rfl

/-- R403: a clean device range of VI0. -/
theorem slCache_device {flush : Bool} (ha : (t.slRa i).poison = false) (hb : (t.slRb i).poison = false)
    (hspace : nfield (t.slRa i).data.toNat 48 2 = 2) (hvi : t.slVi i = 0) (hpos : 0 < (t.slRb i).data.toNat)
    (hlen : (t.slRb i).data.toNat < 2 ^ 40) :
    slCache flush i t = .done ((t.lcOpStart ⟨0, 0, flush, false, nfield (t.slRa i).data.toNat 0 48, (t.slRb i).data.toNat,
      some (i.core, i.ctx, i.rd), 0⟩).slAnswer i 0 false) := by
  have hlen' : ¬(2 ^ 40 ≤ (t.slRb i).data.toNat ∨ (2 : Nat) = 1 ∨ (2 : Nat) = 3) := by omega
  simp only [slCache, ha, hb, hspace, hvi]
  rw [if_neg (by simp), if_neg (by simp), if_neg hlen', if_neg (by simp), if_neg (by omega), if_pos trivial]

end

/-- Settles O14: each clean operand passes its checks, and the lock unit or the cache takes the work; TRAP and ERET come to
their trap or return. -/
theorem lockCacheTrap : Obligations.LockCacheTrap := by
  intro s t core x i err
  refine ⟨?lock, ?unlock, ?flush, ?inval, ?trap, ?eret, ?eretUser⟩
  case lock => exact fun h ha hv => exec_of_runs rfl h (slLock_local ha hv)
  case unlock => exact fun h ha hv => exec_of_runs rfl h (slLock_local ha hv)
  case flush => exact fun h ha hb hspace hvi hpos hlen => exec_of_runs rfl h (slCache_device ha hb hspace hvi hpos hlen)
  case inval => exact fun h ha hb hspace hvi hpos hlen => exec_of_runs rfl h (slCache_device ha hb hspace hvi hpos hlen)
  case trap => exact fun h ho => exec_of_runs_trap rfl h ho rfl
  case eret => exact fun h hpriv => exec_of_issues rfl h (if_pos hpriv)
  case eretUser => exact fun h hpriv ho => exec_of_issues_trap rfl h ho (if_neg (by simp [hpriv]))

/-! ## PHASE, SETCFG and GETCFG (R347, R404 to R406) -/

/-- Settles O15: each clean operand passes its checks; SETCFG at USER fails the first one. That SETCFG at USER traps PRIVILEGE
whatever its operands, and that rd and the program counter are written before the write acts, is log entry 33: the model's
choice. -/
theorem configurationInstructions : Obligations.ConfigurationInstructions := by
  intro s t core x i
  refine ⟨?phase, ?setcfg, ?setcfgUser, ?getcfg⟩
  case phase =>
    intro h ha hlt
    refine exec_of_runs rfl h ?_
    rw [if_neg (by omega)]
    dsimp only
    rw [if_neg (by simp [ha])]
  case setcfg =>
    intro h hpriv ha hb hclean hres
    refine exec_of_runs rfl h ?_
    rw [if_neg (by simp [hpriv]), if_neg (by simp [ha]), if_neg (by simp [hb]), if_neg (by simp [hclean])]
    dsimp only
    rw [if_pos hres, hres]
    rfl
  case setcfgUser =>
    intro h hpriv ho
    exact exec_of_runs_trap rfl h ho (if_pos hpriv)
  case getcfg =>
    intro h ha hmay hres
    refine exec_of_runs rfl h ?_
    have hallowed : ¬(t.ctxPriv core x = false ∧ cfgUserMay core (cfgOff (t.slRa i).data) = false) := by
      rintro ⟨hp, hu⟩
      rcases hmay with hm | hm
      · simp [hm] at hp
      · simp [hm] at hu
    rw [if_neg (by simp [ha]), if_neg hallowed]
    dsimp only
    rw [if_pos hres]

end Sys2Proof.Machine
end

section
/-! What fetching, counting and completing an instruction leave unchanged (R343, R344, R349, R383 to R388). -/
namespace Sys2Proof.Machine

open Sys2Proof

/-- `t` is `s` but for registers that fetching and counting an instruction may write. -/
def FetchKeeps (s t : State) : Prop := ∃ r, t = s.withRegs r ∧ ∀ id i j, fetchReg id = false → (s.withRegs r).reg id i j = s.reg id i j

namespace FetchKeeps
variable {s t : State}

theorem refl (s : State) : FetchKeeps s s := ⟨s.regs, rfl, fun _ _ _ _ => rfl⟩

theorem setFld (h : FetchKeeps s t) {f : Fld} {i j x : Nat} (hf : fetchReg f.id = true := by rfl) :
    FetchKeeps s (t.setFld f i j x) := by
  obtain ⟨r, rfl, hr⟩ := h
  refine ⟨((s.withRegs r).setFld f i j x).regs, rfl, fun id i' j' hid => ?_⟩
  have hne : f.id.ctorIdx ≠ id.ctorIdx := by
    intro he
    rw [fetchReg, he] at hf
    exact Bool.false_ne_true (hid.symm.trans hf)
  exact (reg_setFld_ne (s.withRegs r) i j i' j' x hne).trans (hr id i' j' hid)

theorem setFlag (h : FetchKeeps s t) {f : Fld} {i j : Nat} {b : Bool} (hf : fetchReg f.id = true := by rfl) :
    FetchKeeps s (t.setFlag f i j b) := h.setFld hf

/-! ## A word read from steer memory -/

theorem ecc (h : FetchKeeps s t) {d src ev n : Nat} : FetchKeeps s (t.ecc d src ev n) := by
  unfold State.ecc
  split
  · exact h.setFld.setFld
  · exact h.setFld

theorem ueLog (h : FetchKeeps s t) {d addr : Nat} {tag : W32} : FetchKeeps s (t.ueLog d addr tag) := by
  unfold State.ueLog State.ringNext
  dsimp only
  split
  · exact h.setFld.setFld.setFld.setFld.setFld.setFlag
  · exact h.setFld.setFld.setFld.setFld.setFlag

theorem steerWord (h : FetchKeeps s t) {core w : Nat} : FetchKeeps s (t.steerWord core w).2 := by
  unfold State.steerWord State.tallyWord
  extract_lets r
  split
  all_goals dsimp only
  · exact h
  · exact h.ecc
  · exact h.ecc
  · exact h.ecc.ueLog

theorem slFetchWord (h : FetchKeeps s t) {core x a : Nat} : FetchKeeps s (t.slFetchWord core x a).2 := by
  unfold State.slFetchWord
  split
  · exact h
  · split
    · exact h
    · have hword : FetchKeeps s (t.steerWord core (a / 4)).2 := h.steerWord
      dsimp only
      split <;> exact hword

end FetchKeeps

theorem fetchKeeps_slFetch (s : State) (core x : Nat) : FetchKeeps s (s.slFetch core x).2 := by
  have h1 : FetchKeeps s (s.slFetchWord core x (s.slPc core x)).2 := (FetchKeeps.refl s).slFetchWord
  unfold State.slFetch
  dsimp only
  split
  next hword =>
    rw [hword] at h1
    exact h1
  next w s1 hword =>
    rw [hword] at h1
    have h2 : FetchKeeps s (s1.slFetchWord core x (s.slPc core x + 4)).2 := FetchKeeps.slFetchWord h1
    split
    · split
      next hword2 =>
        rw [hword2] at h2
        exact h2
      next hword2 =>
        rw [hword2] at h2
        exact h2
    · exact h1

/-- The fetch of an instruction that issues. -/
theorem fetchKeeps_of_issues {s t : State} {op : SlOp} {core x : Nat} {i : SlI} (h : s.issues t op core x i) : FetchKeeps s t := by
  obtain ⟨-, -, hfetch, -, -⟩ := h
  have hk := fetchKeeps_slFetch s core x
  rwa [hfetch] at hk

theorem FetchKeeps.scCount {s t : State} (h : FetchKeeps s t) {core e : Nat} : FetchKeeps s (t.scCount core e) := by
  unfold State.scCount State.cntInc
  dsimp only
  split
  · exact h.setFld
  · exact h.setFld.setFld.setFlag

/-! ## Completing -/

/-- The instruction goes on: its program counter moves and its count rises. -/
theorem slNext_eq (s : State) (i : SlI) : ∃ r, s.slNext i = (s.setSlPc i.core i.ctx (i.pc + i.len)).withRegs r ∧
    ∀ id a b, fetchReg id = false → (s.withRegs r).reg id a b = s.reg id a b := by
  obtain ⟨r, hr, hreg⟩ := (FetchKeeps.refl (s.setSlPc i.core i.ctx (i.pc + i.len))).scCount (core := i.core) (e := 0)
  exact ⟨r, hr, hreg⟩

theorem ctxKey_ne {k y core x : Nat} (hy : y < 16) (hx : x < 16) (h : (k, y) ≠ (core, x)) : ctxKey k y ≠ ctxKey core x := by
  unfold ctxKey
  intro he
  exact h (by rw [show k = core by omega, show y = x by omega])

/-- The keys of two registers of a file of `n`, of contexts and numbers in range, are the same only for one register. -/
theorem fileKey_ne {n k y r core x q : Nat} (hy : y < 16) (hx : x < 16) (hr : r < n) (hq : q < n)
    (h : (k, y, some r) ≠ (core, x, some q)) : ctxKey k y * n + r ≠ ctxKey core x * n + q := by
  unfold ctxKey
  intro he
  have hc : k * 16 + y = core * 16 + x := by
    have h1 : ((k * 16 + y) * n + r) / n = k * 16 + y := by
      rw [Nat.mul_comm, Nat.mul_add_div (by omega), Nat.div_eq_of_lt hr, Nat.add_zero]
    have h2 : ((core * 16 + x) * n + q) / n = core * 16 + x := by
      rw [Nat.mul_comm, Nat.mul_add_div (by omega), Nat.div_eq_of_lt hq, Nat.add_zero]
    rw [← h1, he, h2]
  rw [hc] at he
  exact h (by rw [show k = core by omega, show y = x by omega, Nat.add_left_cancel he])

section
variable {s : State} {core x : Nat} {g p d : Option Nat}

/-- Registers that an instruction may always write, replaced. -/
theorem slKeeps_withRegs {t : State} (h : State.slKeeps s t core x g p d) {r : Sparse W64}
    (hr : ∀ id a b, fetchReg id = false → (t.withRegs r).reg id a b = t.reg id a b) :
    State.slKeeps s (t.withRegs r) core x g p d := by
  obtain ⟨hg, hp, hd, hpc, hreg, hrest⟩ := h
  exact ⟨hg, hp, hd, hpc, fun id a b hid => (hr id a b hid).trans (hreg id a b hid), hrest⟩

theorem slKeeps_of_fetchKeeps {t : State} (h : FetchKeeps s t) : State.slKeeps s t core x g p d := by
  obtain ⟨r, rfl, hr⟩ := h
  exact slKeeps_withRegs (t := s) (by simp [State.slKeeps]) hr

variable {t : State} (h : State.slKeeps s t core x g p d) (hx : x < 16)
include h hx

theorem slKeeps_slNext {i : SlI} (hi : i.core = core ∧ i.ctx = x) : State.slKeeps s (t.slNext i) core x g p d := by
  obtain ⟨r, hnext, hr⟩ := slNext_eq t i
  obtain ⟨rfl, rfl⟩ := hi
  rw [hnext]
  refine slKeeps_withRegs ?_ hr
  obtain ⟨hg, hp, hd, hpc, hrest⟩ := h
  refine ⟨hg, hp, hd, fun k y hy hne => ?_, hrest⟩
  exact (sget_sset_ne _ _ _ _ _ (ctxKey_ne hy hx hne)).trans (hpc k y hy hne)

theorem slKeeps_setSlG {q : Nat} {v : SlG} (hq : q < 32) (hg : g = some q) : State.slKeeps s (t.setSlG core x q v) core x g p d := by
  unfold State.setSlG
  split
  · exact h
  · obtain ⟨hG, hrest⟩ := h
    refine ⟨fun k y r hy hr hne => ?_, hrest⟩
    rw [← hG k y r hy hr hne, State.slG, State.slG]
    split
    · rfl
    · exact sget_sset_ne _ _ _ _ _ (fileKey_ne hy hx hr hq (hg ▸ hne))

theorem slKeeps_setSlP {q : Nat} {v : SlP} (hq : q < 8) (hp : p = some q) : State.slKeeps s (t.setSlP core x q v) core x g p d := by
  unfold State.setSlP
  split
  · exact h
  · obtain ⟨hG, hP, hrest⟩ := h
    refine ⟨hG, fun k y r hy hr hne => ?_, hrest⟩
    rw [← hP k y r hy hr hne, State.slP, State.slP]
    split
    · rfl
    · exact sget_sset_ne _ _ _ _ _ (fileKey_ne hy hx hr hq (hp ▸ hne))

theorem slKeeps_setSlD {q : Nat} {v : SlD} (hq : q < 16) (hd : d = some q) : State.slKeeps s (t.setSlD core x q v) core x g p d := by
  obtain ⟨hG, hP, hD, hrest⟩ := h
  refine ⟨hG, hP, fun k y r hy hr hne => ?_, hrest⟩
  rw [← hD k y r hy hr hne]
  exact sget_sset_ne _ _ _ _ _ (fileKey_ne hy hx hr hq (hd ▸ hne))

end

/-- A register field of a word holds a register number. -/
theorem rd_lt (i : SlI) : i.rd < 32 := by
  rw [SlI.rd, nfield_eq_div_mod]
  omega

section
variable {s t u : State} {op : SlOp} {core x : Nat} {i : SlI} {c : Instr} (hx : x < 16) (h : s.issues t op core x i)
include hx h

theorem slKeeps_slPut (v : SlG) : s.slKeeps (t.slPut i v) core x (some i.rd) none none := by
  obtain ⟨hc, hy⟩ := issues_core_ctx h
  rw [State.slPut, hc, hy]
  exact slKeeps_slNext (slKeeps_setSlG (slKeeps_of_fetchKeeps (fetchKeeps_of_issues h)) hx (rd_lt i) rfl) hx ⟨hc, hy⟩

theorem slKeeps_slPutP (v : SlP) : s.slKeeps (t.slPutP i v) core x none (some (i.rd % 8)) none := by
  obtain ⟨hc, hy⟩ := issues_core_ctx h
  rw [State.slPutP, hc, hy]
  exact slKeeps_slNext (slKeeps_setSlP (slKeeps_of_fetchKeeps (fetchKeeps_of_issues h)) hx (Nat.mod_lt i.rd (by decide)) rfl) hx ⟨hc, hy⟩

theorem slKeeps_slPutD (v : SlD) : s.slKeeps (t.slPutD i v) core x none none (some (i.rd % 16)) := by
  obtain ⟨hc, hy⟩ := issues_core_ctx h
  rw [State.slPutD, hc, hy]
  exact slKeeps_slNext (slKeeps_setSlD (slKeeps_of_fetchKeeps (fetchKeeps_of_issues h)) hx (Nat.mod_lt i.rd (by decide)) rfl) hx ⟨hc, hy⟩

end

/-- Settles O7: each command completes by writing its destination in the fetched state and going on. -/
theorem sloakFrames : Obligations.SloakFrames := by
  intro s t u core x i op c hx hu
  refine ⟨fun hmem h => ?guarded, fun hmem h => ?imm, fun hmem h => ?pred, fun hmem h => ?dreg⟩
  case guarded =>
    have hput : ∃ v, exec c s = .next (t.slPut i v) := by
      simp only [List.mem_cons, List.not_mem_nil, or_false, Prod.mk.injEq] at hmem
      casesm* _ ∨ _
      all_goals
        obtain ⟨rfl, rfl⟩ := hmem
        exact ⟨_, exec_of_runs rfl h rfl⟩
    obtain ⟨v, hput⟩ := hput
    cases hput.symm.trans hu
    exact slKeeps_slPut hx h.1 v
  case imm =>
    have hput : ∃ v, exec c s = .next (t.slPut i v) := by
      simp only [List.mem_cons, List.not_mem_nil, or_false, Prod.mk.injEq] at hmem
      casesm* _ ∨ _
      all_goals
        obtain ⟨rfl, rfl⟩ := hmem
        exact ⟨_, exec_of_issues rfl h rfl⟩
    obtain ⟨v, hput⟩ := hput
    cases hput.symm.trans hu
    exact slKeeps_slPut hx h v
  case pred =>
    have hput : ∃ v, exec c s = .next (t.slPutP i v) := by
      simp only [List.mem_cons, List.not_mem_nil, or_false, Prod.mk.injEq] at hmem
      casesm* _ ∨ _
      all_goals
        obtain ⟨rfl, rfl⟩ := hmem
        exact ⟨_, exec_of_runs rfl h rfl⟩
    obtain ⟨v, hput⟩ := hput
    cases hput.symm.trans hu
    exact slKeeps_slPutP hx h.1 v
  case dreg =>
    have hput : ∃ v, exec c s = .next (t.slPutD i v) := by
      simp only [List.mem_cons, List.not_mem_nil, or_false, Prod.mk.injEq] at hmem
      casesm* _ ∨ _
      all_goals
        obtain ⟨rfl, rfl⟩ := hmem
        exact ⟨_, exec_of_runs rfl h rfl⟩
    obtain ⟨v, hput⟩ := hput
    cases hput.symm.trans hu
    exact slKeeps_slPutD hx h.1 v

end Sys2Proof.Machine
end

section
/-! What stores of steer memory and of the stacks leave unchanged (R340, R392, R137). -/
namespace Sys2Proof.Machine

open Sys2Proof

/-! ## Bytes of a word -/

theorem byteAt_natOfBytes {l : List Nat} (hl : ∀ x ∈ l, x < 256) {k : Nat} (hk : k < l.length) :
    byteAt (natOfBytes l) k = l[k] := by
  induction l generalizing k with
  | nil => simp at hk
  | cons b l ih =>
    have hb : b < 256 := hl b (by simp)
    cases k with
    | zero =>
      rw [byteAt, natOfBytes, Nat.mul_zero, Nat.shiftRight_zero, List.getElem_cons_zero]
      omega
    | succ k =>
      have hrest := ih (fun x hx => hl x (by simp [hx])) (Nat.lt_of_succ_lt_succ (by simpa using hk))
      have hshift : (b + 256 * natOfBytes l) >>> (8 * (k + 1)) = natOfBytes l >>> (8 * k) := by
        rw [show 8 * (k + 1) = 8 + 8 * k by ring, Nat.shiftRight_add, Nat.shiftRight_eq_div_pow _ 8]
        congr 1
        omega
      rw [byteAt] at hrest
      rw [byteAt, natOfBytes, hshift, hrest, List.getElem_cons_succ]

/-- A byte that the mask leaves out keeps its old value. -/
theorem byteAt_mergeBytes_of_unmasked {mask old new k : Nat} (hk : k < 4) (hm : nbit mask k = false) :
    byteAt (mergeBytes mask old new) k = byteAt old k := by
  rw [mergeBytes, byteAt_natOfBytes (by
    intro x hx
    obtain ⟨b, -, rfl⟩ := List.mem_map.mp hx
    split <;> exact Nat.mod_lt _ (by decide)) (by simpa using hk)]
  simp [hm]

theorem mergeBytes_lt (mask old new : Nat) : mergeBytes mask old new < 2 ^ 32 := by
  simp only [mergeBytes, byteAt, List.range, List.range.loop, List.map, natOfBytes]
  split_ifs <;> omega

/-- A mask built bit by bit. -/
theorem nbit_mask {c : Nat → Prop} [DecidablePred c] {k : Nat} (hk : k < 4) :
    nbit ((List.range 4).foldl (fun acc b => if c b then acc + 2 ^ b else acc) 0) k = decide (c k) := by
  simp only [List.range, List.range.loop, List.foldl]
  interval_cases k <;> by_cases h0 : c 0 <;> by_cases h1 : c 1 <;> by_cases h2 : c 2 <;> by_cases h3 : c 3 <;>
    simp only [h0, h1, h2, h3] <;> rfl

/-- The words of a byte range: each lies in the range's words, its mask says which of its bytes lie in the range, and its data
is one of those given. -/
theorem mem_maskedWords {off len : Nat} {data : List PW} {w : TmWord} (h : w ∈ maskedWords off len data) :
    off / 4 ≤ w.addr / 4 ∧ w.addr / 4 ≤ (off + len - 1) / 4 ∧ 0 < len ∧
      (∀ a, a / 4 = w.addr / 4 → nbit w.mask (a % 4) = decide (off ≤ a ∧ a < off + len)) ∧
      (w.data ∈ data ∨ w.data = ⟨0, false⟩) := by
  simp only [maskedWords, List.mem_map, List.mem_range] at h
  obtain ⟨k, hk, rfl⟩ := h
  have hlen : 0 < len := by
    by_contra hz
    rw [if_pos (by omega)] at hk
    omega
  rw [if_neg (by omega)] at hk
  refine ⟨by dsimp only; omega, by dsimp only; omega, hlen, fun a ha => ?_, ?_⟩
  · dsimp only at ha ⊢
    rw [nbit_mask (c := fun b => off ≤ (off / 4 + k) * 4 + b ∧ (off / 4 + k) * 4 + b < off + len) (Nat.mod_lt a (by decide)),
      show (off / 4 + k) * 4 + a % 4 = a by omega]
  · dsimp only
    rw [List.getD_eq_getElem?_getD]
    cases hget : data[k]? with
    | none => exact .inr rfl
    | some p => exact .inl (List.mem_of_getElem? hget)

/-! ## A store of steer memory -/

theorem decodeWord_steerStore (s : State) (core w : Nat) (p : PW) :
    decodeWord ((s.steerStore core w p).steerRaw core w) = ⟨p, .ok⟩ := by
  rw [State.steerStore, steerRaw_setSteerRaw_same, decodeWord_encodeWord]

/-- Reading a word of steer memory writes registers alone. -/
theorem steerWord_eq (s : State) (core w : Nat) : ∃ r, (s.steerWord core w).2 = s.withRegs r := by
  obtain ⟨r, hr, -⟩ := (FetchKeeps.refl s).steerWord (core := core) (w := w)
  exact ⟨r, hr⟩

/-- The word a reader gets: the stored one, or a poisoned one where it is uncorrectable. -/
theorem steerWord_fst (s : State) (core w : Nat) :
    (s.steerWord core w).1 = (decodeWord (s.steerRaw core w)).word ∨
      (decodeWord (s.steerRaw core w)).cls = .ue ∧ (s.steerWord core w).1.poison = true := by
  unfold State.steerWord State.tallyWord
  dsimp only
  split
  · exact .inl rfl
  · exact .inl rfl
  · exact .inl rfl
  · next h => exact .inr ⟨h, rfl⟩

/-- A part of a word stored: registers change, and of steer memory at most that word. -/
theorem steerMerge_eq (s : State) (core w mask data : Nat) :
    ∃ r, s.steerMerge core w mask data = s.withRegs r ∨ ∃ p, s.steerMerge core w mask data = (s.withRegs r).steerStore core w p := by
  obtain ⟨r, hr⟩ := steerWord_eq s core w
  refine ⟨r, ?_⟩
  unfold State.steerMerge
  dsimp only
  rw [hr]
  split
  · split
    · exact .inr ⟨_, rfl⟩
    · exact .inl rfl
  · exact .inr ⟨_, rfl⟩

theorem steerByte_withRegs (s : State) (r : Sparse W64) (core a : Nat) : (s.withRegs r).steerByte core a = s.steerByte core a := rfl

/-- A store of a word leaves the bytes of other words. -/
theorem steerByte_steerStore_ne (s : State) {core w k a : Nat} (p : PW) (ha : a < 0x80000) (hw : w < 131072)
    (h : k ≠ core ∨ a / 4 ≠ w) : (s.steerStore core w p).steerByte k a = s.steerByte k a := by
  unfold State.steerByte State.steerStore
  rw [steerRaw_setSteerRaw_ne _ _ _ _ _ _ (steerKey_ne (by omega) hw h)]

/-- A byte of a word as its reader gets it. -/
theorem steerByte_of_decodeWord {s : State} {core a : Nat} {p : PW} (h : decodeWord (s.steerRaw core (a / 4)) = ⟨p, .ok⟩) :
    s.steerByte core a = if p.poison then none else some (byteAt p.data.toNat (a % 4)) := by
  unfold State.steerByte
  simp [h, nfield, byteAt]

/-- A byte that the mask leaves out reads as before. -/
theorem steerByte_steerMerge_of_unmasked (s : State) {core a mask : Nat} (data : Nat) (hm : nbit mask (a % 4) = false) :
    (s.steerMerge core (a / 4) mask data).steerByte core a = s.steerByte core a := by
  obtain ⟨r, hr⟩ := steerWord_eq s core (a / 4)
  have hword := steerWord_fst s core (a / 4)
  unfold State.steerMerge
  dsimp only
  rw [hr]
  by_cases hue : (decodeWord (s.steerRaw core (a / 4))).cls = .ue
  · have hp : (s.steerWord core (a / 4)).1.poison = true := by
      unfold State.steerWord State.tallyWord
      dsimp only
      rw [hue]
      rfl
    rw [if_pos hp, if_pos (by simp [hue]), steerByte_of_decodeWord (decodeWord_steerStore _ _ _ _), if_pos hp]
    simp [State.steerByte, hue]
  · have hw : (s.steerWord core (a / 4)).1 = (decodeWord (s.steerRaw core (a / 4))).word :=
      hword.resolve_right fun h => hue h.1
    rw [hw]
    by_cases hp : (decodeWord (s.steerRaw core (a / 4))).word.poison = true
    · rw [if_pos hp, if_neg (by simpa using hue), steerByte_withRegs]
    · rw [if_neg hp, steerByte_of_decodeWord (decodeWord_steerStore _ _ _ _), if_neg (by simp)]
      simp only [BitVec.toNat_ofNat, Nat.mod_eq_of_lt (mergeBytes_lt _ _ _)]
      rw [byteAt_mergeBytes_of_unmasked (Nat.mod_lt a (by decide)) hm]
      simp [State.steerByte, hue, hp, nfield, byteAt]

/-- From `s` to `t`, steer memory's bytes for which `keeps` holds read as before, and nothing else but registers has changed. -/
structure SteerKeeps (keeps : Nat → Nat → Prop) (s t : State) : Prop where
  byte : ∀ k a, a < 0x80000 → keeps k a → t.steerByte k a = s.steerByte k a
  words : t.tm.words = s.tm.words
  hbm : t.hbm = s.hbm
  sc : t.sc = s.sc

namespace SteerKeeps
variable {keeps : Nat → Nat → Prop} {s t u : State}

theorem refl (s : State) : SteerKeeps keeps s s := ⟨fun _ _ _ _ => rfl, rfl, rfl, rfl⟩

theorem trans (h : SteerKeeps keeps s t) (h' : SteerKeeps keeps t u) : SteerKeeps keeps s u :=
  ⟨fun k a ha hk => (h'.byte k a ha hk).trans (h.byte k a ha hk), h'.words.trans h.words, h'.hbm.trans h.hbm, h'.sc.trans h.sc⟩

theorem steerStore {core w : Nat} (p : PW) (hw : w < 131072) (h : ∀ k a, keeps k a → k ≠ core ∨ a / 4 ≠ w) :
    SteerKeeps keeps s (s.steerStore core w p) :=
  ⟨fun k a ha hk => steerByte_steerStore_ne s p ha hw (h k a hk), rfl, rfl, rfl⟩

theorem steerMerge {core w mask data : Nat} (hw : w < 131072)
    (h : ∀ k a, keeps k a → k ≠ core ∨ a / 4 ≠ w ∨ nbit mask (a % 4) = false) :
    SteerKeeps keeps s (s.steerMerge core w mask data) := by
  obtain ⟨r, hmerge⟩ := steerMerge_eq s core w mask data
  refine ⟨fun k a ha hk => ?_, ?_, ?_, ?_⟩
  · by_cases hsame : k = core ∧ a / 4 = w
    · obtain ⟨rfl, rfl⟩ := hsame
      have hm : nbit mask (a % 4) = false := by simpa using h k a hk
      exact steerByte_steerMerge_of_unmasked s data hm
    · have hne : k ≠ core ∨ a / 4 ≠ w := by
        by_contra hc
        exact hsame (by simpa using hc)
      rcases hmerge with hm | ⟨p, hm⟩
      · rw [hm, steerByte_withRegs]
      · rw [hm, steerByte_steerStore_ne _ p ha hw hne, steerByte_withRegs]
  all_goals rcases hmerge with hm | ⟨p, hm⟩ <;> rw [hm] <;> rfl

/-- A store of words that leave the bytes in question alone. -/
theorem steerWriteWords {core : Nat} {ws : List TmWord} (hw : ∀ w ∈ ws, w.addr / 4 < 131072)
    (hfull : ∀ w ∈ ws, tmFull w = true → ∀ k a, keeps k a → k ≠ core ∨ a / 4 ≠ w.addr / 4)
    (hpart : ∀ w ∈ ws, ∀ k a, keeps k a → k ≠ core ∨ a / 4 ≠ w.addr / 4 ∨ nbit w.mask (a % 4) = false) :
    SteerKeeps keeps s (s.steerWriteWords core ws) := by
  unfold State.steerWriteWords State.each
  induction ws generalizing s with
  | nil => exact refl s
  | cons w ws ih =>
    have htail := ih (s := if tmFull w then s.steerStore core (w.addr / 4) w.data
      else s.steerMerge core (w.addr / 4) w.mask w.data.data.toNat) (fun v hv => hw v (by simp [hv]))
      (fun v hv => hfull v (by simp [hv])) (fun v hv => hpart v (by simp [hv]))
    refine trans ?_ htail
    split
    · next hf => exact steerStore w.data (hw w (by simp)) (hfull w (by simp) hf)
    · exact steerMerge (hw w (by simp)) (hpart w (by simp))

end SteerKeeps

/-! ## ST and STD -/

theorem storeWords_poison {addr size v : Nat} {poison : Option W32} {p : PW} (h : p ∈ storeWords addr size v poison) :
    p.poison = poison.isSome := by
  obtain ⟨k, -, rfl⟩ := List.mem_map.mp h
  cases poison <;> rfl

/-- The data of a store whose register is clean holds no poison. -/
theorem slStoreData_clean {t : State} {i : SlI} {wide : Bool} {addr size : Nat}
    (hclean : (if wide then (t.slD i.core i.ctx (i.rd % 16)).poison else (t.slG i.core i.ctx i.rd).poison) = false) {p : PW}
    (hp : p ∈ t.slStoreData i wide addr size) : p.poison = false := by
  unfold State.slStoreData at hp
  cases wide
  · simp only [Bool.false_eq_true, if_false] at hclean hp
    rw [storeWords_poison hp, if_neg (by simp [hclean])]
    rfl
  · simp only [if_true] at hclean hp
    rw [storeWords_poison hp, if_neg (by simp [hclean])]
    rfl

theorem steerAllowed_bound {t : State} {core x addr size : Nat} (h : t.steerAllowed core x addr size = true) :
    addr + size ≤ 0x80000 := by
  rw [State.steerAllowed, Bool.and_eq_true, decide_eq_true_eq] at h
  exact h.1

section
variable {s : State} {core addr size : Nat} {data : List PW} (hbound : addr + size ≤ 0x80000)
include hbound

/-- A store of a byte range leaves the words that the range does not touch. -/
theorem steerKeeps_words : SteerKeeps (fun k a => k ≠ core ∨ a / 4 < addr / 4 ∨ (addr + size - 1) / 4 < a / 4) s
    (s.steerWriteWords core (maskedWords addr size data)) := by
  have hne : ∀ w ∈ maskedWords addr size data, ∀ k a, (k ≠ core ∨ a / 4 < addr / 4 ∨ (addr + size - 1) / 4 < a / 4) →
      k ≠ core ∨ a / 4 ≠ w.addr / 4 := by
    intro w hw k a hk
    obtain ⟨hlo, hhi, -⟩ := mem_maskedWords hw
    omega
  refine SteerKeeps.steerWriteWords (fun w hw => ?_) (fun w hw _ => hne w hw) (fun w hw k a hk => ?_)
  · obtain ⟨-, hhi, hpos, -⟩ := mem_maskedWords hw
    omega
  · exact (hne w hw k a hk).imp_right .inl

/-- A store of clean words leaves every byte outside its range. -/
theorem steerKeeps_bytes (hclean : ∀ p ∈ data, p.poison = false) :
    SteerKeeps (fun k a => k = core ∧ (a < addr ∨ addr + size ≤ a)) s (s.steerWriteWords core (maskedWords addr size data)) := by
  have hout : ∀ w ∈ maskedWords addr size data, ∀ a, (a < addr ∨ addr + size ≤ a) → a / 4 = w.addr / 4 →
      nbit w.mask (a % 4) = false := by
    intro w hw a ha hword
    obtain ⟨-, -, -, hmask, -⟩ := mem_maskedWords hw
    rw [hmask a hword]
    exact decide_eq_false (by omega)
  refine SteerKeeps.steerWriteWords (fun w hw => ?_) (fun w hw hf k a hk => .inr fun hword => ?_) (fun w hw k a hk => ?_)
  · obtain ⟨-, hhi, hpos, -⟩ := mem_maskedWords hw
    omega
  · obtain ⟨-, -, -, -, hdata⟩ := mem_maskedWords hw
    have hp : w.data.poison = false := by
      rcases hdata with hmem | heq
      · exact hclean _ hmem
      · rw [heq]
    have hmask : w.mask = 15 := by simpa [tmFull, hp] using hf
    have hbit := hout w hw a hk.2 hword
    rw [hmask] at hbit
    have hlt : a % 4 < 4 := Nat.mod_lt a (by decide)
    interval_cases a % 4 <;> exact absurd hbit (by decide)
  · rcases eq_or_ne (a / 4) (w.addr / 4) with hword | hword
    · exact .inr (.inr (hout w hw a hk.2 hword))
    · exact .inr (.inl hword)

end

/-- Going on to the next instruction leaves every memory and the register files. -/
theorem slNext_memories (s : State) (i : SlI) : (s.slNext i).tm = s.tm ∧ (s.slNext i).hbm = s.hbm ∧
    (s.slNext i).sc.g = s.sc.g ∧ (s.slNext i).sc.d = s.sc.d ∧ (s.slNext i).sc.p = s.sc.p := by
  obtain ⟨r, hnext, -⟩ := slNext_eq s i
  rw [hnext]
  exact ⟨rfl, rfl, rfl, rfl, rfl⟩

theorem steerByte_slNext (s : State) (i : SlI) (k a : Nat) : (s.slNext i).steerByte k a = s.steerByte k a := by
  unfold State.steerByte State.steerRaw
  rw [(slNext_memories s i).1]

/-- The rows of a store. -/
theorem exec_slMemory_of_store {s : State} {op : SlOp} {c : Instr} {core x size : Nat} {i : SlI} {wide : Bool}
    (hmem : (op, c, wide, size) ∈ [(SlOp.opSt, Instr.st core x, false, i.size), (.opStd, .std core x, true, 32)]) :
    size = i.memSize wide ∧ exec c s = .next (s.slRun op core x (State.slMemory true wide)) := by
  simp only [List.mem_cons, List.not_mem_nil, or_false, Prod.mk.injEq] at hmem
  rcases hmem with ⟨rfl, rfl, rfl, rfl⟩ | ⟨rfl, rfl, rfl, rfl⟩ <;> exact ⟨rfl, rfl⟩

/-! ## A sector stored -/

/-- The sectors of the stacks but the one with the key `key`, tensor and steer memory, and the cores are as before. -/
structure SectorKeeps (key : Nat) (s t : State) : Prop where
  sector : ∀ k, k ≠ key → sget (hbmDefault s.hbm.bgBlank) t.hbm.sectors k = sget (hbmDefault s.hbm.bgBlank) s.hbm.sectors k
  bgBlank : t.hbm.bgBlank = s.hbm.bgBlank
  tm : t.tm = s.tm
  sc : t.sc = s.sc

namespace SectorKeeps
variable {key : Nat} {s t : State}

theorem refl (s : State) : SectorKeeps key s s := ⟨fun _ _ => rfl, rfl, rfl, rfl⟩

theorem setFld (h : SectorKeeps key s t) {f : Fld} {i j x : Nat} : SectorKeeps key s (t.setFld f i j x) :=
  ⟨by rw [State.setFld_hbm]; exact h.sector, by rw [State.setFld_hbm]; exact h.bgBlank, by rw [State.setFld_tm]; exact h.tm,
    by rw [State.setFld_sc]; exact h.sc⟩

theorem setFlag (h : SectorKeeps key s t) {f : Fld} {i j : Nat} {b : Bool} : SectorKeeps key s (t.setFlag f i j b) := h.setFld

theorem ecc (h : SectorKeeps key s t) {d src ev n : Nat} : SectorKeeps key s (t.ecc d src ev n) := by
  unfold State.ecc
  split
  · exact h.setFld.setFld
  · exact h.setFld

theorem ueLog (h : SectorKeeps key s t) {d addr : Nat} {tag : W32} : SectorKeeps key s (t.ueLog d addr tag) := by
  unfold State.ueLog State.ringNext
  dsimp only
  split
  · exact h.setFld.setFld.setFld.setFld.setFld.setFlag
  · exact h.setFld.setFld.setFld.setFld.setFlag

theorem setSectorRaw {stack pc bank row sec : Nat} (h : SectorKeeps (sectorKey stack pc bank row sec) s t) (w : W288) :
    SectorKeeps (sectorKey stack pc bank row sec) s (t.setSectorRaw stack pc bank row sec w) where
  sector k hk := by
    rw [← h.sector k hk, State.setSectorRaw, State.withHbm_hbm, h.bgBlank]
    exact sget_sset_ne _ _ _ _ _ hk
  bgBlank := h.bgBlank
  tm := h.tm
  sc := h.sc

end SectorKeeps

theorem sectorKeeps_writeSector (s : State) (p pc row sector mask : Nat) (data : List PW) :
    SectorKeeps (sectorKey (plotStack p) pc (plotBank p) row sector) s (s.writeSector p pc row sector mask data) := by
  have h := SectorKeeps.refl (key := sectorKey (plotStack p) pc (plotBank p) row sector) s
  unfold State.writeSector
  extract_lets stack put d s1 old drops s2
  split
  · split
    · exact h.setSectorRaw _
    · split
      · exact h.ecc.ueLog.ecc
      · split
        · exact h.ecc
        · have h1 : SectorKeeps (sectorKey (plotStack p) pc (plotBank p) row sector) s s1 := by
            dsimp only [s1]
            split
            · exact h.ecc
            · exact h.ecc
            · exact h
          exact h1.setSectorRaw _
  · have h2 : SectorKeeps (sectorKey (plotStack p) pc (plotBank p) row sector) s s2 := by
      dsimp only [s2]
      split
      · exact h
      · exact h.ecc
    exact h2.setSectorRaw _

/-- Settles O8: a store writes the words of its range and, where its register is clean, of those only the bytes in range; a
sector stored is one key of the stacks' store. -/
theorem memoryFrames : Obligations.MemoryFrames := by
  refine ⟨?steer, fun s p pc row sector mask k data hk => ?sector⟩
  case steer =>
    intro s t u core x i addr size op c wide hmem h hsp hbase haddr halign hallow hu
    obtain ⟨rfl, rfl⟩ := issues_core_ctx h
    obtain ⟨rfl, hexec⟩ := exec_slMemory_of_store (s := s) hmem
    have hrun := exec_of_issues hexec h (slMemory_store hsp hbase haddr halign hallow)
    cases hrun.symm.trans hu
    obtain ⟨r, rfl, -⟩ := fetchKeeps_of_issues h
    have hbound := steerAllowed_bound hallow
    have hw := steerKeeps_words (s := s.withRegs r) (core := i.core)
      (data := (s.withRegs r).slStoreData i wide addr (i.memSize wide)) hbound
    obtain ⟨htm, hhbm, hg, hd, hp⟩ := slNext_memories ((s.withRegs r).steerWriteWords i.core
      (maskedWords addr (i.memSize wide) ((s.withRegs r).slStoreData i wide addr (i.memSize wide)))) i
    refine ⟨fun k a ha hk => ?_, fun hclean a ha hout => ?_, ?_, ?_, ?_, ?_, ?_⟩
    · rw [steerByte_slNext, hw.byte k a ha hk, steerByte_withRegs]
    · have hb := steerKeeps_bytes (s := s.withRegs r) (core := i.core) hbound
        (fun p hp => slStoreData_clean (t := s.withRegs r) (wide := wide) (addr := addr) (size := i.memSize wide) hclean hp)
      rw [steerByte_slNext, hb.byte i.core a ha ⟨rfl, hout⟩, steerByte_withRegs]
    · rw [htm, hw.words]; rfl
    · rw [hhbm, hw.hbm]; rfl
    · rw [hg, hw.sc]; rfl
    · rw [hd, hw.sc]; rfl
    · rw [hp, hw.sc]; rfl
  case sector =>
    have h := sectorKeeps_writeSector s p pc row sector mask data
    exact ⟨h.sector k hk, h.bgBlank, h.tm, h.sc⟩

end Sys2Proof.Machine
end

section
/-! One step and the state after reset (R24, R554, R626). -/
namespace Sys2Proof.Machine

open Sys2Proof

/-! ## A step -/

theorem step_cons (s : State) (c : Instr) (rest : List Instr) : step (s.withPending (c :: rest)) = exec c (s.withPending rest) := rfl

theorem step_of_pending_nil {s : State} (h : s.pending = []) : step s = .next s.idle := by rw [step, h]

/-- A service firmware that is down, or has no stroke action waiting, takes none up. -/
theorem fwResume_length {s : State} (h : s.fwDown = true ∨ s.svc.held = []) : State.fwResume s.svc.held.length s = s := by
  cases hheld : s.svc.held with
  | nil => rfl
  | cons a l => rw [List.length_cons, State.fwResume, if_pos (h.resolve_right (by simp [hheld]))]

theorem fwBack_of_fwDown {s : State} (h : s.fwDown = true) : s.fwBack = s := by
  rw [State.fwBack, fwResume_length (.inl h)]
  exact if_pos h

theorem fwBack_of_nothing_waits {s : State} (hheld : s.svc.held = []) (hunlocks : s.svc.unlocks = []) : s.fwBack = s := by
  rw [State.fwBack, fwResume_length (.inr hheld)]
  dsimp only
  split
  · rfl
  · have hsvc : { s.svc with unlocks := [] } = s.svc := by rw [← hunlocks]
    rw [hsvc, hunlocks]
    rfl

theorem tick_svc (s : State) : s.tick.svc = s.svc := by
  unfold State.tick
  split
  · exact State.setFld_svc ..
  · rfl

/-- R24: no stroke is due and the SVC domain is powered. -/
theorem tick_of_advances {s : State} (hon : s.power.svcOn = true) (hdue : ∀ i, i < 256 → s.strokeDue i = false) :
    s.tick = s.setFld .FT_NOW_NOW 0 0 (s.now + 4) := by
  refine if_pos ⟨hon, List.all_eq_true.mpr fun i hi => ?_⟩
  rw [hdue i (List.mem_range.mp hi)]
  rfl

theorem tick_of_stands {s : State} (h : s.power.svcOn = false ∨ ∃ i, i < 256 ∧ s.strokeDue i = true) : s.tick = s := by
  refine if_neg ?_
  rintro ⟨hon, hall⟩
  rcases h with hoff | ⟨i, hi, hdue⟩
  · rw [hoff] at hon
    cases hon
  · have hnot := List.all_eq_true.mp hall i (List.mem_range.mpr hi)
    rw [hdue] at hnot
    cases hnot

/-- A tick writes FT_NOW alone. -/
theorem tick_eq (s : State) : s.tick = s ∨ s.tick = s.setFld .FT_NOW_NOW 0 0 (s.now + 4) := by
  unfold State.tick
  split
  · exact .inr rfl
  · exact .inl rfl

/-- Settles O1: the queue's front is dispatched, and an idle step is the tick where the service firmware takes nothing up. -/
theorem stepRunsFront : Obligations.StepRunsFront := by
  refine ⟨step_cons, fun s h => ⟨_, step_of_pending_nil h⟩, fun s h hfw => ?_⟩
  have hback : s.idle = s.tick := by
    rcases hfw with hdown | ⟨hheld, hunlocks⟩
    · exact fwBack_of_fwDown hdown
    · exact fwBack_of_nothing_waits (by rw [tick_svc, hheld]) (by rw [tick_svc, hunlocks])
  refine ⟨s.tick, by rw [step_of_pending_nil h, hback], fun hon hdue => ?_, tick_of_stands, fun id i j hid => ?_, ?_⟩
  · rw [tick_of_advances hon hdue]
    exact fld_setFld_same _ _ _ _ _ (by decide)
  · rcases tick_eq s with ht | ht
    · rw [ht]
    · rw [ht, reg_setFld_ne _ _ _ _ _ _ hid]
  · rcases tick_eq s with ht | ht
    · rw [ht]
      exact ⟨rfl, rfl, rfl, rfl⟩
    · rw [ht]
      exact ⟨State.setFld_tm .., State.setFld_hbm .., State.setFld_sc .., State.setFld_out ..⟩

/-! ## Reset -/

/-- A field of a register that the reset table lists; `h` is closed by `rfl`. -/
theorem reset_fld_listed {f : Fld} {n : Nat} {v : Nat → Nat → Nat}
    (h : resetTable.find? (fun e => e.1 == f.id.ctorIdx) = some (n, v)) (i j : Nat) :
    State.reset.fld f i j = getBits (BitVec.ofNat 64 (v (i % 2 ^ 20) (j % 2 ^ 20))) f.lo f.w := by
  rw [State.fld, reset_reg_listed h]

/-- A field of a register that the reset table does not list; `h` is closed by `rfl`. -/
theorem reset_fld_unlisted {f : Fld} (h : resetTable.find? (fun e => e.1 == f.id.ctorIdx) = none) (i j : Nat) :
    State.reset.fld f i j = 0 := by
  rw [State.fld, reset_reg_unlisted h]
  simp [getBits]

theorem reset_flag_unlisted {f : Fld} (h : resetTable.find? (fun e => e.1 == f.id.ctorIdx) = none) (i j : Nat) :
    State.reset.flag f i j = false := by
  rw [State.flag, reset_fld_unlisted h]
  rfl

theorem reset_flag_listed {f : Fld} {n : Nat} {v : Nat → Nat → Nat}
    (h : resetTable.find? (fun e => e.1 == f.id.ctorIdx) = some (n, v)) (i j : Nat) :
    State.reset.flag f i j = (getBits (BitVec.ofNat 64 (v (i % 2 ^ 20) (j % 2 ^ 20))) f.lo f.w == 1) := by
  rw [State.flag, reset_fld_listed h]

/-- The registers of no context have been written, so they read as poisoned (R343). -/
theorem reset_registers_poisoned (core x : Nat) {r : Nat} (hr : r ≠ 0) :
    (State.reset.slG core x r).poison = true ∧ (State.reset.slP core x r).poison = true := by
  rw [State.slG, State.slP, if_neg hr, if_neg hr]
  exact ⟨rfl, rfl⟩

theorem reset_trough (a r : Nat) : State.reset.trough a r = 0 := by
  rw [State.trough, reset_fld_unlisted rfl]
  rfl

/-- Settles O2: each register by its entry of the reset table or, unlisted, 0; every store empty. -/
theorem resetValues : Obligations.ResetValues := by
  refine ⟨reset_fld_unlisted rfl 0 0, reset_fld_unlisted rfl 0 0, fun k => reset_fld_unlisted rfl k 0, reset_fld_unlisted rfl 0 0,
    reset_fld_unlisted rfl 0 0, fun _ _ => rfl, fun _ _ => rfl, fun core x _ hr => reset_registers_poisoned core x hr,
    fun _ _ _ => rfl, rfl, rfl, rfl, ?watts, ?softTj, ?cool, ?bcast,
    fun c w => reset_flag_unlisted rfl c w, ?enable, ?prot,
    reset_trough, ?queues, fun c x => reset_fld_unlisted rfl c x⟩
  case watts => exact reset_fld_listed (f := .PM_CAP_WATTS) rfl 0 0
  case softTj => exact reset_fld_listed (f := .TH_CFG_SOFT_TJ) rfl 0 0
  case cool => exact reset_fld_listed (f := .TH_CFG_COOL_S) rfl 0 0
  case enable => exact fun k p => reset_flag_listed (f := .PL_CTL_ENABLE) rfl k p
  case prot => exact fun k p => reset_flag_listed (f := .PL_CTL_PROT) rfl k p
  case queues => exact fun q => reset_flag_listed (f := .HQ_Q_CFG_ENABLE) rfl q 0
  case bcast => exact reset_reg_listed (id := .HL_BCAST) rfl 0 0

/-- Settles O3: every store of the state after reset is empty. -/
theorem resetKeepsForm : Obligations.ResetKeepsForm :=
  ⟨rfl, rfl, ⟨rfl, rfl, rfl⟩, rfl, ⟨rfl, rfl⟩, rfl, rfl, rfl, rfl⟩

end Sys2Proof.Machine
end

section
/-! SUPPORT. What a command that writes a named register comes to once the write is accepted; and the obligations about
the register writes of each block (R10, R11, R14). -/
namespace Sys2Proof.Machine

open Sys2Proof

/-! ## Accepted writes -/

/-- A command that writes one field of its register: what it does under `pre` is what the new value starts. -/
theorem startsOn_of_afterWrite {cmd : Wr → Instr} {g : Wr → Wr} {f : Fld} {x i j : Nat} {pre : State → Wr → Prop}
    {act : Wr → State → State} (hacc : ∀ w, (g w).acc = w.acc)
    (hexec : ∀ s w, exec (cmd w) s = .next (s.fieldWrite (g w) f x i j))
    (hact : ∀ (s t : State) (w : Wr), pre s w →
      t.afterWrite w.acc f.id (ownIx w.acc f.id i) j (f.id.narrow (setBits (g w).value f.lo f.w x))
        (s.reg f.id (ownIx w.acc f.id i) j) = act w t) :
    StartsOn cmd (fun w => wrSet (g w) f x) f.id i j pre act := by
  intro s w off hw hpre
  rw [hexec, fieldWrite_of_accepts hw, hacc, hact _ _ _ hpre]

/-- A command that writes a whole register. -/
theorem startsOn_of_rowWrite {cmd : Wr → Instr} {r : RegId} {i j : Nat} {pre : State → Wr → Prop}
    {act : Wr → State → State} (hexec : ∀ s w, exec (cmd w) s = .next (s.rowWrite w r i j).2)
    (hact : ∀ (s t : State) (w : Wr), pre s w →
      t.afterWrite w.acc r (ownIx w.acc r i) j (r.narrow w.value) (s.reg r (ownIx w.acc r i) j) = act w t) :
    StartsOn cmd id r i j pre act := by
  intro s w off hw hpre
  rw [hexec]
  exact congrArg _ ((rowWrite_of_accepts hw).trans (hact _ _ _ hpre))

/-- A command whose write carries its own action. -/
theorem startsOn_of_rowWriteBy {cmd : Wr → Instr} {g : Wr → Wr} {r : RegId} {i j : Nat} {pre : State → Wr → Prop}
    {act : Wr → State → State} (hexec : ∀ s w, exec (cmd w) s = .next (s.rowWriteBy (g w) r i j (act w)).2) :
    StartsOn cmd g r i j pre act := by
  intro s w off hw _
  rw [hexec, rowWriteBy_of_accepts hw]

/-- A field of one bit that lies within its register. -/
def Fld.isBit (f : Fld) : Bool := f.w == 1 && (decide (f.lo < 32) || decide (f.lo < 64) && f.id.info.width == 64)

theorem Fld.isBit_iff {f : Fld} :
    f.isBit = true ↔ f.w = 1 ∧ (f.lo < 32 ∨ f.lo < 64 ∧ f.id.info.width = 64) := by
  simp [Fld.isBit]

/-- The register takes a bit as the command fixes it. -/
theorem getBit_narrow_setBit {f : Fld} (hf : f.isBit = true) (v : W64) (x : Nat) :
    getBit (f.id.narrow (setBits v f.lo f.w x)) f.lo = x.testBit 0 := by
  obtain ⟨hw, hlo⟩ := Fld.isBit_iff.mp hf
  rw [getBit_narrow_setBits _ _ _ _ _ _ (hlo.imp id And.right) (by omega), if_pos (by omega), Nat.sub_self]

/-- The register takes a bit beside the one that the command fixes as the write gives it. -/
theorem getBit_narrow_beside {f : Fld} (hf : f.isBit = true) (v : W64) (x k : Nat) (hne : k ≠ f.lo)
    (hk : k < 32 ∨ f.id.info.width = 64) (hk64 : k < 64) :
    getBit (f.id.narrow (setBits v f.lo f.w x)) k = getBit v k := by
  obtain ⟨hw, -⟩ := Fld.isBit_iff.mp hf
  rw [getBit_narrow_setBits _ _ _ _ _ _ hk hk64, if_neg (by omega)]

/-- A command that sets a bit which acts whenever it is written as 1. -/
theorem startsOn_trigger {cmd : Wr → Instr} {g : Wr → Wr} {f : Fld} {i j : Nat} {pre : State → Wr → Prop}
    {act : Wr → State → State} (hf : f.isBit = true) (hacc : ∀ w, (g w).acc = w.acc)
    (hexec : ∀ s w, exec (cmd w) s = .next (s.fieldWrite (g w) f 1 i j))
    (hact : ∀ (t : State) (w : Wr) (v old : W64),
      t.afterWrite w.acc f.id (ownIx w.acc f.id i) j v old = if getBit v f.lo then act w t else t) :
    StartsOn cmd (fun w => wrSet (g w) f 1) f.id i j pre act :=
  startsOn_of_afterWrite hacc hexec fun s t w _ => by
    rw [hact, getBit_narrow_setBit hf]
    exact if_pos rfl

/-- A command that sets a bit which acts where it is written as 1 and was 0. -/
theorem startsOn_rise {cmd : Wr → Instr} {g : Wr → Wr} {f : Fld} {i j : Nat} {act : Wr → State → State}
    (hf : f.isBit = true) (hst : stagingReg f.id = false) (hacc : ∀ w, (g w).acc = w.acc)
    (hexec : ∀ s w, exec (cmd w) s = .next (s.fieldWrite (g w) f 1 i j))
    (hact : ∀ (t : State) (w : Wr) (v old : W64),
      t.afterWrite w.acc f.id i j v old = if getBit v f.lo ∧ getBit old f.lo = false then act w t else t) :
    StartsOn cmd (fun w => wrSet (g w) f 1) f.id i j (fun s _ => s.flag f i j = false) act :=
  startsOn_of_afterWrite hacc hexec fun s t w hpre => by
    rw [ownIx_of_not_staging _ _ _ hst, hact, getBit_narrow_setBit hf]
    exact if_pos ⟨rfl, (flag_eq_getBit s f i j (Fld.isBit_iff.mp hf).1).symm.trans hpre⟩

/-- `startsOn_of_afterWrite` for a command that fixes one field only. -/
theorem startsBy_of_afterWrite {cmd : Wr → Instr} {f : Fld} {x i j : Nat} {pre : State → Wr → Prop}
    {act : Wr → State → State} (hexec : ∀ s w, exec (cmd w) s = .next (s.fieldWrite w f x i j))
    (hact : ∀ (s t : State) (w : Wr), pre s w →
      t.afterWrite w.acc f.id (ownIx w.acc f.id i) j (f.id.narrow (setBits w.value f.lo f.w x))
        (s.reg f.id (ownIx w.acc f.id i) j) = act w t) : StartsBy cmd f x i j pre act :=
  startsOn_of_afterWrite (g := id) (fun _ => rfl) hexec hact

/-- `startsOn_trigger` for a command that fixes one field only. -/
theorem startsBy_trigger {cmd : Wr → Instr} {f : Fld} {i j : Nat} {pre : State → Wr → Prop} {act : Wr → State → State}
    (hf : f.isBit = true) (hexec : ∀ s w, exec (cmd w) s = .next (s.fieldWrite w f 1 i j))
    (hact : ∀ (t : State) (w : Wr) (v old : W64),
      t.afterWrite w.acc f.id (ownIx w.acc f.id i) j v old = if getBit v f.lo then act w t else t) :
    StartsBy cmd f 1 i j pre act :=
  startsOn_trigger (g := id) hf (fun _ => rfl) hexec hact

/-- `startsOn_rise` for a command that fixes one field only. -/
theorem startsBy_rise {cmd : Wr → Instr} {f : Fld} {i j : Nat} {act : Wr → State → State}
    (hf : f.isBit = true) (hst : stagingReg f.id = false)
    (hexec : ∀ s w, exec (cmd w) s = .next (s.fieldWrite w f 1 i j))
    (hact : ∀ (t : State) (w : Wr) (v old : W64),
      t.afterWrite w.acc f.id i j v old = if getBit v f.lo ∧ getBit old f.lo = false then act w t else t) :
    StartsBy cmd f 1 i j (fun s _ => s.flag f i j = false) act :=
  startsOn_rise (g := id) hf hst (fun _ => rfl) hexec hact

/-- The low 32 bits of a value narrowed to its register. -/
theorem getBits_narrow_low (r : RegId) (v : W64) : getBits (r.narrow v) 0 32 = getBits v 0 32 := by
  apply Nat.eq_of_testBit_eq
  intro k
  rw [testBit_getBits, testBit_getBits]
  by_cases hk : k < 32
  · rw [getBit_narrow _ _ _ (Or.inl (by omega))]
  · simp [hk]

/-! ## Fleet time, windows, locks and the integrity blocks -/

/-- GO alone starts a scrub pass (R143). -/
theorem afterScrub_go (s : State) {i j : Nat} {v : W64} (hgo : getBit v 33 = true) (hstop : getBit v 34 = false) :
    s.afterScrub i j v = (s.scrubStart i j).2.setFlag .IN_SCRUB_CTL_GO i j false := by
  simp [State.afterScrub, hgo, hstop]

/-- STOP alone ends a scrub pass (R156). -/
theorem afterScrub_stop (s : State) {i j : Nat} {v : W64} (hgo : getBit v 33 = false) (hstop : getBit v 34 = true) :
    s.afterScrub i j v = s.scrubStopGo i j := by
  simp [State.afterScrub, hgo, hstop]

/-- Settles O17: each of these registers acts on the bit that its command sets, or on the value written. -/
theorem timeWindowLockIntegrityWrites : Obligations.TimeWindowLockIntegrityWrites := by
  refine ⟨⟨?accessErr, ?accept, ?commit, ?replace, ?cancel, ?trace, ?tmx, ?opened, ?closed, ?cnt, ?sub, ?force⟩,
    ?scrubGo, ?scrubStop, ?errors, ?split, ?tmRepair, ?lcRepair, ?hbmRepair⟩
  case accessErr | accept => exact startsBy_trigger rfl (fun _ _ => rfl) (fun _ _ _ _ => rfl)
  case commit | replace | cancel =>
    exact startsOn_trigger (f := .FT_STG_CTL_COMMIT) rfl (fun _ => rfl) (fun _ _ => rfl) (fun _ _ _ _ => rfl)
  case trace => exact fun u => startsBy_rise rfl rfl (fun _ _ => rfl) (fun _ _ _ _ => rfl)
  case tmx | force | errors | split => exact fun c => startsBy_trigger rfl (fun _ _ => rfl) (fun _ _ _ _ => rfl)
  case opened | closed => exact fun c n => startsBy_of_afterWrite (fun _ _ => rfl) (fun _ _ _ _ => rfl)
  case cnt => exact fun c n => startsOn_of_rowWrite (fun _ _ => rfl) (fun _ _ _ _ => rfl)
  case sub =>
    refine fun c n => startsOn_of_rowWrite (fun _ _ => rfl) (fun s t w _ => ?_)
    rw [← getBits_narrow_low .WN_CNT_SUB w.value]
    rfl
  case scrubGo =>
    refine fun d n => startsBy_of_afterWrite (fun _ _ => rfl) (fun s t w hpre => ?_)
    exact afterScrub_go _ (getBit_narrow_setBit (f := .IN_SCRUB_CTL_GO) rfl w.value 1)
      ((getBit_narrow_beside (f := .IN_SCRUB_CTL_GO) rfl w.value 1 34 (by decide) (.inr rfl) (by decide)).trans hpre)
  case scrubStop =>
    refine fun d n => startsBy_of_afterWrite (fun _ _ => rfl) (fun s t w hpre => ?_)
    exact afterScrub_stop _
      ((getBit_narrow_beside (f := .IN_SCRUB_CTL_STOP) rfl w.value 1 33 (by decide) (.inr rfl) (by decide)).trans hpre)
      (getBit_narrow_setBit (f := .IN_SCRUB_CTL_STOP) rfl w.value 1)
  case tmRepair | lcRepair | hbmRepair =>
    exact fun d => startsOn_rise (f := .IN_REPAIR_GO) rfl rfl (fun _ => rfl) (fun _ _ => rfl) (fun _ _ _ _ => rfl)

end Sys2Proof.Machine
end

section
/-! SUPPORT. The register writes of plots, mules, the cache and the arbiters (R169 to R267). -/
namespace Sys2Proof.Machine

open Sys2Proof

/-- Fields whose bits agree are equal. -/
theorem getBits_congr {v u : W64} {lo w : Nat} (h : ∀ k, lo ≤ k → k < lo + w → getBit v k = getBit u k) :
    getBits v lo w = getBits u lo w := by
  apply Nat.eq_of_testBit_eq
  intro k
  rw [testBit_getBits, testBit_getBits]
  by_cases hk : k < w
  · rw [h (lo + k) (by omega) (by omega)]
  · simp [hk]

/-- A field copied from another value, bit by bit. -/
theorem getBit_setBits_getBits (old v : W64) (lo w k : Nat) (hk : k < 64) :
    getBit (setBits old lo w (getBits v lo w)) k = if lo ≤ k ∧ k < lo + w then getBit v k else getBit old k := by
  rw [getBit_setBits _ _ _ _ _ hk]
  split
  next h =>
    rw [testBit_getBits, Nat.add_sub_cancel' h.1]
    simp [show k - lo < w by omega]
  next => rfl

/-! ## PL_CTL (R169, R170) -/

/-- Every field of PL_CTL is LOCKED on one condition: a write of a busy plot that reaches its fields is refused. -/
theorem lockedOut_PL_CTL (s : State) (i j : Nat) (v : W64) : s.lockedOut .PL_CTL i j v = s.lockBusy .PL_CTL i j 0 v := by
  have hbusy : ∀ f ∈ RegId.PL_CTL.info.fields, s.fieldBusy .PL_CTL i j v f = s.lockBusy .PL_CTL i j 0 v := by
    intro f hf
    simp only [RegId.info, List.mem_cons, List.not_mem_nil, or_false] at hf
    casesm* _ ∨ _ <;> subst f <;> rfl
  unfold State.lockedOut
  rw [show RegId.PL_CTL.info.fields = [⟨0, 1, .rw, .locked⟩, ⟨1, 1, .rw, .locked⟩, ⟨2, 1, .rw, .locked⟩,
    ⟨3, 1, .rw, .locked⟩, ⟨4, 6, .rw, .locked⟩] from rfl] at hbusy ⊢
  simp only [List.forall_mem_cons] at hbusy
  obtain ⟨h0, h1, h2, h3, h4, -⟩ := hbusy
  cases hb : s.lockBusy .PL_CTL i j 0 v <;> simp [h0, h1, h2, h3, h4, hb]

/-- A plot that is not busy takes the value of PL_CTL as it is written. -/
theorem keepBusy_PL_CTL {s : State} {i j : Nat} {v : W64} (h : s.lockedOut .PL_CTL i j v = false) :
    s.keepBusy .PL_CTL i j v = v := by
  rw [lockedOut_PL_CTL] at h
  unfold State.keepBusy State.fieldBusy
  have : ∀ lo, s.lockBusy .PL_CTL i j lo v = false := fun _ => h
  simp [this]

/-- A write of PL_CTL replaces its ten low bits. -/
theorem getBit_writtenValue_PL_CTL (v old : W64) {k : Nat} (hk : k < 10) :
    getBit (writtenValue .PL_CTL v old) k = getBit v k := by
  unfold writtenValue
  simp only [RegId.info, List.foldl_cons, List.foldl_nil, FieldInfo.write]
  interval_cases k <;> simp [getBit_setBits_getBits]

/-- An accepted write is not locked out. -/
theorem lockedOut_of_writeKind {s : State} {w : Wr} {id : RegId} {i j : Nat} (h : s.writeKind w id i j = 0) :
    s.lockedOut id i j w.value = false := by
  unfold State.writeKind at h
  split_ifs at h with h1 h2 h3
  all_goals simp_all

/-- The ten low bits of PL_CTL after an accepted write. -/
theorem getBit_stored_PL_CTL {s : State} {w : Wr} {i j off k : Nat} (h : s.accepts w .PL_CTL i j off) (hk : k < 10) :
    getBit ((s.stored w .PL_CTL i j off).reg .PL_CTL i j) k = getBit w.value k := by
  obtain ⟨-, -, -, -, hkind, -⟩ := h
  have hlock : s.lockedOut .PL_CTL i j (narrowWr w .PL_CTL).value = false := lockedOut_of_writeKind hkind
  change getBit ((s.storeWrite (narrowWr w .PL_CTL) .PL_CTL i j off).reg .PL_CTL i j) k = _
  rw [reg_storeWrite_same _ _ _ _ _ _ rfl, keepBusy_PL_CTL hlock, getBit_writtenValue_PL_CTL _ _ hk]
  exact getBit_narrow _ _ _ (.inl (by omega))

/-- A plot that is enabled, or changes its binding or its owner while it is, starts a fill. -/
theorem afterPlCtl_fills {t : State} {i j : Nat} {old : W64} (hon : getBit (t.reg .PL_CTL i j) 0 = true)
    (hnew : getBit old 0 = false ∨ getBits old 1 2 ≠ getBits (t.reg .PL_CTL i j) 1 2 ∨
      getBits old 4 6 ≠ getBits (t.reg .PL_CTL i j) 4 6) : t.afterPlCtl i j old = t.startFill (48 * i + j) := by
  unfold State.afterPlCtl
  rw [if_pos hon, if_pos hnew]

/-- The write that sets ENABLE of a plot that was OFF. -/
theorem exec_plotEnable {s : State} {w : Wr} {k n off : Nat} (h : s.accepts (wrSet w .PL_CTL_ENABLE 1) .PL_CTL k n off)
    (hoff : s.flag .PL_CTL_ENABLE k n = false) :
    exec (.plotEnable w k n) s = .next ((s.stored (wrSet w .PL_CTL_ENABLE 1) .PL_CTL k n off).startFill (48 * k + n)) := by
  refine congrArg _ ((fieldWrite_of_accepts (f := .PL_CTL_ENABLE) h).trans (afterPlCtl_fills ?_ (.inl ?_)))
  · exact (getBit_stored_PL_CTL h (by decide)).trans (getBit_setBits _ _ _ _ _ (by decide))
  · exact (flag_eq_getBit s .PL_CTL_ENABLE k n rfl).symm.trans hoff

/-- A flag that is set is a field of 1. -/
theorem fld_of_flag {s : State} {f : Fld} {i j : Nat} (h : s.flag f i j = true) : s.fld f i j = 1 := by
  simpa [State.flag] using h

/-- The write that changes the binding or the owner of a plot that is enabled. -/
theorem exec_plotAttrChange {s : State} {w : Wr} {k n off : Nat}
    (h : s.accepts (wrSet w .PL_CTL_ENABLE (s.fld .PL_CTL_ENABLE k n)) .PL_CTL k n off)
    (hon : s.flag .PL_CTL_ENABLE k n = true)
    (hnew : getBits (s.reg .PL_CTL k n) 1 2 ≠ getBits w.value 1 2 ∨ getBits (s.reg .PL_CTL k n) 4 6 ≠ getBits w.value 4 6) :
    exec (.plotAttrChange w k n) s =
      .next ((s.stored (wrSet w .PL_CTL_ENABLE (s.fld .PL_CTL_ENABLE k n)) .PL_CTL k n off).startFill (48 * k + n)) := by
  refine congrArg _ ((fieldWrite_of_accepts (f := .PL_CTL_ENABLE) h).trans (afterPlCtl_fills ?_ (.inr ?_)))
  · refine (getBit_stored_PL_CTL h (by decide)).trans ((getBit_setBits _ _ _ _ _ (by decide)).trans ?_)
    rw [fld_of_flag hon]
    rfl
  · have hkeep : ∀ lo c, 1 ≤ lo → lo + c ≤ 10 → getBits ((s.stored (wrSet w .PL_CTL_ENABLE (s.fld .PL_CTL_ENABLE k n))
        .PL_CTL k n off).reg .PL_CTL k n) lo c = getBits w.value lo c := fun lo c hlo hc =>
      getBits_congr fun b hb hb' => (getBit_stored_PL_CTL h (by omega)).trans
        ((getBit_setBits _ _ _ _ _ (by omega)).trans (if_neg fun hle => by
          have : b < 0 + 1 := hle.2
          omega))
    exact hnew.imp (fun hne => hne.trans_eq (hkeep 1 2 (by decide) (by decide)).symm)
      (fun hne => hne.trans_eq (hkeep 4 6 (by decide) (by decide)).symm)

/-- Settles O18: each of these registers acts on the bit that its command sets, or on the value written; PL_CTL on the
value it then holds. -/
theorem plotMuleCacheWrites : Obligations.PlotMuleCacheWrites := by
  refine ⟨?enable, ?attr, ?tag, ?range, ?tlb, ?muCmd, ?winOpen, ?winClose, ?suspect, ?part, ?flush, ?inval, ?lcCnt, ?trCnt⟩
  case enable => exact fun k n s w off h hoff => exec_plotEnable h hoff
  case attr => exact fun k n s w off h hon hnew => exec_plotAttrChange h hon hnew
  case tag => exact fun k n => startsOn_of_rowWrite (fun _ _ => rfl) (fun _ _ _ _ => rfl)
  case range | lcCnt | trCnt => exact fun k => startsBy_trigger rfl (fun _ _ => rfl) (fun _ _ _ _ => rfl)
  case tlb => exact startsBy_rise rfl rfl (fun _ _ => rfl) (fun _ _ _ _ => rfl)
  case muCmd => exact startsBy_trigger rfl (fun _ _ => rfl) (fun _ _ _ _ => rfl)
  case winOpen | winClose =>
    exact startsOn_trigger (f := .MU_WIN_CMD_GO) rfl (fun _ => rfl) (fun _ _ => rfl) (fun _ _ _ _ => rfl)
  case suspect => exact fun k pc => startsBy_trigger rfl (fun _ _ => rfl) (fun _ _ _ _ => rfl)
  case part => exact fun v s w off h => congrArg _ (rowWrite_of_accepts h)
  case flush | inval =>
    exact startsOn_rise (f := .LC_OP_GO) rfl rfl (fun _ => rfl) (fun _ _ => rfl) (fun _ _ _ _ => rfl)

end Sys2Proof.Machine
end

section
/-! SUPPORT. The register writes of streams, engines, cores, queues, herd, power manager and service block (R270 to R592). -/
namespace Sys2Proof.Machine

open Sys2Proof

/-! ## Registers whose bits act together -/

/-- ISSUE alone (R270). -/
theorem afterStCmd_issue (s : State) (a : Acc) {i j : Nat} {v : W64} (h0 : getBit v 0 = true) (h1 : getBit v 1 = false)
    (h2 : getBit v 2 = false) :
    s.afterStCmd a i j v = ((s.stIssueList i j (postVi a) (s.fld .ST_CMD_LIST_LIST i j) (s.fld .ST_CMD_LIST_SPACE i j)).2.setFld
      .ST_CMD_RESULT i j (s.stIssueList i j (postVi a) (s.fld .ST_CMD_LIST_LIST i j) (s.fld .ST_CMD_LIST_SPACE i j)).1).setFlag
      .ST_CMD_ISSUE i j false := by
  simp [State.afterStCmd, h0, h1, h2]

/-- CANCEL alone (R288). -/
theorem afterStCmd_cancel (s : State) (a : Acc) {i j : Nat} {v : W64} (h0 : getBit v 0 = false) (h1 : getBit v 1 = true)
    (h2 : getBit v 2 = false) :
    s.afterStCmd a i j v = ((s.stCancel i j (postVi a)).2.setFld .ST_CMD_RESULT i j (s.stCancel i j (postVi a)).1).setFlag
      .ST_CMD_ISSUE i j false := by
  simp [State.afterStCmd, h0, h1, h2]

/-- RESUME alone (R291). -/
theorem afterStCmd_resume (s : State) (a : Acc) {i j : Nat} {v : W64} (h0 : getBit v 0 = false) (h1 : getBit v 1 = false)
    (h2 : getBit v 2 = true) :
    s.afterStCmd a i j v = ((s.stResume i j (postVi a)).2.setFld .ST_CMD_RESULT i j (s.stResume i j (postVi a)).1).setFlag
      .ST_CMD_ISSUE i j false := by
  simp [State.afterStCmd, h0, h1, h2]

/-- START alone (R336). -/
theorem afterCtxCtl_start (s : State) {i j : Nat} {v : W64} (h0 : getBit v 0 = true) (h1 : getBit v 1 = false)
    (h2 : getBit v 2 = false) : s.afterCtxCtl i j v = s.ctxStart i j := by
  simp [State.afterCtxCtl, h0, h1, h2]

/-- STOP alone (R338). -/
theorem afterCtxCtl_stop (s : State) {i j : Nat} {v : W64} (h0 : getBit v 0 = false) (h1 : getBit v 1 = true)
    (h2 : getBit v 2 = false) : s.afterCtxCtl i j v = s.ctxStop i j := by
  simp [State.afterCtxCtl, h0, h1, h2]

/-- RESET alone (R338). -/
theorem afterCtxCtl_reset (s : State) {i j : Nat} {v : W64} (h0 : getBit v 0 = false) (h1 : getBit v 1 = false)
    (h2 : getBit v 2 = true) : s.afterCtxCtl i j v = s.ctxReset i j := by
  simp [State.afterCtxCtl, h0, h1, h2]

/-- A low bit beside the one that the command sets, which the write gives as 0. -/
theorem getBit_narrow_clear {f : Fld} (hf : f.isBit = true) {v : W64} {x k : Nat} (hne : k ≠ f.lo) (hk : k < 32)
    (h : getBit v k = false) : getBit (f.id.narrow (setBits v f.lo f.w x)) k = false :=
  (getBit_narrow_beside hf v x k hne (.inl hk) (by omega)).trans h

/-- Settles O19: each of these registers acts on the bit that its command sets, GO and the enables where it was 0. -/
theorem streamCoreQueueHerdWrites : Obligations.StreamCoreQueueHerdWrites := by
  refine ⟨⟨?issue, ?cancel, ?resume, ?stCnt, ?mxCnt, ?vxCnt, ?gtCnt, ?start, ?stop, ?reset, ?core, ?kick, ?cfgErr, ?scCnt⟩,
    ?queue, ?post, ?postCore, ?operator, ?queueCancel, ?viReset, ?found, ?swap, ?leave, ?expel, ?pm⟩
  case issue =>
    exact fun e c => startsBy_of_afterWrite (fun _ _ => rfl) fun s t w ⟨h1, h2⟩ =>
      afterStCmd_issue t w.acc (getBit_narrow_setBit (f := .ST_CMD_ISSUE) rfl w.value 1)
        (getBit_narrow_clear (f := .ST_CMD_ISSUE) rfl (by decide) (by decide) h1)
        (getBit_narrow_clear (f := .ST_CMD_ISSUE) rfl (by decide) (by decide) h2)
  case cancel =>
    exact fun e c => startsBy_of_afterWrite (fun _ _ => rfl) fun s t w ⟨h0, h2⟩ =>
      afterStCmd_cancel t w.acc (getBit_narrow_clear (f := .ST_CMD_CANCEL) rfl (by decide) (by decide) h0)
        (getBit_narrow_setBit (f := .ST_CMD_CANCEL) rfl w.value 1)
        (getBit_narrow_clear (f := .ST_CMD_CANCEL) rfl (by decide) (by decide) h2)
  case resume =>
    exact fun e c => startsBy_of_afterWrite (fun _ _ => rfl) fun s t w ⟨h0, h1⟩ =>
      afterStCmd_resume t w.acc (getBit_narrow_clear (f := .ST_CMD_RESUME) rfl (by decide) (by decide) h0)
        (getBit_narrow_clear (f := .ST_CMD_RESUME) rfl (by decide) (by decide) h1)
        (getBit_narrow_setBit (f := .ST_CMD_RESUME) rfl w.value 1)
  case start =>
    exact fun c x => startsBy_of_afterWrite (fun _ _ => rfl) fun s t w ⟨h1, h2⟩ =>
      afterCtxCtl_start t (getBit_narrow_setBit (f := .SC_CTX_CTL_START) rfl w.value 1)
        (getBit_narrow_clear (f := .SC_CTX_CTL_START) rfl (by decide) (by decide) h1)
        (getBit_narrow_clear (f := .SC_CTX_CTL_START) rfl (by decide) (by decide) h2)
  case stop =>
    exact fun c x => startsBy_of_afterWrite (fun _ _ => rfl) fun s t w ⟨h0, h2⟩ =>
      afterCtxCtl_stop t (getBit_narrow_clear (f := .SC_CTX_CTL_STOP) rfl (by decide) (by decide) h0)
        (getBit_narrow_setBit (f := .SC_CTX_CTL_STOP) rfl w.value 1)
        (getBit_narrow_clear (f := .SC_CTX_CTL_STOP) rfl (by decide) (by decide) h2)
  case reset =>
    exact fun c x => startsBy_of_afterWrite (fun _ _ => rfl) fun s t w ⟨h0, h1⟩ =>
      afterCtxCtl_reset t (getBit_narrow_clear (f := .SC_CTX_CTL_RESET) rfl (by decide) (by decide) h0)
        (getBit_narrow_clear (f := .SC_CTX_CTL_RESET) rfl (by decide) (by decide) h1)
        (getBit_narrow_setBit (f := .SC_CTX_CTL_RESET) rfl w.value 1)
  case stCnt | mxCnt | vxCnt | gtCnt | core | cfgErr | scCnt | queueCancel =>
    exact fun e => startsBy_trigger rfl (fun _ _ => rfl) (fun _ _ _ _ => rfl)
  case kick => exact fun c x => startsBy_trigger rfl (fun _ _ => rfl) (fun _ _ _ _ => rfl)
  case queue => exact fun q => startsBy_rise rfl rfl (fun _ _ => rfl) (fun _ _ _ _ => rfl)
  case operator => exact fun v o => startsBy_rise rfl rfl (fun _ _ => rfl) (fun _ _ _ _ => rfl)
  case viReset => exact startsBy_rise rfl rfl (fun _ _ => rfl) (fun _ _ _ _ => rfl)
  case post => exact fun poison => startsOn_of_rowWriteBy (fun _ _ => rfl)
  case postCore => exact fun c poison => startsOn_of_rowWriteBy (fun _ _ => rfl)
  case found | swap | leave | expel =>
    exact startsOn_rise (f := .HD_CTL_GO) rfl rfl (fun _ => rfl) (fun _ _ => rfl) (fun _ _ _ _ => rfl)
  case pm => exact startsBy_trigger rfl (fun _ _ => rfl) (fun _ _ _ _ => rfl)

/-! ## The service block -/

/-- NS_CMD's commands (R562): GO makes the Nest carry out the command. -/
theorem nestWr_of_accepts {s : State} {w : Wr} {op off : Nat}
    (h : s.accepts (wrSet (wrSet w .NS_CMD_OP op) .NS_CMD_GO 1) .NS_CMD 0 0 off) :
    (s.nestWr w op).2 = (s.stored (wrSet (wrSet w .NS_CMD_OP op) .NS_CMD_GO 1) .NS_CMD 0 0 off).nestGo w.acc :=
  (rowWrite_of_accepts h).trans (if_pos (getBit_narrow_setBit (f := .NS_CMD_GO) rfl _ 1))

/-- A read of a slot that no error strikes is NS_CMD's command. -/
theorem exec_nestRead {s : State} (w : Wr) (hpath : s.pathOpen w.acc = true) :
    exec (.nestRead w false) s = .next (s.nestWr w 0).2 :=
  congrArg Host.Outcome.next (if_pos hpath)

/-- AU_ACK takes all 64 bits (R567). -/
theorem afterWrite_AU_ACK {t : State} {w : Wr} {i j : Nat} {old : W64} (h : w.acc.origin = .vi 0) :
    t.afterWrite w.acc .AU_ACK i j (RegId.AU_ACK.narrow w.value) old = if t.role = 3 then t.auditAck w.value.toNat else t := by
  change (if w.acc.origin = .vi 0 ∧ t.role = 3 then t.auditAck w.value.toNat else t) = _
  simp only [h, true_and]

/-- Settles O20: each of these registers acts on GO, or on the value written. -/
theorem serviceWrites : Obligations.ServiceWrites := by
  refine ⟨?lf, ?nestRead, ?nestWrite, ?nestEmpty, ?nestWipe, ?ack, ?read, ?load, ?prepare, ?migrate, ?fresh, ?cancel,
    ?stackRetire, ?sliceRetire, ?stackReinstate, ?sliceReinstate⟩
  case lf | load => exact startsBy_trigger rfl (fun _ _ => rfl) (fun _ _ _ _ => rfl)
  case nestRead =>
    intro s w off h _
    rw [exec_nestRead w h.2.1, nestWr_of_accepts h]
  case nestWrite | nestEmpty | nestWipe => exact fun s w off h _ => congrArg _ (nestWr_of_accepts h)
  case ack => exact startsOn_of_rowWrite (fun _ _ => rfl) (fun s t w h => afterWrite_AU_ACK h)
  case read => exact startsOn_of_rowWrite (fun _ _ => rfl) (fun _ _ _ _ => rfl)
  case prepare | migrate | fresh | cancel =>
    exact fun d => startsOn_trigger (f := .SV_SPARE_CMD_GO) rfl (fun _ => rfl) (fun _ _ => rfl) (fun _ _ _ _ => rfl)
  case stackRetire | sliceRetire => exact startsOn_of_rowWriteBy (fun _ _ => rfl)
  case stackReinstate | sliceReinstate => exact fun ok => startsOn_of_rowWriteBy (fun _ _ => rfl)

end Sys2Proof.Machine
end

section
/-! SUPPORT. Reads and writes of any register, the steer window, and the boundaries of SHADOW registers (R11 to R15, R22, R341,
R573, R577). -/
namespace Sys2Proof.Machine

open Sys2Proof

/-! ## The bus -/

/-- A write at a register's own offset and width is that register's write (R14, R15). -/
theorem busWrite_own {s : State} {w : Wr} {o : Nat} {r : RegRef} (halign : alignOff w.wide o = o) (hblock : s.blockKind o = 0)
    (hwin : steerWinAt o = none) (hreg : regAt o = some r) (hwidth : r.id.info.width = 64 ↔ w.wide = true) :
    s.busWrite w o = s.regWrite w r.id (ownIx w.acc r.id r.i) r.j o := by
  have hsplit : ¬(w.wide = true ∧ s.splits o = true) := by
    rintro ⟨hw, hs⟩
    rw [State.splits, hreg, ← beq_iff_eq.mpr (hwidth.mpr hw)] at hs
    simp [hwidth.mpr hw] at hs
  unfold State.busWrite
  simp only [halign]
  rw [if_neg hsplit]
  unfold State.writeAt
  simp [hblock, hwin, hreg]

/-- A clean write goes to the offset that its path gives (R422). -/
theorem pathWrite_clean {s : State} {w : Wr} {off o : Nat} (hpath : s.pathOpen w.acc = true)
    (hoff : s.pathOffset w.acc off = some o) : s.pathWrite w off false = s.busWrite w o := by
  unfold State.pathWrite
  rw [if_neg (by simp [hpath])]
  simp only [hoff]
  cases w.acc.origin <;> rfl

/-- A read goes to the offset that its path gives (R422). -/
theorem pathRead_some {s : State} {a : Acc} {wide : Bool} {off o : Nat} (hoff : s.pathOffset a off = some o) :
    s.pathRead a wide off = s.busRead a wide o := by
  simp only [State.pathRead, hoff]

/-- The words of a read complete to the host function that asked. -/
theorem answerRead_vi {s : State} {a : Acc} {v : Nat} (ws : List PW) (h : a.origin = .vi v) :
    s.answerRead a ws = s.emit (.cpl a.port ws) := by
  simp only [State.answerRead, h]

/-- A request of the BMC while the service firmware runs (R577). -/
theorem mctp_serves {s : State} {serve : State → State} (hon : s.power.svcOn = true) (hfw : s.fwDown = false) :
    s.mctp serve = serve s := by
  simp [State.mctp, hon, hfw]

/-! ## The steer window (R341, R367) -/

/-- Every word of a core's window lies at its place. -/
theorem steerWinAt_steerWinOff {core off : Nat} (hc : core < 22) (ho : off < 0x80000) :
    steerWinAt (steerWinOff core off) = some (core, off / 4) := by
  unfold steerWinAt steerWinOff
  by_cases h : core < 18
  · rw [if_pos h, if_pos (by omega)]
    simp only [Option.some.injEq, Prod.mk.injEq]
    omega
  · rw [if_neg h, if_neg (by omega), if_pos (by omega)]
    simp only [Option.some.injEq, Prod.mk.injEq]
    omega

theorem accRoot_vi_zero {a : Acc} (h : a.origin = .vi 0) : accRoot a = true := by
  simp [accRoot, h]

/-- A host write through the window stores the word. -/
theorem writeAt_window {s : State} {a : Acc} {core off : Nat} {v : W32} (ha : a.origin = .vi 0) (hc : core < 22)
    (ho : off < 0x80000) (hblock : s.blockKind (steerWinOff core off) = 0) :
    (s.writeAt ⟨a, false, v.setWidth 64⟩ (steerWinOff core off)).2 = s.steerStore core (off / 4) ⟨v, false⟩ := by
  unfold State.writeAt
  simp [hblock, steerWinAt_steerWinOff hc ho, State.steerWinWrite, accRoot_vi_zero ha]

/-- A host read through the window returns the word. -/
theorem readOne_window {s : State} {a : Acc} {core off : Nat} (ha : a.origin = .vi 0) (hc : core < 22)
    (ho : off < 0x80000) (hblock : s.blockKind (steerWinOff core off) = 0) :
    s.readOne a (steerWinOff core off) = (0, s.steerWord core (off / 4)) := by
  unfold State.readOne State.readAt
  simp [hblock, steerWinAt_steerWinOff hc ho, State.steerWinRead, accRoot_vi_zero ha]

theorem pathOffset_vi_zero {s : State} {a : Acc} (off : Nat) (h : a.origin = .vi 0) : s.pathOffset a off = some off := by
  simp only [State.pathOffset, h]

theorem exec_window_write {s : State} {a : Acc} {core off : Nat} {v : W32} (hpath : s.pathOpen a = true)
    (ha : a.origin = .vi 0) (hc : core < 22) (ho : off < 0x80000) (hblock : s.blockKind (steerWinOff core off) = 0) :
    exec (.steerWindowAccess a core off true v) s = .next (s.steerStore core (off / 4) ⟨v, false⟩) := by
  change execSteerWindowAccess a core off true v s = _
  unfold execSteerWindowAccess
  rw [if_neg (by simp [hpath])]
  simp only [pathOffset_vi_zero _ ha, writeAt_window ha hc ho hblock]

theorem exec_window_read {s : State} {a : Acc} {core off : Nat} {v : W32} (hpath : s.pathOpen a = true)
    (ha : a.origin = .vi 0) (hc : core < 22) (ho : off < 0x80000) (hblock : s.blockKind (steerWinOff core off) = 0) :
    exec (.steerWindowAccess a core off false v) s =
      .next ((s.steerWord core (off / 4)).2.emit (.cpl a.port [(s.steerWord core (off / 4)).1])) := by
  change execSteerWindowAccess a core off false v s = _
  unfold execSteerWindowAccess
  rw [if_neg (by simp [hpath])]
  simp only [pathOffset_vi_zero _ ha, readOne_window ha hc ho hblock, answerRead_vi _ ha]

/-! ## SHADOW registers (R12) -/

/-- The boundary of a waiting register passes where what it governs is idle. -/
theorem atBoundary_idle {s : State} {r : RegRef} (hpend : s.isPending r.id r.i r.j = true)
    (hidle : (r.id = .FT_PORT_ASYM ∧ (s.portTime r.i).t3 = none) ∨ (r.id = .TMX_HOT_CFG ∧ s.inForce .TMX_HOT_CFG_EN r.i 0 = 0) ∨
       (r.id = .MU_HOLD ∧ ∀ pc, pc < 64 → s.chMode r.i pc = 0) ∨ (r.id = .GT_CFG ∧ s.engQueue r.i 2 = []) ∨
       r.id = .SC_CORE_CFG ∨ (r.id = .SC_CORE_QUANTUM ∧ s.coreRuns r.i = false) ∨ (r.id = .HQ_VI_CFG ∧ s.hq.staged = []) ∨
       (r.id = .TH_CFG ∧ s.flag .PM_STATUS_RUNNING 0 0 = false)) : s.atBoundary r.id r.i r.j = true := by
  unfold State.atBoundary
  rw [hpend, Bool.true_and]
  rcases hidle with ⟨hid, h⟩ | ⟨hid, h⟩ | ⟨hid, h⟩ | ⟨hid, h⟩ | hid | ⟨hid, h⟩ | ⟨hid, h⟩ | ⟨hid, h⟩ <;> rw [hid]
  case inr.inr.inl => simpa using h
  all_goals simp [h]

/-- TR_REQ and PL_PT_ROOT have boundaries that are events of their own (R179, R265). -/
theorem atBoundary_own {s : State} {id : RegId} (i j : Nat) (h : id = .TR_REQ ∨ id = .PL_PT_ROOT) :
    s.atBoundary id i j = false := by
  rcases h with rfl | rfl <;> exact Bool.and_false _

/-! ## LOCKED fields (R11) -/

/-- No two fields of a register share a bit. -/
def RegInfo.apart (r : RegInfo) : Bool :=
  r.fields.all (fun f => r.fields.all (fun g => decide (f = g) || decide (f.lo + f.w ≤ g.lo ∨ g.lo + g.w ≤ f.lo)))

theorem info_apart (id : RegId) : id.info.apart = true := by
  cases id <;> decide

/-- Every field of a register that holds a bit is the same one. -/
theorem field_unique {id : RegId} {f g : FieldInfo} {k : Nat} (hf : f ∈ id.info.fields) (hg : g ∈ id.info.fields)
    (hf1 : f.lo ≤ k) (hf2 : k < f.lo + f.w) (hg1 : g.lo ≤ k) (hg2 : k < g.lo + g.w) : g = f := by
  have h := info_apart id
  unfold RegInfo.apart at h
  simp only [List.all_eq_true, Bool.or_eq_true, decide_eq_true_eq] at h
  rcases h g hg f hf with h | h
  · exact h
  · omega

/-- The audit log's own registers have no LOCKED field that software writes. -/
theorem logReg_of_locked {id : RegId} {f : FieldInfo} (hf : f ∈ id.info.fields) (hap : f.ap = .locked) : logReg id = false := by
  have hall : id.info.fields.any (fun f => f.ap == .locked) = true → logReg id = false := by
    cases id <;> decide
  exact hall (List.any_eq_true.mpr ⟨f, hf, by rw [hap]; rfl⟩)

/-- A busy LOCKED field of the value written is as the register holds it. -/
theorem getBit_keepBusy {s : State} {id : RegId} {i j k : Nat} {v : W64} {f : FieldInfo} (hf : f ∈ id.info.fields)
    (hbusy : s.fieldBusy id i j v f = true) (h1 : f.lo ≤ k) (h2 : k < f.lo + f.w) (hk : k < 64) :
    getBit (s.keepBusy id i j v) k = getBit (s.reg id i j) k := by
  have step : ∀ (a : W64) (g : FieldInfo), getBit a k = getBit (s.reg id i j) k →
      getBit (if s.fieldBusy id i j v g then setBits a g.lo g.w (getBits (s.reg id i j) g.lo g.w) else a) k =
        getBit (s.reg id i j) k := by
    intro a g ha
    split
    · rw [getBit_setBits_getBits _ _ _ _ _ hk]
      split
      · rfl
      · exact ha
    · exact ha
  unfold State.keepBusy
  obtain ⟨l, r, hsplit⟩ := List.append_of_mem hf
  rw [hsplit, List.foldl_append, List.foldl_cons, if_pos hbusy]
  refine List.foldlRecOn (motive := fun a => getBit a k = getBit (s.reg id i j) k) r _ ?_ (fun a ha g _ => step a g ha)
  rw [getBit_setBits_getBits _ _ _ _ _ hk, if_pos ⟨h1, h2⟩]

/-- A bit that the value written holds as the register does keeps its value, where its field is RW. -/
theorem getBit_writtenValue_of_eq {id : RegId} {f : FieldInfo} {v old : W64} {k : Nat} (hf : f ∈ id.info.fields) (hty : f.ty = .rw)
    (h1 : f.lo ≤ k) (h2 : k < f.lo + f.w) (hk : k < 64) (hv : getBit v k = getBit old k) :
    getBit (writtenValue id v old) k = getBit old k := by
  unfold writtenValue
  refine List.foldlRecOn (motive := fun a => getBit a k = getBit old k) _ _ rfl (fun a ha g hg => ?_)
  by_cases hin : g.lo ≤ k ∧ k < g.lo + g.w
  · obtain rfl := field_unique hf hg h1 h2 hin.1 hin.2
    simp only [FieldInfo.write, hty]
    rw [getBit_setBits_getBits _ _ _ _ _ hk, if_pos hin, hv]
  · cases hgt : g.ty <;> simp only [FieldInfo.write, hgt]
    case rw | w1c | rw1s => rw [getBit_setBits _ _ _ _ _ hk, if_neg hin, ha]
    all_goals exact ha

/-- A LOCKED field whose block is busy keeps its value. -/
theorem getBit_storeWrite_locked {s : State} {w : Wr} {id : RegId} {i j off k : Nat} {f : FieldInfo} (hf : f ∈ id.info.fields)
    (hap : f.ap = .locked) (hty : f.ty = .rw) (hbusy : s.lockBusy id i j f.lo w.value = true) (h1 : f.lo ≤ k)
    (h2 : k < f.lo + f.w) (hk : k < 64) :
    getBit ((s.storeWrite w id i j off).reg id i j) k = getBit (s.reg id i j) k := by
  rw [reg_storeWrite_same _ _ _ _ _ _ (logReg_of_locked hf hap)]
  exact getBit_writtenValue_of_eq hf hty h1 h2 hk
    (getBit_keepBusy hf (by simp only [State.fieldBusy, hap, hty, hbusy]; decide) h1 h2 hk)

/-! ## The obligation -/

/-- Settles O22. That a SHADOW register's boundary passes while what it governs is idle is the model's choice (log entry 16),
and so are the bytes of the answers of READ_REG and WRITE_REG (log entry 130). -/
theorem registerAccess : Obligations.RegisterAccess := by
  intro s
  refine ⟨?write, ?read, ?bmcRead, ?bmcWrite, ?window, ?challenge, ?shadow, ?ownBoundary, ?locked⟩
  case write =>
    intro w off o r hpath hoff halign hblock hwin hreg hwidth
    refine congrArg (fun x : Nat × State => Host.Outcome.next x.2) ?_
    rw [pathWrite_clean hpath hoff, busWrite_own halign hblock hwin hreg hwidth]
  case read =>
    intro a wide off o v hpath ha hoff
    refine (congrArg _ (if_neg (by simp [hpath]))).trans ?_
    simp only [pathRead_some hoff, answerRead_vi _ ha]
  case bmcRead =>
    intro off wide hon hfw hkind
    refine (congrArg _ (mctp_serves hon hfw)).trans ?_
    simp only [hkind]
    rfl
  case bmcWrite =>
    intro off wide v hon hfw hkind
    refine (congrArg _ (mctp_serves hon hfw)).trans ?_
    simp only [hkind]
    rfl
  case window =>
    exact fun a core off v hpath ha hc ho hblock =>
      ⟨exec_window_write hpath ha hc ho hblock, exec_window_read hpath ha hc ho hblock⟩
  case challenge =>
    intro a k v hpath ha hk hoff
    have hplace : (offset? .LF_CHALLENGE k 0).getD 0 = 0x301040 + 8 * k := by
      interval_cases k <;> decide
    refine (congrArg _ (if_neg (by simp [hpath]))).trans ?_
    simp only [hplace, pathRead_some hoff, answerRead_vi _ ha]
  case shadow =>
    intro off r hreg hpend hidle
    change execShadowApply off s = _
    simp only [execShadowApply, hreg, atBoundary_idle hpend hidle, if_true]
  case ownBoundary =>
    intro off r hreg hid
    change execShadowApply off s = _
    simp [execShadowApply, hreg, atBoundary_own _ _ hid]
  case locked =>
    exact fun w id i j off k f hf hap hty hbusy h1 h2 hk => getBit_storeWrite_locked hf hap hty hbusy h1 h2 hk

end Sys2Proof.Machine
end

section
/-! SUPPORT. Transactions of the herd: requests of other members, replies and timeouts (R476 to R481, R112, R118). -/
namespace Sys2Proof.Machine

open Sys2Proof

/-- A command that serves a frame: what it makes of the state with the frame counted. -/
theorem exec_of_frameIn {c : Instr} {s t u : State} {p : Nat} {f : Frame} {k : State → Option State}
    (hc : exec c s = .next (s.frameIn p f k)) (h : s.serves t p f) (hk : k t = some u) : exec c s = .next u :=
  hc.trans (congrArg _ (frameIn_served h hk))

section Reply
variable {f : Frame} {ack len : Nat} {u : State}

/-- An access that another member asked for and that was made (R477). -/
theorem herdReply_done {ws : List PW} : State.herdReply f ack len (.done ws, u) = (true, u.reply f ack 0 len ws) := rfl

/-- An access that another member asked for and that was refused (R478). -/
theorem herdReply_refused {fam code : Nat} :
    State.herdReply f ack len (.refused fam code, u) = (true, u.replyRefuse f fam code) := rfl

end Reply

section Served
variable {s t u : State} {p : Nat} {f : Frame} (h : s.serves t p f)
include h

/-- WRITE makes its access and answers. -/
theorem exec_write {o : HerdOut} (ho : t.frameAccess p f f.len true false = (o, u)) {v : State}
    (hv : State.herdReply f 0x05 0 (o, u) = (true, v)) : exec (.write p f) s = .next v :=
  congrArg _ (frameAt_served h (by rw [ho, hv]))

/-- POST makes its access and answers. -/
theorem exec_post {o : HerdOut} (ho : t.frameAccess p f 1 true true = (o, u)) {v : State}
    (hv : State.herdReply f 0x05 0 (o, u) = (true, v)) : exec (.post p f) s = .next v :=
  congrArg _ (frameAt_served h (by rw [ho, hv]))

/-- READ_REQ of 1 to 4,096 bytes makes its access and answers. -/
theorem exec_readReq {o : HerdOut} (ho : t.frameAccess p f f.arg false false = (o, u)) {v : State} (h1 : 1 ≤ f.arg)
    (h2 : f.arg ≤ 4096) (hv : State.herdReply f 0x04 f.arg (o, u) = (true, v)) : exec (.readReq p f) s = .next v :=
  congrArg _ (frameAt_served h (by rw [if_neg (by omega), ho, hv]))

/-- LOCK_REQ waits for its turn at the lock unit, whose answer goes back. -/
theorem exec_lockReq {err : Nat} {q : LockReq} {r : LockResult}
    (hq : q = ⟨nfield f.addr 0 13, 20, ⟨f.src, nfield f.addr 16 6, nfield f.addr 22 5, nfield f.addr 27 4⟩, nbit f.addr 15, err, none⟩)
    (hr : State.lockUntil (t.tm.lockQ.length + 1) (t.withTm { t.tm with lockQ := t.tm.lockQ ++ [q] }) q = (r, u)) :
    exec (.lockReq p f err) s = .next (u.reply f 0x08 r.code 0 []) := by
  subst hq
  exact congrArg _ (frameIn_served h
    (congrArg (fun (x : LockResult × State) => some (x.2.reply f 0x08 x.1.code 0 [])) hr))

section Transaction
variable {x : Txn} (hx : t.txnOf f = some x)
include hx

/-- The words of a reply enter the entry of the stream that asked. -/
theorem exec_readResp_stream {e c q off : Nat} (ho : x.owner = .stream e c q off) :
    exec (.readResp p f) s = .next (((t.txnEnd x).setEntry e c q
      (fun (n : StEntry) => { n with words := n.words ++ numbered (n.blk.wordIx off) (respWords p f.len f) })).stIssue e c) :=
  congrArg _ (frameIn_served h (by simp only [hx, ho]))

/-- The words of a reply are part of a list entry that is fetched. -/
theorem exec_readResp_entry {e c part : Nat} (ho : x.owner = .entry e c part) :
    exec (.readResp p f) s = .next ((t.txnEnd x).setStCtx e c { (t.txnEnd x).stCtx e c with
      fetched := ((t.txnEnd x).stCtx e c).fetched ++ [(part, respWords p 32 f)] }) :=
  congrArg _ (frameIn_served h (by simp only [hx, ho]))

/-- An acknowledgement ends its transaction. -/
theorem exec_writeAck : exec (.writeAck p f) s = .next (t.txnEnd x) :=
  congrArg _ (frameIn_served h (by simp only [hx]))

/-- A refusal ends its transaction with its family and code. -/
theorem exec_refuse : exec (.refuse p f) s = .next (t.txnRefused x (nfield f.arg 12 4) (nfield f.arg 0 8)) :=
  congrArg _ (frameIn_served h (by simp only [hx]))

/-- The answer of a remote lock is owed to the register that asked. -/
theorem exec_lockResp {core c rd v : Nat} (ho : x.owner = .core core c rd v) :
    exec (.lockResp p f) s = .next ((t.txnEnd x).withSc { (t.txnEnd x).sc with
      answers := (t.txnEnd x).sc.answers.map (fun (a : SlAnswer) =>
        if a.core = core ∧ a.ctx = c ∧ a.rd = rd ∧ a.ready = false then { a with code := f.arg % 256, ready := true }
        else a) }) :=
  congrArg _ (frameIn_served h (by simp only [hx, ho]))

end Transaction
end Served

/-- A transaction that no reply answered in time completes UNREACHABLE. -/
theorem exec_transactionTimeout {s : State} {tag : Nat} {x : Txn}
    (hx : s.herd.txns.find? (fun (y : Txn) => y.tag == tag && decide (y.deadline ≤ s.now)) = some x) :
    exec (.transactionTimeout tag) s = .next (s.txnRefused x 4 1) := by
  change execTransactionTimeout tag s = _
  simp only [execTransactionTimeout, hx]

/-- Settles O23: each request answers what its access came to, each reply ends the transaction it names. -/
theorem herdTransactions : Obligations.HerdTransactions := by
  refine ⟨fun s t u p err f ws h => ⟨?write, ?post, ?read, ?refused, ?lock⟩,
    fun s t p f x => ⟨fun h hx => ⟨?stream, ?entry, ?ack, ?refuse, ?lockResp⟩, ?timeout⟩⟩
  case write => exact fun ho => exec_write h ho rfl
  case post => exact fun ho => exec_post h ho rfl
  case read => exact fun ho h1 h2 => exec_readReq h ho h1 h2 rfl
  case refused =>
    exact fun fam code => ⟨fun ho => exec_write h ho rfl, fun ho => exec_post h ho rfl,
      fun ho h1 h2 => exec_readReq h ho h1 h2 rfl⟩
  case lock => exact fun q r hq hr => exec_lockReq h hq hr
  case stream => exact fun e c q off ho => exec_readResp_stream h hx ho
  case entry => exact fun e c part ho => exec_readResp_entry h hx ho
  case ack => exact exec_writeAck h hx
  case refuse => exact exec_refuse h hx
  case lockResp => exact fun core c rd v ho => exec_lockResp h hx ho
  case timeout => exact exec_transactionTimeout

end Sys2Proof.Machine
end

section
/-! SUPPORT. The members of the herd: heartbeats, joining and leaving, and what the controller does by itself (R113, R482 to
R488, R498, R499, R595). -/
namespace Sys2Proof.Machine

open Sys2Proof

/-! ## HD_CTL -/

/-- A command of HD_CTL is accepted: GO is set and its action is carried out. -/
theorem exec_hdCtl {cmd : Wr → Instr} {n : Nat}
    (hexec : ∀ (s : State) (w : Wr), exec (cmd w) s = .next (s.fieldWrite (wrSet w .HD_CTL_ACTION n) .HD_CTL_GO 1 0 0))
    {s : State} {w : Wr} {off : Nat} (h : s.accepts (wrSet (wrSet w .HD_CTL_ACTION n) .HD_CTL_GO 1) .HD_CTL 0 0 off)
    (hgo : s.flag .HD_CTL_GO 0 0 = false) :
    exec (cmd w) s = .next ((s.stored (wrSet (wrSet w .HD_CTL_ACTION n) .HD_CTL_GO 1) .HD_CTL 0 0 off).hdGo w.acc) :=
  startsOn_rise (f := .HD_CTL_GO) (g := fun w => wrSet w .HD_CTL_ACTION n) (act := fun w t => t.hdGo w.acc) rfl rfl
    (fun _ => rfl) hexec (fun _ _ _ _ => rfl) s w off h hgo

section Action
variable {s u : State} {a : Acc} (hu : u = s.setFlag .HD_CTL_GO 0 0 true)
include hu

/-- FOUND (R482). -/
theorem hdGo_found (h : u.fld .HD_CTL_ACTION 0 0 = 1) : s.hdGo a = u.hdFound a := by
  subst hu
  simp only [State.hdGo, h]

/-- SWAP (R487). -/
theorem hdGo_swap (h : u.fld .HD_CTL_ACTION 0 0 = 2) : s.hdGo a = u.hdSwap := by
  subst hu
  simp only [State.hdGo, h]

/-- LEAVE (R488). -/
theorem hdGo_leave (h : u.fld .HD_CTL_ACTION 0 0 = 3) : s.hdGo a = u.hdLeave a := by
  subst hu
  simp only [State.hdGo, h]

/-- EXPEL (R488). -/
theorem hdGo_expel (h : u.fld .HD_CTL_ACTION 0 0 = 4) : s.hdGo a = u.hdExpel := by
  subst hu
  simp only [State.hdGo, h]

end Action

/-- The herd right after a member founded it: no beat sent or missed, nobody lost. -/
theorem hdFound_founds {u : State} {a : Acc} (hrole : u.role = 0)
    (htable : u.regs.any (fun e => keyId e.1 == RegId.HD_TABLE.ctorIdx && e.2 != 0) = true) :
    ∃ v : State, v = (((u.setFld .HD_STATUS_HERD_ID 0 0 (u.fld .HD_CFG_COORD 0 0)).setFld .HD_STATUS_SHEPHERD 0 0
        (u.fld .HD_CFG_COORD 0 0)).setFld .HD_STATUS_EPOCH 0 0 (u.herd.lastEpoch + 1)).setStandby 0xFFF ∧
      u.hdFound a = (((v.withHerd { v.herd with
        lastEpoch := v.epoch, lastBeat := v.now, lost := [], seen := [], missed := [], beats := [] }).setRole a 3).setEntryState
          (u.fld .HD_CFG_COORD 0 0) 1).hdResult 0 := by
  refine ⟨_, rfl, ?_⟩
  unfold State.hdFound
  rw [if_neg (not_not.mpr hrole), if_neg (by rw [htable]; decide)]

/-! ## Frames of the members -/

section Served
variable {s t : State} {p : Nat} {f : Frame}

theorem exec_beatAck (h : s.serves t p f) (hrole : t.role = 3) (hepoch : f.addr % 2 ^ 32 = t.epoch) :
    exec (.beatAck p f) s = .next (t.withHerd { t.herd with
      missed := sset (fun _ => 0) t.herd.missed f.src (min ((t.herd.beats.findIdx? (fun q => q == f.tag)).getD 20)
        (sget (fun _ => 0) t.herd.missed f.src)) }) :=
  congrArg _ (frameIn_served h (if_pos ⟨hrole, hepoch⟩))

theorem exec_join (h : s.serves t p { f with src := s.herdId }) (hlocal : f.linkLocal = true) (hrole : t.role = 3) :
    exec (.join p f) s = .next (t.judgeJoin t.herdId p (f.addr % 2 ^ 64)) := by
  refine congrArg _ (frameIn_served (f := { f with src := if f.linkLocal then s.herdId else f.src }) ?_
    ((if_pos hlocal).trans (if_pos hrole)))
  rwa [if_pos hlocal]

theorem exec_mirror (h : s.serves t p f) (hrole : t.role = 2) :
    exec (.mirror p f) s = .next (((((t.setReg .HD_TABLE (f.arg % 4096) 0 (BitVec.ofNat 64 f.addr)).setFld
      .HD_TABLE_ENTRY_HERD (f.arg % 4096) 0 (f.arg % 4096)).setFld .HD_TABLE_ENTRY_STATE (f.arg % 4096) 0
      (nfield f.arg 12 2)).setFld .HD_TABLE_ENTRY_ELIGIBLE (f.arg % 4096) 0 (nfield f.arg 14 1)).setFld
      .HD_TABLE_ENTRY_EPOCH (f.arg % 4096) 0 (f.tag % 2 ^ 32)) :=
  congrArg _ (frameIn_served h (if_pos hrole))

end Served

/-- Settles O24. That a beat answered late counts the beats since it, and that the count only falls (beatAck), is the model's
choice (log entry 175); so is that FOUND asks only that some entry of HD_TABLE is not 0 (log entry 108). -/
theorem membership : Obligations.Membership := by
  intro s t p f
  refine ⟨exec_beatAck, ?heartbeat, ?lost, ?release, exec_join, ?assign, ?expel, exec_mirror, ?found, ?swap, ?leave, ?expels⟩
  case heartbeat => exact fun member h => exec_of_frameIn rfl h rfl
  case lost => exact fun h => exec_of_frameIn rfl h rfl
  case release => exact fun h => exec_of_frameIn rfl h rfl
  case assign => exact fun dims bcast hrole hup => congrArg _ ((if_pos hrole).trans (if_pos hup))
  case expel => exact fun h => exec_of_frameIn rfl h rfl
  case found =>
    intro w off u h hgo hu hact
    have hexec := (exec_hdCtl (cmd := .hdFound) (fun _ _ => rfl) h hgo).trans (congrArg _ (hdGo_found hu hact))
    refine ⟨fun hrole => hexec.trans (congrArg _ (if_pos hrole)), fun hrole htable => ?_⟩
    obtain ⟨v, hv, hfound⟩ := hdFound_founds (a := w.acc) hrole htable
    exact ⟨v, hv, hexec.trans (congrArg _ hfound)⟩
  case swap =>
    intro w off u h hgo hu hact
    have hexec := (exec_hdCtl (cmd := .hdSwap) (fun _ _ => rfl) h hgo).trans (congrArg _ (hdGo_swap hu hact))
    exact ⟨fun hrole hstandby => hexec.trans (congrArg _ ((if_pos hrole).trans (if_pos hstandby))),
      fun hrole hstandby => hexec.trans (congrArg _ ((if_pos hrole).trans (if_neg hstandby))),
      fun h3 h2 => hexec.trans (congrArg _ ((if_neg h3).trans (if_neg h2)))⟩
  case leave =>
    intro w off u h hgo hu hact
    have hexec := (exec_hdCtl (cmd := .hdLeave) (fun _ _ => rfl) h hgo).trans (congrArg _ (hdGo_leave hu hact))
    exact ⟨fun hrole => hexec.trans (congrArg _ (if_pos hrole)), fun hrole => hexec.trans (congrArg _ (if_neg hrole))⟩
  case expels =>
    intro w off u h hgo hu hact
    have hexec := (exec_hdCtl (cmd := .hdExpel) (fun _ _ => rfl) h hgo).trans (congrArg _ (hdGo_expel hu hact))
    exact ⟨fun hrole htarget => hexec.trans (congrArg _ (if_neg (fun hor => hor.elim (fun hne => hne hrole) htarget))),
      fun hrole => hexec.trans (congrArg _ (if_pos (.inl hrole)))⟩

end Sys2Proof.Machine
end

section
/-! SUPPORT. What the herd controller does by itself, and the frames of role swaps, of the shepherd and MSG (R114, R475, R480,
R482 to R489, R493, R499, R556, R567). -/
namespace Sys2Proof.Machine

open Sys2Proof

/-- Settles O25. That JOIN is sent a millisecond after the last JOIN sent is the model's choice (log entry 175). -/
theorem herdTimers : Obligations.HerdTimers := by
  intro s h
  refine ⟨?memberLost, ?beat, ?join, ?silent, ?takeover, ?strokeResult⟩
  case memberLost => exact fun hrole hstate hmissed => congrArg _ (if_pos ⟨hrole, hstate, hmissed⟩)
  case beat => exact fun hrole hnow hbeats => congrArg _ (if_pos ⟨hrole, hnow, hbeats⟩)
  case join => exact fun hrole hnext => congrArg _ (if_pos ⟨hrole, hnext⟩)
  case silent => exact fun hrole hsilent => congrArg _ (if_pos ⟨hrole, hsilent⟩)
  case takeover => exact fun hrole hsilent => congrArg _ (if_pos ⟨hrole, hsilent⟩)
  case strokeResult =>
    intro w hw
    change execStrokeResultTimeout h s = _
    simp only [execStrokeResultTimeout, hw]

/-! ## Role swaps and the shepherd -/

section Served
variable {s t : State} {p : Nat} {f : Frame} (h : s.serves t p f)
include h

theorem exec_handover (hrole : t.role = 2) : exec (.handover p f) s =
    .next (if t.herd.swap = .requested ∧ t.herd.swapBy ≠ f.tag then (t.takeHerd f).hdResult 1 else t.takeHerd f) :=
  exec_of_frameIn rfl h (if_pos hrole)

theorem exec_taken (hrole : t.role = 3) (hswap : t.herd.swap = .handoverSent) : exec (.taken p f) s =
    .next (if t.herd.swapBy = 0 then (t.cedeHerd f).hdResult 0
      else (t.cedeHerd f).sendOrDrop ((t.cedeHerd f).ctlFrame 0x1F (t.herd.swapBy - 1) 0 f.tag 0)) :=
  exec_of_frameIn rfl h (if_pos ⟨hrole, hswap⟩)

theorem exec_strokeResult {w : StrokeWait}
    (hw : t.herd.strokeWaits.find? (fun (w : StrokeWait) => w.member == f.src && w.tag == f.tag) = some w)
    (hres : f.arg % 16 = 0) :
    exec (.strokeResult p f) s = .next ((t.withHerd { t.herd with strokeWaits := t.herd.strokeWaits.erase w }).setFld
      .HD_STROKE_OK 0 0 (t.fld .HD_STROKE_OK 0 0 + 1)) :=
  exec_of_frameIn rfl h (by simp only [hw, hres, if_true]; rfl)

/-- A ROUTE frame of one entry writes and audits that entry. -/
theorem exec_route_one (hn : nfield f.addr 12 2 = 1) :
    exec (.route p f) s = .next ((t.setReg .HL_ROUTE (f.addr % 4096) 0 (routeEntry (nfield f.addr 24 13))).auditLog .change
      (accShepherd f.src) 0 (regObject (0x804000 + 4 * (f.addr % 4096)) false) (t.reg .HL_ROUTE (f.addr % 4096) 0)
      (routeEntry (nfield f.addr 24 13)) 0) := by
  have hone : (List.range 1).filter (fun i => f.addr % 4096 + i < 4096) = [0] := by
    have : f.addr % 4096 < 4096 := Nat.mod_lt _ (by decide)
    simp [List.range_succ, this]
  have heach : t.each [0] (fun i v => v.setReg .HL_ROUTE (f.addr % 4096 + i) 0 (routeEntry (nfield f.addr (24 + 13 * i) 13))) =
      t.setReg .HL_ROUTE (f.addr % 4096) 0 (routeEntry (nfield f.addr 24 13)) := rfl
  refine exec_of_frameIn rfl h ?_
  simp only [hn, hone, heach, reg_setReg_same]
  rfl

end Served

/-! ## MSG to the service firmware (R556, R567) -/

theorem toService_of_serviceKind {f : Frame} {n : Nat} (h : serviceKind f = some n) :
    toService f = true ∧ msgWord f 0 % 256 = n := by
  unfold serviceKind at h
  split at h
  next hto => exact ⟨hto, Option.some.inj h⟩
  next => cases h

/-- A message of the shepherd for the service firmware that brings no poisoned word. -/
theorem serviceMsg_of_shepherd {t : State} {f : Frame} (hsrc : f.src = t.shepherdId)
    (hclean : f.payload.any (fun (w : PW) => w.poison) = false) :
    t.serviceMsg f = if msgWord f 0 % 256 = 3 then t.auditAck (msgWord f 2 + msgWord f 3 * 2 ^ 32) else
      (t.busWrite ⟨accShepherd f.src, nbit (msgWord f 3) 0, BitVec.ofNat 64 (msgWord f 4 + msgWord f 5 * 2 ^ 32)⟩
        (msgWord f 2)).2 := by
  unfold State.serviceMsg
  rw [if_neg (not_or.mpr ⟨not_not.mpr hsrc, by rw [hclean]; decide⟩)]

section Served
variable {s t : State} {p : Nat} {f : Frame} (h : s.serves t p f)
include h

theorem exec_msg_to_ring (hto : toService f = false) : exec (.msg p f) s = .next (t.msgIn f) :=
  exec_of_frameIn rfl h (congrArg some (if_neg (by simp [hto])))

theorem exec_auditAckMsg (hkind : serviceKind f = some 3) (hsrc : f.src = t.shepherdId)
    (hclean : f.payload.any (fun (w : PW) => w.poison) = false) :
    exec (.auditAckMsg p f) s = .next (t.auditAck (msgWord f 2 + msgWord f 3 * 2 ^ 32)) := by
  refine exec_of_frameIn (congrArg _ (if_pos hkind)) h (congrArg some ?_)
  rw [serviceMsg_of_shepherd hsrc hclean, if_pos (toService_of_serviceKind hkind).2]

theorem exec_registerWriteMsg (hkind : serviceKind f = some 5) (hsrc : f.src = t.shepherdId)
    (hclean : f.payload.any (fun (w : PW) => w.poison) = false) :
    exec (.registerWriteMsg p f) s = .next (t.busWrite ⟨accShepherd f.src, nbit (msgWord f 3) 0,
      BitVec.ofNat 64 (msgWord f 4 + msgWord f 5 * 2 ^ 32)⟩ (msgWord f 2)).2 := by
  have hnot : msgWord f 0 % 256 ≠ 3 := by
    rw [(toService_of_serviceKind hkind).2]
    decide
  refine exec_of_frameIn (congrArg _ (if_pos hkind)) h (congrArg some ?_)
  rw [serviceMsg_of_shepherd hsrc hclean, if_neg hnot]

end Served

/-- Settles O26: each frame that is served acts as its rule says. -/
theorem swapShepherdAndMessageFrames : Obligations.SwapShepherdAndMessageFrames := by
  refine ⟨fun s t p f h => ⟨?swapReq, ?follows, ?wins, ?ceded, ?forwarded, ?result, ?force, ?stroke, ?strokeResult, ?route⟩,
    fun s t p f h => ⟨exec_msg_to_ring h, exec_auditAckMsg h, exec_registerWriteMsg h⟩⟩
  case swapReq => exact fun hrole hswap hstandby => exec_of_frameIn rfl h (if_pos ⟨hrole, hswap, hstandby⟩)
  case follows =>
    exact fun hrole hor => (exec_handover h hrole).trans (congrArg _ (if_neg fun hand => hor.elim (· hand.1) hand.2))
  case wins => exact fun hrole hswap hby => (exec_handover h hrole).trans (congrArg _ (if_pos ⟨hswap, hby⟩))
  case ceded => exact fun hrole hswap hby => (exec_taken h hrole hswap).trans (congrArg _ (if_pos hby))
  case forwarded => exact fun hrole hswap hby => (exec_taken h hrole hswap).trans (congrArg _ (if_neg hby))
  case result => exact exec_of_frameIn rfl h rfl
  case force => exact exec_of_frameIn rfl h rfl
  case stroke => exact exec_of_frameIn rfl h rfl
  case strokeResult => exact fun w hw hres => exec_strokeResult h hw hres
  case route => exact exec_route_one h

end Sys2Proof.Machine
end

section
/-! SUPPORT. Ports of the herd: credits, routing, training and spares (R465 to R475). -/
namespace Sys2Proof.Machine

open Sys2Proof

/-- A good frame for another member goes on. -/
theorem frameAt_forwards {s : State} {p : Nat} {f : Frame} (k : State → Bool × State) (hup : s.portUp p = true)
    (hgood : badFrame f = false) (hdest : f.dest ≠ s.herdId) (hrole : s.role ≠ 0)
    (hlost : s.herd.lost.contains f.src = false) (hb : f.bcast = false) (hl : f.linkLocal = false) :
    s.frameAt p f k = (s.portCount p 4).forward p f := by
  have hin : ¬(s.role = 0 ∨ s.herd.lost.contains f.src = true) := by
    rw [hlost]
    exact fun h => h.elim hrole Bool.false_ne_true
  simp only [State.frameAt, hup, hgood, if_neg hin]
  exact (if_pos (And.intro hb (And.intro hl hdest)))

/-- The registers of a port that has trained. -/
def State.trainedPort (s : State) (p lanes neighbour nport : Nat) : State :=
  (((s.setFld .HL_PORT_STATUS_STATE p 0 (if laneCount lanes = 4 then 2 else 3)).setFld .HL_PORT_STATUS_LANES p 0 lanes).setFld
    .HL_PORT_STATUS_NEIGHBOUR p 0 neighbour).setFld .HL_PORT_STATUS_NPORT p 0 nport

section Trained
variable (s : State) (p lanes neighbour nport : Nat)

theorem fld_trainedPort_STATE :
    (s.trainedPort p lanes neighbour nport).fld .HL_PORT_STATUS_STATE p 0 = if laneCount lanes = 4 then 2 else 3 := by
  unfold State.trainedPort
  rw [fld_setFld_beside _ _ _ _ (by rfl) (by decide) (by decide), fld_setFld_beside _ _ _ _ (by rfl) (by decide) (by decide),
    fld_setFld_beside _ _ _ _ (by rfl) (by decide) (by decide), fld_setFld_same _ _ _ _ _ (by decide)]
  split <;> rfl

theorem fld_trainedPort_LANES : (s.trainedPort p lanes neighbour nport).fld .HL_PORT_STATUS_LANES p 0 = lanes % 16 := by
  unfold State.trainedPort
  rw [fld_setFld_beside _ _ _ _ (by rfl) (by decide) (by decide), fld_setFld_beside _ _ _ _ (by rfl) (by decide) (by decide),
    fld_setFld_same _ _ _ _ _ (by decide)]
  rfl

theorem fld_trainedPort_NEIGHBOUR :
    (s.trainedPort p lanes neighbour nport).fld .HL_PORT_STATUS_NEIGHBOUR p 0 = neighbour % 4096 := by
  unfold State.trainedPort
  rw [fld_setFld_beside _ _ _ _ (by rfl) (by decide) (by decide), fld_setFld_same _ _ _ _ _ (by decide)]
  rfl

theorem trainedPort_tm : (s.trainedPort p lanes neighbour nport).tm = s.tm := by
  unfold State.trainedPort
  iterate 4 rw [State.setFld_tm]

theorem trainedPort_hbm : (s.trainedPort p lanes neighbour nport).hbm = s.hbm := by
  unfold State.trainedPort
  iterate 4 rw [State.setFld_hbm]

theorem trainedPort_sc : (s.trainedPort p lanes neighbour nport).sc = s.sc := by
  unfold State.trainedPort
  iterate 4 rw [State.setFld_sc]

end Trained

/-- A port that trains on three lanes or more. -/
theorem exec_portTrained {s : State} {p lanes neighbour nport : Nat} (hrails : s.power.rails = true)
    (hdown : s.portUp p = false) (hp : p < 8 * s.ioDies) (hdir : s.fld .HL_PORT_CFG_DIR p 0 ≠ 7)
    (hlanes : 3 ≤ laneCount lanes) : ∃ x : HerdState,
      exec (.portTrained p lanes neighbour nport) s = .next ((s.trainedPort p lanes neighbour nport).withHerd x) := by
  refine ⟨{ (s.trainedPort p lanes neighbour nport).herd with
    credits := sdrop (fun k => k / 32 == p) (s.trainedPort p lanes neighbour nport).herd.credits
    links := sdrop (fun k => k == p) (s.trainedPort p lanes neighbour nport).herd.links }, ?_⟩
  change execPortTrained p lanes neighbour nport s = _
  unfold execPortTrained
  rw [if_pos ⟨hrails, hdown, hp, hdir, hlanes⟩]
  rfl

/-- Settles O27. That the spare's DIR becomes the direction that it backs is the model's choice (log entry 109). -/
theorem ports : Obligations.Ports := by
  refine ⟨fun s p hup => ⟨?credit, ?route, ?bad, ?down, ?lane, ?spare, ?replay, ?codeword⟩, ?trained⟩
  case credit => exact fun vc sub header n => congrArg _ (if_pos hup)
  case route =>
    exact fun f hgood hdest hrole hlost hb hl =>
      congrArg _ ((if_neg hdest).trans (frameAt_forwards _ hup hgood hdest hrole hlost hb hl))
  case bad => exact congrArg _ (if_pos hup)
  case down => exact congrArg _ (if_pos hup)
  case lane => exact fun l hl => congrArg _ (if_pos ⟨hup, hl⟩)
  case spare =>
    intro hdir hne hdown
    have hall : ((s.portsOf (s.fld .HL_PORT_CFG_BACKS p 0)).filter (fun q => q / 8 == p / 8 && q != p)).all
        (fun q => !s.portUp q) = true := List.all_eq_true.mpr fun q hq => by simp [hdown q hq]
    exact congrArg _ (if_pos ⟨hup, hdir, hne, hall⟩)
  case replay => exact fun cell => congrArg _ ((if_pos hup).trans (if_neg Bool.false_ne_true))
  case codeword => exact fun cell => congrArg _ (if_pos hup)
  case trained =>
    intro s p lanes neighbour nport hrails hdown hp hdir hlanes
    obtain ⟨x, hx⟩ := exec_portTrained (neighbour := neighbour) (nport := nport) hrails hdown hp hdir hlanes
    refine ⟨_, hx, ?_, ?_, ?_, ?_, ?_, ?_⟩
    · rw [fld_withHerd, fld_trainedPort_STATE]
    · rw [fld_withHerd, fld_trainedPort_LANES]
    · rw [fld_withHerd, fld_trainedPort_NEIGHBOUR]
    · rw [State.withHerd_tm, trainedPort_tm]
    · rw [State.withHerd_hbm, trainedPort_hbm]
    · rw [State.withHerd_sc, trainedPort_sc]

end Sys2Proof.Machine
end

section
/-! SUPPORT. The commands of fleet time, and exchanges of link delay (R24 to R33, R57). -/
namespace Sys2Proof.Machine

open Sys2Proof

/-! ## Link delays -/

/-- A port's time record reads what was written to it. -/
theorem portTime_setPortTime_same (s : State) (p : Nat) (x : PortTime) : (s.setPortTime p x).portTime p = x :=
  sget_sset_same _ _ _ _

/-- The records of other ports stay. -/
theorem portTime_setPortTime_ne (s : State) {p q : Nat} (x : PortTime) (h : q ≠ p) :
    (s.setPortTime p x).portTime q = s.portTime q :=
  sget_sset_ne _ _ _ _ _ h

theorem portTime_applyShadow (s : State) (id : RegId) (i j p : Nat) : (s.applyShadow id i j).portTime p = s.portTime p := by
  unfold State.portTime State.applyShadow
  rw [State.withShadowPend_ft, State.withApplied_ft]

/-- The record of a port after an exchange that gave the delay `d` (R26, R27). -/
def PortTime.exchanged (x : PortTime) (d : Int) : PortTime :=
  let moved := match x.exch.head? with
    | some e => decide (d - e > 200 ∨ e - d > 200)
    | none => false
  let stable := if moved then 0 else x.stable + 1
  { x with
    t3 := none
    exch := (d :: x.exch).take 16
    stable := stable
    dropped := if moved then true else if x.dropped then decide (stable < 16) else false }

/-- A delay that moved by more than 50 ns drops the port. -/
theorem exchanged_moved {x : PortTime} {d e : Int} {l : List Int} (hx : x.exch = e :: l) (h : d - e > 200 ∨ e - d > 200) :
    (x.exchanged d).dropped = true ∧ (x.exchanged d).stable = 0 := by
  unfold PortTime.exchanged
  simp only [hx, List.head?_cons, h, decide_true, if_true, and_self]

/-- A dropped port comes back with its sixteenth stable exchange. -/
theorem exchanged_stable {x : PortTime} {d e : Int} {l : List Int} (hx : x.exch = e :: l) (h1 : d - e ≤ 200)
    (h2 : e - d ≤ 200) (hdrop : x.dropped = true) : (x.exchanged d).dropped = decide (x.stable < 15) := by
  have hmoved : ¬(d - e > 200 ∨ e - d > 200) := by omega
  unfold PortTime.exchanged
  simp only [hx, List.head?_cons, hmoved, decide_false, hdrop, Bool.false_eq_true, if_false, if_true]
  exact decide_eq_decide.mpr Nat.succ_lt_succ_iff

/-- An exchange takes no time. -/
theorem now_exchanged (s : State) (id : RegId) (i j p : Nat) (x : PortTime) :
    ((s.applyShadow id i j).setPortTime p x).now = s.now := by
  unfold State.now State.setPortTime State.applyShadow
  rw [fld_withFt, fld_withShadowPend, fld_withApplied]

/-- The answer of a DELAY_REQ ends the exchange of its port. -/
theorem exec_delayResp {s : State} {p addr tag : Nat} {t3 d : Int} (h3 : (s.portTime p).t3 = some t3)
    (hd : d = (((4 * addr + tag % 4 : Nat) - ((s.applyShadow .FT_PORT_ASYM p 0).portTime p).t1) -
      ((t3 : Int) - ((s.applyShadow .FT_PORT_ASYM p 0).portTime p).t2)) / 2 +
      sextNat 16 ((s.applyShadow .FT_PORT_ASYM p 0).inForce .FT_PORT_ASYM_ASYM p 0)) :
    exec (.delayResp p addr tag) s =
      .next ((s.applyShadow .FT_PORT_ASYM p 0).setPortTime p ((s.portTime p).exchanged d)) := by
  change execDelayResp p addr tag s = _
  unfold execDelayResp
  push_cast at hd
  rw [portTime_applyShadow] at hd
  cases hx : (s.portTime p).exch.head?
  all_goals simp only [h3, portTime_applyShadow, ← hd, PortTime.exchanged, hx]

/-! ## Time messages -/

/-- A DELAY_REQ leaves every register but the counts of its port and the events of the links. -/
theorem fld_sendDelayReq (s : State) (p : Nat) {f : Fld} (i j : Nat) (h : logReg f.id = false) :
    (s.sendDelayReq p).fld f i j = s.fld f i j := by
  unfold State.sendDelayReq State.fld
  simp only [State.free, reg_offerFrame _ _ _ _ _ h]
  rfl

section Message
variable {s : State} {p addr tag arg frac : Nat}

/-- A time message that is not followed starts its port's second exchange only. -/
theorem exec_time_exchange
    (h : s.fld .FT_SRC_MODE 0 0 ≠ 3 ∨ s.timePort (arg % 4096) ≠ some p ∨ (s.portTime p).exch = []) :
    exec (.time p addr tag arg true frac) s = .next ((s.setPortTime p { s.portTime p with
      t1 := 4 * addr + tag % 4
      t2 := 4 * s.now + frac }).sendDelayReq p) := by
  change execTime p addr tag arg true frac s = _
  unfold execTime
  rw [if_neg (by decide)]
  refine congrArg _ (if_neg ?_)
  rintro ⟨hmode, hport, hexch⟩
  rw [fld_sendDelayReq _ _ _ _ rfl] at hmode
  rcases h with h | h | h
  · exact h hmode
  · exact h hport
  · exact hexch (by rw [h]; rfl)

/-- A time message of the master's port is followed. -/
theorem exec_time_followed {t : State} (hmode : s.fld .FT_SRC_MODE 0 0 = 3) (hexch : (s.portTime p).exch ≠ [])
    (hport : s.timePort (arg % 4096) = some p)
    (ht : t = (s.setPortTime p { s.portTime p with t1 := 4 * addr + tag % 4, t2 := 4 * s.now + frac }).sendDelayReq p) :
    exec (.time p addr tag arg true frac) s = .next (((t.setFld .FT_STATUS_MASTER 0 0 arg).withFt { t.ft with
      herdAge := nfield tag 8 24
      herdOff := some (4 * s.now + frac - (4 * addr + tag % 4) - (s.portTime p).delay) }).refSample 3
      (4 * addr + tag % 4 + (s.portTime p).delay) (4 * s.now + frac - (4 * addr + tag % 4) - (s.portTime p).delay)
      (4 * s.now + frac - (4 * addr + tag % 4) - (s.portTime p).delay) 80 16) := by
  subst ht
  change execTime p addr tag arg true frac s = _
  unfold execTime
  rw [if_neg (by decide)]
  refine congrArg _ (if_pos ⟨?_, hport, ?_⟩)
  · rw [fld_sendDelayReq _ _ _ _ rfl]
    exact hmode
  · rwa [Ne, List.length_eq_zero_iff]

end Message

/-! ## References -/

section Reference
variable {s : State}

section Sync
variable {l2 : Bool} {dom : Nat} (t1 frac utc : Nat) (hmode : s.fld .FT_SRC_MODE 0 0 = 1) (hl2 : s.flag .FT_SRC_PTP_L2 0 0 = l2)
variable (hdom : s.fld .FT_SRC_PTP_DOMAIN 0 0 = dom)
include hmode hl2 hdom

/-- A PTP Sync of this domain, with the path delay that the last Delay_Resp gave. -/
theorem exec_ptpSync_some {d : Int} (hd : s.ft.ptpDelay = some d) : exec (.ptpSync l2 dom t1 frac utc) s =
    .next (((s.setFld .FT_UTC_OFFSET_OFFSET 0 0 utc).withFt { s.ft with
      filt := Config.ptpFilter s.ft.filt ((4 * s.now + frac : Int) - t1 - d) }).refSample 1 (t1 + d)
      ((4 * s.now + frac : Int) - t1 - d) (Config.ptpFilter s.ft.filt ((4 * s.now + frac : Int) - t1 - d)) 1000 8) := by
  have hnow : (s.setFld .FT_UTC_OFFSET_OFFSET 0 0 utc).now = s.now := fld_setFld_ne _ _ _ _ _ _ (by decide)
  change execPtpSync l2 dom t1 frac utc s = _
  unfold execPtpSync
  rw [if_pos ⟨hmode, hl2, hdom⟩]
  simp only [State.setFld_ft, hnow, hd]

/-- A PTP Sync of this domain before the first Delay_Resp. -/
theorem exec_ptpSync_none (hd : s.ft.ptpDelay = none) : exec (.ptpSync l2 dom t1 frac utc) s =
    .next ((s.setFld .FT_UTC_OFFSET_OFFSET 0 0 utc).withFt
      { s.ft with lastRef := (s.setFld .FT_UTC_OFFSET_OFFSET 0 0 utc).now }) := by
  change execPtpSync l2 dom t1 frac utc s = _
  unfold execPtpSync
  rw [if_pos ⟨hmode, hl2, hdom⟩]
  simp only [State.setFld_ft, hd]

end Sync

/-- A PPS pulse of the second that is armed, whose offset no rule refuses. -/
theorem exec_ppsPulse {frac : Nat} (hmode : s.fld .FT_SRC_MODE 0 0 = 2) (hsec : s.ft.ppsSec < s.fld .FT_PPS_SEC_SEC 0 0)
    (hoff : s.ft.stepped = false ∨ -4000 ≤ (4 * s.now + frac : Int) - 4000000000 * s.fld .FT_PPS_SEC_SEC 0 0 ∧
      (4 * s.now + frac : Int) - 4000000000 * s.fld .FT_PPS_SEC_SEC 0 0 ≤ 4000) :
    exec (.ppsPulse frac) s = .next ((s.withFt { s.ft with ppsSec := s.fld .FT_PPS_SEC_SEC 0 0 }).refSample 2
      (4000000000 * s.fld .FT_PPS_SEC_SEC 0 0)
      ((4 * s.now + frac : Int) - 4000000000 * s.fld .FT_PPS_SEC_SEC 0 0)
      ((4 * s.now + frac : Int) - 4000000000 * s.fld .FT_PPS_SEC_SEC 0 0) 80 8) := by
  change execPpsPulse frac s = _
  unfold execPpsPulse
  rw [if_neg (not_not.mpr hmode), if_pos hsec]
  refine congrArg _ (if_neg ?_)
  rintro ⟨hstep, hfar⟩
  rcases hoff with h | h
  · rw [h] at hstep
    cases hstep
  · omega

/-- The reference of a mode is silent for its limit (R29): HOLDOVER. -/
theorem exec_holdoverEnter {mode limit : Nat} (hmem : (mode, limit) ∈ [(0, 0), (1, 3000000000), (2, 2000001000), (3, 50000)])
    (hstate : s.fld .FT_STATUS_STATE 0 0 = 1) (hmode : s.fld .FT_SRC_MODE 0 0 = mode) (hlimit : limit ≤ s.now - s.ft.lastRef) :
    exec .holdoverEnter s = .next s.enterHoldover := by
  change execHoldoverEnter s = _
  unfold execHoldoverEnter
  rw [hmode]
  simp only [List.mem_cons, List.not_mem_nil, or_false, Prod.mk.injEq] at hmem
  casesm* _ ∨ _
  all_goals
    obtain ⟨rfl, rfl⟩ := ‹_ ∧ _›
    exact congrArg _ (if_pos ⟨hstate, hlimit⟩)

end Reference

/-- Settles O28. That the moment t3 within its cycle is a free value is the model's choice (log entry 144); so are that a Sync
before the path delay counts for the 3 s of R29, and that MASTER and the herd age are taken where R31 refuses the offset (log
entry 143). -/
theorem fleetTimeCommands : Obligations.FleetTimeCommands := by
  refine ⟨fun s => ⟨?sync, ?delay, ?early, ?pps, ?ppsOut, ?bad, ?exchange, ?followed, ?send, ?req, ?holdover⟩, ?resp⟩
  case sync => exact fun l2 dom t1 frac utc d hmode hl2 hdom hd => exec_ptpSync_some t1 frac utc hmode hl2 hdom hd
  case delay => exact fun t1 t2 t3 t4 hmode => congrArg _ (if_pos hmode)
  case early => exact fun l2 dom t1 frac utc hmode hl2 hdom hd => exec_ptpSync_none t1 frac utc hmode hl2 hdom hd
  case pps => exact fun frac hmode hsec hoff => exec_ppsPulse hmode hsec hoff
  case ppsOut => exact fun hnow hsec => congrArg _ (if_pos ⟨hnow, hsec⟩)
  case bad => exact fun p addr tag arg frac => congrArg Host.Outcome.next (if_pos rfl)
  case exchange => exact fun p addr tag arg frac h => exec_time_exchange h
  case followed => exact fun p addr tag arg frac t hmode hexch hport ht => exec_time_followed hmode hexch hport ht
  case send =>
    intro t ht
    change execTimeSend s = _
    simp only [execTimeSend, ht]
  case req => exact fun p frac => rfl
  case holdover => exact fun mode limit hmem hstate hmode hlimit => exec_holdoverEnter hmem hstate hmode hlimit
  case resp =>
    intro s p addr tag t3 h3
    refine ⟨_, exec_delayResp h3 rfl, ?_, fun d hd => ?_, fun q hq => ?_, now_exchanged ..⟩
    · rw [portTime_setPortTime_same]
      rfl
    · rw [← hd, portTime_setPortTime_same]
      exact ⟨rfl, fun e l hx h => exchanged_moved hx h, fun e l hx h1 h2 hdrop => exchanged_stable hx h1 h2 hdrop⟩
    · rw [portTime_setPortTime_ne _ _ hq, portTime_applyShadow]

end Sys2Proof.Machine
end

section
/-! SUPPORT. What strokes do when their turn comes (R36, R39, R41 to R43, R547, R554). -/
namespace Sys2Proof.Machine

open Sys2Proof

/-! ## Actions -/

/-- A stroke of the queue engine is carried out while the main rails are on. -/
theorem hqAction_mainsOn {f : State → State} {t : State} (h : t.mainsOn = true) : hqAction f t = (0, f t) := if_pos h

section Fires
variable {s t u : State} {a i arg : Nat} {c : Instr} {act : State → Nat → Nat × State}
variable (ht : t = (s.setFld .FT_STK_FIRED_FIRED i 0 s.now).strokeFired i) (harg : arg = s.fld .FT_STK_ARG_ARG i 0)
variable (hc : exec c s = .next (s.strokeFire a i act)) (hf : s.strokeFires a i = true)
variable (htrip : s.power.tripped = false) (hage : s.holdAge ≤ 10000)
include ht harg hc hf htrip hage

/-- A stroke whose action is carried out. -/
theorem exec_stroke_acts (hfw : fwCarries a = false ∨ s.fwDown = false) (hact : act t arg = (0, u)) : exec c s = .next u := by
  subst ht harg
  rw [hc, strokeFire_acts hf htrip (.inr hage) hfw hact]

/-- A stroke of the service firmware while it does not run. -/
theorem exec_stroke_waits (hcarries : fwCarries a = true) (hfw : s.fwDown = true) :
    exec c s = .next (t.withSvc { s.svc with held := s.svc.held ++ [⟨a, i, arg, s.now⟩] }) := by
  subst ht harg
  rw [hc, strokeFire_waits hf htrip (.inr hage) hcarries hfw]

end Fires

/-- Settles O29: each stroke whose action can be carried out is FIRED, and its action happens. -/
theorem strokesFire : Obligations.StrokesFire := by
  intro s t i arg htrip hage ht harg
  refine ⟨?genswap, ?genretire, ?phase, ?oxenter, ?oxleave, ?capset, ?scrub, ?muOpen, ?muClose, ?activate, ?waits, ?mark⟩
  case genswap | genretire =>
    exact fun hf hon => exec_stroke_acts ht harg rfl hf htrip hage (.inl rfl) (hqAction_mainsOn hon)
  case phase => exact fun hf hfw hvalid => exec_stroke_acts ht harg rfl hf htrip hage (.inr hfw) (if_pos hvalid)
  case oxenter | oxleave | capset => exact fun hf hfw => exec_stroke_acts ht harg rfl hf htrip hage (.inr hfw) rfl
  case scrub =>
    exact fun u hf hlt hu => exec_stroke_acts ht harg rfl hf htrip hage (.inl rfl) ((if_pos hlt).trans hu)
  case muOpen | muClose => exact fun u hf hu => exec_stroke_acts ht harg rfl hf htrip hage (.inl rfl) hu
  case activate => exact fun u hf hfw hu => exec_stroke_acts ht harg rfl hf htrip hage (.inr hfw) hu
  case waits =>
    intro a c hmem hf hfw
    simp only [List.mem_cons, List.not_mem_nil, or_false, Prod.mk.injEq] at hmem
    casesm* _ ∨ _
    all_goals
      obtain ⟨rfl, rfl⟩ := hmem
      exact exec_stroke_waits ht harg rfl hf htrip hage rfl hfw
  case mark => exact fun hf => exec_stroke_acts ht harg rfl hf htrip hage (.inl rfl) rfl

end Sys2Proof.Machine
end

section
/-! SUPPORT. The state of a stroke that fires after a trip, in long holdover, on time and late (R39, R41, R42, R547). -/
namespace Sys2Proof.Machine

open Sys2Proof

/-- A flag that is set reads as set. -/
theorem flag_setFlag_true (s : State) (f : Fld) (i j : Nat) (hf : f.lo + f.w ≤ 64) (hw : f.w = 1) :
    (s.setFlag f i j true).flag f i j = true := by
  unfold State.flag State.setFlag
  rw [fld_setFld_same _ _ _ _ _ hf, hw]
  rfl

/-- A field keeps its value while a flag of another register is set. -/
theorem fld_setFlag_of_ne (s : State) {f g : Fld} {i j i' j' : Nat} {b : Bool} (h : f.id.ctorIdx ≠ g.id.ctorIdx) :
    (s.setFlag f i j b).fld g i' j' = s.fld g i' j' := fld_setFld_ne _ _ _ _ _ _ h

/-- A field reads a value that fits it as it was written. -/
theorem fld_setFld_of_lt {s : State} {f : Fld} {i j x : Nat} (h : f.lo + f.w ≤ 64) (hx : x < 2 ^ f.w) :
    (s.setFld f i j x).fld f i j = x := (fld_setFld_same s f i j x h).trans (Nat.mod_eq_of_lt hx)

/-- A field fits its width. -/
theorem fld_lt (s : State) (f : Fld) (i j : Nat) : s.fld f i j < 2 ^ f.w := Nat.mod_lt _ (Nat.two_pow_pos _)

/-! ## A stroke that fails -/

section Failed
variable (s : State) (i r : Nat)

theorem state_strokeFailed : (s.strokeFailed i r).fld .FT_STK_STATE_STATE i 0 = 6 := by
  unfold State.strokeFailed
  rw [fld_setFlag_of_ne _ (by decide), fld_setFld_beside _ _ _ _ (by rfl) (by decide) (by decide),
    fld_setFld_same _ _ _ _ _ (by decide)]
  rfl

theorem result_strokeFailed (hr : r < 256) : (s.strokeFailed i r).fld .FT_STK_STATE_RESULT i 0 = r := by
  unfold State.strokeFailed
  rw [fld_setFlag_of_ne _ (by decide), fld_setFld_same _ _ _ _ _ (by decide)]
  exact Nat.mod_eq_of_lt hr

theorem event_strokeFailed : (s.strokeFailed i r).flag .FT_EVENT_FAILED 0 0 = true :=
  flag_setFlag_true _ _ _ _ (by decide) (by decide)

/-- The other slots keep their states. -/
theorem reg_strokeFailed_ne {j : Nat} (hi : i < 256) (hj : j < 256) (hne : j ≠ i) :
    (s.strokeFailed i r).reg .FT_STK_STATE j 0 = s.reg .FT_STK_STATE j 0 := by
  have hix : j % 2 ^ 20 ≠ i % 2 ^ 20 ∨ 0 % 2 ^ 20 ≠ 0 % 2 ^ 20 := by omega
  unfold State.strokeFailed State.setFlag
  rw [reg_setFld_ne _ _ _ _ _ _ (by decide)]
  exact (reg_setReg_ne_index _ .FT_STK_STATE _ hix).trans (reg_setReg_ne_index _ .FT_STK_STATE _ hix)

/-- A stroke that fails leaves the units alone. -/
theorem units_strokeFailed : (s.strokeFailed i r).pm = s.pm ∧ (s.strokeFailed i r).hq = s.hq ∧
    (s.strokeFailed i r).mule = s.mule ∧ (s.strokeFailed i r).svc = s.svc ∧ (s.strokeFailed i r).ras = s.ras ∧
    (s.strokeFailed i r).hbm = s.hbm := by
  unfold State.strokeFailed
  refine ⟨?_, ?_, ?_, ?_, ?_, ?_⟩
  · rw [State.setFlag_pm, State.setFld_pm, State.setFld_pm]
  · rw [State.setFlag_hq, State.setFld_hq, State.setFld_hq]
  · rw [State.setFlag_mule, State.setFld_mule, State.setFld_mule]
  · rw [State.setFlag_svc, State.setFld_svc, State.setFld_svc]
  · rw [State.setFlag_ras, State.setFld_ras, State.setFld_ras]
  · rw [State.setFlag_hbm, State.setFld_hbm, State.setFld_hbm]

end Failed

section Fires
variable {s : State} {i a : Nat} {c : Instr} {act : State → Nat → Nat × State} (hc : exec c s = .next (s.strokeFire a i act))
variable (hf : s.strokeFires a i = true)
include hc hf

/-- A stroke after a trip fails with TRIPPED, and changes nothing else. -/
theorem exec_stroke_tripped (hi : i < 256) (htrip : s.power.tripped = true) :
    ∃ t : State, exec c s = .next t ∧ t.fld .FT_STK_STATE_STATE i 0 = 6 ∧ t.fld .FT_STK_STATE_RESULT i 0 = 0x20 ∧
      t.flag .FT_EVENT_FAILED 0 0 = true ∧
      (∀ j, j < 256 → j ≠ i → t.reg .FT_STK_STATE j 0 = s.reg .FT_STK_STATE j 0) ∧
      t.pm = s.pm ∧ t.hq = s.hq ∧ t.mule = s.mule ∧ t.svc = s.svc ∧ t.ras = s.ras ∧ t.hbm = s.hbm := by
  obtain ⟨hpm, hhq, hmule, hsvc, hras, hhbm⟩ := units_strokeFailed (s.setFld .FT_STK_FIRED_FIRED i 0 s.now) i 0x20
  refine ⟨_, hc.trans (congrArg _ (strokeFire_tripped hf htrip)), state_strokeFailed .., result_strokeFailed _ _ _ (by decide),
    event_strokeFailed .., fun j hj hne => ?_, ?_, ?_, ?_, ?_, ?_, ?_⟩
  · rw [reg_strokeFailed_ne _ _ _ hi hj hne, reg_setFld_ne _ _ _ _ _ _ (by decide)]
  · rw [hpm, State.setFld_pm]
  · rw [hhq, State.setFld_hq]
  · rw [hmule, State.setFld_mule]
  · rw [hsvc, State.setFld_svc]
  · rw [hras, State.setFld_ras]
  · rw [hhbm, State.setFld_hbm]

/-- A herd-wide stroke in long holdover is DEFERRED. -/
theorem exec_stroke_deferred (htrip : s.power.tripped = false) (hwide : herdWide a = true) (hage : 10000 < s.holdAge) :
    ∃ t : State, exec c s = .next t ∧ t.fld .FT_STK_STATE_STATE i 0 = 4 ∧ t.flag .FT_EVENT_DEFERRED 0 0 = true ∧
      t.pm = s.pm ∧ t.hq = s.hq ∧ t.svc = s.svc ∧ t.hbm = s.hbm := by
  refine ⟨_, hc.trans (congrArg _ (strokeFire_deferred hf htrip hwide hage)), ?_,
    flag_setFlag_true _ _ _ _ (by decide) (by decide), ?_, ?_, ?_, ?_⟩
  · rw [fld_setFlag_of_ne _ (by decide), fld_setFld_same _ _ _ _ _ (by decide)]
    rfl
  · rw [State.setFlag_pm, State.setFld_pm]
  · rw [State.setFlag_hq, State.setFld_hq]
  · rw [State.setFlag_svc, State.setFld_svc]
  · rw [State.setFlag_hbm, State.setFld_hbm]

end Fires

/-! ## Strokes on time and late -/

/-- Whether a slot is late does not depend on when it is recorded to have fired. -/
theorem strokeLate_setFired (s : State) (i x : Nat) : (s.setFld .FT_STK_FIRED_FIRED i 0 x).strokeLate i = s.strokeLate i := by
  unfold State.strokeLate State.now
  rw [fld_setFld_ne _ _ _ _ _ _ (by decide), fld_setFld_ne _ _ _ _ _ _ (by decide), State.setFld_ft]

section Fired
variable {s : State} {i : Nat}

/-- A stroke on time is FIRED, and its slot says when. -/
theorem strokeFired_onTime (h : s.strokeLate i = false) :
    ((s.setFld .FT_STK_FIRED_FIRED i 0 s.now).strokeFired i).fld .FT_STK_STATE_STATE i 0 = 2 ∧
      ((s.setFld .FT_STK_FIRED_FIRED i 0 s.now).strokeFired i).fld .FT_STK_FIRED_FIRED i 0 = s.now := by
  unfold State.strokeFired
  rw [strokeLate_setFired, h, if_neg Bool.false_ne_true, fld_setFld_same _ _ _ _ _ (by decide),
    fld_setFld_ne _ _ _ _ _ _ (by decide), fld_setFld_same _ _ _ _ _ (by decide)]
  exact ⟨rfl, Nat.mod_eq_of_lt (fld_lt s .FT_NOW_NOW 0 0)⟩

/-- A late stroke is FIRED_LATE. -/
theorem strokeFired_late (h : s.strokeLate i = true) :
    ((s.setFld .FT_STK_FIRED_FIRED i 0 s.now).strokeFired i).fld .FT_STK_STATE_STATE i 0 = 3 ∧
      ((s.setFld .FT_STK_FIRED_FIRED i 0 s.now).strokeFired i).flag .FT_EVENT_LATE_FIRE 0 0 = true := by
  unfold State.strokeFired
  rw [strokeLate_setFired, h, if_pos rfl, fld_setFlag_of_ne _ (by decide), fld_setFld_same _ _ _ _ _ (by decide)]
  exact ⟨rfl, flag_setFlag_true _ _ _ _ (by decide) (by decide)⟩

end Fired

/-- CAPSET writes the cap and no field of another register. -/
theorem fld_capSet_ne (s : State) (n : Nat) {f : Fld} (i j : Nat) (h : RegId.PM_CAP.ctorIdx ≠ f.id.ctorIdx) :
    (s.capSet n).fld f i j = s.fld f i j := by
  unfold State.capSet
  rw [fld_setFld_ne _ _ _ _ _ _ h, fld_withPm]

theorem watts_capSet (s : State) {n : Nat} (hn : n < 1024) : (s.capSet n).fld .PM_CAP_WATTS 0 0 = n := by
  unfold State.capSet
  rw [fld_setFld_same _ _ _ _ _ (by decide)]
  exact Nat.mod_eq_of_lt hn

section CapSet
variable {s : State} {i : Nat} (hf : s.strokeFires 6 i = true) (htrip : s.power.tripped = false)
include hf htrip

/-- CAPSET while the firmware runs. -/
theorem exec_capset_acts (hfw : s.fwDown = false) : exec (.capset i) s =
    .next (((s.setFld .FT_STK_FIRED_FIRED i 0 s.now).strokeFired i).capSet (nfield (s.fld .FT_STK_ARG_ARG i 0) 0 10)) :=
  congrArg Host.Outcome.next (strokeFire_acts hf htrip (.inl rfl) (.inr hfw) rfl)

/-- CAPSET while it does not. -/
theorem exec_capset_waits (hfw : s.fwDown = true) : exec (.capset i) s =
    .next (((s.setFld .FT_STK_FIRED_FIRED i 0 s.now).strokeFired i).withSvc
      { s.svc with held := s.svc.held ++ [⟨6, i, s.fld .FT_STK_ARG_ARG i 0, s.now⟩] }) :=
  congrArg Host.Outcome.next (strokeFire_waits hf htrip (.inl rfl) rfl hfw)

/-- A CAPSET stroke on time is FIRED and sets the cap. -/
theorem exec_capset_onTime (hlate : s.strokeLate i = false) (hfw : s.fwDown = false) :
    ∃ t : State, exec (.capset i) s = .next t ∧ t.fld .FT_STK_STATE_STATE i 0 = 2 ∧
      t.fld .FT_STK_FIRED_FIRED i 0 = s.now ∧ t.fld .PM_CAP_WATTS 0 0 = nfield (s.fld .FT_STK_ARG_ARG i 0) 0 10 := by
  obtain ⟨hstate, hfired⟩ := strokeFired_onTime hlate
  refine ⟨_, exec_capset_acts hf htrip hfw, ?_, ?_, watts_capSet _ (Nat.mod_lt _ (by decide))⟩
  · rw [fld_capSet_ne _ _ _ _ (by decide), hstate]
  · rw [fld_capSet_ne _ _ _ _ (by decide), hfired]

/-- A late CAPSET stroke is FIRED_LATE, whether the firmware runs or not. -/
theorem exec_capset_late (hlate : s.strokeLate i = true) :
    ∃ t : State, exec (.capset i) s = .next t ∧ t.fld .FT_STK_STATE_STATE i 0 = 3 ∧
      t.flag .FT_EVENT_LATE_FIRE 0 0 = true := by
  obtain ⟨hstate, hevent⟩ := strokeFired_late hlate
  cases hfw : s.fwDown
  case false =>
    refine ⟨_, exec_capset_acts hf htrip hfw, ?_, ?_⟩
    · rw [fld_capSet_ne _ _ _ _ (by decide), hstate]
    · unfold State.flag at hevent ⊢
      rw [fld_capSet_ne _ _ _ _ (by decide), hevent]
  case true =>
    refine ⟨_, exec_capset_waits hf htrip hfw, ?_, ?_⟩
    · rw [fld_withSvc, hstate]
    · rw [flag_withSvc, hevent]

end CapSet

/-- Settles O30: the state that a stroke takes by the trip, the holdover age and its own time. -/
theorem strokeStates : Obligations.StrokeStates := by
  refine fun s i hi => ⟨?tripped, ?deferred, exec_capset_onTime, exec_capset_late⟩
  case tripped =>
    intro a c hmem hf htrip
    simp only [List.mem_cons, List.not_mem_nil, or_false, Prod.mk.injEq] at hmem
    casesm* _ ∨ _
    all_goals
      obtain ⟨rfl, rfl⟩ := hmem
      exact exec_stroke_tripped rfl hf hi htrip
  case deferred =>
    intro a c hmem hf htrip hage
    simp only [List.mem_cons, List.not_mem_nil, or_false, Prod.mk.injEq] at hmem
    casesm* _ ∨ _
    all_goals
      obtain ⟨rfl, rfl⟩ := hmem
      exact exec_stroke_deferred rfl hf htrip rfl hage

end Sys2Proof.Machine
end

section
/-! SUPPORT. Cycles of tensor memory: issues, bank grants, reads and the hot-bank sampler (R63 to R73, R83). -/
namespace Sys2Proof.Machine

open Sys2Proof

/-! ## The grant of a bank (R65) -/

/-- A bank grants a request that asks; an OLD one before the others, and among equals the first in port order. -/
theorem pickGrant_spec {l : List BankAsk} {a : BankAsk} (h : pickGrant l = some a) :
    a ∈ l ∧ (a.isOld = true ∨ ∀ b ∈ l, b.isOld = false) ∧
      (l.Pairwise (fun x y => x.port < y.port) → ∀ b ∈ l, b.isOld = a.isOld → a.port ≤ b.port) := by
  unfold pickGrant at h
  split at h
  next a' hfind =>
    obtain rfl := Option.some.inj h
    obtain ⟨hold, pre, post, hl, hpre⟩ := List.find?_eq_some_iff_append.mp hfind
    refine ⟨List.mem_of_find?_eq_some hfind, .inl hold, fun hpair b hb hsame => ?_⟩
    rw [hl] at hpair hb
    have hafter := (List.pairwise_cons.mp (List.pairwise_append.mp hpair).2.1).1
    rcases List.mem_append.mp hb with hb | hb
    · have := hpre b hb
      rw [hsame, hold] at this
      cases this
    · rcases List.mem_cons.mp hb with rfl | hb
      · exact le_refl _
      · exact (hafter b hb).le
  next hnone =>
    have hyoung : ∀ b ∈ l, b.isOld = false := fun b hb => by simpa using List.find?_eq_none.mp hnone b hb
    cases l with
    | nil => cases h
    | cons x xs =>
      obtain rfl := Option.some.inj h
      refine ⟨List.mem_cons_self, .inr hyoung, fun hpair b hb _ => ?_⟩
      rcases List.mem_cons.mp hb with rfl | hb
      · exact le_refl _
      · exact ((List.pairwise_cons.mp hpair).1 b hb).le

theorem exec_bankGrant {s s0 t : State} {c bank : Nat} {a : BankAsk} (hready : s.tmReady c = true)
    (h0 : s0 = (if s.tm.cycBanks.contains (c, bank) then s.newCycle c else s))
    (ht : t = (s0.withTm { s0.tm with cycBanks := (c, bank) :: s0.tm.cycBanks }).reachBank c bank)
    (ha : pickGrant (t.asks c bank) = some a) :
    exec (.bankGrant c bank) s = .next ((((t.each ((t.asks c bank).filter (fun b => b != a))
      (fun b u => u.loseCycle c bank b)).grantAsk c a).settleBank c bank).pump c) := by
  change execBankGrant c bank s = _
  unfold execBankGrant State.bankCycle
  rw [if_neg (by simp [hready])]
  simp only [← h0, ← ht, ha]

/-! ## Reads -/

theorem exec_readReturn {s u : State} {c port : Nat} {i : TmIssue} {l : List PW}
    (hi : s.tm.issues.find? (fun i => i.c == c && i.port == port && !i.write && !i.busy) = some i)
    (hl : (s.withTm { s.tm with issues := s.tm.issues.erase i }).returnWords c i.taken = (l, u)) :
    exec (.readReturn c port) s = .next (u.withTm { u.tm with
      returns := ⟨c, port, l⟩ :: u.tm.returns.filter (fun r => !(r.c == c && r.port == port))
      fab := (u.tm.fab.map (fun a => if a.id == i.acc then { a with left := a.left - 1, got := a.got ++ l } else a)).filter
        (fun a => !(a.id == i.acc && a.left == 0)) }) := by
  change execReadReturn c port s = _
  simp only [execReadReturn, hi, hl]

/-! ## The hot-bank sampler (R83) -/

/-- The ring entry that the end of a sample period writes. -/
def State.hotEntry (t : State) (c k b : Nat) (h : HotBank) (now : Nat) : State :=
  ((((t.setFld .TMX_HOT_RING_FT_FT c k now).setFld .TMX_HOT_RING_BANK c k b).setFld .TMX_HOT_RING_LOST c k
    (min h.lost 0xFFFFFF)).setFld .TMX_HOT_RING_PORTS c k h.ports).setFlag .TMX_HOT_RING_VALID c k true

section Entry
variable (t : State) (c k b : Nat) (h : HotBank) (now : Nat)

theorem time_hotEntry : (t.hotEntry c k b h now).fld .TMX_HOT_RING_FT_FT c k = now % 2 ^ 64 := by
  unfold State.hotEntry
  rw [fld_setFlag_of_ne _ (by decide), fld_setFld_ne _ _ _ _ _ _ (by decide), fld_setFld_ne _ _ _ _ _ _ (by decide),
    fld_setFld_ne _ _ _ _ _ _ (by decide), fld_setFld_same _ _ _ _ _ (by decide)]

theorem bank_hotEntry : (t.hotEntry c k b h now).fld .TMX_HOT_RING_BANK c k = b % 64 := by
  unfold State.hotEntry State.setFlag
  rw [fld_setFld_beside _ _ _ _ (by rfl) (by decide) (by decide), fld_setFld_beside _ _ _ _ (by rfl) (by decide) (by decide),
    fld_setFld_beside _ _ _ _ (by rfl) (by decide) (by decide), fld_setFld_same _ _ _ _ _ (by decide)]
  rfl

theorem lost_hotEntry : (t.hotEntry c k b h now).fld .TMX_HOT_RING_LOST c k = min h.lost 0xFFFFFF := by
  unfold State.hotEntry State.setFlag
  rw [fld_setFld_beside _ _ _ _ (by rfl) (by decide) (by decide), fld_setFld_beside _ _ _ _ (by rfl) (by decide) (by decide),
    fld_setFld_same _ _ _ _ _ (by decide)]
  exact Nat.mod_eq_of_lt (lt_of_le_of_lt (Nat.min_le_right _ _) (by decide))

theorem ports_hotEntry : (t.hotEntry c k b h now).fld .TMX_HOT_RING_PORTS c k = h.ports % 512 := by
  unfold State.hotEntry State.setFlag
  rw [fld_setFld_beside _ _ _ _ (by rfl) (by decide) (by decide), fld_setFld_same _ _ _ _ _ (by decide)]
  rfl

theorem valid_hotEntry : (t.hotEntry c k b h now).flag .TMX_HOT_RING_VALID c k = true :=
  flag_setFlag_true _ _ _ _ (by decide) (by decide)

theorem units_hotEntry : (t.hotEntry c k b h now).tm = t.tm ∧ (t.hotEntry c k b h now).hbm = t.hbm ∧
    (t.hotEntry c k b h now).sc = t.sc := by
  unfold State.hotEntry
  refine ⟨?_, ?_, ?_⟩
  · rw [State.setFlag_tm]
    iterate 4 rw [State.setFld_tm]
  · rw [State.setFlag_hbm]
    iterate 4 rw [State.setFld_hbm]
  · rw [State.setFlag_sc]
    iterate 4 rw [State.setFld_sc]

end Entry

/-- The next entry of a ring is found by its registers alone. -/
theorem units_ringNext {s t : State} {next wraps : Fld} {i n k : Nat} {full : Nat → Bool}
    (h : s.ringNext next wraps i n full = (k, t)) : t.tm = s.tm ∧ t.hbm = s.hbm ∧ t.sc = s.sc := by
  unfold State.ringNext at h
  simp only [Prod.mk.injEq] at h
  obtain ⟨-, rfl⟩ := h
  split
  · unfold State.satInc
    exact ⟨by rw [State.setFld_tm, State.setFld_tm], by rw [State.setFld_hbm, State.setFld_hbm],
      by rw [State.setFld_sc, State.setFld_sc]⟩
  · exact ⟨State.setFld_tm .., State.setFld_hbm .., State.setFld_sc ..⟩

/-- A register as software reads it does not change where its value comes into force. -/
theorem fld_applyShadow (s : State) (id : RegId) (i j : Nat) (f : Fld) (i' j' : Nat) :
    (s.applyShadow id i j).fld f i' j' = s.fld f i' j' := by
  unfold State.applyShadow
  rw [fld_withShadowPend, fld_withApplied]

theorem units_applyShadow (s : State) (id : RegId) (i j : Nat) : (s.applyShadow id i j).tm = s.tm ∧
    (s.applyShadow id i j).hbm = s.hbm ∧ (s.applyShadow id i j).sc = s.sc := by
  unfold State.applyShadow
  exact ⟨by rw [State.withShadowPend_tm, State.withApplied_tm], by rw [State.withShadowPend_hbm, State.withApplied_hbm],
    by rw [State.withShadowPend_sc, State.withApplied_sc]⟩

/-- The counts of a cluster's banks start anew (R83). -/
def TmState.hotCleared (x : TmState) (c : Nat) : TmState := { x with hot := sdrop (fun k => k / 64 == c) x.hot }

theorem hot_hotCleared (x : TmState) {c n : Nat} (hn : n < 64) :
    sget (fun _ => HotBank.mk 0 0) (x.hotCleared c).hot (c * 64 + n) = ⟨0, 0⟩ := by
  have hdiv : (c * 64 + n) / 64 = c := by omega
  exact sget_filter_of_dropped (fun _ => HotBank.mk 0 0) (fun k => !(k / 64 == c)) x.hot (by simp [hdiv])

/-- The end of a sample period of a sampler that was enabled. -/
theorem exec_hotPeriodEnd_on {s t : State} {c b k : Nat} {h : HotBank} (hon : s.clusterOn c = true)
    (hen : s.inForce .TMX_HOT_CFG_EN c 0 = 1) (hhot : s.hottest c = (b, h))
    (hring : s.ringNext .TMX_HOT_HEAD_NEXT .TMX_HOT_HEAD_WRAPS c 8 (fun k => s.flag .TMX_HOT_RING_VALID c k) = (k, t)) :
    exec (.hotPeriodEnd c) s = .next (((t.hotEntry c k b h s.now).withTm ((t.hotEntry c k b h s.now).tm.hotCleared c)).applyShadow
      .TMX_HOT_CFG c 0) := by
  change execHotPeriodEnd c s = _
  unfold execHotPeriodEnd State.hotEntry TmState.hotCleared
  rw [if_neg (by simp [hon])]
  simp only [hen, hhot, hring, if_true]
  rw [if_neg (fun hc => absurd hc.1 (by decide))]

/-- The end of a sample period of a sampler that was not. -/
theorem exec_hotPeriodEnd_off {s : State} {c : Nat} (hon : s.clusterOn c = true) (hen : s.inForce .TMX_HOT_CFG_EN c 0 = 0) :
    exec (.hotPeriodEnd c) s = .next
      (if ((s.withTm (s.tm.hotCleared c)).applyShadow .TMX_HOT_CFG c 0).inForce .TMX_HOT_CFG_EN c 0 = 1 then
        ((s.withTm (s.tm.hotCleared c)).applyShadow .TMX_HOT_CFG c 0).each (List.range 8)
          (fun k t => t.setFlag .TMX_HOT_RING_VALID c k false)
      else (s.withTm (s.tm.hotCleared c)).applyShadow .TMX_HOT_CFG c 0) := by
  change execHotPeriodEnd c s = _
  unfold execHotPeriodEnd TmState.hotCleared
  rw [if_neg (by simp [hon])]
  simp only [hen, Nat.zero_ne_one, if_false, true_and]

/-- What the end of a sample period leaves. -/
theorem hotPeriodEnd_writes_ring {s t : State} {c b k : Nat} {h : HotBank} (hon : s.clusterOn c = true)
    (hen : s.inForce .TMX_HOT_CFG_EN c 0 = 1) (hhot : s.hottest c = (b, h))
    (hring : s.ringNext .TMX_HOT_HEAD_NEXT .TMX_HOT_HEAD_WRAPS c 8 (fun k => s.flag .TMX_HOT_RING_VALID c k) = (k, t)) :
    ∃ u : State, exec (.hotPeriodEnd c) s = .next u ∧ u.fld .TMX_HOT_RING_FT_FT c k = s.now ∧
      u.fld .TMX_HOT_RING_BANK c k = b % 64 ∧ u.fld .TMX_HOT_RING_LOST c k = min h.lost 0xFFFFFF ∧
      u.fld .TMX_HOT_RING_PORTS c k = h.ports % 512 ∧ u.flag .TMX_HOT_RING_VALID c k = true ∧
      (∀ n, n < 64 → sget (fun _ => HotBank.mk 0 0) u.tm.hot (c * 64 + n) = ⟨0, 0⟩) ∧
      u.tm.words = s.tm.words ∧ u.hbm = s.hbm ∧ u.sc = s.sc := by
  obtain ⟨hrtm, hrhbm, hrsc⟩ := units_ringNext hring
  obtain ⟨hetm, hehbm, hesc⟩ := units_hotEntry t c k b h s.now
  obtain ⟨hatm, hahbm, hasc⟩ := units_applyShadow
    ((t.hotEntry c k b h s.now).withTm ((t.hotEntry c k b h s.now).tm.hotCleared c)) .TMX_HOT_CFG c 0
  refine ⟨_, exec_hotPeriodEnd_on hon hen hhot hring, ?_, ?_, ?_, ?_, ?_, fun n hn => ?_, ?_, ?_, ?_⟩
  · rw [fld_applyShadow, fld_withTm, time_hotEntry]
    exact Nat.mod_eq_of_lt (fld_lt s .FT_NOW_NOW 0 0)
  · rw [fld_applyShadow, fld_withTm, bank_hotEntry]
  · rw [fld_applyShadow, fld_withTm, lost_hotEntry]
  · rw [fld_applyShadow, fld_withTm, ports_hotEntry]
  · unfold State.flag
    rw [fld_applyShadow, fld_withTm]
    exact valid_hotEntry ..
  · rw [hatm, State.withTm_tm, hot_hotCleared _ hn]
  · rw [hatm, State.withTm_tm, ← hrtm, ← hetm]
    rfl
  · rw [hahbm, State.withTm_hbm, hehbm, hrhbm]
  · rw [hasc, State.withTm_sc, hesc, hrsc]

/-- Settles O31. That the second grant at a bank begins the next cycle, and that a port asks for one thing at a bank, is the
model's choice (log entry 149). -/
theorem tensorMemoryCycles : Obligations.TensorMemoryCycles := by
  refine fun s c hon => ⟨?issue, ?grant, fun l a h => pickGrant_spec h, ?read, fun port line => rfl, ?sampled,
    exec_hotPeriodEnd_off hon⟩
  case issue =>
    exact fun port write ws hready hbusy hok hport hdir => congrArg _ (if_pos ⟨hready, hbusy, hok, hport, hdir⟩)
  case grant => exact fun bank a s0 t hready h0 ht ha => exec_bankGrant hready h0 ht ha
  case read => exact fun port i l u hi hl => exec_readReturn hi hl
  case sampled => exact fun b h k t hen hhot hring _ _ => hotPeriodEnd_writes_ring hon hen hhot hring

end Sys2Proof.Machine
end

section
/-! SUPPORT. Accesses at FAB, commits, and the blanking of windows (R79 to R103). -/
namespace Sys2Proof.Machine

open Sys2Proof

section Access
variable {s : State} {c cls src vi off len msgs : Nat} {write : Bool} {data : List PW}

/-- The record of an access under the window that admits it waits in its class. -/
theorem fabEnter_fabRecord {w : Nat} : s.fabEnter (s.fabRecord c w src vi write off len msgs) cls data =
    (s.withTm { s.tm with
      fab := s.tm.fab ++ [s.fabRecord c w src vi write off len msgs]
      nextFab := s.tm.nextFab + 1
      fabQ := s.tm.fabQ ++ (splitLines (maskedWords off len data)).map (fun ws =>
        (⟨c, s.tm.nextFab, cls, write, ws⟩ : FabLine)) }).pump c := by
  have hc : (s.fabRecord c w src vi write off len msgs).c = c := rfl
  have hid : (s.fabRecord c w src vi write off len msgs).id = s.tm.nextFab := rfl
  have hwrite : (s.fabRecord c w src vi write off len msgs).write = write := rfl
  have hoff : (s.fabRecord c w src vi write off len msgs).off = off := rfl
  have hlen : (s.fabRecord c w src vi write off len msgs).len = len := rfl
  simp only [State.fabEnter, hc, hid, hwrite, hoff, hlen]

variable (hon : s.clusterOn c = true) (hlen : len ≠ 0)
include hon hlen

/-- FAB holds the access at the spine. -/
theorem exec_fabAccess_held (hholds : s.fabHolds c = true) : exec (.fabAccess c cls src vi write off len data msgs) s =
    .next (s.withTm { s.tm with
      fabHeld := s.tm.fabHeld ++ [⟨c, cls, src, vi, write, off, len, data, msgs, true⟩] }) := by
  change execFabAccess c cls src vi write off len data msgs s = _
  unfold execFabAccess State.fabArrive
  rw [if_neg hlen, if_neg (by simp [hon]), if_pos hholds]

/-- No window admits the access. -/
theorem exec_fabAccess_refused (hholds : s.fabHolds c = false) (hw : s.admitWindow c src write off len = none) :
    exec (.fabAccess c cls src vi write off len data msgs) s =
      .next (s.wnRefuse c src write off len (s.wnReason c src off len)) := by
  change execFabAccess c cls src vi write off len data msgs s = _
  unfold execFabAccess State.fabArrive
  rw [if_neg hlen, if_neg (by simp [hon]), if_neg (by simp [hholds]), hw]

/-- The lowest window that matches admits the access. -/
theorem exec_fabAccess_admitted (hholds : s.fabHolds c = false) {w : Nat} (hw : s.admitWindow c src write off len = some w) :
    exec (.fabAccess c cls src vi write off len data msgs) s = .next ((s.withTm { s.tm with
      fab := s.tm.fab ++ [s.fabRecord c w src vi write off len msgs]
      nextFab := s.tm.nextFab + 1
      fabQ := s.tm.fabQ ++ (splitLines (maskedWords off len data)).map (fun ws =>
        (⟨c, s.tm.nextFab, cls, write, ws⟩ : FabLine)) }).pump c) := by
  change execFabAccess c cls src vi write off len data msgs s = _
  unfold execFabAccess State.fabArrive
  rw [if_neg hlen, if_neg (by simp [hon]), if_neg (by simp [hholds]), hw, ← fabEnter_fabRecord]

end Access

/-- A write's commit takes its issue away and flushes what its access has merged. -/
theorem exec_writeCommit {s s0 t : State} {c port : Nat} {upset : List (Nat × Nat)} {i : TmIssue} {fab : List FabAcc}
    (h0 : s0 = s.each upset (fun e u => u.cntUpset c e.1 e.2))
    (hi : s0.tm.issues.find? (fun i => i.c == c && i.port == port && i.write && !i.busy) = some i)
    (hfab : fab = s0.tm.fab.map (fun a => if a.id == i.acc then { a with left := a.left - 1 } else a))
    (ht : t = (s0.withTm { s0.tm with issues := s0.tm.issues.erase i, fab := fab }).markFlush
      (fun e => fab.any (fun a => a.id == i.acc && a.left == 0 && fabEntry a e))) :
    exec (.writeCommit c port upset) s = .next (if port = 2 then t.fabFinish c else t) := by
  change execWriteCommit c port upset s = _
  unfold execWriteCommit
  simp only [← h0, hi, ← hfab, ← ht]

/-- The range of a window that a VI reset closed, once nothing is in flight. -/
theorem exec_windowBlank {s u v : State} {c w : Nat} (hblank : s.tm.blanks.contains (c, w) = true)
    (hidle : s.wnInflight c w = false) (hready : s.tmReady c = true)
    (hu : u = (((if s.fld .WN_RANGE_BASE c w ≤ s.fld .WN_RANGE_LIMIT c w then
        s.tmBlank c (s.fld .WN_RANGE_BASE c w * 256) (s.fld .WN_RANGE_LIMIT c w * 256 + 255) else s).setFld .WN_CNT_VALUE c
        (s.fld .WN_CTL_CNT c w) 0).cntUpset c (s.fld .WN_CTL_CNT c w) 0))
    (hv : v = u.withTm { u.tm with blanks := u.tm.blanks.filter (fun x => x != (c, w)) }) :
    exec (.windowBlank c w) s = .next (if v.fabHolds c then v else v.serveHeld c) := by
  change execWindowBlank c w s = _
  unfold execWindowBlank
  rw [if_pos (by rw [hblank, hidle, hready]; rfl)]
  simp only [← hu, ← hv]

/-- Settles O32: an access is held, refused or admitted; a commit ends its accesses; a closed window's range is blanked. -/
theorem windowCommands : Obligations.WindowCommands := by
  refine fun s c hon => ⟨?admitted, ?refused, ?held, ?commit, ?blank⟩
  case admitted =>
    exact fun cls src vi write off len data msgs w hlen hholds hw => exec_fabAccess_admitted hon hlen hholds hw
  case refused =>
    exact fun cls src vi write off len data msgs hlen hholds hw => exec_fabAccess_refused hon hlen hholds hw
  case held => exact fun cls src vi write off len data msgs hlen hholds => exec_fabAccess_held hon hlen hholds
  case commit =>
    intro port upset i s0 t fab h0 hi hfab ht
    have hexec := exec_writeCommit h0 hi hfab ht
    exact ⟨fun hport => hexec.trans (congrArg _ (if_neg hport)), fun hport => hexec.trans (congrArg _ (if_pos hport))⟩
  case blank => exact fun w u v hblank hidle hready hu hv => exec_windowBlank hblank hidle hready hu hv

end Sys2Proof.Machine
end

section
/-! SUPPORT. Deferred repairs and scrub passes (R144 to R156, R203). -/
namespace Sys2Proof.Machine

open Sys2Proof

/-- A deferred repair starts once its channel is in MEM. -/
theorem exec_hbmRepairDeferredStart {s : State} {stack pc : Nat} {f : SoftFuse}
    (hf : s.ras.deferred.find? (fun (f : SoftFuse) => f.unit == stack * 64 + pc) = some f) (hmode : s.chMode stack pc = 0)
    (hon : s.stackOn stack = true) :
    exec (.hbmRepairDeferredStart stack pc) s = .next
      (((s.withRas { s.ras with deferred := s.ras.deferred.erase f }).softRepair stack pc f.hbank f.row).2.repairResult
        (stackDie stack)
        ((s.withRas { s.ras with deferred := s.ras.deferred.erase f }).softRepair stack pc f.hbank f.row).1) := by
  change execHbmRepairDeferredStart stack pc s = _
  simp only [execHbmRepairDeferredStart, hf]
  rw [if_neg (not_not.mpr hmode), if_pos hon]

/-- Settles O34: a deferred repair starts; a scrub pass makes its next access by its target, and ends with its reason. -/
theorem repairAndScrub : Obligations.RepairAndScrub := by
  refine fun s d n stack pc => ⟨fun f => exec_hbmRepairDeferredStart, ?access, ?passEnd⟩
  case access =>
    intro ue skip run t words r1 s1 r2 s2 hrun ht hon hpos hwords hcase hrows
    have hgo : ¬(s.scrubOn t = false ∨ s.scrubStop d n t ≤ run.pos) := by
      rw [hon]
      exact fun h => h.elim Bool.noConfusion (Nat.not_le.mpr hpos)
    change execScrubAccess d n ue skip s = _
    simp only [execScrubAccess, hrun, ← ht, if_neg hgo, ← hwords]
    rcases hcase with ⟨c, rfl, hready, hr⟩ | ⟨c, rfl, hready, hr⟩ | ⟨i, l, rfl, hl, hr⟩ | ⟨i, rfl, hl, hr⟩ |
      ⟨p, u, rfl, hadm, hr⟩ | ⟨p, u, ch, rfl, hadm, hr⟩
    case inl | inr.inl =>
      simp only [hready, reduceCtorEq, ne_eq, not_true_eq_false, or_self, if_false, ← hr, ← hrows]
    case inr.inr.inl | inr.inr.inr.inl =>
      simp only [hl, reduceCtorEq, ne_eq, not_true_eq_false, or_self, if_false, ← hr, ← hrows]
    case inr.inr.inr.inr.inl =>
      simp only [hadm, reduceCtorEq, ne_eq, not_true_eq_false, or_self, if_false, ← hr, ← hrows]
    case inr.inr.inr.inr.inr =>
      simp only [hadm, reduceCtorEq, ne_eq, not_false_eq_true, or_self, if_false, if_true, ← hr, ← hrows]
  case passEnd =>
    intro run t hrun ht
    refine ⟨fun hoff => ?_, fun p hon hp hlevel => ?_, fun hon hcool hpos => ?_⟩
    all_goals
      change execScrubPassEnd d n s = _
      simp only [execScrubPassEnd, hrun, ← ht]
    · rw [if_pos hoff]
    · subst hp
      simp only [hon, hlevel, Bool.true_eq_false, if_false, beq_self_eq_true, if_true]
    · rw [if_neg (by simp [hon]), if_neg ?_, if_pos hpos]
      cases t with
      | hbm p => simpa using hcool p rfl
      | _ => exact Bool.false_ne_true

end Sys2Proof.Machine
end

section
/-! SUPPORT. The error code of a stored word: its syndrome is linear, and one or two flipped bits give a syndrome of their own
(R124 to R126, R129). -/
namespace Sys2Proof.Machine

open Sys2Proof

/-! ## The syndrome -/

/-- The masks of a sum modulo 2 are the sum of the masks. -/
theorem xorMasks_xor (ms : List Nat) (a b : Nat) : xorMasks ms (a ^^^ b) = xorMasks ms a ^^^ xorMasks ms b := by
  induction ms generalizing a b with
  | nil => simp [xorMasks]
  | cons m ms ih =>
    have hdiv : (a ^^^ b) / 2 = (a / 2) ^^^ (b / 2) := by
      simpa only [Nat.shiftRight_one] using Nat.shiftRight_xor_distrib (a := a) (b := b) (i := 1)
    have hbit : (if (a ^^^ b) % 2 = 1 then m else 0) = (if a % 2 = 1 then m else 0) ^^^ (if b % 2 = 1 then m else 0) := by
      have hmod : (a ^^^ b) % 2 = (a % 2) ^^^ (b % 2) := Nat.xor_mod_two_pow (n := 1)
      rw [hmod]
      rcases Nat.mod_two_eq_zero_or_one a with ha | ha <;> rcases Nat.mod_two_eq_zero_or_one b with hb | hb <;> simp [ha, hb]
    rw [xorMasks, xorMasks, xorMasks, hdiv, hbit, ih]
    ac_rfl

/-- The syndrome of 40 raw bits: the check bits against those of the data and the poison bit. -/
def syndrome (w : Nat) : Nat := (w >>> 33) ^^^ xorMasks colMasks (w % 2 ^ 33)

theorem syndrome_xor (a b : Nat) : syndrome (a ^^^ b) = syndrome a ^^^ syndrome b := by
  unfold syndrome
  rw [Nat.shiftRight_xor_distrib, Nat.xor_mod_two_pow, xorMasks_xor]
  ac_rfl

/-- The check bits of the data and the poison bit that a raw word holds. -/
theorem checkBits_raw (w : W40) : checkBits (BitVec.ofNat 32 w.toNat) (w.getLsbD 32) = xorMasks colMasks (w.toNat % 2 ^ 33) := by
  have hbit : b2n (w.getLsbD 32) = w.toNat / 2 ^ 32 % 2 := by
    rw [BitVec.getLsbD, Nat.testBit_eq_decide_div_mod_eq]
    rcases Nat.mod_two_eq_zero_or_one (w.toNat / 2 ^ 32) with h | h <;> rw [h] <;> rfl
  unfold checkBits
  rw [BitVec.toNat_ofNat, hbit]
  congr 1
  omega

theorem syndrome_raw (w : W40) :
    w.toNat >>> 33 ^^^ checkBits (BitVec.ofNat 32 w.toNat) (w.getLsbD 32) = syndrome w.toNat := by
  rw [checkBits_raw, syndrome]

section Decode
variable {w : W40} (hne : syndrome w.toNat ≠ 0)
include hne

/-- A syndrome of one bit: a check bit was flipped. -/
theorem decodeWord_check (hone : [1, 2, 4, 8, 16, 32, 64].contains (syndrome w.toNat) = true) :
    decodeWord w = ⟨⟨BitVec.ofNat 32 w.toNat, w.getLsbD 32⟩, .check⟩ := by
  simp only [decodeWord, syndrome_raw, if_neg hne, hone, if_true]

/-- The syndrome of a column: its bit was flipped, and is flipped back. -/
theorem decodeWord_column (hone : [1, 2, 4, 8, 16, 32, 64].contains (syndrome w.toNat) = false) {k : Nat}
    (hk : colMasks.findIdx? (fun m => m == syndrome w.toNat) = some k) :
    decodeWord w = if k = 32 then ⟨⟨BitVec.ofNat 32 w.toNat, !w.getLsbD 32⟩, .data⟩
      else ⟨⟨BitVec.ofNat 32 w.toNat ^^^ BitVec.ofNat 32 (2 ^ k), w.getLsbD 32⟩, .data⟩ := by
  simp only [decodeWord, syndrome_raw, if_neg hne, hone, Bool.false_eq_true, if_false, hk]

/-- The syndrome of no single flip. -/
theorem decodeWord_ue (hone : [1, 2, 4, 8, 16, 32, 64].contains (syndrome w.toNat) = false)
    (hk : colMasks.findIdx? (fun m => m == syndrome w.toNat) = none) : (decodeWord w).cls = .ue := by
  simp only [decodeWord, syndrome_raw, if_neg hne, hone, Bool.false_eq_true, if_false, hk]

end Decode

/-- A stored word has syndrome 0. -/
theorem syndrome_encodeWord (p : PW) : syndrome (encodeWord p).toNat = 0 := by
  have h := checkBits_raw (encodeWord p)
  rw [ofNat_toNat_encodeWord, getLsbD_encodeWord_poison] at h
  rw [syndrome, ← h, shiftRight_encodeWord_check, Nat.xor_self]

/-! ## Flipped bits -/

theorem toNat_flip {i : Nat} (hi : i < 40) : (1#40 <<< i).toNat = 2 ^ i := by
  rw [BitVec.toNat_shiftLeft, BitVec.toNat_ofNat, Nat.shiftLeft_eq, Nat.mod_eq_of_lt (by decide : 1 < 2 ^ 40), Nat.one_mul]
  exact Nat.mod_eq_of_lt (Nat.pow_lt_pow_right (by decide) hi)

theorem syndrome_flip (p : PW) {i : Nat} (hi : i < 40) : syndrome (encodeWord p ^^^ (1#40 <<< i)).toNat = syndrome (2 ^ i) := by
  rw [BitVec.toNat_xor, toNat_flip hi, syndrome_xor, syndrome_encodeWord, Nat.zero_xor]

theorem syndrome_flip_two (p : PW) {i j : Nat} (hi : i < 40) (hj : j < 40) :
    syndrome (encodeWord p ^^^ (1#40 <<< i) ^^^ (1#40 <<< j)).toNat = syndrome (2 ^ i) ^^^ syndrome (2 ^ j) := by
  rw [BitVec.toNat_xor, toNat_flip hj, syndrome_xor, syndrome_flip p hi]

/-- A flip of a check bit has a syndrome of one bit. -/
theorem syndrome_check : ∀ i, 33 ≤ i → i < 40 →
    syndrome (2 ^ i) ≠ 0 ∧ [1, 2, 4, 8, 16, 32, 64].contains (syndrome (2 ^ i)) = true := by
  intro i h1 h2
  interval_cases i <;> decide

/-- A flip of a data bit, or of the poison bit, has the syndrome of its column, and no other column has it. -/
theorem syndrome_column : ∀ i < 33, syndrome (2 ^ i) ≠ 0 ∧ [1, 2, 4, 8, 16, 32, 64].contains (syndrome (2 ^ i)) = false ∧
    colMasks.findIdx? (fun m => m == syndrome (2 ^ i)) = some i := by
  decide +kernel

/-- Two flips have the syndrome of no single one. -/
theorem syndrome_two : ∀ j < 40, ∀ i < j, syndrome (2 ^ i) ^^^ syndrome (2 ^ j) ≠ 0 ∧
    [1, 2, 4, 8, 16, 32, 64].contains (syndrome (2 ^ i) ^^^ syndrome (2 ^ j)) = false ∧
    colMasks.findIdx? (fun m => m == syndrome (2 ^ i) ^^^ syndrome (2 ^ j)) = none := by
  decide +kernel

/-- The data that a word with a flipped bit holds. -/
theorem data_flip (p : PW) {i : Nat} (hi : i < 40) :
    BitVec.ofNat 32 (encodeWord p ^^^ (1#40 <<< i)).toNat = p.data ^^^ BitVec.ofNat 32 (2 ^ i) := by
  rw [BitVec.toNat_xor, toNat_flip hi, BitVec.ofNat_xor, ofNat_toNat_encodeWord]

/-- The poison bit of a word with a flipped bit. -/
theorem poison_flip (p : PW) {i : Nat} (hi : i < 40) :
    (encodeWord p ^^^ (1#40 <<< i)).getLsbD 32 = (p.poison ^^ decide (i = 32)) := by
  rw [BitVec.getLsbD_xor, getLsbD_encodeWord_poison]
  congr 1
  rw [BitVec.getLsbD, toNat_flip hi, Nat.testBit_two_pow]

theorem ofNat_two_pow_high {i : Nat} (hi : 32 ≤ i) : BitVec.ofNat 32 (2 ^ i) = 0#32 := by
  apply BitVec.eq_of_toNat_eq
  rw [BitVec.toNat_ofNat]
  exact Nat.mod_eq_zero_of_dvd (Nat.pow_dvd_pow 2 hi)

/-- A flipped bit of the data, or the poison bit, is corrected. -/
theorem decodeWord_flip_column (p : PW) {i : Nat} (hi : i < 33) : decodeWord (encodeWord p ^^^ (1#40 <<< i)) = ⟨p, .data⟩ := by
  have h40 : i < 40 := by omega
  obtain ⟨hne, hone, hix⟩ := syndrome_column i hi
  rw [← syndrome_flip p h40] at hne hone hix
  rw [decodeWord_column hne hone hix, data_flip p h40, poison_flip p h40]
  by_cases h32 : i = 32
  · subst h32
    simp
  · rw [if_neg h32, BitVec.xor_assoc]
    simp [h32]

/-- A flipped check bit is corrected. -/
theorem decodeWord_flip_check (p : PW) {i : Nat} (hi : 33 ≤ i) (h40 : i < 40) :
    decodeWord (encodeWord p ^^^ (1#40 <<< i)) = ⟨p, .check⟩ := by
  obtain ⟨hne, hone⟩ := syndrome_check i hi h40
  rw [← syndrome_flip p h40] at hne hone
  rw [decodeWord_check hne hone, data_flip p h40, poison_flip p h40, ofNat_two_pow_high (by omega)]
  simp [show i ≠ 32 by omega]

/-- Two flipped bits are detected. -/
theorem decodeWord_flip_two (p : PW) {i j : Nat} (hij : i < j) (hj : j < 40) :
    (decodeWord (encodeWord p ^^^ (1#40 <<< i) ^^^ (1#40 <<< j))).cls = .ue := by
  obtain ⟨hne, hone, hix⟩ := syndrome_two j hj i hij
  rw [← syndrome_flip_two p (by omega) hj] at hne hone hix
  exact decodeWord_ue hne hone hix

/-- Settles O35: the syndrome of a stored word is 0, of one flip its column, and of two flips no column. -/
theorem errorCode : Obligations.ErrorCode := by
  refine fun p => ⟨decodeWord_encodeWord p, fun i hi => ?_, fun i j hij hj => decodeWord_flip_two p hij hj⟩
  by_cases hcol : i < 33
  · rw [decodeWord_flip_column p hcol]
    exact ⟨rfl, DecClass.noConfusion, DecClass.noConfusion⟩
  · rw [decodeWord_flip_check p (by omega) hi]
    exact ⟨rfl, DecClass.noConfusion, DecClass.noConfusion⟩

end Sys2Proof.Machine
end

section
/-! SUPPORT. Fills, accesses and pages of the plots, and refresh (R169 to R185, R609). -/
namespace Sys2Proof.Machine

open Sys2Proof

/-! ## Fills -/

/-- A sector of a plot that no access waits for is clear. -/
theorem clearSector_of_apart {s : State} {p : Nat} (h : ∀ a ∈ s.hbm.accs, a.plot ≠ p) (fuel : Nat) (f : Front) (l : HbmLoc)
    (write : Bool) : s.clearSector (fuel + 1) f p l write = (true, s) := by
  have hnone : ∀ ahead : List SectorAcc, ahead ⊆ s.hbm.accs →
      ahead.find? (fun a => a.plot == p && a.pc == l.pc && a.row == l.row && a.sector == l.byte / 32) = none := by
    intro ahead hsub
    refine List.find?_eq_none.mpr fun a ha => ?_
    simp [h a (hsub ha)]
  unfold State.clearSector
  cases hown : s.ownAcc f p l write with
  | none => simp only [hnone _ (List.Subset.refl _)]
  | some m => simp only [hnone _ (List.takeWhile_subset _)]

/-- The places of a range of a plot that no access waits for are all clear. -/
theorem fillClear_all {s : State} {p : Nat} (h : ∀ a ∈ s.hbm.accs, a.plot ≠ p) (locs : List HbmLoc) :
    locs.foldl (fun (acc : Bool × State) l =>
      let (b, t) := acc.2.fillClear p l
      (acc.1 && b, t)) (true, s) = (true, s) := by
  induction locs with
  | nil => rfl
  | cons l locs ih =>
    rw [List.foldl_cons]
    have hl : s.fillClear p l = (true, s) := clearSector_of_apart h _ _ _ _
    simp only [hl, Bool.and_self]
    exact ih

theorem mem_rangeFrom {lo n i : Nat} : i ∈ rangeFrom lo n ↔ lo ≤ i ∧ i < lo + n := by
  unfold rangeFrom
  rw [List.mem_map]
  constructor
  · rintro ⟨k, hk, rfl⟩
    have := List.mem_range.mp hk
    omega
  · rintro ⟨h1, h2⟩
    exact ⟨i - lo, List.mem_range.mpr (by omega), by omega⟩

/-- A fill that goes on, or ends with the last row. -/
theorem exec_plotFillDone {s : State} {p row at_ : Nat} (hfill : s.hbm.fills.find? (fun x => x.1 == p) = some (p, at_))
    (hon : s.stackOn (plotStack p) = true) (hrow : at_ ≤ row)
    (hfree : ∀ pc, pc < 64 → s.fillFree (plotStack p) pc (plotBank p) = true) :
    exec (.plotFillDone p row) s =
      .next (if row < 12288 then s.fillRows p at_ row else (s.fillRows p at_ 12288).endFill p) := by
  have hall : (List.range 64).all (fun pc => s.fillFree (plotStack p) pc (plotBank p)) = true :=
    List.all_eq_true.mpr fun pc hpc => hfree pc (List.mem_range.mp hpc)
  change execPlotFillDone p row s = _
  simp only [execPlotFillDone, hfill]
  rw [if_neg]
  rintro (h | h | h)
  · rw [hon] at h
    cases h
  · omega
  · rw [hall] at h
    cases h

/-- A range fill that goes on, or ends with its last sector. -/
theorem exec_rangeFillDone {s u : State} {k upto next hi last p : Nat}
    (hfill : s.hbm.rangeFill.find? (fun x => x.1 == k) = some (k, next)) (hp : p = 48 * k + s.fld .PL_FILL_PLOT k 0)
    (hlast : last = min (s.fld .PL_FILL_RANGE_LIMIT k 0 * 8 + 8) (plotSize / 32)) (hstate : s.plotState p ≠ 0)
    (hnext : next < last) (hhi : hi = min last (max next upto))
    (hfree : ∀ i, next ≤ i → i < hi → s.fillFree k (s.plotLoc p (i * 32)).pc (plotBank p) = true)
    (haccs : ∀ a ∈ s.hbm.accs, a.plot ≠ p) (hu : u = s.fillSectors k p next hi) :
    exec (.rangeFillDone k upto) s = .next (if hi = last then
      ((u.withHbm { u.hbm with rangeFill := u.hbm.rangeFill.filter (fun x => x.1 != k) }).setFld .PL_FILL_RESULT k 0 0).setFlag
        .PL_FILL_GO k 0 false
      else u.withHbm { u.hbm with rangeFill := u.hbm.rangeFill.map (fun x => if x.1 = k then (k, hi) else x) }) := by
  have hall : ((rangeFrom next (hi - next)).map (fun i => s.plotLoc p (i * 32))).all
      (fun l => s.fillFree k l.pc (plotBank p)) = true := by
    rw [List.all_map]
    refine List.all_eq_true.mpr fun i hi' => hfree i (mem_rangeFrom.mp hi').1 ?_
    have := (mem_rangeFrom.mp hi').2
    omega
  change execRangeFillDone k upto s = _
  simp only [execRangeFillDone, hfill, ← hp, ← hlast, if_neg hstate, if_neg (Nat.not_le.mpr hnext), ← hhi, hall,
    Bool.true_eq_false, if_false, fillClear_all haccs, ← hu]

/-! ## Pages -/

section Page
variable {s : State} {vi page : Nat} {w : PageWait} (hw : s.hbm.waits = [w]) (hvi : w.vi = vi) (hpage : w.page = page)
variable (hsent : w.sent = true)
include hw hvi hpage hsent

/-- The page that is answered is the one that waits. -/
theorem waits_answered : s.hbm.waits.filter (fun w => w.vi == vi && w.page == page && w.sent) = [w] ∧
    s.hbm.waits.filter (fun w => !(w.vi == vi && w.page == page && w.sent)) = [] := by
  simp [hw, hvi, hpage, hsent]

/-- A page that the host gives, which the walk does not find yet. -/
theorem exec_priResponse_pri {t : State} (hreset : s.viResetting vi = false)
    (ht : (s.withHbm { s.hbm with waits := [] }).translate vi w.addr w.write = (.pri, t)) :
    exec (.priResponse vi page true) s = .next ((t.pageFail w 1).sendPages vi) := by
  obtain ⟨hmine, hothers⟩ := waits_answered hw hvi hpage hsent
  change execPriResponse vi page true s = _
  simp only [execPriResponse, hmine, hothers, hreset, Bool.false_eq_true, if_false, State.each, List.foldl_cons,
    List.foldl_nil, if_true, ht]

/-- A page that the host gives: the access that waits is made. -/
theorem exec_priResponse_found {walk : Walk} {t : State} (hreset : s.viResetting vi = false)
    (ht : (s.withHbm { s.hbm with waits := [] }).translate vi w.addr w.write = (walk, t)) (hwalk : walk ≠ .pri) :
    exec (.priResponse vi page true) s = .next ((if w.len = 0 then t
      else t.virtArrive vi w.addr w.len w.write w.data w.pin w.req).sendPages vi) := by
  obtain ⟨hmine, hothers⟩ := waits_answered hw hvi hpage hsent
  change execPriResponse vi page true s = _
  cases walk with
  | pri => exact absurd rfl hwalk
  | _ =>
    simp only [execPriResponse, hmine, hothers, hreset, Bool.false_eq_true, if_false, State.each, List.foldl_cons,
      List.foldl_nil, if_true, ht]

/-- A page that the host does not give in time. -/
theorem exec_priTimeout (hdue : max 1 (s.fld .PL_PRI_CFG_TIMEOUT 0 0) * 1000 ≤ s.now - w.since) :
    exec (.priTimeout vi page) s = .next (((s.withHbm { s.hbm with waits := [] }).pageFail w 5).sendPages vi) := by
  change execPriTimeout vi page s = _
  unfold execPriTimeout
  simp [hw, hvi, hpage, hsent, hdue, State.each]

end Page

/-! ## Accesses -/

section HbmAccess
variable {s t u : State} {group : Nat} {ue : Bool} {a : SectorAcc}
variable (ha : s.hbm.accs.find? (fun a => a.group == group && !a.held && !a.own) = some a) (hready : s.accReady a = true)
variable (hurgent : s.urgentFirst a = false) (ht : t = s.strikeSector a.plot a.pc a.row a.sector ue)
include ha hready hurgent ht

/-- The sector access of a group that its bank takes. -/
theorem exec_hbmAccess : exec (.hbmAccess group ue) s =
    .next (if (s.accsAhead a).any (fun b => b.write) then t.serveForward a else t.serveAcc a) := by
  change execHbmAccess group ue s = _
  simp only [execHbmAccess, ha, ← ht]
  rw [if_neg]
  rintro (h | h)
  · rw [hready] at h
    cases h
  · rw [hurgent] at h
    cases h

end HbmAccess

/-- A write that is ready has no access of its sector before it. -/
theorem accsAhead_of_write {s : State} {a : SectorAcc} (hready : s.accReady a = true) (hw : a.write = true) :
    (s.accsAhead a).any (fun b => b.write) = false := by
  unfold State.accReady at hready
  rw [hw, if_pos rfl] at hready
  have hempty : s.accsAhead a = [] := List.isEmpty_iff.mp (Bool.and_eq_true_iff.mp hready).2
  rw [hempty]
  rfl

/-- A sector that is written. -/
theorem serveAcc_write {t : State} {a : SectorAcc} (hw : a.write = true) : t.serveAcc a =
    (((t.withHbm { t.hbm with accs := t.hbm.accs.erase a }).activate (plotStack a.plot) a.pc (plotBank a.plot) 1).writeSector
      a.plot a.pc a.row a.sector a.mask a.data).groupEnd a := by
  simp only [State.serveAcc, hw, if_true]

/-- A sector that is read. -/
theorem serveAcc_read {t v : State} {a : SectorAcc} {ws : List PW} (hw : a.write = false)
    (hv : ((t.withHbm { t.hbm with accs := t.hbm.accs.erase a }).activate (plotStack a.plot) a.pc (plotBank a.plot) 1).readSector
      a.plot a.pc a.row a.sector = (ws, v)) :
    t.serveAcc a = (v.withHbm { v.hbm with rets := v.hbm.rets ++ [⟨a.group, a.req, ws⟩] }).groupEnd a := by
  simp only [State.serveAcc, hw, Bool.false_eq_true, if_false, hv]

/-- Settles O37. That a whole-plot fill reports the row that its command names, and a range fill the sector, with all channels
together, is the model's choice (log entry 168); so is the order of the accesses of a group (log entry 169). -/
theorem plotCommands : Obligations.PlotCommands := by
  refine fun s => ⟨?fill, ?range, fun _ _ _ _ _ _ _ => rfl, fun _ _ _ _ _ _ _ => rfl, ?refused, ?answered, ?timeout,
    fun w reason => rfl, ?inv, ?refresh, ?management, ?access⟩
  case fill =>
    intro p row at_ hfill hon hrow hfree
    have hexec := exec_plotFillDone hfill hon hrow hfree
    exact ⟨fun hlt => hexec.trans (congrArg _ (if_pos hlt)), fun hge => hexec.trans (congrArg _ (if_neg (Nat.not_lt.mpr hge)))⟩
  case range =>
    intro k upto next hi last p u hfill hp hlast hstate hnext hhi hfree haccs hu
    have hexec := exec_rangeFillDone hfill hp hlast hstate hnext hhi hfree haccs hu
    exact ⟨fun hlt => hexec.trans (congrArg _ (if_neg hlt.ne)), fun heq => hexec.trans (congrArg _ (if_pos heq))⟩
  case refused =>
    intro vi page hreset
    change execPriResponse vi page false s = _
    simp only [execPriResponse, hreset, Bool.false_eq_true, if_false]
  case answered =>
    exact fun vi page w walk t hreset hw hvi hpage hsent ht =>
      ⟨fun hwalk => exec_priResponse_pri hw hvi hpage hsent hreset (hwalk ▸ ht),
        exec_priResponse_found hw hvi hpage hsent hreset ht⟩
  case timeout => exact fun vi page w hw hvi hpage hsent hdue => exec_priTimeout hw hvi hpage hsent hdue
  case inv =>
    intro x l hl
    change execTlbInvDone s = _
    simp only [execTlbInvDone, hl]
  case refresh => exact fun k pc bank hon => congrArg _ (if_pos hon)
  case management => exact fun k pc bank hon hacts => congrArg _ (if_pos ⟨hon, hacts⟩)
  case access =>
    intro group ue a t u ha hready hurgent ht hu
    have hexec := exec_hbmAccess ha hready hurgent ht
    refine ⟨fun hw => ?_, fun ws v hw hahead hv => ?_, fun _ hahead => ?_⟩
    · rw [hexec, if_neg (by simp [accsAhead_of_write hready hw]), serveAcc_write hw, hu]
    · have hgroup : a.group = group := by
        have hfound := List.find?_some ha
        simp only [Bool.and_eq_true, beq_iff_eq] at hfound
        exact hfound.1.1
      rw [hexec, if_neg (by simp [hahead]), serveAcc_read hw (hu ▸ hv), hgroup]
    · rw [hexec, if_pos hahead]

end Sys2Proof.Machine
end

section
/-! SUPPORT. The rows of R180: when a plot access is admitted, and with which reason it is refused. -/
namespace Sys2Proof.Machine

open Sys2Proof

/-- The tag that an access must carry to read a tagged plot (R173). -/
def State.plotTag (s : State) (p : Nat) : Nat × Nat :=
  (s.fld .PL_TAG_TSET (plotStack p) (plotBank p), s.fld .PL_TAG_GEN (plotStack p) (plotBank p))

/-- The rows of R180 in their order, for an access of a VI. -/
theorem plotCheck_eq (s : State) (p v : Nat) (write : Bool) (pin : Option (Nat × Nat)) :
    s.plotCheck p (some v) write pin =
      if s.plotState p = 0 then some 8
      else if s.plotState p = 1 then some 9
      else if v ≠ 0 ∧ s.plCtl .PL_CTL_OWNER_VI p ≠ v then some 0xA
      else if write = true then none
      else if s.flag .PL_CTL_TAGGED (plotStack p) (plotBank p) = true ∧ pin ≠ none ∧ pin ≠ some (s.plotTag p) then some 0xB
      else if s.flag .PL_STATUS_RETIRED (plotStack p) (plotBank p) = true then some 0xC
      else none := by
  unfold State.plotCheck State.plotTag
  cases pin with
  | none => simp
  | some tg =>
    obtain ⟨t, g⟩ := tg
    have htag : (s.fld .PL_TAG_TSET (plotStack p) (plotBank p) = t → ¬s.fld .PL_TAG_GEN (plotStack p) (plotBank p) = g) ↔
        (t = s.fld .PL_TAG_TSET (plotStack p) (plotBank p) → ¬g = s.fld .PL_TAG_GEN (plotStack p) (plotBank p)) := by
      simp only [eq_comm]
    simp only [Bool.and_eq_true, bne_iff_ne, ne_eq, Bool.or_eq_true, reduceCtorEq, not_false_eq_true, Option.some.injEq,
      Prod.mk.injEq, true_and, not_and, ← imp_iff_not_or.symm]
    simp [htag, or_iff_not_imp_left]

/-- A read that carries a tag other than that of the tagged plot. -/
def State.tagRefuses (s : State) (p : Nat) (pin : Option (Nat × Nat)) : Prop :=
  s.flag .PL_CTL_TAGGED (plotStack p) (plotBank p) = true ∧ pin ≠ none ∧ pin ≠ some (s.plotTag p)

theorem not_tagRefuses_iff {s : State} {p : Nat} {pin : Option (Nat × Nat)} : ¬s.tagRefuses p pin ↔
    s.flag .PL_CTL_TAGGED (plotStack p) (plotBank p) = false ∨ pin = none ∨ pin = some (s.plotTag p) := by
  unfold State.tagRefuses
  rw [not_and_or, not_and_or, Bool.not_eq_true, not_not, not_not]

section Rows
variable {s : State} {p v : Nat} {write : Bool} {pin : Option (Nat × Nat)}

/-- What a check of an access of the plot's own VI, or of VI0, comes to. -/
theorem plotCheck_of_owner (h0 : s.plotState p ≠ 0) (h1 : s.plotState p ≠ 1) (hvi : v = 0 ∨ s.plCtl .PL_CTL_OWNER_VI p = v) :
    (s.plotCheck p (some v) true pin = none) ∧
    (s.tagRefuses p pin → s.plotCheck p (some v) false pin = some 0xB) ∧
    (¬s.tagRefuses p pin → s.plotCheck p (some v) false pin =
      if s.flag .PL_STATUS_RETIRED (plotStack p) (plotBank p) = true then some 0xC else none) := by
  have hown : ¬(v ≠ 0 ∧ s.plCtl .PL_CTL_OWNER_VI p ≠ v) := by
    rwa [not_and_or, not_not, not_not]
  simp only [plotCheck_eq, if_neg h0, if_neg h1, if_neg hown, if_true, Bool.false_eq_true, if_false]
  exact ⟨trivial, fun h => if_pos h, fun h => if_neg h⟩

end Rows

/-- Settles O38: the rows are checked in their order, so each reason says that no earlier row names the access. -/
theorem plotChecks : Obligations.PlotChecks := by
  intro s p v write pin
  change (_ ↔ _ ∧ _ ∧ _ ∧ (_ ∨ _ ∧ (_ ∨ _ ∨ pin = some (s.plotTag p)))) ∧ _ ∧ _ ∧ _ ∧ _ ∧ (_ ↔ _ ∧ _ ∧ _ ∧ _ ∧ s.tagRefuses p pin)
  rw [← not_tagRefuses_iff]
  by_cases h0 : s.plotState p = 0
  · simp [plotCheck_eq, h0]
  by_cases h1 : s.plotState p = 1
  · simp [plotCheck_eq, h1]
  by_cases hown : v ≠ 0 ∧ s.plCtl .PL_CTL_OWNER_VI p ≠ v
  · simp [plotCheck_eq, h0, h1, hown]
  have hvi : v = 0 ∨ s.plCtl .PL_CTL_OWNER_VI p = v := by
    rwa [not_and_or, not_not, not_not] at hown
  obtain ⟨hwrite, htag, huntag⟩ := plotCheck_of_owner (pin := pin) h0 h1 hvi
  have hown' : ¬(¬v = 0 ∧ ¬s.plCtl .PL_CTL_OWNER_VI p = v) := hown
  cases write with
  | true => simp [hwrite, h0, h1, hvi, hown']
  | false =>
    by_cases ht : s.tagRefuses p pin
    · simp [htag ht, h0, h1, hvi, ht, hown']
    · cases hr : s.flag .PL_STATUS_RETIRED (plotStack p) (plotBank p)
      all_goals simp [huntag ht, h0, h1, hvi, ht, hr, hown']

end Sys2Proof.Machine
end

section
/-! SUPPORT. The row operations of the mules (R193 to R208). -/
namespace Sys2Proof.Machine

open Sys2Proof

/-- The commands whose own operation runs at the head of a channel, in PROC where no check refuses it, or once begun. -/
theorem muMayRun_of_head {s : State} {stack pc code : Nat} {m : MuleCmd} {q : List MuleCmd} (hq : s.muQueue stack pc = m :: q)
    (hdone : m.done = none) (hmode : (m.begun = false ∧ s.chMode stack pc = 2 ∧ s.muCheck stack pc m = 0) ∨
      (m.begun = true ∧ (s.chMode stack pc = 2 ∨ s.chMode stack pc = 3))) (hop : mdOp m.desc = code) :
    s.muMayRun code stack pc = true := by
  unfold State.muMayRun
  rcases hmode with ⟨hb, hm, hc⟩ | ⟨hb, hm⟩
  · simp [hq, hdone, hb, hm, hc, hop]
  · simp [hq, hdone, hb, hm, hop]

/-- A mule goes on with the operation at the head of its channel. -/
theorem muRun_head {s s0 t u : State} {stack pc k n most code : Nat} {st : Option Nat} {ue : Option (Nat × Bool × Nat)}
    {err : Option Nat} {m : MuleCmd} {q : List MuleCmd} {op : MuleOp} (hop : muOp code = some op)
    (hq : s.muQueue stack pc = m :: q) (hrun : s.muMayRun op.code stack pc = true)
    (hk : k = s.fld .MU_WIN_CTL_BANK (mdWindow m.desc) 0)
    (hue : ue = none ∧ s0 = s ∨ ∃ i b sec, ue = some (i, b, sec) ∧
      s0 = s.strikeSector (48 * stack + k) pc ((if b then mdRowB m.desc else mdRowA m.desc) + i) (sec % 32) true)
    (hrows : State.muRows op m.desc stack pc k err (min most (mdCount m.desc - m.rows)) m.rows s0 = (st, n, t))
    (hu : u = (t.setFld .MU_CH_ROWS stack pc (t.fld .MU_CH_ROWS stack pc + (n - m.rows))).setMuQueue stack pc
      ({ m with begun := m.begun || st.isSome || decide (m.rows < n), done := st, rows := n } :: q)) :
    s.muRun code most stack pc ue err = u.muWait stack pc (st.isNone && u.muSpent m.desc stack pc) := by
  simp only [State.muRun, hop, State.muExec, hq, hrun, if_true, ← hk]
  rcases hue with ⟨rfl, rfl⟩ | ⟨i, b, sec, rfl, rfl⟩
  all_goals simp only [hrows, ← hu]

/-- One row step that nothing stops. -/
theorem muRows_step {s : State} {op : MuleOp} {d : BitVec 256} {stack pc k i n : Nat} {err : Option Nat}
    (hspent : s.muSpent d stack pc = false) (hsrc : s.bankHeld stack pc k = false)
    (hdst : s.bankHeld stack (muDest d pc k i).1 (muDest d pc k i).2.1 = false)
    (hsuspect : s.muReadsSuspect op d stack pc k i = false) (hbad : s.muBad op d stack pc k i = none) (herr : err ≠ some i) :
    State.muRows op d stack pc k err (n + 1) i s = State.muRows op d stack pc k err n (i + 1) (s.muRowStep op d stack pc k i) := by
  have hgo : ¬(s.muSpent d stack pc = true ∨ s.bankHeld stack pc k = true ∨
      s.bankHeld stack (muDest d pc k i).1 (muDest d pc k i).2.1 = true) := by
    simp [hspent, hsrc, hdst]
  rw [State.muRows]
  simp only [if_neg hgo, hsuspect, Bool.false_eq_true, if_false, hbad, if_neg herr]

/-- Settles O39. That a row step is made wherever the allowance is not yet spent, so that it may overdraw it and leave a debt, is
the model's choice (log entries 80 and 170). -/
theorem muleRowOperations : Obligations.MuleRowOperations := by
  refine ⟨?run, fun s op d stack pc k i n err => muRows_step⟩
  intro s s0 t u stack pc k n most st ue err m q op hq hdone hmode hk hop hue hrows hu
  have hrun := muMayRun_of_head hq hdone hmode hop
  have hmu : ∀ code, muOp code = some op →
      s.muRun code most stack pc ue err = u.muWait stack pc (st.isNone && u.muSpent m.desc stack pc) :=
    fun code hcode => muRun_head hcode hq hrun hk hue hrows hu
  refine ⟨?copy, ?init, ?and, ?or, ?xor, ?andn, ?not, ?chain, ?bus⟩
  case bus =>
    intro hopc hmost hnext
    subst hopc hmost
    change execBuscopy stack pc ue err s = _
    unfold execBuscopy
    rw [if_pos hnext, hmu 9 rfl]
  all_goals
    intro hopc hmost
    subst hopc hmost
    exact congrArg Host.Outcome.next (hmu _ rfl)

end Sys2Proof.Machine
end

section
/-! SUPPORT. One row step of a mule: what it writes and what it leaves alone (R193). -/
namespace Sys2Proof.Machine

open Sys2Proof

/-- The keys of the sectors of one row. -/
def isSectorOfRow (stack pc bank row x : Nat) : Prop := ∃ sec, sec < 32 ∧ x = sectorKey stack pc bank row sec

/-- What a write of the sectors of one row leaves alone between `s` and `t`. -/
structure RowKeeps (stack pc bank row : Nat) (s t : State) : Prop where
  bgBlank : t.hbm.bgBlank = s.hbm.bgBlank
  sectors : ∀ x, ¬isSectorOfRow stack pc bank row x →
    sget (hbmDefault s.hbm.bgBlank) t.hbm.sectors x = sget (hbmDefault s.hbm.bgBlank) s.hbm.sectors x
  regs : t.regs = s.regs
  tm : t.tm = s.tm

namespace RowKeeps

variable {s t : State} {stack pc bank row : Nat}

theorem refl (s : State) : RowKeeps stack pc bank row s s := ⟨rfl, fun _ _ => rfl, rfl, rfl⟩

/-- A state whose plots hold the same sectors. -/
theorem of_eq {u : State} (h : RowKeeps stack pc bank row s t) (hbg : u.hbm.bgBlank = t.hbm.bgBlank)
    (hsec : u.hbm.sectors = t.hbm.sectors) (hregs : u.regs = t.regs) (htm : u.tm = t.tm) : RowKeeps stack pc bank row s u :=
  ⟨hbg.trans h.bgBlank, fun x hx => by rw [hsec, h.sectors x hx], hregs.trans h.regs, htm.trans h.tm⟩

theorem setSectorRaw (h : RowKeeps stack pc bank row s t) {sec : Nat} (hsec : sec < 32) (w : W288) :
    RowKeeps stack pc bank row s (t.setSectorRaw stack pc bank row sec w) := by
  refine ⟨?_, fun x hx => ?_, ?_, ?_⟩
  · rw [State.setSectorRaw, State.withHbm_hbm]
    exact h.bgBlank
  · have hne : x ≠ sectorKey stack pc bank row sec := fun heq => hx ⟨sec, hsec, heq⟩
    rw [State.setSectorRaw, State.withHbm_hbm]
    rw [← h.sectors x hx, h.bgBlank]
    exact sget_sset_ne _ _ _ _ _ hne
  · rw [State.setSectorRaw, State.withHbm_regs]
    exact h.regs
  · rw [State.setSectorRaw, State.withHbm_tm]
    exact h.tm

theorem muCharge (h : RowKeeps stack pc bank row s t) (stack' pc' bank' n : Nat) :
    RowKeeps stack pc bank row s (t.muCharge stack' pc' bank' n) := by
  refine h.of_eq ?_ ?_ ?_ ?_ <;> unfold State.muCharge State.activate
  · rw [State.withMule_hbm, State.withHbm_hbm]
  · rw [State.withMule_hbm, State.withHbm_hbm]
  · rw [State.withMule_regs, State.withHbm_regs]
  · rw [State.withMule_tm, State.withHbm_tm]

/-- A row written sector by sector. -/
theorem putRow (f : Nat → Nat) {n : Nat} (hn : n ≤ 32) :
    RowKeeps stack pc bank row s (s.putRow stack pc bank row n f) := by
  induction n with
  | zero => exact refl s
  | succ n ih =>
    have hsucc : s.putRow stack pc bank row (n + 1) f =
        (s.putRow stack pc bank row n f).setSectorRaw stack pc bank row n (BitVec.ofNat 288 (f n % 2 ^ 256)) := by
      simp only [State.putRow, State.each, List.range_succ, List.foldl_append, List.foldl_cons, List.foldl_nil]
    rw [hsucc]
    exact (ih (by omega)).setSectorRaw (by omega) _

end RowKeeps

/-- Another sector of the row reads as before. -/
theorem sectorRaw_setSectorRaw_sector_ne (s : State) (stack pc bank row : Nat) {sec sec' : Nat} (w : W288) (h : sec' ≠ sec) :
    (s.setSectorRaw stack pc bank row sec w).sectorRaw stack pc bank row sec' = s.sectorRaw stack pc bank row sec' := by
  unfold State.sectorRaw State.setSectorRaw
  rw [State.withHbm_hbm]
  refine sget_sset_ne _ _ _ _ _ ?_
  unfold sectorKey
  omega

/-- Every sector of a row that is written reads as written. -/
theorem sectorRaw_putRow (s : State) (stack pc bank row : Nat) (f : Nat → Nat) {n sec : Nat} (h : sec < n) :
    (s.putRow stack pc bank row n f).sectorRaw stack pc bank row sec = BitVec.ofNat 288 (f sec % 2 ^ 256) := by
  induction n with
  | zero => omega
  | succ n ih =>
    have hsucc : s.putRow stack pc bank row (n + 1) f =
        (s.putRow stack pc bank row n f).setSectorRaw stack pc bank row n (BitVec.ofNat 288 (f n % 2 ^ 256)) := by
      simp only [State.putRow, State.each, List.range_succ, List.foldl_append, List.foldl_cons, List.foldl_nil]
    rw [hsucc]
    by_cases hsec : sec = n
    · rw [hsec, sectorRaw_setSectorRaw_same]
    · rw [sectorRaw_setSectorRaw_sector_ne _ _ _ _ _ _ hsec, ih (by omega)]

/-- Charging a row's activations touches no sector. -/
theorem sectorRaw_muCharge (s : State) (stack' pc' bank' n stack pc bank row sec : Nat) :
    (s.muCharge stack' pc' bank' n).sectorRaw stack pc bank row sec = s.sectorRaw stack pc bank row sec := by
  unfold State.sectorRaw State.muCharge State.activate
  rw [State.withMule_hbm, State.withHbm_hbm]

/-- Operations but CHAIN and BUSCOPY write their own bank. -/
theorem muDest_own {d : BitVec 256} (pc k i : Nat) (h : mdOp d < 8) : muDest d pc k i = (pc, k, mdRowD d + i) := by
  unfold muDest
  split
  · omega
  · omega
  · rfl

/-- A row step of an operation on one bank. -/
theorem muRowStep_own (s : State) (op : MuleOp) {d : BitVec 256} (stack pc k i : Nat) (h : mdOp d < 8) :
    s.muRowStep op d stack pc k i = (s.putRow stack pc k (mdRowD d + i) 32 (fun sec =>
      op.f (if op.readsA then s.rawData stack pc k (mdRowA d + i) sec else 0)
        (if op.readsB then s.rawData stack pc k (mdRowB d + i) sec else 0)
        ((List.range 4).foldl (fun acc j => acc + mdPattern d * 2 ^ (64 * j)) 0))).muCharge stack pc k op.acts := by
  have hne : mdOp d ≠ 9 := by omega
  simp only [State.muRowStep, State.muWriteRow, muDest_own _ _ _ h, if_neg hne]

/-- Settles O40: the row step writes its row sector by sector, from the source rows as they were, and charges its activations. -/
theorem muleRowStep : Obligations.MuleRowStep := by
  intro s op d stack pc k i sec _ _ _ hsec hop _
  rw [muRowStep_own _ _ _ _ _ _ hop]
  have hkeeps : RowKeeps stack pc k (mdRowD d + i) s 
      (State.muCharge (s.putRow stack pc k (mdRowD d + i) 32 _) stack pc k op.acts) :=
    (RowKeeps.putRow (fun sec =>
      op.f (if op.readsA then s.rawData stack pc k (mdRowA d + i) sec else 0)
        (if op.readsB then s.rawData stack pc k (mdRowB d + i) sec else 0)
        ((List.range 4).foldl (fun acc j => acc + mdPattern d * 2 ^ (64 * j)) 0)) le_rfl).muCharge _ _ _ _
  refine ⟨?_, fun x hx => hkeeps.sectors x fun ⟨sec', hlt, heq⟩ => hx sec' hlt heq, hkeeps.regs, hkeeps.tm⟩
  rw [State.rawData, sectorRaw_muCharge, sectorRaw_putRow _ _ _ _ _ _ hsec, BitVec.toNat_ofNat]
  rw [Nat.mod_mod_of_dvd _ (Nat.pow_dvd_pow 2 (by decide)), Nat.mod_mod]

end Sys2Proof.Machine
end

section
/-! SUPPORT. Mule windows, the end of mule commands, drains and exits (R197 to R212). -/
namespace Sys2Proof.Machine

open Sys2Proof

section Done
variable {s : State} {stack pc : Nat} {m : MuleCmd} {q : List MuleCmd} (hq : s.muQueue stack pc = m :: q)
include hq

/-- A command that is done, and owes no activation, leaves its queue with its status. -/
theorem exec_muleCommandDone_done {t : State} {st : Nat} (hdone : m.done = some st)
    (howes : s.muOwes stack pc m.desc = false ∨ s.chMode stack pc ≠ 2)
    (ht : t = ((s.setMuQueue stack pc q).muFinish stack pc m st).muWait stack pc false) :
    exec (.muleCommandDone stack pc) s = .next
      (if t.chMode stack pc = 2 ∧ t.muLimit (t.fld .MU_CH_WINDOW stack pc) ≤ t.fld .MU_CH_ROWS stack pc then
        t.setFld .MU_CH_MODE stack pc 3 else t) := by
  have hnot : ¬(s.muOwes stack pc m.desc = true ∧ s.chMode stack pc = 2) := by
    rintro ⟨ho, hm⟩
    rcases howes with h | h
    · rw [h] at ho
      cases ho
    · exact h hm
  change execMuleCommandDone stack pc s = _
  simp only [execMuleCommandDone, hq, hdone, if_neg hnot, ← ht]

/-- A command that a check refuses before it begins leaves its queue with the check's status. -/
theorem exec_muleCommandDone_refused (hdone : m.done = none) (hbegun : m.begun = false) (hcheck : s.muCheck stack pc m ≠ 0)
    (hmode : s.chMode stack pc = 2 ∨ s.chMode stack pc = 0) :
    exec (.muleCommandDone stack pc) s = .next ((s.setMuQueue stack pc q).muFinish stack pc m (s.muCheck stack pc m)) := by
  change execMuleCommandDone stack pc s = _
  simp only [execMuleCommandDone, hq, hdone]
  exact congrArg _ (if_pos ⟨hbegun, hcheck, hmode⟩)

end Done

/-- Settles O41: window commands act or wait for the strokes of their edge; commands end, and channels drain and exit. -/
theorem muleChannels : Obligations.MuleChannels := by
  refine fun s => ⟨?opens, ?close, ?act, ?wait, ?done, ?refused, ?drain, ?exit⟩
  case opens => exact fun d vi svc hop hmay => congrArg _ (if_pos ⟨hop, hmay⟩)
  case close => exact fun d vi svc hop hmay => congrArg _ (if_pos ⟨hop, hmay⟩)
  case act => exact fun d hdue => if_neg (by simp [hdue])
  case wait => exact fun d hdue => if_pos hdue
  case done => exact fun stack pc m q st t hq hdone howes ht => exec_muleCommandDone_done hq hdone howes ht
  case refused =>
    exact fun stack pc m q hq hdone hbegun hcheck hmode => exec_muleCommandDone_refused hq hdone hbegun hcheck hmode
  case drain => exact fun stack pc hmode hidle => congrArg _ (if_pos ⟨hmode, by rw [hidle]; rfl⟩)
  case exit => exact fun stack pc hmode hidle => congrArg _ (if_pos ⟨hmode, hidle⟩)

end Sys2Proof.Machine
end

section
/-! SUPPORT. The lookup cache: lookups, fills, sweeps and operations (R220 to R248). -/
namespace Sys2Proof.Machine

open Sys2Proof

/-- What a slice takes next: one of its lookups that wait, an URGENT one if there is one. -/
theorem lcNext_spec {s : State} {slice : Nat} {x : LcLook} (h : s.lcNext slice = some x) :
    x ∈ s.lc.queue ∧ x.slice = slice ∧ (∀ y ∈ s.lc.queue, y.slice = slice → y.waiter.cls = 2 → x.waiter.cls = 2) := by
  have mem_of : ∀ {y : LcLook}, y ∈ s.lc.queue.filter (fun (x : LcLook) => x.slice == slice) →
      y ∈ s.lc.queue ∧ y.slice = slice := fun hy => by simpa using List.mem_filter.mp hy
  unfold State.lcNext at h
  dsimp only at h
  split at h
  next a hfind =>
    obtain rfl := Option.some.inj h
    obtain ⟨hmem, hslice⟩ := mem_of (List.mem_of_find?_eq_some hfind)
    exact ⟨hmem, hslice, fun _ _ _ _ => by simpa using List.find?_some hfind⟩
  next hnone =>
    obtain ⟨hmem, hslice⟩ := mem_of (List.mem_of_head? h)
    refine ⟨hmem, hslice, fun y hy hys hcls => ?_⟩
    have hmine : y ∈ s.lc.queue.filter (fun (x : LcLook) => x.slice == slice) :=
      List.mem_filter.mpr ⟨hy, by simp [hys]⟩
    exact absurd hcls (by simpa using List.find?_eq_none.mp hnone y hmine)

section Fill
variable {s : State} {slice la k : Nat} {ue : Bool} {r : LcReg} (hr : s.lcReg slice la = some r) (hpend : nbit r.pend k = true)
include hr hpend

/-- A sector that arrives for a fill enters its line. -/
theorem exec_lcFillArrive_go {o : Nat} {l : HbmLoc} {s1 s2 : State} {ws : List PW}
    (ho : o = la * 128 + k * 32 - plotDpa r.plot 0) (hl : l = s.plotLoc r.plot o)
    (hadmit : s.admitted ⟨.cache slice, 0, 0⟩ r.plot o 32 false = true ∨ s.plotCheck r.plot none false none = none)
    (hparts : s.admitParts ⟨.cache slice, 0, 0⟩ r.plot [l] false = (.go, s1))
    (hread : (s1.strikeSector r.plot l.pc l.row (l.byte / 32) ue).readSector r.plot l.pc l.row (l.byte / 32) = (ws, s2)) :
    exec (.lcFillArrive slice la k ue) s = .next ((s2.lcArrive r k ws).lcFresh { s1 with lc := s2.lc }) := by
  have hcheck : (if s.admitted ⟨.cache slice, 0, 0⟩ r.plot o 32 false = true then none
      else s.plotCheck r.plot none false none) = none := by
    rcases hadmit with h | h
    · exact if_pos h
    · rw [h, ite_self]
  change execLcFillArrive slice la k ue s = _
  simp only [execLcFillArrive, hr, hpend, Bool.true_eq_false, if_false, ← ho, ← hl, hcheck, hparts, hread]

/-- A fill that its plot refuses ends with the reason. -/
theorem exec_lcFillArrive_refused {x : Nat}
    (hadmit : s.admitted ⟨.cache slice, 0, 0⟩ r.plot (la * 128 + k * 32 - plotDpa r.plot 0) 32 false = false)
    (hcheck : s.plotCheck r.plot none false none = some x) :
    exec (.lcFillArrive slice la k ue) s = .next (s.lcFillRefused r x) := by
  change execLcFillArrive slice la k ue s = _
  simp only [execLcFillArrive, hr, hpend, Bool.true_eq_false, if_false, hadmit, Bool.false_eq_true, hcheck]

end Fill

section Op
variable {s : State} {n : Nat} {o : LcOp} (ho : s.lc.ops[n]? = some o)
variable (hidle : s.lc.regs.any (fun (r : LcReg) => r.marks.contains o.id) = false)
include ho hidle

/-- An operation of LC_OP that has no line left in flight ends. -/
theorem exec_lcOpDone_register (hwho : o.who = none) :
    exec (.lcOpDone n) s = .next (((s.withLc { s.lc with ops := s.lc.ops.eraseIdx n }).setFld .LC_OP_RESULT 0 0
      o.result).setFlag .LC_OP_GO 0 0 false) := by
  change execLcOpDone n s = _
  simp only [execLcOpDone, ho, hidle, Bool.false_eq_true, if_false, hwho]

/-- The last operation of a core's instruction answers it. -/
theorem exec_lcOpDone_core {c x rd : Nat} (hwho : o.who = some (c, x, rd))
    (hlast : (s.lc.ops.eraseIdx n).any (fun (q : LcOp) => q.who == o.who) = false) :
    exec (.lcOpDone n) s = .next ((s.withLc { s.lc with ops := s.lc.ops.eraseIdx n }).withSc { s.sc with
      answers := s.sc.answers.map (fun (a : SlAnswer) =>
        if a.core = c ∧ a.ctx = x ∧ a.rd = rd then { a with code := o.result, ready := true } else a) }) := by
  rw [hwho] at hlast
  change execLcOpDone n s = _
  simp only [execLcOpDone, ho, hidle, Bool.false_eq_true, if_false, hwho, State.withLc_lc, hlast, State.withLc_sc]

end Op

/-- Settles O42: what the cache does with lookups, fills, sweeps, operations and writes that invalidate. -/
theorem cacheCommands : Obligations.CacheCommands := by
  refine fun s => ⟨?lookup, ?retry, fun slice x => lcNext_spec, ?fill, ?refused, ?sweep, ?opRegister, ?opCore, ?inval⟩
  case lookup =>
    intro asks upset t ht
    subst ht
    rfl
  case retry =>
    intro slice r hr
    change execLcRetry slice s = _
    simp only [execLcRetry, hr]
  case fill =>
    exact fun slice la k ue r o l s1 ws s2 hr hpend ho hl hadmit hparts hread =>
      exec_lcFillArrive_go hr hpend ho hl hadmit hparts hread
  case refused => exact fun slice la k ue r x hr hpend hadmit hcheck => exec_lcFillArrive_refused hr hpend hadmit hcheck
  case sweep =>
    intro v hsweep hidle
    refine congrArg Host.Outcome.next (if_neg ?_)
    simp only [hsweep, hidle, Bool.true_eq_false, Bool.false_eq_true, or_self, not_false_eq_true]
  case opRegister => exact fun n o ho hidle hwho => exec_lcOpDone_register ho hidle hwho
  case opCore => exact fun n o c x rd ho hidle hwho hlast => exec_lcOpDone_core ho hidle hwho hlast
  case inval =>
    intro addr len data vi req p off hp hinv hlen hfull
    change execLcInvalWrite addr len data vi req s = _
    simp only [execLcInvalWrite, hp, hinv, hlen, hfull, Bool.true_eq_false, Bool.false_eq_true, or_self, if_false]

end Sys2Proof.Machine
end

section
/-! SUPPORT. The trough arbiters: windows, cycles of a point, abandoned transfers and parity errors (R249 to R267, R509). -/
namespace Sys2Proof.Machine

open Sys2Proof

/-! ## A cycle of a point (R254, R257) -/

section Cycle
variable {s : State} {arb point : Nat} {h : TrReq}

/-- A free point goes to the winner of those that wait. -/
theorem trCycle_free {w : TrReq} (hfree : (s.trAt arb point).find? (fun (r : TrReq) => r.holder) = none)
    (hw : s.trWinner (s.trAt arb point) = some w) :
    s.trCycle arb point = (s.setTrReqs (s.tr.reqs.replace w { w with holder := true })).trCharge arb w.req := by
  simp only [State.trCycle, hfree, State.trDecide, hw]

variable (hh : (s.trAt arb point).find? (fun (r : TrReq) => r.holder) = some h)
include hh

/-- The last beat ends the transfer, and the point is decided anew. -/
theorem trCycle_last (hdrop : h.drop = 0) (hlast : h.moved + 1 = h.beats) :
    s.trCycle arb point = (s.setTrReqs (s.tr.reqs.erase h)).trDecide arb point := by
  simp only [State.trCycle, hh, hdrop, hlast, ne_eq, not_true_eq_false, if_false, if_true]

/-- The holder moves a beat and keeps its grant. -/
theorem trCycle_keeps (hdrop : h.drop = 0) (hmore : h.moved + 1 ≠ h.beats)
    (hcalm : s.trCls h = 2 ∨ (s.trAt arb point).any (fun (r : TrReq) => !r.holder && s.trCls r == 2) = false) :
    s.trCycle arb point = (s.setTrReqs (s.tr.reqs.replace h { h with moved := h.moved + 1 })).trCharge arb h.req := by
  have hurgent : (s.trCls h != 2 && (s.trAt arb point).any (fun (r : TrReq) => !r.holder && s.trCls r == 2)) = false := by
    rcases hcalm with hc | hc
    · rw [hc]
      rfl
    · rw [hc, Bool.and_false]
  simp only [State.trCycle, hh, hdrop, ne_eq, not_true_eq_false, if_false, hmore, hurgent, Bool.false_eq_true]

section Urgent
variable (hcls : s.trCls h ≠ 2)
variable (hurgent : (s.trAt arb point).any (fun (r : TrReq) => !r.holder && s.trCls r == 2) = true)
include hcls hurgent

omit hh in
theorem urgent_waits :
    (s.trCls h != 2 && (s.trAt arb point).any (fun (r : TrReq) => !r.holder && s.trCls r == 2)) = true := by
  rw [hurgent, Bool.and_true, bne_iff_ne]
  exact hcls

/-- The holder moves a beat, and an URGENT request preempts it. -/
theorem trCycle_preempts (hdrop : h.drop = 0) (hmore : h.moved + 1 ≠ h.beats) :
    s.trCycle arb point = ((s.setTrReqs (s.tr.reqs.replace h { h with moved := h.moved + 1 })).trPreempt
      { h with moved := h.moved + 1 }).trDecide arb point := by
  simp only [State.trCycle, hh, hdrop, ne_eq, not_true_eq_false, if_false, hmore, urgent_waits hcls hurgent, if_true]

/-- A transfer that has been given up is dropped where an URGENT request waits. -/
theorem trCycle_drops (hdrop : h.drop ≠ 0) : s.trCycle arb point = (s.trDrop h).trDecide arb point := by
  simp only [State.trCycle, hh, ne_eq, hdrop, not_false_eq_true, if_true, urgent_waits hcls hurgent, State.trPreempt]

end Urgent
end Cycle

/-! ## The commands -/

section Point
variable {s : State} {arb point : Nat} (hon : s.arbOn arb = true) (hpoint : point < arbPoints arb)
include hon hpoint

/-- A point that exists of an arbiter that is on. -/
theorem point_works : ¬(s.arbOn arb = false ∨ arbPoints arb ≤ point) := by
  rw [hon]
  exact fun h => h.elim Bool.noConfusion (Nat.not_le.mpr hpoint)

/-- A cycle of a point: it moves, counts, and takes the requests presented. -/
theorem exec_arbiterGrant (reqs : List TrAsk) {after : State → State}
    (hafter : after = (fun u => (u.trCount arb point).each reqs
      (fun (req, cls, beats, owner, vi) v => v.trPresent arb point req cls beats owner vi))) :
    exec (.arbiterGrant arb point reqs) s =
      .next (after (if s.trTakes arb point && !s.trGated arb point then s.trCycle arb point else s)) := by
  subst hafter
  change execArbiterGrant arb point reqs s = _
  unfold execArbiterGrant
  rw [if_neg (point_works hon hpoint)]

/-- A transfer that has been given up is logged. -/
theorem exec_transferAbandon {h : TrReq} (empty : Bool)
    (hh : (s.trAt arb point).find? (fun (r : TrReq) => r.holder && r.drop != 0) = some h) :
    exec (.transferAbandon arb point empty) s =
      .next (if empty then ((s.setTrReqs (s.tr.reqs.erase h)).trAbandonLog h).wrapInc .TR_CNT_COUNT arb 2 1
        else (s.setTrReqs (s.tr.reqs.erase h)).trAbandonLog h) := by
  have hholder : h.holder = true := by
    have hfound := List.find?_some hh
    exact (Bool.and_eq_true_iff.mp hfound).1
  change execTransferAbandon arb point empty s = _
  unfold execTransferAbandon
  rw [if_neg (point_works hon hpoint)]
  simp only [hh, State.trDrop, hholder, if_true]

end Point

/-- Settles O43. That a holder which has been given up is dropped only where an URGENT request decides is the model's choice (log
entry 171), and so is that a parity error of the grant acts and counts as a preemption (log entry 82). -/
theorem troughCommands : Obligations.TroughCommands := by
  refine fun s arb point hon hpoint => ⟨?window, ?cycle, ?abandon, ?grantErr, ?troughErr⟩
  case window =>
    intro first t ht
    change execFeedWindow arb first s = _
    unfold execFeedWindow
    rw [if_neg (by simp [hon])]
    simp only [← ht]
  case cycle =>
    intro reqs after hafter
    have hexec := exec_arbiterGrant hon hpoint reqs hafter
    refine ⟨fun hidle => ?_, fun htakes hgated => ?_⟩
    · rw [hexec, if_neg]
      rcases hidle with h | h <;> simp [h]
    · rw [htakes, hgated, Bool.not_false, Bool.and_self, if_pos rfl] at hexec
      refine ⟨fun w hfree hw => ?_, fun h hh hdrop hlast => ?_, fun h hh hdrop hmore hcalm => ?_,
        fun h hh hdrop hmore hcls hurgent => ?_, fun h hh hdrop hcls hurgent => ?_⟩
      · rw [hexec, trCycle_free hfree hw]
      · rw [hexec, trCycle_last hh hdrop hlast]
      · rw [hexec, trCycle_keeps hh hdrop hmore hcalm]
      · rw [hexec, trCycle_preempts hh hcls hurgent hdrop hmore]
      · rw [hexec, trCycle_drops hh hcls hurgent hdrop]
  case abandon =>
    exact fun h hh => ⟨exec_transferAbandon hon hpoint false hh, exec_transferAbandon hon hpoint true hh⟩
  case grantErr =>
    intro h hh
    change execArbiterParityError arb true point s = _
    unfold execArbiterParityError
    rw [if_neg (by simp [hon])]
    simp only [if_true, hh]
  case troughErr =>
    intro ix
    change execArbiterParityError arb false ix s = _
    unfold execArbiterParityError
    rw [if_neg (by simp [hon]), if_neg Bool.false_ne_true]

end Sys2Proof.Machine
end

section
/-! SUPPORT. The winner of a free point of a trough arbiter (R251, R256). -/
namespace Sys2Proof.Machine

open Sys2Proof

/-- Whether `w` goes before `r` or ties with it: a fuller trough, or an equal one and no higher index (R251). -/
def State.trNoLater (s : State) (w r : TrReq) : Prop :=
  s.trough r.arb r.req < s.trough w.arb w.req ∨ (s.trough r.arb r.req = s.trough w.arb w.req ∧ w.req ≤ r.req)

theorem trNoLater_refl (s : State) (w : TrReq) : s.trNoLater w w := .inr ⟨rfl, le_rfl⟩

theorem trNoLater_trans {s : State} {a b c : TrReq} (hab : s.trNoLater a b) (hbc : s.trNoLater b c) : s.trNoLater a c := by
  unfold State.trNoLater at *
  omega

/-- The better of the best so far and the next request. -/
def State.trBetter (s : State) (b r : TrReq) : TrReq :=
  if s.trough b.arb b.req < s.trough r.arb r.req ∨
    (s.trough b.arb b.req = s.trough r.arb r.req ∧ r.req < b.req) then r else b

theorem trBetter_mem (s : State) (b r : TrReq) : s.trBetter b r = b ∨ s.trBetter b r = r := by
  unfold State.trBetter
  split
  · exact .inr rfl
  · exact .inl rfl

theorem trBetter_noLater (s : State) (b r : TrReq) : s.trNoLater (s.trBetter b r) b ∧ s.trNoLater (s.trBetter b r) r := by
  unfold State.trBetter State.trNoLater
  split <;> omega

/-- The fullest of one request and a list: one fold over the list. -/
theorem fullest_cons (s : State) (b : TrReq) (l : List TrReq) : s.fullest (b :: l) = some (l.foldl s.trBetter b) := by
  have hfold : ∀ (l : List TrReq) (b : TrReq), l.foldl (fun (best : Option TrReq) (r : TrReq) => match best with
      | none => some r
      | some b => if s.trough b.arb b.req < s.trough r.arb r.req ∨
          (s.trough b.arb b.req = s.trough r.arb r.req ∧ r.req < b.req) then some r else some b) (some b) =
      some (l.foldl s.trBetter b) := by
    intro l
    induction l with
    | nil => exact fun _ => rfl
    | cons r l ih =>
      intro b
      rw [List.foldl_cons, List.foldl_cons, ← ih]
      simp only [State.trBetter, apply_ite some]
  exact hfold l b

/-- The best of a fold is one of the requests, and none goes before it. -/
theorem foldl_trBetter (s : State) (l : List TrReq) (b : TrReq) :
    l.foldl s.trBetter b ∈ b :: l ∧ ∀ r ∈ b :: l, s.trNoLater (l.foldl s.trBetter b) r := by
  induction l generalizing b with
  | nil => simpa using trNoLater_refl s b
  | cons x l ih =>
    obtain ⟨hmem, hbest⟩ := ih (s.trBetter b x)
    obtain ⟨hb, hx⟩ := trBetter_noLater s b x
    rw [List.foldl_cons]
    constructor
    · rcases List.mem_cons.mp hmem with h | h
      · rw [h]
        rcases trBetter_mem s b x with h' | h' <;> simp [h']
      · exact List.mem_cons_of_mem _ (List.mem_cons_of_mem _ h)
    · intro r hr
      have hhead := hbest _ List.mem_cons_self
      rcases List.mem_cons.mp hr with rfl | hr
      · exact trNoLater_trans hhead hb
      · rcases List.mem_cons.mp hr with rfl | hr
        · exact trNoLater_trans hhead hx
        · exact hbest r (List.mem_cons_of_mem _ hr)

/-- The fullest of a list is one of its requests, and none goes before it. -/
theorem fullest_spec {s : State} {l : List TrReq} {w : TrReq} (h : s.fullest l = some w) :
    w ∈ l ∧ ∀ r ∈ l, s.trNoLater w r := by
  cases l with
  | nil => cases h
  | cons b l =>
    rw [fullest_cons] at h
    obtain rfl := Option.some.inj h
    exact foldl_trBetter s l b

theorem fullest_eq_none {s : State} {l : List TrReq} : s.fullest l = none ↔ l = [] := by
  cases l with
  | nil => exact ⟨fun _ => rfl, fun _ => rfl⟩
  | cons b l => simp [fullest_cons]

/-! ## Classes -/

/-- The requests of one class. -/
def State.ofClass (s : State) (l : List TrReq) (c : Nat) : List TrReq := l.filter (fun (r : TrReq) => s.trCls r == c)

theorem mem_ofClass {s : State} {l : List TrReq} {c : Nat} {r : TrReq} : r ∈ s.ofClass l c ↔ r ∈ l ∧ s.trCls r = c := by
  simp [State.ofClass]

theorem trCls_le (s : State) (r : TrReq) : s.trCls r ≤ 2 := by
  unfold State.trCls State.capClass
  omega

/-- A class whose requests are the highest that wait. -/
theorem winner_of_class {s : State} {l : List TrReq} {w : TrReq} {c : Nat} (hw : s.fullest (s.ofClass l c) = some w)
    (hhigher : ∀ r ∈ l, s.trCls r ≤ c) : w ∈ l ∧ (∀ r ∈ l, s.trCls r ≤ s.trCls w) ∧
      (∀ r ∈ l, s.trCls r = s.trCls w → s.trNoLater w r) := by
  obtain ⟨hmem, hbest⟩ := fullest_spec hw
  obtain ⟨hl, hcls⟩ := mem_ofClass.mp hmem
  refine ⟨hl, fun r hr => hcls ▸ hhigher r hr, fun r hr hsame => hbest r (mem_ofClass.mpr ⟨hr, hsame.trans hcls⟩)⟩

/-- Nothing of a class waits. -/
theorem trCls_ne_of_fullest_none {s : State} {l : List TrReq} {c : Nat} (h : s.fullest (s.ofClass l c) = none) :
    ∀ r ∈ l, s.trCls r ≠ c := by
  intro r hr hc
  have hmem := mem_ofClass.mpr ⟨hr, hc⟩
  rw [fullest_eq_none.mp h] at hmem
  cases hmem

/-- The winner by class, then by trough and index. -/
theorem trWinner_spec {s : State} {l : List TrReq} {w : TrReq} (h : s.trWinner l = some w) :
    w ∈ l ∧ (∀ r ∈ l, s.trCls r ≤ s.trCls w) ∧ (∀ r ∈ l, s.trCls r = s.trCls w → s.trNoLater w r) := by
  unfold State.trWinner at h
  split at h
  next r h2 =>
    obtain rfl := Option.some.inj h
    exact winner_of_class h2 fun r _ => trCls_le s r
  next h2 =>
    have hne2 := trCls_ne_of_fullest_none h2
    have hle1 : ∀ r ∈ l, s.trCls r ≤ 1 := fun r hr => by
      have := trCls_le s r
      have := hne2 r hr
      omega
    split at h
    next r h1 =>
      obtain rfl := Option.some.inj h
      exact winner_of_class h1 hle1
    next h1 =>
      have hne1 := trCls_ne_of_fullest_none h1
      exact winner_of_class h fun r hr => by
        have := hle1 r hr
        have := hne1 r hr
        omega

/-- Where something waits, something wins. -/
theorem trWinner_isSome {s : State} {l : List TrReq} (hl : l ≠ []) : ∃ x, s.trWinner l = some x := by
  unfold State.trWinner
  split
  · exact ⟨_, rfl⟩
  next h2 =>
    split
    · exact ⟨_, rfl⟩
    next h1 =>
      cases h0 : s.fullest (s.ofClass l 0) with
      | some x => exact ⟨x, h0⟩
      | none =>
        obtain ⟨r, hr⟩ := List.exists_mem_of_ne_nil l hl
        have := trCls_le s r
        have := trCls_ne_of_fullest_none h2 r hr
        have := trCls_ne_of_fullest_none h1 r hr
        have := trCls_ne_of_fullest_none h0 r hr
        omega

/-- A requester presents one request at a point. -/
theorem trAt_unique {s : State} {arb point : Nat} {r q : TrReq} (hr : r ∈ s.trAt arb point) (hq : q ∈ s.trAt arb point)
    (hreq : r.req = q.req) : r = q := by
  have hbest := (List.mem_filter.mp hr).2
  have hbest' := (List.mem_filter.mp hq).2
  rw [beq_iff_eq] at hbest hbest'
  rw [hreq, hbest'] at hbest
  exact (Option.some.inj hbest).symm

/-- Settles O44: the highest class that waits, then the fullest trough, then the lowest index. -/
theorem troughWinner : Obligations.TroughWinner :=
  fun _ _ _ => ⟨trWinner_spec, trWinner_isSome, fun _ _ _ hr _ hq hreq => trAt_unique hr hq hreq⟩

end Sys2Proof.Machine
end

section
/-! SUPPORT. What taking a trap saves and sets (R362, R365, R366). -/
namespace Sys2Proof.Machine

open Sys2Proof

/-- The trap registers of a context, as a trap leaves them. -/
def State.trapRegs (s : State) (core x cause info : Nat) (tag : W32) (epc : Nat) : State :=
  (((((((s.setFld .SC_CTX_TRAP_EPC core x epc).setFld .SC_CTX_TRAP_ELEVEL core x (s.fld .SC_CTX_STATUS_LEVEL core x)).setFld
    .SC_CTX_TRAP_CAUSE_ECAUSE core x cause).setFld .SC_CTX_TRAP_INFO_EINFO core x info).setFld .SC_CTX_TRAP_TAG_ETAG core x
    tag.toNat).setFld .SC_CTX_STATUS_LEVEL core x 1).setFlag .SC_CTX_STATUS_EXL core x true).setFld .SC_CTX_STATUS_CAUSE core x cause

section Regs
variable (s : State) (core x cause info : Nat) (tag : W32) (epc : Nat)

theorem epc_trapRegs (h : epc < 2 ^ 19) : (s.trapRegs core x cause info tag epc).fld .SC_CTX_TRAP_EPC core x = epc := by
  unfold State.trapRegs State.setFlag
  simp (disch := decide) only [fld_setFld_beside, fld_setFld_ne, fld_setFld_same]
  exact Nat.mod_eq_of_lt h

theorem elevel_trapRegs : (s.trapRegs core x cause info tag epc).fld .SC_CTX_TRAP_ELEVEL core x =
    s.fld .SC_CTX_STATUS_LEVEL core x := by
  unfold State.trapRegs State.setFlag
  simp (disch := decide) only [fld_setFld_ne, fld_setFld_same]
  exact Nat.mod_eq_of_lt (fld_lt s .SC_CTX_STATUS_LEVEL core x)

theorem cause_trapRegs (h : cause < 32) : (s.trapRegs core x cause info tag epc).fld .SC_CTX_TRAP_CAUSE_ECAUSE core x = cause := by
  unfold State.trapRegs State.setFlag
  simp (disch := decide) only [fld_setFld_ne, fld_setFld_same]
  exact Nat.mod_eq_of_lt (h.trans (by decide))

theorem info_trapRegs (h : info < 2 ^ 64) : (s.trapRegs core x cause info tag epc).fld .SC_CTX_TRAP_INFO_EINFO core x = info := by
  unfold State.trapRegs State.setFlag
  simp (disch := decide) only [fld_setFld_ne, fld_setFld_same]
  exact Nat.mod_eq_of_lt h

theorem tag_trapRegs : (s.trapRegs core x cause info tag epc).fld .SC_CTX_TRAP_TAG_ETAG core x = tag.toNat := by
  unfold State.trapRegs State.setFlag
  simp (disch := decide) only [fld_setFld_ne, fld_setFld_same]
  exact Nat.mod_eq_of_lt tag.isLt

theorem level_trapRegs : (s.trapRegs core x cause info tag epc).fld .SC_CTX_STATUS_LEVEL core x = 1 := by
  unfold State.trapRegs State.setFlag
  rw [fld_setFld_beside _ _ _ _ (by decide) (by decide) (by decide),
    fld_setFld_beside _ _ _ _ (by decide) (by decide) (by decide)]
  exact fld_setFld_of_lt (by decide) (by decide)

theorem exl_trapRegs : (s.trapRegs core x cause info tag epc).flag .SC_CTX_STATUS_EXL core x = true := by
  unfold State.trapRegs State.flag State.setFlag
  simp (disch := decide) only [fld_setFld_beside, fld_setFld_same]
  rfl

theorem units_trapRegs : (s.trapRegs core x cause info tag epc).tm = s.tm ∧ (s.trapRegs core x cause info tag epc).hbm = s.hbm ∧
    (s.trapRegs core x cause info tag epc).sc = s.sc ∧ (s.trapRegs core x cause info tag epc).applied = s.applied := by
  unfold State.trapRegs State.setFlag
  refine ⟨?_, ?_, ?_, ?_⟩
  · iterate 8 rw [State.setFld_tm]
  · iterate 8 rw [State.setFld_hbm]
  · iterate 8 rw [State.setFld_sc]
  · iterate 8 rw [State.setFld_applied]

end Regs

section Count
variable (s : State) (core e : Nat)

/-- Counting an event of a core leaves the fields of other registers. -/
theorem fld_scCount_ne {f : Fld} (i j : Nat) (h1 : RegId.SC_CNT.ctorIdx ≠ f.id.ctorIdx)
    (h2 : RegId.SC_CNT_WRAPS.ctorIdx ≠ f.id.ctorIdx) : (s.scCount core e).fld f i j = s.fld f i j := by
  unfold State.scCount State.cntInc State.satInc
  dsimp only
  split
  · rw [fld_setFld_ne _ _ _ _ _ _ h1]
  · rw [fld_setFlag_of_ne _ h2, fld_setFld_ne _ _ _ _ _ _ h2, fld_setFld_ne _ _ _ _ _ _ h1]

theorem units_scCount : (s.scCount core e).tm = s.tm ∧ (s.scCount core e).hbm = s.hbm ∧
    (s.scCount core e).applied = s.applied := by
  unfold State.scCount State.cntInc State.satInc
  dsimp only
  split
  · exact ⟨State.setFld_tm .., State.setFld_hbm .., State.setFld_applied ..⟩
  · refine ⟨?_, ?_, ?_⟩
    · rw [State.setFlag_tm, State.setFld_tm, State.setFld_tm]
    · rw [State.setFlag_hbm, State.setFld_hbm, State.setFld_hbm]
    · rw [State.setFlag_applied, State.setFld_applied, State.setFld_applied]

end Count

/-- The vector that a trap of a cause goes to. -/
def trapVector (vbar cause : Nat) : Nat := vbar * 128 + (if 0x10 ≤ cause then 0x40 else 0)

/-- A trap with EXL clear: the trap registers, the vector, and the count. -/
theorem slTrap_takes {s : State} {core x : Nat} (cause info : Nat) (tag : W32) (epc : Nat)
    (h : s.flag .SC_CTX_STATUS_EXL core x = false) : s.slTrap core x cause info tag epc =
      (((s.applyShadow .SC_CORE_CFG core 0).trapRegs core x cause info tag epc).setSlPc core x
        (trapVector (((s.applyShadow .SC_CORE_CFG core 0).trapRegs core x cause info tag epc).inForce .SC_CORE_CFG_VBAR core 0)
          cause)).scCount core (if 0x10 ≤ cause then 5 else 4) := by
  unfold State.slTrap
  rw [if_neg (by simp [h])]
  rfl

theorem inForce_of_applied {s t : State} (h : t.applied = s.applied) (f : Fld) (i j : Nat) : t.inForce f i j = s.inForce f i j := by
  unfold State.inForce
  rw [h]

theorem slG_of_sc {s t : State} (h : t.sc.g = s.sc.g) (core x r : Nat) : t.slG core x r = s.slG core x r := by
  unfold State.slG
  rw [h]

section Trap
variable {s : State} {core x cause info epc : Nat} {tag : W32} (hexl : s.flag .SC_CTX_STATUS_EXL core x = false)
include hexl

/-- A field of the trap registers after a trap. -/
theorem fld_slTrap {f : Fld} (h1 : RegId.SC_CNT.ctorIdx ≠ f.id.ctorIdx) (h2 : RegId.SC_CNT_WRAPS.ctorIdx ≠ f.id.ctorIdx) :
    (s.slTrap core x cause info tag epc).fld f core x =
      ((s.applyShadow .SC_CORE_CFG core 0).trapRegs core x cause info tag epc).fld f core x := by
  rw [slTrap_takes cause info tag epc hexl, fld_scCount_ne _ _ _ _ _ h1 h2, State.setSlPc, fld_withSc]

theorem applied_slTrap : (s.slTrap core x cause info tag epc).applied =
    ((s.applyShadow .SC_CORE_CFG core 0).trapRegs core x cause info tag epc).applied := by
  rw [slTrap_takes cause info tag epc hexl, (units_scCount _ _ _).2.2, State.setSlPc, State.withSc_applied]

theorem slPc_slTrap : (s.slTrap core x cause info tag epc).slPc core x =
    trapVector ((s.slTrap core x cause info tag epc).inForce .SC_CORE_CFG_VBAR core 0) cause % 2 ^ 64 := by
  rw [inForce_of_applied (applied_slTrap hexl), slTrap_takes cause info tag epc hexl, State.slPc, scCount_sc]
  exact slPc_setSlPc_same _ _ _ _

/-- A trap touches no memory and no g register. -/
theorem units_slTrap : (s.slTrap core x cause info tag epc).tm = s.tm ∧ (s.slTrap core x cause info tag epc).hbm = s.hbm ∧
    (s.slTrap core x cause info tag epc).sc.g = s.sc.g := by
  obtain ⟨htm, hhbm, hsc⟩ := units_applyShadow s .SC_CORE_CFG core 0
  obtain ⟨htm', hhbm', hsc', -⟩ := units_trapRegs (s.applyShadow .SC_CORE_CFG core 0) core x cause info tag epc
  rw [slTrap_takes cause info tag epc hexl]
  refine ⟨?_, ?_, ?_⟩
  · rw [(units_scCount _ _ _).1, State.setSlPc, State.withSc_tm, htm', htm]
  · rw [(units_scCount _ _ _).2.1, State.setSlPc, State.withSc_hbm, hhbm', hhbm]
  · rw [scCount_sc, State.setSlPc, State.withSc_sc, hsc', hsc]

end Trap

/-- Settles O45: a trap saves and sets its registers and goes to the vector; with EXL set it is NESTED. -/
theorem trapEntry : Obligations.TrapEntry := by
  intro s core x cause info epc tag _ _ hcause hinfo hepc
  refine ⟨fun hexl => ?_, fun hexl => if_pos hexl⟩
  obtain ⟨htm, hhbm, hg⟩ := units_slTrap (core := core) (x := x) (cause := cause) (info := info) (epc := epc) (tag := tag) hexl
  refine ⟨?_, ?_, ?_, ?_, ?_, ?_, ?_, slPc_slTrap hexl, htm, hhbm, slG_of_sc hg core x⟩
  · rw [fld_slTrap hexl (by decide) (by decide), epc_trapRegs _ _ _ _ _ _ _ hepc]
  · rw [fld_slTrap hexl (by decide) (by decide), elevel_trapRegs, fld_applyShadow]
  · rw [fld_slTrap hexl (by decide) (by decide), cause_trapRegs _ _ _ _ _ _ _ hcause]
  · rw [fld_slTrap hexl (by decide) (by decide), info_trapRegs _ _ _ _ _ _ _ hinfo]
  · rw [fld_slTrap hexl (by decide) (by decide), tag_trapRegs]
  · rw [fld_slTrap hexl (by decide) (by decide), level_trapRegs]
  · rw [State.flag, fld_slTrap hexl (by decide) (by decide)]
    exact exl_trapRegs ..

end Sys2Proof.Machine
end

section
/-! SUPPORT. Interrupts, alarms, time slices, wakes, answers and completed accesses of a core (R336 to R379). -/
namespace Sys2Proof.Machine

open Sys2Proof

/-! ## Interrupts -/

/-- An interrupt is delivered to a context that can be interrupted and has one pending (R363, R371). -/
theorem interruptDeliver_of_source {s : State} {core x k : Nat}
    (hst : s.ctxState core x = 1 ∨ s.ctxState core x = 2 ∨ s.ctxState core x = 3)
    (hexl : s.flag .SC_CTX_STATUS_EXL core x = false) (howes : s.owesAnswer core x = false)
    (hacc : s.inAccess core x = false) (hk : s.irqSource core x = some k) :
    (s.waitHeld core x = none → exec (.interruptDeliver core x) s = .next (if s.ctxState core x = 3 then
      ((s.dropWait core x).slTrap core x (0x10 + k) 0 0 (s.slPc core x)).makeReady core x
      else (s.dropWait core x).slTrap core x (0x10 + k) 0 0 (s.slPc core x))) ∧
    (∀ w, s.waitHeld core x = some w → exec (.interruptDeliver core x) s = .next
      (if s.ctxState core x = 3 then s.wake core x w else s)) := by
  constructor
  · intro hw
    change execInterruptDeliver core x s = _
    simp only [execInterruptDeliver, hst, hexl, howes, hacc, hk, hw, and_self, if_true]
  · intro w hw
    change execInterruptDeliver core x s = _
    simp only [execInterruptDeliver, hst, hexl, howes, hacc, hk, hw, and_self, if_true]

/-! ## Accesses beyond the core -/

/-- The wait of a context for an access beyond its core. -/
def accessWait (core x : Nat) (w : SlWait) : Bool :=
  w.core == core && w.ctx == x && (match w.kind with
    | .access _ => true
    | _ => false)

/-- What the end of an access does, by its outcome, once the wait is taken away (`u`). -/
def State.accessEnds (s t u : State) (w : SlWait) (a : SlAccess) (core x : Nat) : SlAccOut → State
  | .waits => t
  | .ok ws => if w.discard then u else
    ((if a.store then u else u.slLoaded ⟨core, x, s.slPc core x, a.rd * 2 ^ 21, 0⟩ a.wide a.signed a.addr a.size ws).slNext
      ⟨core, x, s.slPc core x, a.rd * 2 ^ 21, 0⟩).slResume core x
  | .trap c tag => if w.discard then u else if s.owesAnswer core x then s else
    if (u.slTrap core x c a.addr tag (s.slPc core x)).ctxState core x = 4 then u.slTrap core x c a.addr tag (s.slPc core x)
    else (u.slTrap core x c a.addr tag (s.slPc core x)).slResume core x

/-- The access that completes is that of the context's wait (R377, R378). -/
theorem exec_remoteAccessComplete {s t : State} {core x : Nat} {data : List PW} {w : SlWait} {a : SlAccess} {out : SlAccOut}
    (hw : s.sc.waits.find? (accessWait core x) = some w) (ha : w.kind = .access a) (hout : s.slAccess core x a data = (out, t)) :
    exec (.remoteAccessComplete core x data) s =
      .next (s.accessEnds t (t.withSc { t.sc with waits := t.sc.waits.erase w }) w a core x out) := by
  change execRemoteAccessComplete core x data s = _
  unfold execRemoteAccessComplete
  split
  next hnone => exact absurd (hw.symm.trans hnone) (by simp)
  next v hv =>
    obtain rfl : w = v := Option.some.inj (hw.symm.trans hv)
    simp only [ha, hout]
    cases out <;> cases hd : w.discard <;> simp [State.accessEnds, hd]

/-- Settles O46: interrupts and alarms are raised and delivered, slices end, waits and answers complete, and software controls
the contexts. -/
theorem coreEvents : Obligations.CoreEvents := by
  intro s core x
  obtain ⟨⟨-, -, -, -, -, -, -, hstart, hstop, hreset, hcore, hkick, hcfg, hcnt⟩, -⟩ := streamCoreQueueHerdWrites
  refine ⟨?interrupt, ?waiting, fun hon hset hdue => congrArg _ (if_pos ⟨hon, hset, hdue⟩), ?slice, fun hon => congrArg _ (if_pos hon),
    ?met, ?answer, ?access, ?start, ?stop, fun w off hacc h0 h1 => hreset core x s w off hacc ⟨h0, h1⟩, ?core, ?kick,
    fun w off hacc => hcfg core s w off hacc trivial, fun w off hacc => hcnt core s w off hacc trivial⟩
  case interrupt =>
    intro k hst hexl howes hacc hk hw
    have hne : s.ctxState core x ≠ 3 := by omega
    rw [(interruptDeliver_of_source (hst.imp_right .inl) hexl howes hacc hk).1 hw, if_neg hne]
  case waiting =>
    intro k hst hexl howes hacc hk
    obtain ⟨hnone, hsome⟩ := interruptDeliver_of_source (.inr (.inr hst)) hexl howes hacc hk
    exact ⟨fun hw => (hnone hw).trans (congrArg _ (if_pos hst)), fun w hw => (hsome w hw).trans (congrArg _ (if_pos hst))⟩
  case slice =>
    intro hrun hready
    change execTimeSliceEnd core s = _
    simp only [execTimeSliceEnd, hrun, hready, if_true]
  case met =>
    intro w hw hst hmet
    change execWaitWake core x s = _
    simp only [execWaitWake, hw, hst, hmet, and_self, if_true]
    rfl
  case answer =>
    intro rd a t ht ha
    change execUnitAnswer core x rd s = _
    simp only [execUnitAnswer, ← ht, ha]
  case access =>
    intro w a data out t i hw ha hout hi
    have hend := exec_remoteAccessComplete hw ha hout
    refine ⟨fun ho => ?_, fun ws ho => ?_⟩
    · subst ho
      exact hend
    · subst ho hi
      refine ⟨fun hd => hend.trans (congrArg _ (if_pos hd)), fun hd hstore => ?_, fun hd hstore => ?_⟩
      · rw [hend, State.accessEnds, if_neg (by simp [hd]), if_pos hstore]
      · rw [hend, State.accessEnds, if_neg (by simp [hd]), if_neg (by simp [hstore])]
  case start =>
    intro w off t hacc h1 h2 ht
    have hexec : exec (.contextStart w core x) s = .next (t.ctxStart core x) := ht ▸ hstart core x s w off hacc ⟨h1, h2⟩
    exact ⟨fun hst => by rw [hexec, State.ctxStart, if_neg (by omega), if_pos hst], fun hst => by
      rw [hexec, State.ctxStart, if_pos hst]⟩
  case stop =>
    intro w off t hacc h0 h2 ht hst
    have hexec : exec (.contextStop w core x) s = .next (t.ctxStop core x) := ht ▸ hstop core x s w off hacc ⟨h0, h2⟩
    exact ⟨fun ha => by rw [hexec, State.ctxStop, if_pos hst, if_neg (by simp [ha])], fun ha => by
      rw [hexec, State.ctxStop, if_pos hst, if_pos ha]⟩
  case core =>
    intro w off t hacc ht
    rw [hcore core s w off hacc trivial, ← ht]
    rfl
  case kick =>
    intro w off t hacc ht
    rw [hkick core x s w off hacc trivial, ← ht]
    rfl

end Sys2Proof.Machine
end

section
/-! SUPPORT. Streams: their lists, entries and blocks (R270 to R291). -/
namespace Sys2Proof.Machine

open Sys2Proof

/-! ## Entries and blocks -/

/-- An entry of 32 bytes that was read is held with its fault, follows its LINK, or is taken (R271, R276). -/
theorem entryFetch_of_read {s t : State} {e x : Nat} {ext src : List PW} {early : Bool} {ws : List PW} {b : StBlk}
    (hex : stExists e x = true) (hmay : s.stMayFetch e x (s.stCtx e x) = true) (halign : (s.stCtx e x).next.addr % 32 = 0)
    (hspace : badSpace e (s.stVi e x) (s.stCtx e x).next.space = false)
    (hrange : (s.stCtx e x).next.space = 1 → (s.stCtx e x).next.addr < 2 ^ 24)
    (hread : s.stEntryRead e x (s.stCtx e x).next 0 ext = (.done ws, t)) (hb : b = stDecode (natOfBytes (wordsBytes ws)))
    (hkind : b.kind ≠ 1) :
    (∀ f, stEntryFault e (s.stVi e x) (s.stCtx e x).next ws b (s.stCtx e x).resumeOff = some f →
      exec (.entryFetch e x ext early src) s = .next (t.stAppend e x (s.stCtx e x).next 1 b (some f))) ∧
    (stEntryFault e (s.stVi e x) (s.stCtx e x).next ws b (s.stCtx e x).resumeOff = none →
      exec (.entryFetch e x ext early src) s = .next (if b.kind = 2 then
        t.setStCtx e x { t.stCtx e x with next := b.src, nextIx := (s.stCtx e x).nextIx + 1, fetched := [] }
      else t.stTake e x (s.stCtx e x).next 1 b none early src)) := by
  have hgood : ¬((s.stCtx e x).next.addr % 32 ≠ 0 ∨ badSpace e (s.stVi e x) (s.stCtx e x).next.space = true ∨
      ((s.stCtx e x).next.space = 1 ∧ 2 ^ 24 ≤ (s.stCtx e x).next.addr)) := by
    rintro (h | h | ⟨h, hle⟩)
    · exact h halign
    · exact Bool.false_ne_true (hspace.symm.trans h)
    · exact absurd (hrange h) (not_lt.mpr hle)
  refine ⟨fun f hf => ?_, fun hf => ?_⟩
  all_goals
    change execEntryFetch e x ext early src s = _
    unfold execEntryFetch
    simp only [hex, hmay, Bool.and_self, if_true]
    rw [if_neg hgood]
    simp only [hread, ← hb, hkind, false_and, if_false, hf]

/-- A stream that serves its first block. -/
theorem blockRetire_of_head {s t : State} {e x : Nat} {src : List PW} {upset : List Nat} {b : StEntry} {rest : List StEntry}
    (hon : s.stOn e = true) (hst : s.stState e x = 1 ∨ s.stState e x = 3) (ht : t = s.stServe e)
    (hhead : (t.stCtx e x).entries = b :: rest) (hkind : b.blk.kind ≤ 1) (hfault : b.fault = none) :
    (b.blk.dst.space ≠ 3 → (b.blk.src.space ≠ 3 ∨ (b.stage = 1 ∧ t.stWaiting e x b.seq = false)) →
      exec (.blockRetire e x src upset) s = .next (t.stBlock e x b src upset)) ∧
    (b.blk.dst.space = 3 → t.ownHerd b.blk.dst = false → b.stage = 2 → t.stWaiting e x b.seq = false →
      exec (.blockRetire e x src upset) s =
        .next (((t.stCount e 1 (b.blk.total - b.start)).stRetire e x b []).stIssue e x)) := by
  refine ⟨fun hdst hsrc => ?_, fun hdst hown hstage hwait => ?_⟩
  · have hready : ¬(b.blk.src.space = 3 ∧ (b.stage ≠ 1 ∨ t.stWaiting e x b.seq = true)) := by
      rintro ⟨h3, h⟩
      obtain h' | ⟨h1, hw⟩ := hsrc
      · exact h' h3
      · exact h.elim (fun h => h h1) fun h => Bool.false_ne_true (hw.symm.trans h)
    change execBlockRetire e x src upset s = _
    simp only [execBlockRetire, ← ht, hon, hst, hhead, not_lt.mpr hkind, hfault, Option.isSome_none, Bool.false_eq_true, or_self,
      hdst, hready, and_self, if_true, if_false]
  · change execBlockRetire e x src upset s = _
    simp only [execBlockRetire, ← ht, hon, hst, hhead, not_lt.mpr hkind, hfault, Option.isSome_none, Bool.false_eq_true, or_self,
      hdst, hown, hstage, hwait, false_and, and_self, if_true, if_false]

/-- The list of a context ends at its END entry (R285). -/
theorem listEnd_of_end {s t : State} {e x : Nat} {b : StEntry} {rest : List StEntry} (hon : s.stOn e = true)
    (hst : s.stState e x = 1) (hhead : (s.stCtx e x).entries = b :: rest) (hkind : b.blk.kind = 3) (hfault : b.fault = none)
    (ht : t = if b.blk.sigEn then s.stSignal b.blk.sigCluster b.blk.sigCnt else s) :
    ((s.stCtx e x).lists.drop 1 = [] →
      exec (.listEnd e x) s = .next (((t.setFld .ST_CTX_DONE_FT e x t.now).stClear e x 0).setStState e x 0)) ∧
    (∀ a sp more, (s.stCtx e x).lists.drop 1 = (a, sp) :: more → (s.stCtx e x).reading ≠ 1 →
      exec (.listEnd e x) s = .next (((t.setFld .ST_CTX_DONE_FT e x t.now).setStCtx e x { s.stCtx e x with
        lists := (a, sp) :: more, entries := [], next := ⟨sp, 0, a⟩, nextIx := 0, reading := 0, ended := false }).stIssue e x)) := by
  refine ⟨fun hl => ?_, fun a sp more hl hr => ?_⟩
  · change execListEnd e x s = _
    simp only [execListEnd, hon, hst, hhead, hkind, hfault, Option.isSome_none, Bool.false_eq_true, ne_eq, not_true_eq_false,
      or_self, and_self, if_true, if_false, ← ht, hl]
  · change execListEnd e x s = _
    simp only [execListEnd, hon, hst, hhead, hkind, hfault, Option.isSome_none, Bool.false_eq_true, ne_eq, not_true_eq_false,
      or_self, and_self, if_true, if_false, ← ht, hl, hr]

/-! ## Lists -/

/-- A list issued to a context that is IDLE, to one that is not, and to one whose four lists are taken (R270). -/
theorem stIssueList_of_may {s : State} {e x vi : Nat} (addr space : Nat) (h : s.stMay e x vi = true) :
    ((s.stCtx e x).lists.length < 4 → s.stState e x = 0 → s.stIssueList e x vi addr space =
      (0, (s.setStCtx e x { s.stCtx e x with
        lists := [(addr, space)], entries := [], next := ⟨space, 0, addr⟩, nextIx := 0, reading := 0, ended := false,
        resumeOff := 0, fetched := [], fetchFault := none }).setStState e x 1)) ∧
    ((s.stCtx e x).lists.length < 4 → s.stState e x ≠ 0 → s.stIssueList e x vi addr space =
      (0, s.setStCtx e x { s.stCtx e x with lists := (s.stCtx e x).lists ++ [(addr, space)] })) ∧
    (4 ≤ (s.stCtx e x).lists.length → s.stIssueList e x vi addr space = (1, s)) := by
  refine ⟨fun hl hst => ?_, fun hl hst => ?_, fun hl => ?_⟩
  · rw [State.stIssueList, if_neg (by simp [h]), if_neg (not_le.mpr hl), if_pos hst]
  · rw [State.stIssueList, if_neg (by simp [h]), if_neg (not_le.mpr hl), if_neg hst]
  · rw [State.stIssueList, if_neg (by simp [h]), if_pos hl]

/-- CANCEL of a context that runs or is halted, and of one that is IDLE (R288). -/
theorem stCancel_of_may {s : State} {e x vi : Nat} (h : s.stMay e x vi = true) :
    (s.stState e x = 1 ∨ s.stState e x = 2 → s.stCancel e x vi = (0, ((s.stQuiet e x 3).setStCtx e x
      { (s.stQuiet e x 3).stCtx e x with cancelled := ((s.stQuiet e x 3).stCtx e x).lists.length }).setStState e x 3)) ∧
    (s.stState e x = 0 → s.stCancel e x vi = (0, (s.stCancelDone e x).stCount e 5 1)) := by
  refine ⟨?_, fun hst => ?_⟩
  · rintro (hst | hst)
    all_goals
      rw [State.stCancel, if_neg (by simp [h])]
      simp only [hst]
  · rw [State.stCancel, if_neg (by simp [h])]
    simp only [hst]

/-- RESUME of a halted context, and of another (R291). -/
theorem stResume_of_may {s : State} {e x vi : Nat} (h : s.stMay e x vi = true) :
    (s.stState e x = 2 → s.stResume e x vi = (0, (s.setStState e x 1).stCount e 4 1)) ∧
    (s.stState e x ≠ 2 → s.stResume e x vi = (3, s)) := by
  refine ⟨fun hst => ?_, fun hst => ?_⟩
  · rw [State.stResume, if_neg (by simp [h]), if_neg (not_not.mpr hst)]
  · rw [State.stResume, if_neg (by simp [h]), if_pos hst]

/-- Settles O47: entries are read, blocks retire, lists end, contexts halt, and software issues, cancels and resumes. A list issued
to a context in any state but IDLE is appended (log entry 155), and what a cancel counts is the model's choice (log entry 88). -/
theorem streamCommands : Obligations.StreamCommands := by
  intro s e x
  obtain ⟨⟨hissue, hcancel, hresume, hcnt, -⟩, -⟩ := streamCoreQueueHerdWrites
  refine ⟨?fetch, ?retire, ?sent, fun b rest t hon hst hhead hkind hfault ht => listEnd_of_end hon hst hhead hkind hfault ht, ?halt,
    fun landed hst => congrArg _ (if_pos hst), ?issue, ?cancel, ?resume, fun w off hacc => hcnt e s w off hacc trivial⟩
  case fetch =>
    intro ext early src ws t b hex hmay halign hspace hrange hread hb hkind
    obtain ⟨hfault, hgood⟩ := entryFetch_of_read (early := early) (src := src) hex hmay halign hspace hrange hread hb hkind
    refine ⟨hfault, fun hf => ⟨fun h2 => (hgood hf).trans (congrArg _ (if_pos h2)), fun h2 hearly => ?_⟩⟩
    have hnot : ¬(early = true ∧ (none : Option StFault).isNone = true ∧ b.kind < 2) := by
      rintro ⟨he, -, hlt⟩
      obtain h | h := hearly
      · exact Bool.false_ne_true (h.symm.trans he)
      · omega
    rw [hgood hf, if_neg h2, State.stTake, if_neg hnot]
  case retire =>
    intro src upset b rest t r hon hst ht hhead hkind hfault hdst hsrc hr hrf hrw
    rw [(blockRetire_of_head hon hst ht hhead hkind hfault).1 hdst hsrc, State.stBlock, ← hr,
      if_pos ⟨by rw [hrf]; rfl, hrw⟩]
  case sent =>
    exact fun src upset b rest t hon hst ht hhead hkind hfault hdst hown hstage hwait =>
      (blockRetire_of_head hon hst ht hhead hkind hfault).2 hdst hown hstage hwait
  case halt =>
    intro outer src upset landed b rest f t hon hst ht hhead hfault hdst
    refine ⟨fun hkind => ?_, fun hkind hoff => ?_⟩
    · change execStreamHalt e x outer src upset landed s = _
      simp only [execStreamHalt, hon, hst, and_self, if_true, ← ht, hhead, hfault, hkind]
    · have hdst' : b.blk.dst.space ≠ 3 := hdst.resolve_right (not_lt.mpr hkind)
      change execStreamHalt e x outer src upset landed s = _
      simp only [execStreamHalt, hon, hst, and_self, if_true, ← ht, hhead, hfault, not_lt.mpr hkind, hdst', hoff, if_false]
  case issue =>
    intro w off t hacc h1 h2 ht hmay
    have hexec := hissue e x s w off hacc ⟨h1, h2⟩
    simp only [← ht] at hexec
    obtain ⟨hidle, hmore, hfull⟩ :=
      stIssueList_of_may (t.fld .ST_CMD_LIST_LIST e x) (t.fld .ST_CMD_LIST_SPACE e x) hmay
    refine ⟨fun hl hst => ?_, fun hl hst => ?_, fun hl => ?_⟩
    · rw [hexec, hidle hl hst]
    · rw [hexec, hmore hl hst]
    · rw [hexec, hfull hl]
  case cancel =>
    intro w off t hacc h0 h2 ht hmay
    have hexec := hcancel e x s w off hacc ⟨h0, h2⟩
    simp only [← ht] at hexec
    obtain ⟨hrun, hidle⟩ := stCancel_of_may hmay
    refine ⟨fun hst => ?_, fun hst => ?_⟩
    · rw [hexec, hrun hst]
    · rw [hexec, hidle hst]
  case resume =>
    intro w off t hacc h0 h1 ht hmay
    have hexec := hresume e x s w off hacc ⟨h0, h1⟩
    simp only [← ht] at hexec
    obtain ⟨hhalted, hother⟩ := stResume_of_may hmay
    refine ⟨fun hst => ?_, fun hst => ?_⟩
    · rw [hexec, hhalted hst]
    · rw [hexec, hother hst]

end Sys2Proof.Machine
end

section
/-! SUPPORT. The engines: operations, gathers and the long accumulator (R303 to R334). -/
namespace Sys2Proof.Machine

open Sys2Proof

/-! ## Operations -/

/-- A matrix operation of the mode its command names runs (R303). -/
theorem mxMode_of_head {s : State} {c : Nat} {o : EngOp} (mode : Nat) (upset : List (Nat × Nat)) (hhead : s.engHead c 0 = some o)
    (hgood : mxBad o = none) (hmode : o.fld 196 1 = mode) : s.mxMode c mode upset = s.mxRun c o upset := by
  simp only [State.mxMode, hhead, hgood, hmode, Option.isNone_none, and_self, if_true]

/-- A vector operation with the code its command names runs, after the accumulators of another VI are cleared (R303, R317). -/
theorem vxOp_of_head {s t : State} {c op : Nat} {o : EngOp} (run : State → EngOp → State) (hhead : s.engHead c 1 = some o)
    (hgood : vxBad o = none) (ht : t = s.vxEnter c o.vi) (hop : o.fld 0 8 = op) : s.vxOp c op run = run t o := by
  simp only [State.vxOp, hhead, hgood, hop, ← ht, Option.isNone_none, and_self, if_true]

/-- Settles O48: the operation at the head runs as its code says. -/
theorem engineOperations : Obligations.EngineOperations := by
  refine ⟨fun s t c o upset => ⟨fun hhead hgood => ?matrix, fun hhead hgood ht => ?vector⟩, fun s t c o upset hhead hgood ht => ?acc⟩
  case matrix =>
    exact ⟨fun h => congrArg _ (mxMode_of_head 0 upset hhead hgood h), fun h => congrArg _ (mxMode_of_head 1 upset hhead hgood h)⟩
  case vector =>
    refine ⟨?_, ?_, ?_, ?_, ?_, ?_, ?_, ?_, ?_, ?_, ?_, ?_, ?_, ?_, ?_⟩ <;>
      exact fun hop => congrArg _ (vxOp_of_head _ hhead hgood ht hop)
  case acc =>
    refine ⟨?_, ?_, ?_, ?_, ?_, ?_, ?_, ?_⟩ <;> exact fun hop => congrArg Host.Outcome.next (vxOp_of_head _ hhead hgood ht hop)

/-! ## Gathers -/

/-- A gather starts with the pooling its command names (R318, R319). -/
theorem gtStart_of_head {s : State} {c : Nat} {o : EngOp} (pool : Nat) (hhead : s.engHead c 2 = some o) (hgood : gtBad o = none)
    (hidle : s.gtRun c = none) (hpool : o.fld 160 2 = pool) : s.gtStart c pool = s.gtBegin c pool o := by
  simp only [State.gtStart, hhead, hgood, hidle, hpool, ne_eq, not_true_eq_false, Option.isSome_none, Bool.false_eq_true, or_self,
    if_false]

/-- What the arrival of a row does, by its outcome (R320 to R325); `hit` where the row was in the cache. -/
def State.gatherRow (t : State) (c pos : Nat) (upset : List Nat) (o : EngOp) (r : GtRun) (dva : Nat) (hit : Bool) : GtRead → State
  | .waits => t
  | .refused code => (((t.engCount c 2 1 1).dropUnit (fun (q : PlotReq) => q == PlotReq.gather c)).setGtRun c none).engRan c 2
      (if code = 0xB ∨ code = 0xC then ⟨3, 0, r.poisonOut⟩ else ⟨2, code, r.poisonOut⟩)
  | .expired w => (t.engCount c 2 1 1).gtAdvance c o
      { r with rows := r.rows ++ [⟨pos, List.replicate (tabRowLen r.tab / 4) w, false⟩] } upset
  | .row ws chk =>
      let k := gtCheck c r.tab pos chk (realign ws (dva % 4) (tabRowLen r.tab))
      let t2 := (if k.2.1 then t.engCount c 2 3 1 else t).engCount c 2 1 1
      let t3 := if k.2.2 then t2.engCount c 2 4 1 else t2
      (if hit then t3.engCount c 2 2 1 else t3).gtAdvance c o { r with rows := r.rows ++ [⟨pos, k.1, k.2.2⟩] } upset

/-- A row that its gather waits for and may still ask for arrives. -/
theorem exec_gatherRowArrive {s t : State} {c pos dva : Nat} {o : EngOp} {r : GtRun} {out : GtRead} (upset : List Nat)
    (hhead : s.engHead c 2 = some o) (hrun : s.gtRun c = some r)
    (hpos : ((r.want.filter (fun p => !(r.rows.any (fun (q : GtRow) => q.pos == p)))).take
      (max 1 (min 512 (s.inForce .GT_CFG_MAX_OUT c 0)))).contains pos = true)
    (hdva : dva = nfield r.tab 0 48 + (r.idx.getD pos ⟨0, false⟩).data.toNat * tabRowLen r.tab)
    (hout : s.gtReadRow 3 r o.vi (o.fld 166 2) pos dva (tabRowLen r.tab) = (out, t)) :
    exec (.gatherRowArrive c pos upset) s =
      .next (t.gatherRow c pos upset o r dva (s.gtHit c o.vi r.tab dva (tabRowLen r.tab)) out) := by
  change execGatherRowArrive c pos upset s = _
  simp only [execGatherRowArrive, hhead, hrun, hpos, ← hdva, hout, Bool.true_eq_false, if_false]
  cases out <;> rfl

/-- A row that was read and checked joins its gather, which counts it, a failed check and a hit. -/
theorem gatherRow_of_check {t : State} {c pos dva : Nat} {upset : List Nat} {o : EngOp} {r : GtRun} {hit bad : Bool}
    {ws w2 : List PW} {chk : Bool} (h : gtCheck c r.tab pos chk (realign ws (dva % 4) (tabRowLen r.tab)) = (w2, bad, false)) :
    t.gatherRow c pos upset o r dva hit (.row ws chk) =
      (if hit then ((if bad then t.engCount c 2 3 1 else t).engCount c 2 1 1).engCount c 2 2 1
        else (if bad then t.engCount c 2 3 1 else t).engCount c 2 1 1).gtAdvance c o
          { r with rows := r.rows ++ [⟨pos, w2, false⟩] } upset := by
  simp only [State.gatherRow, h, Bool.false_eq_true, if_false]

/-! ## Completions -/

/-- The operation at the head of an engine's queue completes, having run or by a control error (R332, R333). -/
theorem engineComplete_of_head {s : State} {c k : Nat} {o : EngOp} {q : List EngOp} (hon : s.clusterOn c = true)
    (hq : s.engQueue c k = o :: q) :
    (∀ d, o.ending k = some d → exec (.engineComplete c k false) s = .next (s.engFinish c k o d)) ∧
    exec (.engineComplete c k true) s = .next ((if k = 2 then
      (s.dropUnit (fun (r : PlotReq) => r == PlotReq.gather c)).setGtRun c none else s).engFinish c k o ⟨4, 0, false⟩) := by
  refine ⟨fun d hd => ?_, ?_⟩
  · change execEngineComplete c k false s = _
    simp only [execEngineComplete, hon, hq, hd, Bool.false_eq_true, if_false]
  · change execEngineComplete c k true s = _
    simp only [execEngineComplete, hon, hq, if_true]

/-- Settles O49: gathers start, take their rows and end, and operations complete. -/
theorem gatherAndCompletion : Obligations.GatherAndCompletion := by
  intro s c o
  obtain ⟨⟨-, -, -, -, hmx, hvx, hgt, -⟩, -⟩ := streamCoreQueueHerdWrites
  refine ⟨?start, ?row, fun k q d hon hq hd => (engineComplete_of_head hon hq).1 d hd,
    fun q hon hq => ?gather, fun k q hk hon hq => ?error,
    fun w off hacc => hmx c s w off hacc trivial, fun w off hacc => hvx c s w off hacc trivial,
    fun w off hacc => hgt c s w off hacc trivial⟩
  case start =>
    exact fun hhead hgood hidle => ⟨fun h => congrArg _ (gtStart_of_head 0 hhead hgood hidle h),
      fun h => congrArg _ (gtStart_of_head 1 hhead hgood hidle h), fun h => congrArg _ (gtStart_of_head 2 hhead hgood hidle h),
      fun h => congrArg _ (gtStart_of_head 3 hhead hgood hidle h)⟩
  case gather => rw [(engineComplete_of_head hon hq).2, if_pos rfl]
  case error => rw [(engineComplete_of_head hon hq).2, if_neg hk]
  case row =>
    intro r pos t upset out dva hhead hrun hpos hdva hout
    have hexec := exec_gatherRowArrive upset hhead hrun hpos hdva hout
    refine ⟨fun h => ?_, fun w h => ?_, fun code h => ?_, fun ws chk w2 h hhit hchk => ?_, fun ws chk w2 h hhit hchk => ?_,
      fun ws chk w2 h hhit hchk => ?_⟩
    · rw [hexec, h, State.gatherRow]
    · rw [hexec, h, State.gatherRow]
    · rw [hexec, h, State.gatherRow]
    all_goals
      rw [hexec, h, gatherRow_of_check hchk, hhit]
      simp only [Bool.false_eq_true, if_true, if_false]

/-! ## The long accumulator -/

/-- What a term adds to the flags of an accumulator (R306). -/
def FVal.accFlags : FVal → Nat
  | .nan => 4
  | .inf neg => if neg then 2 else 1
  | .fin neg m e =>
    if (if e < 139 then decide (2 ^ (139 - e).toNat ≤ m) else m != 0) then 8 ||| (if neg then 2 else 1)
    else if e + 149 < 0 ∧ m % 2 ^ (-(e + 149)).toNat ≠ 0 then 16 else 0

/-- The magnitude of a term in units of 2^-149 (R305). -/
def accUnits (m : Nat) (e : Int) : Nat :=
  if e + 149 < 0 then m / 2 ^ (-(e + 149)).toNat else m * 2 ^ (e + 149).toNat

/-- What a term adds to the value of an accumulator of modulus `M`, where it adds anything (R305, R306). -/
def FVal.accAdds (M : Nat) : FVal → Option Nat
  | .nan => none
  | .inf _ => none
  | .fin neg m e =>
    if (if e < 139 then decide (2 ^ (139 - e).toNat ≤ m) else m != 0) then none
    else some (if neg then M - accUnits m e % M else accUnits m e)

/-- The value of an accumulator after an addition. -/
def accSum (M v : Nat) : Option Nat → Nat
  | none => v
  | some d => (v + d) % M

theorem accSum_comm (M v : Nat) (d d' : Option Nat) : accSum M (accSum M v d) d' = accSum M (accSum M v d') d := by
  cases d with
  | none => rfl
  | some d => cases d' with
    | none => rfl
    | some d' => simp only [accSum, Nat.mod_add_mod, Nat.add_right_comm]

/-- A term adds to value, flags and count, each by what the term alone says. -/
theorem term_eq (a : LongAcc) (v : FVal) : a.term v =
    { a with cnt := min (a.cnt + 1) 0xFFFFFFFF, flags := a.flags ||| cntFlag (a.cnt + 1) ||| v.accFlags,
             val := accSum (2 ^ 320) a.val (v.accAdds (2 ^ 320)) } := by
  cases v with
  | nan => rfl
  | inf neg => rfl
  | fin neg m e =>
    simp only [LongAcc.term, FVal.accFlags, FVal.accAdds]
    generalize (if e < 139 then decide (2 ^ (139 - e).toNat ≤ m) else m != 0) = big
    cases big with
    | true => simp only [if_true, accSum, Nat.lor_assoc]
    | false => cases neg with
      | false => rfl
      | true =>
        have hle : accUnits m e % 2 ^ 320 ≤ 2 ^ 320 := (Nat.mod_lt _ (Nat.two_pow_pos _)).le
        simp only [accSum, Bool.false_eq_true, if_true, if_false, ← Nat.add_sub_assoc hle]
        rfl

/-- Settles O50: value, flags and count each take two terms in either order. -/
theorem accumulatorOrder : Obligations.AccumulatorOrder := by
  intro a x y
  simp only [term_eq, accSum_comm _ _ (x.accAdds _) (y.accAdds _), LongAcc.mk.injEq, and_true, true_and]
  ac_rfl

end Sys2Proof.Machine
end

section
/-! SUPPORT. The host port and the queues (R421 to R461). -/
namespace Sys2Proof.Machine

open Sys2Proof

/-! ## The queues -/

/-- What a fetch from a host ring leaves: the ring's next entry is asked for (R425). -/
def State.sqAsked (s : State) (q : Nat) : State :=
  (s.setQueue q { s.queue q with pend := false, next := ((s.queue q).next + 1) % s.ringSize q }).emit
    (.hostRead (s.queuePort q) ((s.reg .HQ_Q_SQB q 0).toNat / 64 * 64 + 64 * (s.queue q).next) 64 35)

theorem exec_sqFetch {s : State} {q : Nat} (hmay : s.mayFetch q = true) (hspace : s.flag .HQ_Q_CFG_SPACE q 0 = false) :
    exec (.sqFetch q) s = .next ((s.sqAsked q).withHq { (s.sqAsked q).hq with
      reads := (s.sqAsked q).hq.reads ++ [⟨q, (s.queue q).next, none⟩] }) := by
  change execSqFetch q s = _
  simp only [execSqFetch, hmay, hspace, if_true, Bool.false_eq_true, if_false]
  rfl

/-- An entry that was read and holds no poison is staged, one that does completes (R428). -/
theorem entryStaged_of_read {s : State} {q : Nat} {r : HqRead} {l : List HqRead} {ws : List PW} (hr : s.readsOf q = r :: l)
    (hd : r.data = some ws) :
    (ws.any (fun w => w.poison) = false → s.flag .HQ_Q_STATE_FROZEN q 0 = false →
      exec (.entryStaged q) s = .next (s.withHq { s.hq with
        reads := s.hq.reads.erase r
        staged := s.hq.staged ++ [⟨q, r.index, BitVec.ofNat 512 (natOfBytes (wordsBytes ws))⟩] })) ∧
    (ws.any (fun w => w.poison) = true →
      exec (.entryStaged q) s = .next ((s.withHq { s.hq with reads := s.hq.reads.erase r }).addComp ⟨q, r.index, true, 3, none⟩)) := by
  refine ⟨fun hclean hfrozen => ?_, fun hpoison => ?_⟩
  · change execEntryStaged q s = _
    simp only [execEntryStaged, hr, hd, hclean, hfrozen, Bool.false_eq_true, if_false]
    rfl
  · change execEntryStaged q s = _
    simp only [execEntryStaged, hr, hd, hpoison, if_true]

/-- A completion whose queue has room is written, and its slot is free (R436). -/
theorem completionWrite_of_written {s t : State} {q k : Nat} {c : HqComp}
    (hc : s.hq.comps.find? (fun (c : HqComp) => c.queue == q) = some c) (hlive : s.queueLive q = true)
    (herr : s.fld .HQ_Q_STATE_ERR q 0 = 0) (hroom : s.cqSpace q = true) (hreset : s.viResetting (queueVi q) = false)
    (hw : s.writeComp c = (true, t)) (hk : c.slot = some k) :
    exec (.completionWrite q false) s = .next ((t.withHq { t.hq with comps := t.hq.comps.erase c }).freeSlot k) := by
  change execCompletionWrite q false s = _
  simp only [execCompletionWrite, hc, hlive, herr, hroom, hreset, hw, hk, decide_true, Bool.not_false, Bool.and_self, if_true,
    Bool.false_and, Bool.false_eq_true, if_false]

/-- The status posted for an operation that its slot waits for (R434, R435). -/
theorem hqPost_of_slot {t : State} {a : Acc} {v : W64} {x : HqSlot}
    (hx : t.hq.slots.find? (fun (x : HqSlot) => x.slot == getBits v 0 16) = some x) (hdone : x.done = false)
    (hseq : x.seq = getBits v 32 32) (hvi : postVi a = x.vi ∨ postVi a = 0) (hreset : t.viResetting x.vi = false) :
    t.hqPost a v true = (t.bite (x.slot / 16384) 4).slotDone x 3 ∧
    (getBits v 16 8 ≠ 0 → postable (getBits v 16 8) = true → t.hqPost a v false = t.slotDone x (getBits v 16 8)) ∧
    (getBits v 16 8 = 0 → x.deadline = 0 ∨ t.now ≤ x.deadline →
      t.hqPost a v false = (t.serviceEstimate x.vi x.op (t.now - x.admitAt) x.r).slotDone x 0) := by
  refine ⟨?_, fun h0 hpost => ?_, fun h0 hdue => ?_⟩
  · simp only [State.hqPost, hx, hdone, hseq, hvi, hreset, true_or, and_self, if_true]
  · simp only [State.hqPost, hx, hdone, hseq, hvi, hreset, hpost, or_true, and_self, if_true, Bool.false_eq_true, h0, if_false]
  · have htime : ¬(x.deadline ≠ 0 ∧ x.deadline < t.now) := by omega
    have hpost : postable 0 = true := rfl
    simp only [State.hqPost, hx, hdone, hseq, hvi, hreset, h0, hpost, or_true, and_self, if_true, Bool.false_eq_true, htime, if_false]

/-- A queue that has nothing staged is only frozen by its cancel (R440). -/
theorem queueCancel_of_empty {t : State} {q : Nat} (hlive : t.queueLive q = true) (hempty : t.stagedOf q = []) :
    t.queueCancel q = (t.setFlag .HQ_Q_STATE_FROZEN q 0 true).withHq { (t.setFlag .HQ_Q_STATE_FROZEN q 0 true).hq with
      staged := (t.setFlag .HQ_Q_STATE_FROZEN q 0 true).hq.staged.filter (fun (e : HqStaged) => e.queue != q) } := by
  rw [State.queueCancel, if_pos hlive, hempty]
  rfl

/-! ## The aperture -/

/-- An access of the aperture that is not held reaches device memory as VI0, at the address of the aperture's base (R450, R451). -/
theorem bar2Read_of_new {s t : State} {port off len a : Nat} {m : MemReq} {o : MemOut}
    (hnew : s.hq.bar2.find? (fun (b : Bar2Acc) => b.port == port && b.off == off && b.write == false && b.len == len) = none)
    (ha : a = s.fld .HQ_APERTURE_BASE 0 0 * 2 ^ 21 + off) (hm : m = ⟨0x1000, ⟨.bar2 port, 1, 0⟩, none, a, true⟩)
    (ho : s.physRead m a len = (o, t)) :
    (∀ ws, o = .done ws → exec (.bar2Access port off false len [] false) s =
      .next ((t.withHq { t.hq with bar2 := t.hq.bar2.filter (fun (b : Bar2Acc) =>
        !(b.port == port && b.off == off && b.write == false && b.len == len)) }).emit (.cpl port ws))) ∧
    (o = .waits → t.hq.bar2 = s.hq.bar2 → exec (.bar2Access port off false len [] false) s =
      .next (t.withHq { t.hq with bar2 := t.hq.bar2 ++ [⟨port, off, false, len, a⟩] })) ∧
    (∀ x, o = .plotRefused x → exec (.bar2Access port off false len [] false) s =
      .next ((t.withHq { t.hq with bar2 := t.hq.bar2.filter (fun (b : Bar2Acc) =>
        !(b.port == port && b.off == off && b.write == false && b.len == len)) }).emit
          (.cpl port (List.replicate (maskedWords a len []).length ⟨0, false⟩)))) := by
  refine ⟨fun ws h => ?_, fun h hbar => ?_, fun x h => ?_⟩
  all_goals
    subst h
    change execBar2Access port off false len [] false s = _
    unfold execBar2Access
    simp only [hnew, ← ha, ← hm, Bool.false_eq_true, if_false, ho]
  have hany : s.hq.bar2.any (fun (b : Bar2Acc) => b.port == port && b.off == off && b.write == false && b.len == len) = false := by
    rw [List.any_eq_false]
    exact fun b hb => List.find?_eq_none.mp hnew b hb
  rw [if_neg (by rw [hbar, hany]; exact Bool.false_ne_true)]

theorem bar2Write_of_new {s t : State} {port off len a : Nat} {m : MemReq} (data ws : List PW)
    (hnew : s.hq.bar2.find? (fun (b : Bar2Acc) => b.port == port && b.off == off && b.write == true && b.len == len) = none)
    (ha : a = s.fld .HQ_APERTURE_BASE 0 0 * 2 ^ 21 + off) (hm : m = ⟨0x1000, ⟨.bar2 port, 1, 0⟩, none, a, true⟩) (poison : Bool)
    (ho : s.physWrite m a len 1 (if poison then linkWords 0 port (maskedWords a len []).length else data) false = (.done ws, t)) :
    exec (.bar2Access port off true len data poison) s = .next (t.withHq { t.hq with bar2 := t.hq.bar2.filter (fun (b : Bar2Acc) =>
      !(b.port == port && b.off == off && b.write == true && b.len == len)) }) := by
  change execBar2Access port off true len data poison s = _
  unfold execBar2Access
  simp only [hnew, ← ha, ← hm, if_true, ho]

/-! ## The commands -/

theorem sqAsked_eq (s : State) (q : Nat) : (s.sqAsked q).hq.reads = s.hq.reads ∧ (s.sqAsked q).out =
    .hostRead (s.queuePort q) ((s.reg .HQ_Q_SQB q 0).toNat / 64 * 64 + 64 * (s.queue q).next) 64 35 :: s.out := by
  unfold State.sqAsked State.setQueue
  rw [State.emit_hq, State.withHq_hq, State.emit, State.withOut_out, State.withHq_out]
  exact ⟨rfl, rfl⟩

/-- The completion of a host read that an entry waits for (R426). -/
theorem hostReadCompletion_of_waiting {s : State} {q ix : Nat} (data : List PW)
    (h : s.hq.reads.any (fun (r : HqRead) => r.queue == q && r.index == ix && r.data == none) = true) :
    exec (.hostReadCompletion q ix data false true) s = .next
      ((s.ringBeats q).readFill q ix ((List.range 16).map (fun i => ⟨(data.getD i ⟨0, false⟩).data, false⟩))) ∧
    exec (.hostReadCompletion q ix data true true) s = .next
      ((s.ringBeats q).readFill q ix (linkWords (queueVi q) (s.queuePort q) 16)) ∧
    (∀ p, exec (.hostReadCompletion q ix data p false) s = .next ((s.freezeQueue q 1).dropStaged q)) := by
  refine ⟨?_, ?_, fun p => ?_⟩
  · change execHostReadCompletion q ix data false true s = _
    simp only [execHostReadCompletion, h, if_true, Bool.false_eq_true, if_false]
  · change execHostReadCompletion q ix data true true s = _
    simp only [execHostReadCompletion, h, if_true]
  · change execHostReadCompletion q ix data p false s = _
    simp only [execHostReadCompletion, h, if_true, Bool.false_eq_true, if_false]

/-- Settles O51: the host port and the queues act by the lemmas above. The pages of the ATS cache are of 4 KiB (log entry 76), an
invalidation is not answered while a read uses its translation (log entry 177), and a poisoned HQ_POST completes POISONED (log
entry 105). -/
theorem queueCommands : Obligations.QueueCommands := by
  refine ⟨fun s => ⟨fun _ => rfl, ?ats, ?doorbell, ?fetch, fun q ix data h => hostReadCompletion_of_waiting data h, fun _ _ => rfl,
    fun q r l ws hr hd => (entryStaged_of_read hr hd).1, fun q r l ws hr hd => (entryStaged_of_read hr hd).2, ?admission, ?parity,
    fun q c t k hc hlive herr hroom hreset hw hk => completionWrite_of_written hc hlive herr hroom hreset hw hk,
    fun q hlive hflr hcoal hdue => congrArg _ (if_pos ⟨hlive, hflr, hcoal, hdue⟩)⟩, fun s => ⟨?read, ?write, ?resetDone, ?flr0, ?flr,
    fun port hup => congrArg _ (if_pos hup)⟩, fun s t w off => ⟨?enable, ?operator, ?cancel, ?reset, ?post, ?postCore⟩⟩
  case ats =>
    intro port vi addr len tag t ht
    refine ⟨fun hr => ?_, fun hr => ?_⟩
    · change execAtsInvalidation port vi addr len tag s = _
      simp only [execAtsInvalidation, ← ht, hr, Bool.false_eq_true, if_false]
    · change execAtsInvalidation port vi addr len tag s = _
      simp only [execAtsInvalidation, ← ht, hr, if_true]
  case doorbell =>
    intro port fn i v tail head hv hlive
    change execDoorbell port fn i tail head false s = _
    simp only [execDoorbell, hv, hlive, Bool.false_eq_true, Bool.true_eq_false, if_false]
  case fetch =>
    intro q hmay hspace
    obtain ⟨hreads, hout⟩ := sqAsked_eq s q
    refine ⟨_, exec_sqFetch hmay hspace, ?_, ?_⟩
    · rw [State.withHq_hq, hreads]
    · rw [State.withHq_out, hout]
  case admission =>
    intro die e t hfree hpick hlen
    change execAdmission die s = _
    simp only [execAdmission, Option.isNone_eq_false_iff.mpr hfree, hpick, hlen, Bool.false_eq_true, if_false]
  case parity =>
    intro slot x hx hd
    change execSlotParityError slot s = _
    simp only [execSlotParityError, hx, hd, Bool.false_eq_true, if_false]
  case read =>
    intro port off len a m t hnew ha hm
    exact ⟨fun ws h => (bar2Read_of_new hnew ha hm h).1 ws rfl, fun h hbar => (bar2Read_of_new hnew ha hm h).2.1 rfl hbar,
      fun x h => (bar2Read_of_new hnew ha hm h).2.2 x rfl⟩
  case write =>
    intro port off len data a m t hnew ha hm
    exact ⟨fun ws h => bar2Write_of_new data ws hnew ha hm false h, fun ws h => bar2Write_of_new data ws hnew ha hm true h⟩
  case resetDone =>
    intro v r hr hsweep hblank hflr
    have hdone : (r.flr && s.perstLow (s.viPort v)) = false := Bool.and_eq_false_iff.mpr hflr
    change execViResetDone v s = _
    simp only [execViResetDone, hr, hsweep, hblank, hdone, Bool.or_self, Bool.false_eq_true, if_false]
  case flr0 =>
    intro port hv
    change execFlr port 0 s = _
    simp only [execFlr, hv, if_true]
  case flr =>
    intro port fn v hfn hv
    change execFlr port fn s = _
    simp only [execFlr, hv, hfn, if_false]
  all_goals obtain ⟨-, henable, hpost, hpostCore, hop, hcancel, hreset, -⟩ := streamCoreQueueHerdWrites
  case enable => exact fun q hacc h0 => henable q s w off hacc h0
  case operator =>
    intro v o hacc h0 ht
    rw [hop v o s w off hacc h0, ← ht]
    rfl
  case cancel =>
    intro q hacc ht hlive hempty
    rw [hcancel q s w off hacc trivial, ← ht]
    exact congrArg Host.Outcome.next (queueCancel_of_empty hlive hempty)
  case reset =>
    intro hacc h0 ht
    rw [hreset s w off hacc h0, ← ht]
    rfl
  case post =>
    intro x hacc ht hx hdone hseq hvi hres
    have hexec := fun poison => hpost poison s w off hacc trivial
    simp only [id, ← ht] at hexec
    obtain ⟨hpoisoned, hstatus, hgood⟩ := hqPost_of_slot (a := w.acc) hx hdone hseq hvi hres
    refine ⟨?_, fun h0 hp => ?_, fun h0 hdue => ?_⟩
    · rw [hexec, hpoisoned]
    · rw [hexec, hstatus h0 hp]
    · rw [hexec, hgood h0 hdue]
  case postCore =>
    intro c hacc ht hnone
    have hexec := hpostCore c false s w off hacc trivial
    simp only [id, ← ht] at hexec
    rw [hexec]
    simp only [State.hqPost, hnone]

end Sys2Proof.Machine
end

section
/-! SUPPORT. Power domains and the power manager (R61 to R208, R504 to R533). -/
namespace Sys2Proof.Machine

open Sys2Proof

/-! ## Domains -/

/-- A cluster whose memory was cleared passes its self-test and serves what it held, or goes off (R61, R148). -/
theorem clearDone_of_clearing {s : State} {c : Nat} (hon : s.clusterOn c = true) (hclear : s.flag .TM_STATUS_CLEARING c 0 = true) :
    s.clearDone c true = ((((s.selfTest (dieOf c) (c + 1) true).setFlag .TM_STATUS_CLEARING c 0 false).setFlag
      .TM_STATUS_CLEAR_DONE c 0 true).serveHeld c).splitRetry (dieOf c) ∧
    s.clearDone c false = (s.selfTest (dieOf c) (c + 1) false).clusterDrop c := by
  refine ⟨?_, ?_⟩
  · rw [State.clearDone, if_pos ⟨hon, hclear⟩, if_pos rfl]
  · rw [State.clearDone, if_pos ⟨hon, hclear⟩, if_neg Bool.false_ne_true]

/-- The activation budget of the periods that passed is given back, where no command waits for it (R208). -/
theorem budgetPeriod_of_passed {s : State} {n : Nat} (hn : n = s.now / 1000 - s.mule.period) (h0 : n ≠ 0) (hs : s.mule.since = []) :
    exec .budgetPeriod s = .next ((s.withMule { s.mule with
      period := s.now / 1000
      used := (s.mule.used.map (fun e => (e.1, e.2 - n * muAllowance (s.stackLevel (e.1 / 64))))).filter (fun e => e.2 != 0)
      since := [] }).throttle 8 false) := by
  have hnone : s.each (s.mule.since.map (fun e => e.1)) (fun k t => t.muWaited k) = s := by
    rw [hs]
    rfl
  change execBudgetPeriod s = _
  unfold execBudgetPeriod
  rw [← hn, if_neg h0, hnone]
  simp only [State.withMule_mule, hs, List.filter_nil, List.map_nil, List.isEmpty_nil, Bool.not_true]
  rfl

/-- What an access held beyond the limit does once its sectors are given up (R183, R203). -/
def State.holdEnds (s t : State) (g : Nat) (a : SectorAcc) : State :=
  let n := 8 * (s.hbm.accs.filter (fun (b : SectorAcc) => !b.own && b.group == g)).length
  let busy := List.replicate n (poisoned .channelBusy (originBusy (plotStack a.plot) a.pc))
  match a.req with
  | .bar2 port => if a.write then t else t.emit (.cpl port busy)
  | .trace c => t.traceLost c
  | .herd src tag _ _ =>
    let f : Frame := { t.ctlFrame 0x01 t.herdId 0 tag 0 with src := src }
    if a.write then t.replyRefuse f 3 0 else t.reply f 0x04 0 (4 * n) busy
  | r => if a.write then t else t.withHbm { t.hbm with rets := t.hbm.rets ++ [⟨g, r, busy⟩] }

theorem exec_holdExpiry {s : State} {g : Nat} {a : SectorAcc}
    (ha : s.hbm.accs.find? (fun (a : SectorAcc) =>
      !a.own && a.group == g && a.held && decide (s.holdLimit (plotStack a.plot) < s.now - a.arrived)) = some a) :
    exec (.holdExpiry g) s = .next (s.holdEnds (((s.withHbm { s.hbm with
      accs := s.hbm.accs.filter (fun (b : SectorAcc) => b.own || b.group != g) }).countExpiry (plotStack a.plot)).zeroHerd) g a) := by
  change execHoldExpiry g s = _
  simp only [execHoldExpiry, ha]
  cases hreq : a.req <;> simp only [State.holdEnds, hreq]

/-- Settles O52: domains wake and go off, stacks are initialised, budget periods pass and held accesses end. A cluster whose
self-test fails after its clear goes off (log entry 132), and the debt of a budget is taken from the next period (log entries 80
and 170). -/
theorem domainCommands : Obligations.DomainCommands := by
  intro s
  refine ⟨fun c hm hoff hret => congrArg _ (if_pos ⟨hm, hoff, hret⟩), fun c hon hcl => congrArg _ (clearDone_of_clearing hon hcl).1,
    fun c hon hcl => congrArg _ (clearDone_of_clearing hon hcl).2, fun c hon hidle => congrArg _ (if_neg (by simp [hon, hidle])),
    fun d fail hm hoff => congrArg _ (if_pos ⟨hm, hoff⟩), fun d hon => congrArg _ (if_pos hon), ?stack,
    fun n hn h0 hs => budgetPeriod_of_passed hn h0 hs, ?hold⟩
  case stack =>
    intro k ok test hbit hm hp
    change execStackInit k ok test s = _
    simp only [execStackInit, State.stackInit, hbit, hm, hp, Bool.and_true, Bool.false_eq_true, if_false]
  case hold =>
    intro g a t ha ht
    have hexec := exec_holdExpiry ha
    rw [← ht] at hexec
    refine ⟨fun c hr => ?_, fun port hr hw => ?_, fun port hr hw => ?_⟩
    · rw [hexec]
      simp only [State.holdEnds, hr]
    · rw [hexec]
      simp only [State.holdEnds, hr, hw, if_true]
    · rw [hexec]
      simp only [State.holdEnds, hr, hw, Bool.false_eq_true, if_false]

/-! ## The power manager -/

/-- START checks the three tables of points; where all are good the manager runs (R505, R506). -/
theorem pmStart_of_good {t : State} (hrun : t.flag .PM_STATUS_RUNNING 0 0 = false) (hgood : ∀ g, g < 3 → t.vfFail g = none) :
    t.pmStart = ((((t.each (List.range 3) (fun g u => u.setPmG g { u.pmG g with vfMax := 15 })).setFlag
      .PM_STATUS_SPLIT_BAD 0 0 (((List.range 5).map (fun g => getBits (t.reg .PM_SPLIT 0 0) (8 * g) 8)).foldl (· + ·) 0 !=
        100)).setFlag .PM_STATUS_RUNNING 0 0 true).reasons) := by
  have hbad : (List.range 3).any (fun g => (t.vfFail g).isSome) = false := by
    rw [List.any_eq_false]
    intro g hg
    simp [hgood g (List.mem_range.mp hg)]
  have hzero : (List.range 3).any (fun g => t.vfFail g == some 0) = false := by
    rw [List.any_eq_false]
    intro g hg
    simp [hgood g (List.mem_range.mp hg)]
  have hmax : t.each (List.range 3) (fun g u => u.setPmG g { u.pmG g with vfMax := ((t.vfFail g).getD 16) - 1 }) =
      t.each (List.range 3) (fun g u => u.setPmG g { u.pmG g with vfMax := 15 }) :=
    List.foldl_ext _ _ _ fun u g hg => by simp only [hgood g (List.mem_range.mp hg), Option.getD_none]
  rw [State.pmStart, if_neg (by simp [hrun])]
  simp only [hbad, hzero, Bool.false_eq_true, if_false]
  rw [hmax]

/-- A group whose slowest point is bad keeps the manager from starting (R506). -/
theorem pmStart_of_bad {t : State} (hrun : t.flag .PM_STATUS_RUNNING 0 0 = false) (hbad : ∃ g, g < 3 ∧ t.vfFail g = some 0) :
    t.pmStart = t.setFlag .PM_EVENT_VF_BAD 0 0 true := by
  obtain ⟨g, hg, hzero⟩ := hbad
  have hany : (List.range 3).any (fun g => (t.vfFail g).isSome) = true :=
    List.any_eq_true.mpr ⟨g, List.mem_range.mpr hg, by rw [hzero]; rfl⟩
  have hany0 : (List.range 3).any (fun g => t.vfFail g == some 0) = true :=
    List.any_eq_true.mpr ⟨g, List.mem_range.mpr hg, by rw [hzero]; rfl⟩
  rw [State.pmStart, if_neg (by simp [hrun])]
  simp only [hany, hany0, if_true]

/-- Settles O53: windows, calibration periods, steps, rail limits and starts of the power manager. The duty floor is 2 eighths for
the MEM and IO rails (log entry 119). -/
theorem powerCommands : Obligations.PowerCommands := by
  intro s
  refine ⟨fun mx tm vx mem io hrun hfw => congrArg _ (if_neg (by simp [hrun, hfw])), ?whole, ?rise, ?fall, ?timeout, ?calibrate,
    ?skip, ?rail, fun g hrun => congrArg _ (if_pos hrun), ?start⟩
  case whole =>
    intro g up hstep
    change execDvfsStepComplete g true s = _
    simp only [execDvfsStepComplete, hstep, Bool.true_or, if_true]
  case rise =>
    intro g hstep hhalf
    change execDvfsStepComplete g false s = _
    simp only [execDvfsStepComplete, hstep, hhalf, Bool.or_self, Bool.false_eq_true, if_false, if_true]
  case fall =>
    intro g hstep hhalf
    change execDvfsStepComplete g false s = _
    simp only [execDvfsStepComplete, hstep, hhalf, Bool.or_self, Bool.false_eq_true, if_false]
  case timeout =>
    intro g hstep
    change execRegulatorTimeout g s = _
    simp only [execRegulatorTimeout, hstep, Bool.false_eq_true, if_false]
  case calibrate =>
    intro input rails hrun hfw hin hrails hlen
    change execCalibrationPeriod input rails false s = _
    simp only [execCalibrationPeriod, hrun, hfw, hin, hrails, hlen, Bool.true_eq_false, Bool.false_eq_true, ne_eq, not_true_eq_false,
      or_self, if_false]
  case skip =>
    intro input rails hrun hfw
    change execCalibrationPeriod input rails true s = _
    simp only [execCalibrationPeriod, hrun, hfw, Bool.true_eq_false, Bool.false_eq_true, or_self, if_false, true_or, if_true]
  case rail =>
    intro r mean hrails hlimit
    change execRailLimitWindow r mean s = _
    simp only [execRailLimitWindow, hrails, hlimit, Bool.true_eq_false, if_false, if_true]
  case start =>
    intro w off t hacc ht
    obtain ⟨-, -, -, -, -, -, -, -, -, -, -, hpm⟩ := streamCoreQueueHerdWrites
    have hexec := hpm s w off hacc trivial
    simp only [← ht] at hexec
    refine ⟨fun hrun hgood => ?_, fun hrun hbad => ?_⟩
    · rw [hexec, pmStart_of_good hrun hgood]
    · rw [hexec, pmStart_of_bad hrun hbad]

/-! ## The target of a group -/

/-- The estimate of a group is over its share (R508). -/
def State.overShare (s : State) (g : Nat) (est : Rat) : Bool := decide (s.shareOf g < est) && !(s.pmG g).parity

/-- A group may rise, and the estimate predicted for the next point fits (R508). -/
def State.mayRise (s : State) (g : Nat) : Bool :=
  decide (s.fld .PM_GROUP_CUR_OP g 0 < s.wanted g) && !(s.pmG g).busy && decide ((s.pmG g).noUpTill ≤ s.now) && !(s.pmG g).parity

def State.riseFits (s : State) (g : Nat) (est : Rat) : Bool :=
  decide (est * s.riseFactor g (s.fld .PM_GROUP_CUR_OP g 0) ≤ s.shareOf g * (1 - ((s.fld .PM_CFG_HYST 0 0 : Nat) : Rat) / 100))

/-- The point that shares and estimates ask for (R508). -/
def State.sharePoint (s : State) (g : Nat) (est : Rat) : Nat :=
  if s.overShare g est then s.fld .PM_GROUP_CUR_OP g 0 - 1
  else if s.mayRise g && s.riseFits g est then s.fld .PM_GROUP_CUR_OP g 0 + 1 else s.fld .PM_GROUP_CUR_OP g 0

/-- The point that the wanted point and the soft limit leave of it (R514, R533). -/
def State.boundPoint (s : State) (g t : Nat) : Nat :=
  if s.pm.soft then
    if 4 * s.softTj ≤ s.hottestCore then min (min t (s.wanted g)) (s.fld .PM_GROUP_CUR_OP g 0 - 1)
    else min (min t (s.wanted g)) (s.fld .PM_GROUP_CUR_OP g 0)
  else min t (s.wanted g)

theorem decide508_eq (s : State) (g : Nat) (est : Rat) : s.decide508 g est =
    (s.boundPoint g (s.sharePoint g est), s.overShare g est || (s.mayRise g && !s.riseFits g est)) := rfl

theorem boundPoint_le (s : State) (g t : Nat) : s.boundPoint g t ≤ min t (s.wanted g) := by
  unfold State.boundPoint
  split
  · split <;> exact min_le_left _ _
  · exact le_rfl

/-- Under the soft limit no group rises, and where it is still too hot each falls (R533). -/
theorem boundPoint_of_soft {s : State} (g t : Nat) (hsoft : s.pm.soft = true) :
    s.boundPoint g t ≤ s.fld .PM_GROUP_CUR_OP g 0 ∧
    (4 * s.softTj ≤ s.hottestCore → s.boundPoint g t ≤ s.fld .PM_GROUP_CUR_OP g 0 - 1) := by
  rw [State.boundPoint, if_pos hsoft]
  split
  next => exact ⟨(min_le_right _ _).trans (Nat.sub_le _ _), fun _ => min_le_right _ _⟩
  next hcool => exact ⟨min_le_right _ _, fun hhot => absurd hhot hcool⟩

theorem sharePoint_le (s : State) (g : Nat) (est : Rat) : s.sharePoint g est ≤ s.fld .PM_GROUP_CUR_OP g 0 + 1 := by
  unfold State.sharePoint
  split
  · omega
  · split <;> omega

theorem sharePoint_of_over {s : State} {g : Nat} {est : Rat} (h : s.overShare g est = true) :
    s.sharePoint g est = s.fld .PM_GROUP_CUR_OP g 0 - 1 := if_pos h

/-- A group rises only where it may and the estimate fits. -/
theorem rises_of_lt {s : State} {g : Nat} {est : Rat} (h : s.fld .PM_GROUP_CUR_OP g 0 < s.sharePoint g est) :
    s.mayRise g = true ∧ s.riseFits g est = true := by
  unfold State.sharePoint at h
  split at h
  · omega
  · split at h
    next hrise => exact Bool.and_eq_true_iff.mp hrise
    next => omega

/-- Settles O54: the bounds of the point that shares and estimates ask for, and of what is left of it. -/
theorem pointDecision : Obligations.PointDecision := by
  intro s g est t held h
  obtain ⟨rfl, rfl⟩ := Prod.mk.inj ((decide508_eq s g est).symm.trans h)
  have hle := boundPoint_le s g (s.sharePoint g est)
  have hshare := hle.trans (min_le_left _ _)
  refine ⟨hle.trans (min_le_right _ _), hshare.trans (sharePoint_le s g est), fun hover hpar => ?_, fun hlt => ?_, fun hsoft hhot =>
    (boundPoint_of_soft g _ hsoft).2 hhot⟩
  · have hexcess : s.overShare g est = true := by rw [State.overShare, hpar, decide_eq_true hover]; rfl
    exact ⟨hshare.trans (sharePoint_of_over hexcess).le, by rw [hexcess, Bool.true_or]⟩
  · obtain ⟨hmay, hfits⟩ := rises_of_lt (hlt.trans_le hshare)
    simp only [State.mayRise, Bool.and_eq_true, decide_eq_true_eq, Bool.not_eq_true'] at hmay
    obtain ⟨⟨⟨-, hbusy⟩, htill⟩, -⟩ := hmay
    refine ⟨of_decide_eq_true hfits, hbusy, htill, Bool.eq_false_iff.mpr fun hsoft => ?_⟩
    exact absurd (boundPoint_of_soft g (s.sharePoint g est) hsoft).1 (not_le.mpr hlt)

end Sys2Proof.Machine
end

section
/-! SUPPORT. The service domain and its managers (R505 to R580). -/
namespace Sys2Proof.Machine

open Sys2Proof

/-! ## Events of the service domain -/

/-- The wipe of the Nest ends: the record of the owner stays where the wipe did not erase it (R564). -/
theorem nestWipeDone_of_wipe {s : State} {erase : Bool} (h : s.svc.wipe = some erase) (hopen : s.svc.openAfter = false) :
    exec .nestWipeDone s = .next ((s.setFlag .NS_STATUS_WIPING 0 0 false).withSvc
      { (s.setFlag .NS_STATUS_WIPING 0 0 false).svc with
        wipe := none
        openAfter := false
        ownerRec := if erase then none else (s.setFlag .NS_STATUS_WIPING 0 0 false).svc.ownerRec }).nestRestore := by
  change execNestWipeDone s = _
  simp only [execNestWipeDone, h, hopen, Bool.false_eq_true, if_false]

/-- A load that no error ends takes the bytes of its image, or waits for the channel behind which they lie (R570, R202). -/
theorem fwLoadDone_of_load {s t : State} {l : FwLoad} {r : SvcRead} (ver : Nat) (hl : s.svc.load = some l) (hm : l.mctp = false)
    (hr : s.svcRead l.addr l.len = (r, t)) :
    (∀ b, r = .bytes b → exec (.fwLoadDone false ver) s = .next (((((t.fwStaged l.image b ver).withSvc
      { (t.fwStaged l.image b ver).svc with load := none }).setFld .SV_FW_LEN_RESULT 0 0 0).setFlag .SV_FW_LEN_GO 0 0 false))) ∧
    (r = .waits → exec (.fwLoadDone false ver) s = .next t) := by
  refine ⟨fun b h => ?_, fun h => ?_⟩
  all_goals
    subst h
    change execFwLoadDone false ver s = _
    simp only [execFwLoadDone, hl, hm, hr, Bool.false_eq_true, if_false]

/-- Up to three entries that the firmware holds go to the shepherd (R568). -/
theorem auditExportPush_of_open {s t : State} {es : List AuditEntry} (hen : s.flag .AU_EXPORT_DEST_EN 0 0 = true)
    (hfw : s.fwDown = false) (hpend : s.audit.pushed < s.audit.mirrored) (hroom : s.audit.flight.length < 64)
    (hes : es = (rangeFrom (s.audit.pushed + 1) (min 3 (s.audit.mirrored - s.audit.pushed))).filterMap s.auditEntry)
    (hsend : s.msgToShepherd (s.fld .AU_EXPORT_DEST_CORE 0 0) (s.fld .AU_EXPORT_DEST_CONTEXT 0 0)
      (bytesOf 8 (2 + 256 * es.length) ++ es.flatMap AuditEntry.all) = (true, t)) :
    exec .auditExportPush s = .next (t.withAudit { t.audit with
      pushed := t.audit.pushed + min 3 (s.audit.mirrored - s.audit.pushed)
      flight := t.audit.flight ++ [t.audit.pushed + min 3 (s.audit.mirrored - s.audit.pushed)] }) := by
  have hn : min 3 (s.audit.mirrored - s.audit.pushed) ≠ 0 := by omega
  change execAuditExportPush s = _
  simp only [execAuditExportPush, hen, hfw, hn, not_le.mpr hroom, Bool.true_eq_false, Bool.false_eq_true, or_self, if_false, ← hes,
    hsend]

/-- Settles O56: the watchdog, tampering, wipes, audit entries and firmware loads, by the lemmas above. -/
theorem serviceEvents : Obligations.ServiceEvents := by
  intro s hon
  refine ⟨congrArg _ (if_pos hon), congrArg _ (if_pos hon), fun erase h hopen => nestWipeDone_of_wipe h hopen, ?mirror,
    fun t es hen hfw hpend hroom hes hsend => auditExportPush_of_open hen hfw hpend hroom hes hsend,
    fun l ver b t hl hm hr => (fwLoadDone_of_load ver hl hm hr).1 b rfl,
    fun l ver t hl hm hr => (fwLoadDone_of_load ver hl hm hr).2 rfl, ?verify⟩
  case mirror =>
    intro hfw hlt
    change execAuditMirror false s = _
    simp only [execAuditMirror, hon, hfw, hlt, and_self, if_true, Bool.false_eq_true, if_false]
  case verify =>
    intro i hi
    constructor
    · change execFwVerifyDone i true s = _
      simp only [execFwVerifyDone, hi, if_true]
    · change execFwVerifyDone i false s = _
      simp only [execFwVerifyDone, hi, if_true, Bool.false_eq_true, if_false]

/-! ## The managers -/

/-- A request over MCTP is served while the firmware runs. -/
theorem exec_of_mctp {s : State} {c : Instr} (serve : State → State) (hc : exec c s = .next (s.mctp serve))
    (hon : s.power.svcOn = true) (hfw : s.fwDown = false) : exec c s = .next (serve s) := by
  rw [hc, mctp_serves hon hfw]

/-- An unlock while the firmware runs (R558, R577). -/
theorem debugUnlock_of_running {s : State} {jtag : Bool} (token : List Byte) (hon : s.power.svcOn = true) (hfw : s.fwDown = false) :
    exec (.debugUnlock jtag token) s = .next (s.unlockBy jtag token) := by
  change execDebugUnlock jtag token s = _
  simp only [execDebugUnlock, hon, hfw, Bool.true_eq_false, Bool.false_eq_true, false_and, if_false, mctp_serves hon hfw]

/-- The first chunk of an image staged by the BMC (R570). -/
theorem fwStage_of_first {s : State} {image : Nat} {chunk : List Byte} (hon : s.power.svcOn = true) (hfw : s.fwDown = false)
    (hlen : chunk.length ≤ 960) (hok : s.fwRefusal image true = 0) :
    exec (.fwStage image 0 chunk) s = .next ((((s.setFwImage image chunk).setFld (fwState image) 0 0 1).withSvc
      { ((s.setFwImage image chunk).setFld (fwState image) 0 0 1).svc with load := some ⟨image, true, 0, 0⟩ }).emit
        (.mctp 0 [])) := by
  have hfits : ¬(960 < chunk.length ∨ 16777216 < 0 + chunk.length) := by omega
  refine (exec_of_mctp _ rfl hon hfw).trans (congrArg Host.Outcome.next ?_)
  rw [if_neg hfits, if_neg (not_not.mpr hok)]
  simp only [if_true]

/-- Settles O57: the commands of the BMC and of JTAG. The order and the bytes of MCTP payloads are the model's choice (log entry
130), and so is the completion code of control messages, a free value (log entry 48). -/
theorem managementCommands : Obligations.ManagementCommands := by
  intro s hon
  refine ⟨?kept, ?busy, ?bmc, ?jtag, ?spiRead, ?spiWrite, ?spiStatus, fun b => congrArg _ (if_pos hon), ?control,
    fun hfw => (exec_of_mctp _ rfl hon hfw).trans rfl, fun hfw => (exec_of_mctp _ rfl hon hfw).trans rfl, ?limit, ?audit,
    fun seq hfw => (exec_of_mctp _ rfl hon hfw).trans rfl, fun image chunk hfw hlen hok => fwStage_of_first hon hfw hlen hok,
    fun hfw => (exec_of_mctp _ rfl hon hfw).trans rfl, ?challenge, ?life⟩
  case kept =>
    intro jtag token hfw hkept
    change execDebugUnlock jtag token s = _
    simp only [execDebugUnlock, hon, hfw, hkept, Bool.true_eq_false, if_false, and_self, if_true]
  case busy =>
    intro hfw
    change execGetIdentity s = _
    simp only [execGetIdentity, State.mctp, hon, hfw, Bool.true_eq_false, if_false, if_true]
  case bmc =>
    intro token ok t hfw h
    rw [debugUnlock_of_running token hon hfw, State.unlockBy]
    simp only [Bool.false_eq_true, if_false, h]
  case jtag =>
    intro token ok t hfw h
    rw [debugUnlock_of_running token hon hfw, State.unlockBy]
    simp only [if_true, h]
  case spiRead =>
    intro addr n coll b t h
    change execSpiRead addr n coll s = _
    simp only [execSpiRead, hon, Bool.true_eq_false, if_false, h]
  case spiWrite => exact fun addr words coll => congrArg _ (if_neg (by simp [hon]))
  case spiStatus => exact congrArg Host.Outcome.next (if_pos hon)
  case control =>
    intro eid c t hfw h
    refine (exec_of_mctp _ rfl hon hfw).trans ?_
    simp only [if_true, h]
  case limit =>
    intro watts i t hfw h
    refine (exec_of_mctp _ rfl hon hfw).trans ?_
    simp only [h]
  case audit =>
    intro seq n hfw hn
    exact (exec_of_mctp _ rfl hon hfw).trans (congrArg Host.Outcome.next (if_neg (not_lt.mpr hn)))
  case challenge =>
    intro b t hfw h
    refine (exec_of_mctp _ rfl hon hfw).trans ?_
    simp only [h]
  case life =>
    intro target auth r t hfw h
    refine (exec_of_mctp _ rfl hon hfw).trans ?_
    simp only [h]

end Sys2Proof.Machine
end

section
/-! SUPPORT. Spare clusters (R584 to R588, R605). -/
namespace Sys2Proof.Machine

open Sys2Proof

/-! ## What an event of the RAS log leaves of the spares' registers -/

/-- The status and the command of a die's spare cluster. -/
def spareReg (id : RegId) : Bool := [RegId.SV_SPARE_STATUS, .SV_SPARE_CMD].any (fun r => r.ctorIdx == id.ctorIdx)

/-- From `s` to `t`, the registers of the spares stay as they are. -/
def KeepsSpares (s t : State) : Prop := ∀ id i j, spareReg id = true → t.reg id i j = s.reg id i j

namespace KeepsSpares
variable {s t : State}

theorem refl (s : State) : KeepsSpares s s := fun _ _ _ _ => rfl

theorem setReg (h : KeepsSpares s t) {id : RegId} {i j : Nat} {v : W64} (hid : spareReg id = false := by rfl) :
    KeepsSpares s (t.setReg id i j v) := fun id' i' j' ht =>
  (reg_setReg_ne t i j i' j' v fun hne => Bool.false_ne_true (hid.symm.trans (by rw [spareReg, hne]; exact ht))).trans (h id' i' j' ht)

theorem setFld (h : KeepsSpares s t) {f : Fld} {i j x : Nat} (hf : spareReg f.id = false := by rfl) :
    KeepsSpares s (t.setFld f i j x) := h.setReg hf

theorem setFlag (h : KeepsSpares s t) {f : Fld} {i j : Nat} {b : Bool} (hf : spareReg f.id = false := by rfl) :
    KeepsSpares s (t.setFlag f i j b) := h.setReg hf

theorem withTm (h : KeepsSpares s t) {x : TmState} : KeepsSpares s (t.withTm x) := h
theorem withHerd (h : KeepsSpares s t) {x : HerdState} : KeepsSpares s (t.withHerd x) := h
theorem emit (h : KeepsSpares s t) {o : Out} : KeepsSpares s (t.emit o) := h

theorem ecc (h : KeepsSpares s t) {d src ev n : Nat} : KeepsSpares s (t.ecc d src ev n) := by
  unfold State.ecc
  split
  · exact h.setFld.setFld
  · exact h.setFld

theorem ueLog (h : KeepsSpares s t) {d addr : Nat} {tag : W32} : KeepsSpares s (t.ueLog d addr tag) := by
  unfold State.ueLog State.ringNext
  dsimp only
  split
  · exact h.setFld.setFld.setFld.setFld.setFld.setFlag
  · exact h.setFld.setFld.setFld.setFld.setFlag

theorem steerWord (h : KeepsSpares s t) {core w : Nat} : KeepsSpares s (t.steerWord core w).2 := by
  unfold State.steerWord State.tallyWord
  extract_lets r
  split
  all_goals dsimp only
  · exact h
  · exact h.ecc
  · exact h.ecc
  · exact h.ecc.ueLog

theorem steerWriteWords (h : KeepsSpares s t) {core : Nat} {ws : List TmWord} : KeepsSpares s (t.steerWriteWords core ws) := by
  refine each_induction ws t h fun w u hu => ?_
  split
  · exact hu.withTm
  · have hr : KeepsSpares s (u.steerWord core (w.addr / 4)).2 := hu.steerWord
    unfold State.steerMerge
    dsimp only
    split
    · split
      · exact hr.withTm
      · exact hr
    · exact hr.withTm

theorem deliverMsg (h : KeepsSpares s t) {n x src : Nat} {payload : List Byte} :
    KeepsSpares s (t.deliverMsg n x src payload).2 := by
  unfold State.deliverMsg State.deliverMsgWords
  dsimp only
  split
  · exact h
  · exact h.steerWriteWords.setFld.setFld

theorem sendFrame (h : KeepsSpares s t) {f : Frame} {u : State} (hu : t.sendFrame f = some u) : KeepsSpares s u := by
  have hoffer : ∀ p g, KeepsSpares s (t.offerFrame p g) := fun p g id i j ht => by
    rcases (show RegId.SV_SPARE_STATUS.ctorIdx = id.ctorIdx ∨ RegId.SV_SPARE_CMD.ctorIdx = id.ctorIdx by
      simpa [spareReg] using ht) with hid | hid
    all_goals exact (reg_offerFrame t p g i j (by rw [logReg, ← hid]; decide)).trans (h id i j ht)
  unfold State.sendFrame at hu
  split at hu
  · cases hu
  · cases hu
  · obtain rfl := Option.some.inj hu
    split
    · exact (hoffer _ _).setFlag
    · exact hoffer _ _

theorem msgToShepherd (h : KeepsSpares s t) {n x : Nat} {payload : List Byte} :
    KeepsSpares s (t.msgToShepherd n x payload).2 := by
  unfold State.msgToShepherd
  split
  · exact h
  · split
    · exact h.deliverMsg
    · dsimp only
      split
      next => exact h
      next u hu => exact (h.sendFrame hu).withHerd

theorem ringNext (h : KeepsSpares s t) {next wraps : Fld} {i n : Nat} {full : Nat → Bool} (hn : spareReg next.id = false := by rfl)
    (hw : spareReg wraps.id = false := by rfl) : KeepsSpares s (t.ringNext next wraps i n full).2 := by
  unfold State.ringNext
  dsimp only
  split
  · exact (h.setFld hn).setFld hw
  · exact h.setFld hn

theorem rasEvent (h : KeepsSpares s t) {kind unit detail : Nat} : KeepsSpares s (t.rasEvent kind unit detail) := by
  have h1 : KeepsSpares s (t.ringNext .SV_RAS_HEAD_NEXT .SV_RAS_HEAD_WRAPS 0 16 (fun k => t.flag .SV_RAS_EVT_VALID k 0)).2 :=
    h.ringNext
  unfold State.rasEvent
  split
  next k s1 hr =>
    rw [hr] at h1
    extract_lets s2 s3 s4 payload
    have h4 : KeepsSpares s s4 := KeepsSpares.setFlag (((((h1.setFld).setReg).setFld).setFld).setFld)
    split
    · have hm : KeepsSpares s (s4.msgToShepherd (s4.fld .PM_ALERT_DEST_CORE 0 0) (s4.fld .PM_ALERT_DEST_CONTEXT 0 0) payload).2 :=
        h4.msgToShepherd
      split
      next u hu =>
        rw [hu] at hm
        exact hm.setFlag
      next u hu =>
        rw [hu] at hm
        exact hm.setFlag
    · exact h4

end KeepsSpares

/-! ## The switch -/

/-- How a migration ends: the spare is free, and its command has its result (R588). -/
def State.spareEnds (s : State) (d r : Nat) : State :=
  ((s.withRas { s.ras with moving := sset (fun _ => 0) s.ras.moving d 0 }).setFld .SV_SPARE_STATUS_STATE d 0 0).spareResult d r

/-- What a migration's end shows of its command, and what events after it leave of that. -/
theorem spareEnds_shows {s t : State} {d r : Nat} (hr : r < 2 ^ 4) (h : KeepsSpares (s.spareEnds d r) t) :
    t.fld .SV_SPARE_STATUS_STATE d 0 = 0 ∧ t.fld .SV_SPARE_CMD_RESULT d 0 = r ∧ t.flag .SV_SPARE_CMD_GO d 0 = false := by
  have hfld : ∀ f, spareReg f.id = true → t.fld f d 0 = (s.spareEnds d r).fld f d 0 := fun f hf => by
    rw [State.fld, State.fld, h f.id d 0 hf]
  rw [State.flag, hfld _ rfl, hfld _ rfl, hfld _ rfl]
  unfold State.spareEnds State.spareResult State.setFlag
  refine ⟨?state, ?result, ?go⟩
  case state =>
    rw [fld_setFld_ne _ _ _ _ _ _ (by decide), fld_setFld_ne _ _ _ _ _ _ (by decide)]
    exact fld_setFld_of_lt (by decide) (by decide)
  case result =>
    rw [fld_setFld_beside _ _ _ _ (by decide) (by decide) (by decide)]
    exact fld_setFld_of_lt (by decide) hr
  case go =>
    rw [fld_setFld_of_lt (by decide) (by decide)]
    rfl

/-- What a migration of logical cluster `l` from `p` to `q` moves before it ends (R586). -/
def State.switched (s : State) (l p q : Nat) : State :=
  let s2 := ((((s.moveMemory p q).moveRegs p q).moveContexts p q).moveLocks p q).setClmap l q
  (((s2.withTm { s2.tm with hold := dropBit s2.tm.hold p }).heldTo p q).serveHeld q).retireCluster p

/-- A migration that no fault ends switches once nothing is in flight at the cluster it leaves (R586). -/
theorem migrateSwitch_of_idle {s : State} {d l p : Nat} (hst : s.spareState d = 4)
    (hl : l = sget (fun _ => 0) s.ras.moving d - 1) (hp : p = s.physCluster l)
    (hfab : s.tm.fab.any (fun (a : FabAcc) => a.c == p) = false) (hblank : s.tm.blanks.any (fun b => b.1 == p) = false) :
    exec (.migrateSwitch d false) s = .next ((((s.switched l p (s.sparePhys d)).spareEnds d 0).setFld .SV_SPARE_FT_FT d 0
      s.now).rasEvent 4 p (s.sparePhys d)) := by
  change execMigrateSwitch d false s = _
  unfold execMigrateSwitch
  rw [if_neg (not_not.mpr hst)]
  simp only [← hl, ← hp, hfab, hblank, Bool.false_eq_true, or_self, if_false]
  rfl

/-- A control fault in the spare ends its migration (R588). -/
theorem migrateSwitch_of_fault {s : State} {d p : Nat} (hst : s.spareState d = 4)
    (hp : p = s.physCluster (sget (fun _ => 0) s.ras.moving d - 1)) :
    exec (.migrateSwitch d true) s = .next ((((((s.withTm { s.tm with hold := dropBit s.tm.hold p }).serveHeld p).retireCluster
      (s.sparePhys d)).spareEnds d 6).rasEvent 3 (s.sparePhys d) 0)) := by
  change execMigrateSwitch d true s = _
  unfold execMigrateSwitch
  rw [if_neg (not_not.mpr hst)]
  simp only [← hp, if_true]
  rfl

/-- Settles O59: a spare is prepared or fails, a migration switches, and a fault in the spare abandons it. -/
theorem spareCommands : Obligations.SpareCommands := by
  intro s d
  refine ⟨fun hst => congrArg _ (if_pos hst), fun hst => congrArg _ (if_pos hst), fun hst hfab hblank => ?switch, fun hst => ?fault⟩
  case switch =>
    exact ⟨_, migrateSwitch_of_idle hst rfl rfl hfab hblank, spareEnds_shows (by decide) ((KeepsSpares.refl _).setFld).rasEvent⟩
  case fault =>
    exact ⟨_, migrateSwitch_of_fault hst rfl, spareEnds_shows (by decide) (KeepsSpares.refl _).rasEvent⟩

end Sys2Proof.Machine
end

section
/-! SUPPORT. What holds of a state through every operation of the model: the stable properties, and the two that are used. -/
namespace Sys2Proof.Machine

open Sys2Proof

/-! ## Sparse memories and masks of bits -/

theorem swfFrom_of_default_eq {α : Type} [DecidableEq α] {d d' : Nat → α} {lo : Nat} {m : Sparse α}
    (h : swfFrom d lo m = true) (hd : ∀ e ∈ m, d' e.1 = d e.1) : swfFrom d' lo m = true := by
  induction m generalizing lo with
  | nil => rfl
  | cons e m ih =>
    obtain ⟨k, v⟩ := e
    simp only [swfFrom, Bool.and_eq_true, decide_eq_true_eq] at h ⊢
    obtain ⟨⟨hlo, hv⟩, hm⟩ := h
    have hk : d' k = d k := hd (k, v) (List.mem_cons_self ..)
    exact ⟨⟨hlo, hk ▸ hv⟩, ih hm fun e he => hd e (List.mem_cons_of_mem _ he)⟩

/-- Without the dropped keys a sparse memory is canonical for every default that differs at those keys only. -/
theorem swf_sdrop_of_default {α : Type} [DecidableEq α] {d d' : Nat → α} {m : Sparse α} {p : Nat → Bool}
    (h : swf d m = true) (hd : ∀ k, p k = false → d' k = d k) : swf d' (sdrop p m) = true :=
  swfFrom_of_default_eq (swf_sdrop p h) fun e he => hd e.1 (by
    obtain ⟨_, hp⟩ := List.mem_filter.1 he
    simpa using hp)

theorem swf_movePlace {α : Type} [DecidableEq α] {d : Nat → α} {n p q : Nat} {m : Sparse α} (h : swf d m = true) :
    swf d (movePlace d n p q m) = true := swf_ssetAll _ (swf_sdrop _ h)

/-- Adding a bit that is not in a mask leaves its other bits. -/
theorem nbit_add_two_pow {b k j : Nat} (hb : nbit b k = false) (hj : j ≠ k) : nbit (b + 2 ^ k) j = nbit b j := by
  simp only [nbit, Nat.testBit_eq_decide_div_mod_eq, decide_eq_false_iff_not, decide_eq_decide] at hb ⊢
  rcases Nat.lt_or_gt_of_ne hj with h | h
  · obtain ⟨e, rfl⟩ := Nat.exists_eq_add_of_lt h
    have he : b + 2 ^ (j + e + 1) = b + 2 ^ j * (2 * 2 ^ e) := by ring
    rw [he, Nat.add_mul_div_left _ _ (Nat.two_pow_pos j)]
    omega
  · obtain ⟨e, rfl⟩ := Nat.exists_eq_add_of_lt h
    have he : 2 ^ (k + e + 1) = 2 ^ k * 2 * 2 ^ e := by ring
    have hk : (b + 2 ^ k) / 2 ^ k = b / 2 ^ k + 1 := Nat.add_div_right _ (Nat.two_pow_pos k)
    rw [he, ← Nat.div_div_eq_div_mul, ← Nat.div_div_eq_div_mul, ← Nat.div_div_eq_div_mul, ← Nat.div_div_eq_div_mul, hk]
    have : (b / 2 ^ k + 1) / 2 = b / 2 ^ k / 2 := by omega
    rw [this]

theorem nbit_sub_two_pow_same {b k : Nat} (hb : nbit b k = true) : nbit (b - 2 ^ k) k = false := by
  have h1 := Nat.add_div_right (b - 2 ^ k) (Nat.two_pow_pos k)
  rw [Nat.sub_add_cancel (Nat.ge_two_pow_of_testBit hb)] at h1
  simp only [nbit, Nat.testBit_eq_decide_div_mod_eq, decide_eq_false_iff_not, decide_eq_true_eq] at hb ⊢
  omega

/-- Taking a bit of a mask away leaves its other bits. -/
theorem nbit_sub_two_pow {b k j : Nat} (hb : nbit b k = true) (hj : j ≠ k) : nbit (b - 2 ^ k) j = nbit b j := by
  have hle : 2 ^ k ≤ b := Nat.ge_two_pow_of_testBit hb
  have := nbit_add_two_pow (nbit_sub_two_pow_same hb) hj
  rwa [Nat.sub_add_cancel hle, eq_comm] at this

theorem satInc_hbm (s : State) (f : Fld) (i j n : Nat) : (s.satInc f i j n).hbm = s.hbm := State.setFld_hbm ..

theorem cntInc_hbm (s : State) (lo hi ov : Fld) (i j n : Nat) : (s.cntInc lo hi ov i j n).hbm = s.hbm := by
  unfold State.cntInc
  extract_lets x s1
  split
  · exact State.setFld_hbm ..
  · rw [State.setFlag_hbm, satInc_hbm]
    exact State.setFld_hbm ..

/-- The default of a sector depends on the bit of its plot alone. -/
theorem hbmDefault_of_nbit_eq {b b' k : Nat} (h : nbit b' (keyPlot k) = nbit b (keyPlot k)) : hbmDefault b' k = hbmDefault b k := by
  unfold hbmDefault
  rw [h]

/-- A mask in which one bit is written anew keeps its other bits. -/
theorem nbit_drop_add {b p q : Nat} (blank : Bool) (hq : q ≠ p) :
    nbit (b - (if nbit b p then 2 ^ p else 0) + (if blank then 2 ^ p else 0)) q = nbit b q := by
  have h0 : nbit (b - (if nbit b p then 2 ^ p else 0)) p = false ∧ nbit (b - (if nbit b p then 2 ^ p else 0)) q = nbit b q := by
    by_cases hb : nbit b p = true
    · simp only [hb, if_true]
      exact ⟨nbit_sub_two_pow_same hb, nbit_sub_two_pow hb hq⟩
    · rw [if_neg hb, Nat.sub_zero]
      exact ⟨Bool.eq_false_iff.2 hb, rfl⟩
  cases blank with
  | false => exact h0.2
  | true => exact (nbit_add_two_pow h0.1 hq).trans h0.2

/-- A mask from which the bits of a stack's plots are taken keeps its other bits. -/
theorem nbit_foldl_drop {b k q : Nat} (l : List Nat) (hq : ∀ j ∈ l, q ≠ 48 * k + j) :
    nbit (l.foldl (fun b j => if nbit b (48 * k + j) then b - 2 ^ (48 * k + j) else b) b) q = nbit b q := by
  induction l generalizing b with
  | nil => rfl
  | cons j l ih =>
    rw [List.foldl_cons, ih fun i hi => hq i (List.mem_cons_of_mem _ hi)]
    split
    next hb => exact nbit_sub_two_pow hb (hq j (List.mem_cons_self ..))
    next => rfl

theorem lcWrite_hbm (s : State) (lo hi : Nat) : (s.lcWrite lo hi).hbm = s.hbm := by
  have hcount : ∀ (l : LcLine) (e n : Nat) (t : State), t.hbm = s.hbm → (t.lcCount l.slice e n).hbm = s.hbm := by
    intro l e n t ht
    unfold State.lcCount
    split
    · exact ht
    · exact (cntInc_hbm t ..).trans ht
  exact each_induction (P := fun t => t.hbm = s.hbm) _ _ rfl fun l t ht => hcount l _ _ t ht

theorem strokeFired_svc (s : State) (i : Nat) : (s.strokeFired i).svc = s.svc := by
  unfold State.strokeFired
  split
  · rw [State.setFlag_svc, State.setFld_svc]
  · rw [State.setFld_svc]

/-! ## Stable properties -/

/-- A property of states that the operations keep where they keep the canonical form of each store, the trip, the rails and clocks,
and the pins of trip and power. -/
structure Stable (P : State → Prop) : Prop where
  regs {s : State} {x : Sparse W64} (h : P s) (hx : swf resetVal s.regs → swf resetVal x) : P (s.withRegs x)
  applied {s : State} {x : Sparse W64} (h : P s) (hx : swf resetVal s.applied → swf resetVal x) : P (s.withApplied x)
  tm {s : State} {x : TmState} (h : P s) (hx : s.tm.ok → x.ok) : P (s.withTm x)
  hbm {s : State} {x : HbmState} (h : P s) (hx : s.hbm.ok → x.ok) : P (s.withHbm x)
  svc {s : State} {x : SvcState} (h : P s) (hx : s.svc.ok → x.ok) : P (s.withSvc x)
  sc {s : State} {x : ScState} (h : P s) (hx : s.sc.ok → x.ok) : P (s.withSc x)
  power {s : State} {x : PowerState} (h : P s) (hrails : x.rails = s.power.rails) (hclocks : x.clocks = s.power.clocks)
    (htrip : x.tripped = s.power.tripped) (hft : x.tripFt = s.power.tripFt) : P (s.withPower x)
  pins {s : State} {x : Pins} (h : P s) (hgood : x.pwrGood = s.pins.pwrGood) (htrip : x.thermtrip = s.pins.thermtrip)
    (hinput : x.p54 = s.pins.p54) : P (s.withPins x)
  shadowPend {s : State} {x : List Nat} (h : P s) : P (s.withShadowPend x)
  pending {s : State} {x : List Instr} (h : P s) : P (s.withPending x)
  out {s : State} {x : List Out} (h : P s) : P (s.withOut x)
  freeIdx {s : State} {x : Nat} (h : P s) : P (s.withFreeIdx x)
  ft {s : State} {x : FtState} (h : P s) : P (s.withFt x)
  audit {s : State} {x : AuditState} (h : P s) : P (s.withAudit x)
  ras {s : State} {x : RasState} (h : P s) : P (s.withRas x)
  mule {s : State} {x : MuleState} (h : P s) : P (s.withMule x)
  lc {s : State} {x : LcState} (h : P s) : P (s.withLc x)
  tr {s : State} {x : TrState} (h : P s) : P (s.withTr x)
  st {s : State} {x : Sparse StCtx} (h : P s) : P (s.withSt x)
  eng {s : State} {x : EngState} (h : P s) : P (s.withEng x)
  hq {s : State} {x : HqState} (h : P s) : P (s.withHq x)
  herd {s : State} {x : HerdState} (h : P s) : P (s.withHerd x)
  pm {s : State} {x : PmState} (h : P s) : P (s.withPm x)

/-- The canonical form is stable. -/
theorem stable_canonical : Stable State.canonical where
  regs h hx := withRegs_canonical h (hx h.1)
  applied h hx := withApplied_canonical h (hx h.2.1)
  tm h hx := withTm_canonical h (hx h.2.2.1)
  hbm h hx := withHbm_canonical h (hx h.2.2.2.1)
  svc h hx := withSvc_canonical h (hx h.2.2.2.2.1)
  sc h hx := withSc_canonical h (hx h.2.2.2.2.2)
  power h _ _ _ _ := h
  pins h _ _ _ := h
  shadowPend h := h
  pending h := h
  out h := h
  freeIdx h := h
  ft h := h
  audit h := h
  ras h := h
  mule h := h
  lc h := h
  tr h := h
  st h := h
  eng h := h
  hq h := h
  herd h := h
  pm h := h

/-- From `s` to `t`, the rails, the clocks, the trip and the pins of trip and power stay as they are. -/
structure SamePower (s t : State) : Prop where
  rails : t.power.rails = s.power.rails
  clocks : t.power.clocks = s.power.clocks
  tripped : t.power.tripped = s.power.tripped
  tripFt : t.power.tripFt = s.power.tripFt
  pwrGood : t.pins.pwrGood = s.pins.pwrGood
  thermtrip : t.pins.thermtrip = s.pins.thermtrip
  p54 : t.pins.p54 = s.pins.p54

/-- The states with the rails, clocks, trip and pins of one state are a stable property. -/
theorem stable_samePower (s : State) : Stable (SamePower s) where
  regs h _ := ⟨h.1, h.2, h.3, h.4, h.5, h.6, h.7⟩
  applied h _ := ⟨h.1, h.2, h.3, h.4, h.5, h.6, h.7⟩
  tm h _ := ⟨h.1, h.2, h.3, h.4, h.5, h.6, h.7⟩
  hbm h _ := ⟨h.1, h.2, h.3, h.4, h.5, h.6, h.7⟩
  svc h _ := ⟨h.1, h.2, h.3, h.4, h.5, h.6, h.7⟩
  sc h _ := ⟨h.1, h.2, h.3, h.4, h.5, h.6, h.7⟩
  power h hrails hclocks htrip hft :=
    ⟨hrails.trans h.1, hclocks.trans h.2, htrip.trans h.3, hft.trans h.4, h.5, h.6, h.7⟩
  pins h hgood htrip hinput := ⟨h.1, h.2, h.3, h.4, hgood.trans h.5, htrip.trans h.6, hinput.trans h.7⟩
  shadowPend h := ⟨h.1, h.2, h.3, h.4, h.5, h.6, h.7⟩
  pending h := ⟨h.1, h.2, h.3, h.4, h.5, h.6, h.7⟩
  out h := ⟨h.1, h.2, h.3, h.4, h.5, h.6, h.7⟩
  freeIdx h := ⟨h.1, h.2, h.3, h.4, h.5, h.6, h.7⟩
  ft h := ⟨h.1, h.2, h.3, h.4, h.5, h.6, h.7⟩
  audit h := ⟨h.1, h.2, h.3, h.4, h.5, h.6, h.7⟩
  ras h := ⟨h.1, h.2, h.3, h.4, h.5, h.6, h.7⟩
  mule h := ⟨h.1, h.2, h.3, h.4, h.5, h.6, h.7⟩
  lc h := ⟨h.1, h.2, h.3, h.4, h.5, h.6, h.7⟩
  tr h := ⟨h.1, h.2, h.3, h.4, h.5, h.6, h.7⟩
  st h := ⟨h.1, h.2, h.3, h.4, h.5, h.6, h.7⟩
  eng h := ⟨h.1, h.2, h.3, h.4, h.5, h.6, h.7⟩
  hq h := ⟨h.1, h.2, h.3, h.4, h.5, h.6, h.7⟩
  herd h := ⟨h.1, h.2, h.3, h.4, h.5, h.6, h.7⟩
  pm h := ⟨h.1, h.2, h.3, h.4, h.5, h.6, h.7⟩

/-- A stable property holds of a state. -/
structure Kept (P : State → Prop) (s : State) : Prop where
  stable : Stable P
  holds : P s

/-- A state in canonical form. -/
theorem State.canonical.kept {s : State} (h : s.canonical) : Kept State.canonical s := ⟨stable_canonical, h⟩

theorem SamePower.refl (s : State) : Kept (SamePower s) s := ⟨stable_samePower s, rfl, rfl, rfl, rfl, rfl, rfl, rfl⟩

/-- What a step leaves, if it leaves a state. -/
def KeptNext (P : State → Prop) : Host.Outcome State Fault Refusal → Prop
  | .next t => Kept P t
  | _ => True

/-- What a Sloak instruction leaves, if it goes on or traps. -/
def KeptOut (P : State → Prop) : SlOut → Prop
  | .done t => Kept P t
  | .trap _ _ _ _ t => Kept P t
  | .stall => True

/-- What a partial operation leaves, where it is defined. -/
def KeptSome (P : State → Prop) : Option State → Prop
  | some t => Kept P t
  | none => True

namespace Kept
variable {P : State → Prop} {s t : State}

theorem of_eq {α : Type} {p : α × State} {a : α} (h : Kept P p.2) (e : p = (a, t)) : Kept P t := by
  rw [e] at h
  exact h

theorem of_eq_fst {α : Type} {p : State × α} {a : α} (h : Kept P p.1) (e : p = (t, a)) : Kept P t := by
  rw [e] at h
  exact h

theorem of_eq_snd {α β : Type} {p : α × β × State} {a : α} {b : β} (h : Kept P p.2.2) (e : p = (a, b, t)) : Kept P t := by
  rw [e] at h
  exact h

theorem of_some {o : Option State} (h : KeptSome P o) (e : o = some t) : Kept P t := by
  rw [e] at h
  exact h

theorem of_done {o : SlOut} (h : KeptOut P o) (e : o = .done t) : Kept P t := by
  rw [e] at h
  exact h

theorem of_trap {o : SlOut} {c i pc : Nat} {tag : W32} (h : KeptOut P o) (e : o = .trap c i tag pc t) : Kept P t := by
  rw [e] at h
  exact h

theorem getD {o : Option State} (h : KeptSome P o) (h' : Kept P t) : Kept P (o.getD t) := by
  cases o with
  | none => exact h'
  | some u => exact h

theorem snd {α : Type} {a : α} (h : Kept P t) : Kept P (a, t).2 := h
theorem fst {α : Type} {a : α} (h : Kept P t) : Kept P (t, a).1 := h

theorem ite {c : Prop} {_ : Decidable c} (h : Kept P s) (h' : Kept P t) : Kept P (if c then s else t) := by
  split
  · exact h
  · exact h'

/-! ## The parts of the state -/

theorem withRegs (h : Kept P s) {x : Sparse W64} (hx : swf resetVal s.regs → swf resetVal x) : Kept P (s.withRegs x) :=
  ⟨h.stable, h.stable.regs h.holds hx⟩

theorem withApplied (h : Kept P s) {x : Sparse W64} (hx : swf resetVal s.applied → swf resetVal x) : Kept P (s.withApplied x) :=
  ⟨h.stable, h.stable.applied h.holds hx⟩

/-! The stores of tensor memory, the stacks, the service domain and the cores change with a proof that they stay canonical
(`withTmOf` and its kin); the updates that leave the stores, or the rails, clocks, trip and pins, name the fields that stay. -/

theorem withTmOf (h : Kept P s) {x : TmState} (hw : swf (fun _ => blankWord) s.tm.words → swf (fun _ => blankWord) x.words)
    (hs : swf (fun _ => blankWord) s.tm.steer → swf (fun _ => blankWord) x.steer)
    (hr : swf (fun _ => (0 : Nat)) s.tm.rowMap → swf (fun _ => (0 : Nat)) x.rowMap) : Kept P (s.withTm x) :=
  ⟨h.stable, h.stable.tm h.holds fun ⟨h1, h2, h3⟩ => ⟨hw h1, hs h2, hr h3⟩⟩

theorem withTm (h : Kept P s) {issues merge returns hot cycBanks cycLost fab fabQ fabHeld blanks nextFab hold refuseNext cntErr
    cntHeld hwZero lockQ lockPtr} : Kept P (s.withTm ⟨s.tm.words, s.tm.steer, s.tm.rowMap, issues, merge, returns, hot, cycBanks,
      cycLost, fab, fabQ, fabHeld, blanks, nextFab, hold, refuseNext, cntErr, cntHeld, hwZero, lockQ, lockPtr⟩) :=
  h.withTmOf id id id

theorem withHbmOf (h : Kept P s) {x : HbmState} (hx : swf (hbmDefault s.hbm.bgBlank) s.hbm.sectors →
    swf (hbmDefault x.bgBlank) x.sectors) : Kept P (s.withHbm x) :=
  ⟨h.stable, h.stable.hbm h.holds hx⟩

theorem withHbm (h : Kept P s) {accs rets nextGroup tlb waits invs acts holds fills rangeFill bad priFail} :
    Kept P (s.withHbm ⟨s.hbm.sectors, s.hbm.bgBlank, accs, rets, nextGroup, tlb, waits, invs, acts, holds, fills, rangeFill, bad,
      priFail⟩) :=
  h.withHbmOf id

theorem withSvcOf (h : Kept P s) {x : SvcState}
    (hn : swf (fun _ => (0 : BitVec 512)) s.svc.nest → swf (fun _ => (0 : BitVec 512)) x.nest)
    (hm : swf (fun _ => (0 : W32)) s.svc.mbx → swf (fun _ => (0 : W32)) x.mbx) : Kept P (s.withSvc x) :=
  ⟨h.stable, h.stable.svc h.holds fun ⟨h1, h2⟩ => ⟨hn h1, hm h2⟩⟩

theorem withSvc (h : Kept P s) {fuse1 fuse2 perm nonce full corrupt wipe openAfter ownerRec meas imgA imgB last bank load eid down
    handover held unlocks} : Kept P (s.withSvc ⟨fuse1, fuse2, perm, nonce, s.svc.nest, full, corrupt, wipe, openAfter, ownerRec,
      meas, imgA, imgB, last, bank, load, s.svc.mbx, eid, down, handover, held, unlocks⟩) :=
  h.withSvcOf id id

theorem withScOf (h : Kept P s) {x : ScState}
    (hg : swf (fun _ => SlG.mk 0 true) s.sc.g → swf (fun _ => SlG.mk 0 true) x.g)
    (hd : swf (fun _ => SlD.mk 0 true) s.sc.d → swf (fun _ => SlD.mk 0 true) x.d)
    (hp : swf (fun _ => SlP.mk false true 0) s.sc.p → swf (fun _ => SlP.mk false true 0) x.p)
    (hpc : swf (fun _ => (0 : Nat)) s.sc.pcs → swf (fun _ => (0 : Nat)) x.pcs) : Kept P (s.withSc x) :=
  ⟨h.stable, h.stable.sc h.holds fun ⟨h1, h2, h3, h4⟩ => ⟨hg h1, hd h2, hp h3, hpc h4⟩⟩

theorem withSc (h : Kept P s) {waits answers} : Kept P (s.withSc ⟨s.sc.g, s.sc.d, s.sc.p, s.sc.pcs, waits, answers⟩) :=
  h.withScOf id id id id

theorem withPower (h : Kept P s) {svcOn clusters spines stackBits coldHeld saving tapReset links thrActive} :
    Kept P (s.withPower ⟨svcOn, s.power.rails, s.power.clocks, clusters, spines, stackBits, s.power.tripped, s.power.tripFt,
      coldHeld, saving, tapReset, links, thrActive⟩) :=
  ⟨h.stable, h.stable.power h.holds rfl rfl rfl rfl⟩

theorem withPins (h : Kept P s) {pwrEn perst0 perst1 tamper regAlert extAlert smbAlert mbxBusy} :
    Kept P (s.withPins ⟨s.pins.p54, pwrEn, perst0, perst1, tamper, regAlert, extAlert, s.pins.pwrGood, s.pins.thermtrip, smbAlert,
      mbxBusy⟩) :=
  ⟨h.stable, h.stable.pins h.holds rfl rfl rfl⟩

theorem withShadowPend (h : Kept P s) {x : List Nat} : Kept P (s.withShadowPend x) := ⟨h.stable, h.stable.shadowPend h.holds⟩
theorem withPending (h : Kept P s) {x : List Instr} : Kept P (s.withPending x) := ⟨h.stable, h.stable.pending h.holds⟩
theorem withOut (h : Kept P s) {x : List Out} : Kept P (s.withOut x) := ⟨h.stable, h.stable.out h.holds⟩
theorem withFreeIdx (h : Kept P s) {x : Nat} : Kept P (s.withFreeIdx x) := ⟨h.stable, h.stable.freeIdx h.holds⟩
theorem withFt (h : Kept P s) {x : FtState} : Kept P (s.withFt x) := ⟨h.stable, h.stable.ft h.holds⟩
theorem withAudit (h : Kept P s) {x : AuditState} : Kept P (s.withAudit x) := ⟨h.stable, h.stable.audit h.holds⟩
theorem withRas (h : Kept P s) {x : RasState} : Kept P (s.withRas x) := ⟨h.stable, h.stable.ras h.holds⟩
theorem withMule (h : Kept P s) {x : MuleState} : Kept P (s.withMule x) := ⟨h.stable, h.stable.mule h.holds⟩
theorem withLc (h : Kept P s) {x : LcState} : Kept P (s.withLc x) := ⟨h.stable, h.stable.lc h.holds⟩
theorem withTr (h : Kept P s) {x : TrState} : Kept P (s.withTr x) := ⟨h.stable, h.stable.tr h.holds⟩
theorem withSt (h : Kept P s) {x : Sparse StCtx} : Kept P (s.withSt x) := ⟨h.stable, h.stable.st h.holds⟩
theorem withEng (h : Kept P s) {x : EngState} : Kept P (s.withEng x) := ⟨h.stable, h.stable.eng h.holds⟩
theorem withHq (h : Kept P s) {x : HqState} : Kept P (s.withHq x) := ⟨h.stable, h.stable.hq h.holds⟩
theorem withHerd (h : Kept P s) {x : HerdState} : Kept P (s.withHerd x) := ⟨h.stable, h.stable.herd h.holds⟩
theorem withPm (h : Kept P s) {x : PmState} : Kept P (s.withPm x) := ⟨h.stable, h.stable.pm h.holds⟩

/-- A store of a canonical form keeps the property whatever it does to power and pins. -/
theorem power (h : Kept State.canonical s) {x : PowerState} : Kept State.canonical (s.withPower x) := ⟨h.stable, h.holds⟩
theorem pins (h : Kept State.canonical s) {x : Pins} : Kept State.canonical (s.withPins x) := ⟨h.stable, h.holds⟩

/-! ## The named operations -/

theorem setReg (h : Kept P s) {id : RegId} {i j : Nat} {v : W64} : Kept P (s.setReg id i j v) := h.withRegs (swf_sset _ _)
theorem setFld (h : Kept P s) {f : Fld} {i j x : Nat} : Kept P (s.setFld f i j x) := h.setReg
theorem setFlag (h : Kept P s) {f : Fld} {i j : Nat} {b : Bool} : Kept P (s.setFlag f i j b) := h.setFld
theorem applyShadow (h : Kept P s) {id : RegId} {i j : Nat} : Kept P (s.applyShadow id i j) :=
  (h.withApplied (swf_sset _ _)).withShadowPend
theorem resetRegs (h : Kept P s) {p : Nat → Bool} : Kept P (s.resetRegs p) :=
  ((h.withRegs (swf_sdrop _)).withApplied (swf_sdrop _)).withShadowPend
theorem setTmRaw (h : Kept P s) {c a : Nat} {w : W40} : Kept P (s.setTmRaw c a w) := h.withTmOf (swf_sset _ _) id id
theorem setSteerRaw (h : Kept P s) {core w : Nat} {x : W40} : Kept P (s.setSteerRaw core w x) := h.withTmOf id (swf_sset _ _) id
theorem steerBlank (h : Kept P s) {core : Nat} : Kept P (s.steerBlank core) :=
  h.withTmOf id (swf_sdrop fun k => k / 131072 == core) id
theorem setSectorRaw (h : Kept P s) {stack pc bank row sec : Nat} {w : W288} : Kept P (s.setSectorRaw stack pc bank row sec w) :=
  h.withHbmOf (swf_sset _ _)
theorem nestPut (h : Kept P s) {slot off : Nat} {v : BitVec 512} : Kept P (s.nestPut slot off v) := h.withSvcOf (swf_sset _ _) id
theorem nestEmpty (h : Kept P s) {slot : Nat} : Kept P (s.nestEmpty slot) := h.withSvcOf (swf_sdrop fun k => k / 64 == slot) id
theorem setMbx (h : Kept P s) {w : Nat} {v : W32} : Kept P (s.setMbx w v) := h.withSvcOf id (swf_sset _ _)

theorem setSlG (h : Kept P s) {core x r : Nat} {v : SlG} : Kept P (s.setSlG core x r v) := by
  unfold State.setSlG
  split
  · exact h
  · exact h.withScOf (swf_sset _ _) id id id

theorem setSlD (h : Kept P s) {core x r : Nat} {v : SlD} : Kept P (s.setSlD core x r v) := h.withScOf id (swf_sset _ _) id id

theorem setSlP (h : Kept P s) {core x r : Nat} {v : SlP} : Kept P (s.setSlP core x r v) := by
  unfold State.setSlP
  split
  · exact h
  · exact h.withScOf id id (swf_sset _ _) id

theorem setSlPc (h : Kept P s) {core x pc : Nat} : Kept P (s.setSlPc core x pc) := h.withScOf id id id (swf_sset _ _)

theorem each {α : Type} (h : Kept P s) {l : List α} {f : α → State → State} (hf : ∀ a t, Kept P t → Kept P (f a t)) :
    Kept P (s.each l f) := each_induction l s h hf

theorem foldl {α : Type} (h : Kept P s) {l : List α} {f : State → α → State} (hf : ∀ a t, Kept P t → Kept P (f t a)) :
    Kept P (l.foldl f s) := each_induction l s h (f := fun a t => f t a) hf

theorem foldl_snd {α β : Type} {l : List α} {f : β × State → α → β × State} {p : β × State} (h : Kept P p.2)
    (hf : ∀ a q, Kept P q.2 → Kept P (f q a).2) : Kept P (l.foldl f p).2 := by
  induction l generalizing p with
  | nil => exact h
  | cons a l ih => exact ih (hf a p h)

end Kept

end Sys2Proof.Machine
end

section
/-! SUPPORT. Stable properties through the register operations: a lemma for each operation, in the order of the model. -/
namespace Sys2Proof.Machine

open Sys2Proof

namespace Kept
variable {P : State → Prop} {s : State}

theorem shadowWait (h : Kept P s) {id : RegId} {i j : Nat} : Kept P (s.shadowWait id i j) :=
  h.withShadowPend

theorem emit (h : Kept P s) {o : Out} : Kept P (s.emit o) :=
  h.withOut

theorem free (h : Kept P s) {w : Nat} : Kept P (s.free w).2 :=
  h.withFreeIdx.snd

theorem satInc (h : Kept P s) {f : Fld} {i j n : Nat} : Kept P (s.satInc f i j n) :=
  h.setFld

theorem wrapInc (h : Kept P s) {f : Fld} {i j n : Nat} : Kept P (s.wrapInc f i j n) :=
  h.setFld

theorem cntInc (h : Kept P s) {cnt wraps ovf : Fld} {i j n : Nat} : Kept P (s.cntInc cnt wraps ovf i j n) := by
  unfold State.cntInc
  extract_lets y s1
  have h1 : Kept P s1 := h.setFld
  split
  · exact h1
  · exact h1.satInc.setFlag

theorem ringNext (h : Kept P s) {next wraps : Fld} {i n : Nat} {full : Nat → Bool} : Kept P (s.ringNext next wraps i n full).2 := by
  unfold State.ringNext
  extract_lets k s1
  have h1 : Kept P s1 := h.setFld
  exact Kept.ite h1.satInc h1

end Kept

end Sys2Proof.Machine
end

section
/-! SUPPORT. Stable properties through the frames of the herd: a lemma for each operation, in the order of the model. -/
namespace Sys2Proof.Machine

open Sys2Proof

namespace Kept
variable {P : State → Prop} {s : State}

theorem setCredits (h' : Kept P s) {p vc sub : Nat} {h : Bool} {n : Nat} : Kept P (s.setCredits p vc sub h n) :=
  h'.withHerd

theorem emitFrame (h : Kept P s) {p : Nat} {f : Frame} : Kept P (s.emitFrame p f) :=
  h.emit.emit

theorem putFrame (h : Kept P s) {p : Nat} {f : Frame} : Kept P (s.putFrame p f) := by
  unfold State.putFrame
  extract_lets s1 s2
  have h1 : Kept P s1 := h.setCredits
  have h2 : Kept P s2 := h1.setCredits
  exact h2.emitFrame.wrapInc

theorem offerFrame (h : Kept P s) {p : Nat} {f : Frame} : Kept P (s.offerFrame p f) := by
  unfold State.offerFrame
  split
  · exact h.emitFrame.wrapInc
  · split
    · exact h.putFrame
    · exact h.withHerd

theorem sendFrame (h : Kept P s) {f : Frame} : KeptSome P (s.sendFrame f) := by
  unfold State.sendFrame
  split
  · exact trivial
  · exact trivial
  · exact Kept.ite h.offerFrame.setFlag h.offerFrame

theorem sendOrDrop (h : Kept P s) {f : Frame} : Kept P (s.sendOrDrop f) :=
  Kept.getD h.sendFrame h

theorem broadcast (h : Kept P s) {type addr arg : Nat} : Kept P (s.broadcast type addr arg) := by
  unfold State.broadcast
  extract_lets q y s0 y' f
  have h0 : Kept P s0 := h.withHerd
  exact h0.each (fun _ _ ht => ht.offerFrame)

end Kept

end Sys2Proof.Machine
end

section
/-! SUPPORT. Stable properties through the audit log: a lemma for each operation, in the order of the model. -/
namespace Sys2Proof.Machine

open Sys2Proof

namespace Kept
variable {P : State → Prop} {s : State}

theorem auditWrite (h : Kept P s) {kind : AuditKind} {a : Acc} {cred obj : Nat} {old new : W64} {code : Nat} :
    Kept P (s.auditWrite kind a cred obj old new code) := by
  unfold State.auditWrite
  extract_lets q e0 e y au
  exact h.withAudit.setFld

theorem auditLimits (h : Kept P s) : Kept P s.auditLimits := by
  unfold State.auditLimits
  extract_lets t y t' s1
  have ht : Kept P t := h.setFlag.auditWrite
  have ht' : Kept P t' := ht.withPins
  have h1 : Kept P s1 := Kept.ite ht'.sendOrDrop h
  split
  · exact h1.setFlag
  · exact h1

theorem auditLog (h : Kept P s) {kind : AuditKind} {a : Acc} {cred obj : Nat} {old new : W64} {code : Nat} :
    Kept P (s.auditLog kind a cred obj old new code) := by
  unfold State.auditLog
  split
  · exact h.satInc
  · exact h.auditWrite.auditLimits

theorem accessErr (h : Kept P s) {a : Acc} {off kind : Nat} {write : Bool} : Kept P (s.accessErr a off kind write) := by
  unfold State.accessErr
  extract_lets s1
  have h1 : Kept P s1 := Kept.ite h h.setFld.setFlag.setFld.setFld.setFlag
  exact h1.satInc

theorem refuseWrite (h : Kept P s) {w : Wr} {off kind : Nat} {old : W64} : Kept P (s.refuseWrite w off kind old) := by
  unfold State.refuseWrite
  extract_lets s1
  have h1 : Kept P s1 := h.accessErr
  split
  · exact h1
  · exact h1.auditLog

theorem auditChange (h : Kept P s) {w : Wr} {off : Nat} {old new : W64} : Kept P (s.auditChange w off old new) :=
  h.auditLog

theorem auditEvent (h : Kept P s) {ev ix : Nat} : Kept P (s.auditEvent ev ix) :=
  h.auditLog

end Kept

end Sys2Proof.Machine
end

section
/-! SUPPORT. Stable properties through fleet time and its commands: a lemma for each operation, in the order of the model. -/
namespace Sys2Proof.Machine

open Sys2Proof

namespace Kept
variable {P : State → Prop} {s : State}

theorem enterHoldover (h : Kept P s) : Kept P s.enterHoldover := by
  unfold State.enterHoldover
  extract_lets s1 y
  have h1 : Kept P s1 := h.setFld.setFld.setFlag
  exact h1.withFt

theorem enterLocked (h : Kept P s) : Kept P s.enterLocked := by
  unfold State.enterLocked
  extract_lets s1 y
  have h1 : Kept P s1 := h.setFld.setFlag
  exact h1.withFt

theorem refJump (h : Kept P s) {lead : ℤ} : Kept P (s.refJump lead) := by
  unfold State.refJump
  extract_lets s1 s2 y
  have h1 : Kept P s1 := h.setFlag.setFlag
  have h2 : Kept P s2 := Kept.ite h1.enterHoldover h1
  exact h2.withFt

theorem initialStep (h : Kept P s) {ref : ℤ} : Kept P (s.initialStep ref) := by
  unfold State.initialStep
  extract_lets r s1 y
  have h1 : Kept P s1 := h.setFld
  split
  · exact h
  · exact h1.withFt

theorem followRef (h : Kept P s) {source : Nat} {off judged limit : ℤ} {need : Nat} :
    Kept P (s.followRef source off judged limit need) := by
  unfold State.followRef
  split
  · exact h.refJump
  · extract_lets run y s1
    have h1 : Kept P s1 := h.setFld.withFt
    split
    · exact h1.enterLocked
    · exact h1

theorem refSample (h : Kept P s) {source : Nat} {ref off judged limit : ℤ} {need : Nat} :
    Kept P (s.refSample source ref off judged limit need) := by
  unfold State.refSample
  split
  · exact h.followRef
  · split
    · exact h.initialStep
    · exact h.followRef

theorem execPtpSync (h : Kept P s) {l2 : Bool} {domain t1 frac utc : Nat} : KeptNext P (execPtpSync l2 domain t1 frac utc s) := by
  unfold Machine.execPtpSync
  show Kept P _
  split
  · extract_lets s1 y t2
    have h1 : Kept P s1 := h.setFld
    split
    · exact h1.withFt
    · extract_lets off f s2
      have h2 : Kept P s2 := h1.withFt
      exact h2.refSample
  · exact h

theorem execPtpDelayResp (h : Kept P s) {t1 t2 t3 t4 : Nat} : KeptNext P (execPtpDelayResp t1 t2 t3 t4 s) := by
  unfold Machine.execPtpDelayResp
  show Kept P _
  split
  · exact h.withFt
  · exact h

theorem execPpsPulse (h : Kept P s) {frac : Nat} : KeptNext P (execPpsPulse frac s) := by
  unfold Machine.execPpsPulse
  show Kept P _
  extract_lets sec ref off y s1 s2 y'
  have h1 : Kept P s1 := h.withFt
  have h2 : Kept P s2 := h1.refSample
  split
  · exact h
  · split
    · split
      · exact h2.withFt
      · exact h2
    · split
      · exact h.withFt
      · exact h

theorem execPpsOutPulse (h : Kept P s) : KeptNext P (execPpsOutPulse s) := by
  unfold Machine.execPpsOutPulse
  show Kept P _
  extract_lets sec y
  split
  · exact h.emit.withFt
  · exact h

theorem setPortTime (h : Kept P s) {p : Nat} {t : PortTime} : Kept P (s.setPortTime p t) :=
  h.withFt

theorem sendDelayReq (h : Kept P s) {p : Nat} : Kept P (s.sendDelayReq p) := by
  unfold State.sendDelayReq
  split
  next _ _ s1 e =>
    have h1 : Kept P s1 := h.free.of_eq e
    extract_lets pt y
    exact h1.setPortTime.offerFrame

theorem execTime (h : Kept P s) {p addr tag arg : Nat} {ok : Bool} {frac : Nat} :
    KeptNext P (execTime p addr tag arg ok frac s) := by
  unfold Machine.execTime
  show Kept P _
  split
  · exact h
  · extract_lets t1 t2 pt s1 off y s2
    have h1 : Kept P s1 := h.setPortTime.sendDelayReq
    have h2 : Kept P s2 := h1.setFld.withFt
    split
    · exact h2.refSample
    · exact h1

theorem execTimeSend (h : Kept P s) : KeptNext P (execTimeSend s) := by
  unfold Machine.execTimeSend
  show Kept P _
  split
  · exact h
  · extract_lets m y f
    exact h.each (fun _ _ hu => hu.offerFrame)

theorem execDelayReq (h : Kept P s) {p frac : Nat} : KeptNext P (execDelayReq p frac s) := by
  unfold Machine.execDelayReq
  show Kept P _
  extract_lets t4 y
  exact h.offerFrame

theorem execDelayResp (h : Kept P s) {p addr tag : Nat} : KeptNext P (execDelayResp p addr tag s) := by
  unfold Machine.execDelayResp
  show Kept P _
  split
  · exact h
  · extract_lets s1 pt t4 d moved stable
    have h1 : Kept P s1 := h.applyShadow
    exact h1.setPortTime

theorem execHoldoverEnter (h : Kept P s) : KeptNext P (execHoldoverEnter s) := by
  unfold Machine.execHoldoverEnter
  show Kept P _
  extract_lets limit
  split
  · exact h.enterHoldover
  · exact h

theorem ftModeChange (h : Kept P s) : Kept P s.ftModeChange := by
  unfold State.ftModeChange
  split
  · extract_lets r m s1 y s2
    have h1 : Kept P s1 := h.setFld.setFld
    have h2 : Kept P s2 := h1.withFt
    split
    · exact h2.enterHoldover
    · exact h2
  · split
    · exact h
    · extract_lets s1 y
      have h1 : Kept P s1 := h.setFld
      exact h1.withFt

theorem armSlot (h : Kept P s) {i : Nat} {a : Acc} {r : StrokeReq} : Kept P (s.armSlot i a r) := by
  unfold State.armSlot
  extract_lets s1 s2 s3 s4 l y
  have h1 : Kept P s1 := h.setFld.setFld
  have h2 : Kept P s2 := h1.setReg
  have h3 : Kept P s3 := h2.setFld.setFld
  have h4 : Kept P s4 := h3.setFld.setFld
  exact h4.withFt

theorem distribute (h : Kept P s) {r : StrokeReq} : Kept P (s.distribute r) := by
  unfold State.distribute
  extract_lets ms s0 y s1
  have h0 : Kept P s0 := h.setReg.setFld
  have h1 : Kept P s1 := h0.withHerd
  exact h1.each (fun _ _ ht => ht.sendOrDrop)

theorem fwVerifyStart (h : Kept P s) {r : StrokeReq} : Kept P (s.fwVerifyStart r) := by
  unfold State.fwVerifyStart
  split
  · exact h
  · extract_lets f
    split
    · exact h.setFld
    · exact h

theorem commitStroke (h : Kept P s) {a : Acc} {r : StrokeReq} : Kept P (s.commitStroke a r).2.2 := by
  unfold State.commitStroke
  split
  · split
    · extract_lets old s1 s2 wide
      have h1 : Kept P s1 := Kept.ite h.setFld h.armSlot.fwVerifyStart
      have h2 : Kept P s2 := h1.auditLog
      split
      · exact Kept.ite h2.distribute h2
      · exact h2
    · split
      · exact Kept.ite h h.auditLog
      · exact h

theorem stageCommit (h : Kept P s) {a : Acc} : Kept P (s.stageCommit a) := by
  unfold State.stageCommit
  extract_lets o
  split
  next _ _ _ s1 e =>
    have h1 : Kept P s1 := h.commitStroke.of_eq_snd e
    extract_lets s2
    have h2 : Kept P s2 := h1.setFld.setFld
    exact h2.setFlag.setFlag

theorem tick (h : Kept P s) : Kept P s.tick := by
  unfold State.tick
  split
  · exact h.setFld
  · exact h

end Kept

end Sys2Proof.Machine
end

section
/-! SUPPORT. Stable properties through tensor memory: a lemma for each operation, in the order of the model. -/
namespace Sys2Proof.Machine

open Sys2Proof

namespace Kept
variable {P : State → Prop} {s : State}

theorem ecc (h : Kept P s) {d src ev n : Nat} : Kept P (s.ecc d src ev n) := by
  unfold State.ecc
  extract_lets s1
  have h1 : Kept P s1 := h.satInc
  split
  · exact h1.satInc
  · exact h1

theorem ueLog (h : Kept P s) {d addr : Nat} {tag : W32} : Kept P (s.ueLog d addr tag) := by
  unfold State.ueLog
  split
  next _ _ s1 e =>
    have h1 : Kept P s1 := h.ringNext.of_eq e
    extract_lets s2
    have h2 : Kept P s2 := h1.setFld.setFld
    exact h2.setFld.setFlag

theorem tallyWord (h : Kept P s) {d src addr : Nat} {k : PoisonKind} {origin : Nat} {w : W40} :
    Kept P (s.tallyWord d src addr k origin w).2 := by
  unfold State.tallyWord
  extract_lets r
  split
  · exact h
  · exact h.ecc.snd
  · exact h.ecc.snd
  · exact h.ecc.ueLog.snd

theorem bite (h : Kept P s) {d point : Nat} : Kept P (s.bite d point) :=
  h.satInc

theorem strikeSpare (h : Kept P s) {key : Nat} : Kept P (s.strikeSpare key) :=
  h.withRas

theorem tallyTm (h : Kept P s) {c a : Nat} {raw : W40} : Kept P (s.tallyTm c a raw).2 := by
  unfold State.tallyTm
  extract_lets m
  split
  next _ _ s1 e =>
    have h1 : Kept P s1 := h.tallyWord.of_eq e
    exact Kept.ite h1.strikeSpare h1

theorem tmFetch (h : Kept P s) {c a : Nat} : Kept P (s.tmFetch c a).2 :=
  h.tallyTm

theorem tmStore (h : Kept P s) {c a : Nat} {p : PW} : Kept P (s.tmStore c a p) :=
  h.setTmRaw

theorem tmRmw (h : Kept P s) {c a mask data : Nat} : Kept P (s.tmRmw c a mask data) := by
  unfold State.tmRmw
  extract_lets r
  split
  · split
    next _ _ s1 e =>
      have h1 : Kept P s1 := h.tmFetch.of_eq e
      exact h1.tmStore.wrapInc
  · split
    next _ _ s1 e =>
      have h1 : Kept P s1 := h.tmFetch.of_eq e
      split
      · exact h1.wrapInc
      · exact h1.tmStore

theorem mapEntry (h : Kept P s) {c port line : Nat} {f : MergeEntry → MergeEntry} : Kept P (s.mapEntry c port line f) :=
  h.withTm

theorem markFlush (h : Kept P s) {p : MergeEntry → Bool} : Kept P (s.markFlush p) :=
  h.withTm

theorem enterWord (h : Kept P s) {c port : Nat} {w : TmWord} : Kept P (s.enterWord c port w).2 := by
  unfold State.enterWord
  split
  · split
    · exact h.mapEntry.snd
    · exact h.markFlush.snd
  · extract_lets mine y
    split
    · exact h.withTm.snd
    · exact h.markFlush.snd

theorem enterWords (h : Kept P s) {c port : Nat} {ws : List TmWord} : Kept P (s.enterWords c port ws).2 := by
  induction ws generalizing s with
  | nil => exact h
  | cons w l ih =>
    unfold State.enterWords
    split
    next _ s1 e =>
      have h1 : Kept P s1 := h.enterWord.of_eq e
      exact ih h1
    next _ s1 e =>
      exact h.enterWord.of_eq e

theorem flushEntry (h : Kept P s) {e : MergeEntry} : Kept P (s.flushEntry e) := by
  unfold State.flushEntry
  extract_lets out rest y s0 s1
  have h0 : Kept P s0 := h.withTm
  have h1 : Kept P s1 := Kept.ite h0.wrapInc h0
  exact h1.each (fun _ _ ht => Kept.ite ht.tmStore ht.tmRmw)

theorem bankWrite (h : Kept P s) {c : Nat} {w : TmWord} : Kept P (s.bankWrite c w) := by
  unfold State.bankWrite
  split
  · exact h.tmStore
  · exact h.tmRmw.wrapInc

theorem mapIssue (h : Kept P s) {c port : Nat} {f : TmIssue → TmIssue} : Kept P (s.mapIssue c port f) :=
  h.withTm

theorem addWrite (h : Kept P s) {c port : Nat} {ws : List TmWord} {acc : Nat} : Kept P (s.addWrite c port ws acc) := by
  unfold State.addWrite
  extract_lets l own s1 s2 narrow full
  have h1 : Kept P s1 := h.each (fun _ _ ht => ht.mapEntry)
  have h2 : Kept P s2 := h1.each (fun _ _ ht => ht.mapEntry)
  split
  next _ _ s3 e =>
    have h3 : Kept P s3 := h2.enterWords.of_eq e
    exact h3.withTm

theorem addIssue (h : Kept P s) {c port : Nat} {write : Bool} {ws : List TmWord} {acc : Nat} :
    Kept P (s.addIssue c port write ws acc) := by
  unfold State.addIssue
  split
  · exact h.addWrite
  · exact h.withTm

theorem pumpFab (h : Kept P s) {c n : Nat} : Kept P (s.pumpFab c n) := by
  induction n generalizing s with
  | zero => exact h
  | succ n ih =>
    unfold State.pumpFab
    split
    · exact h
    · split
      · exact h
      · exact ih h.withTm.addIssue

theorem pump (h : Kept P s) {c : Nat} : Kept P (s.pump c) := by
  unfold State.pump
  extract_lets s1
  have h1 : Kept P s1 := h.each (fun _ _ ht => by
    split
    · exact ht
    · split
      · exact ht
      · split
        next _ _ s3 e =>
          have h3 : Kept P s3 := ht.enterWords.of_eq e
          exact h3.mapIssue)
  exact h1.pumpFab

theorem execPortIssue (h : Kept P s) {c port : Nat} {write : Bool} {ws : List TmWord} :
    KeptNext P (execPortIssue c port write ws s) := by
  unfold Machine.execPortIssue
  show Kept P _
  split
  · split
    · exact h.addIssue
    · exact h
  · split
    · exact h.addIssue
    · exact h

theorem reachBank (h : Kept P s) {c bank : Nat} : Kept P (s.reachBank c bank) := by
  unfold State.reachBank
  exact h.each (fun _ _ ht => by
    split
    · exact ht
    · split
      · split
        · exact ht.markFlush
        · exact ht
      · exact ht)

theorem grantAsk (h : Kept P s) {c : Nat} {a : BankAsk} : Kept P (s.grantAsk c a) := by
  unfold State.grantAsk
  split
  · exact h.flushEntry
  · extract_lets ws s0 got s1 s2
    have h0 : Kept P s0 := h.mapIssue
    have h1 : Kept P s1 := h.mapIssue
    have h2 : Kept P s2 := Kept.ite h1.wrapInc h1
    split
    · exact h0.each (fun _ _ ht => ht.bankWrite)
    · exact h2.markFlush

theorem hotLoss (h : Kept P s) {c bank port : Nat} : Kept P (s.hotLoss c bank port) := by
  unfold State.hotLoss
  extract_lets k h' y
  exact h.withTm

theorem countLost (h : Kept P s) {c port : Nat} : Kept P (s.countLost c port) := by
  unfold State.countLost
  split
  · exact h
  · extract_lets y s1
    have h1 : Kept P s1 := h.withTm
    split
    · exact h1
    · exact h1.wrapInc

theorem countConf (h : Kept P s) {c port n : Nat} : Kept P (s.countConf c port n) := by
  unfold State.countConf
  split
  · exact h
  · exact h.wrapInc

theorem loseCycle (h : Kept P s) {c bank : Nat} {a : BankAsk} : Kept P (s.loseCycle c bank a) := by
  unfold State.loseCycle
  extract_lets s1
  have h1 : Kept P s1 := by
    unfold s1
    split
    · exact h.mapEntry
    · exact h.mapIssue
  exact h1.countLost.hotLoss

theorem settleBank (h : Kept P s) {c bank : Nat} : Kept P (s.settleBank c bank) := by
  unfold State.settleBank
  exact h.each (fun _ _ ht => by
    extract_lets es rs t1 y t2
    have ht1 : Kept P t1 := Kept.ite ht ht.countConf
    have ht2 : Kept P t2 := ht1.withTm
    exact ht2.mapIssue)

theorem bankCycle (h : Kept P s) {c bank : Nat} : Kept P (s.bankCycle c bank) := by
  unfold State.bankCycle
  extract_lets s0 l
  have h0 : Kept P s0 := h.reachBank
  split
  · exact h0
  · extract_lets s1
    have h1 : Kept P s1 := h0.each (fun _ _ ht => ht.loseCycle)
    exact h1.grantAsk.settleBank.pump

theorem newCycle (h : Kept P s) {c : Nat} : Kept P (s.newCycle c) :=
  h.withTm

theorem execBankGrant (h : Kept P s) {c bank : Nat} : KeptNext P (execBankGrant c bank s) := by
  unfold Machine.execBankGrant
  show Kept P _
  split
  · exact h
  · extract_lets s0 y
    have h0 : Kept P s0 := Kept.ite h.newCycle h
    exact h0.withTm.bankCycle

theorem tmCycle (h : Kept P s) {c : Nat} : Kept P (s.tmCycle c) := by
  unfold State.tmCycle
  extract_lets s0
  have h0 : Kept P s0 := h.newCycle
  exact h0.each (fun _ _ ht => ht.bankCycle)

theorem tmUntil (h : Kept P s) {p : State → Bool} {c n : Nat} : Kept P (State.tmUntil p c n s) := by
  induction n generalizing s with
  | zero => exact h
  | succ n ih =>
    unfold State.tmUntil
    split
    · exact h
    · exact ih h.tmCycle.pump

theorem portFree (h : Kept P s) {c port : Nat} : Kept P (s.portFree c port) :=
  h.tmUntil

theorem returnWords (h : Kept P s) {c : Nat} {gs : List TmGot} : Kept P (s.returnWords c gs).2 := by
  induction gs generalizing s with
  | nil => exact h
  | cons g l ih =>
    unfold State.returnWords
    split
    next _ _ s1 e =>
      have h1 : Kept P s1 := h.tallyTm.of_eq e
      split
      next _ _ s2 e' =>
        exact (ih h1).of_eq e'

theorem portIssue1 (h : Kept P s) {c port : Nat} {write : Bool} {ws : List TmWord} : Kept P (s.portIssue1 c port write ws).2 := by
  unfold State.portIssue1
  extract_lets s1 y
  have h1 : Kept P s1 := h.portFree.addIssue.portFree
  split
  · exact h1
  · exact h1.withTm.returnWords

theorem tmWriteAll (h : Kept P s) {c port : Nat} {ws : List TmWord} : Kept P (s.tmWriteAll c port ws) := by
  unfold State.tmWriteAll
  exact h.each (fun _ _ ht => ht.portIssue1)

theorem readLines (h : Kept P s) {c port : Nat} {lines : List (List TmWord)} : Kept P (s.readLines c port lines).2 := by
  induction lines generalizing s with
  | nil => exact h
  | cons l ls ih =>
    unfold State.readLines
    split
    next _ _ s2 e =>
      have h2 : Kept P s2 := h.portIssue1.of_eq e
      split
      next _ _ s2' e' =>
        exact (ih h2).of_eq e'

theorem tmReadN (h : Kept P s) {c port a n : Nat} : Kept P (s.tmReadN c port a n).2 :=
  h.readLines

theorem fencePorts (h : Kept P s) {c : Nat} {ports : List Nat} : Kept P (s.fencePorts c ports) :=
  h.markFlush.tmUntil

theorem flushIf (h : Kept P s) {c : Nat} {p : MergeEntry → Bool} : Kept P (s.flushIf c p) :=
  h.markFlush.tmUntil

theorem placeAccess (h : Kept P s) {c bank row : Nat} : Kept P (s.placeAccess c bank row) := by
  unfold State.placeAccess
  extract_lets s1 i y s2 y'
  have h1 : Kept P s1 := h.portFree
  have h2 : Kept P s2 := h1.withTm.portFree
  exact h2.withTm

theorem execReadReturn (h : Kept P s) {c port : Nat} : KeptNext P (execReadReturn c port s) := by
  unfold Machine.execReadReturn
  show Kept P _
  split
  · exact h
  · split
    next _ _ s2 e =>
      have h2 : Kept P s2 := h.withTm.returnWords.of_eq e
      extract_lets fab y
      exact h2.withTm

theorem execMergeTimeout (h : Kept P s) {c port line : Nat} : KeptNext P (execMergeTimeout c port line s) :=
  h.markFlush

theorem clearPortCounters (h : Kept P s) {c : Nat} : Kept P (s.clearPortCounters c) := by
  unfold State.clearPortCounters
  exact h.each (fun _ _ ht => ht.setFld.setFld)

theorem execHotPeriodEnd (h : Kept P s) {c : Nat} : KeptNext P (execHotPeriodEnd c s) := by
  unfold Machine.execHotPeriodEnd
  show Kept P _
  split
  · exact h
  · extract_lets was s1 y s2 s3
    have h1 : Kept P s1 := by
      unfold s1
      split
      · split
        · split
          next _ _ s1' e =>
            have h1 : Kept P s1' := h.ringNext.of_eq e
            extract_lets t t'
            have ht : Kept P t := h1.setFld.setFld
            have ht' : Kept P t' := ht.setFld.setFld
            exact ht'.setFlag
      · exact h
    have h2 : Kept P s2 := h1.withTm
    have h3 : Kept P s3 := h2.applyShadow
    split
    · exact h3.each (fun _ _ ht => ht.setFlag)
    · exact h3

end Kept

end Sys2Proof.Machine
end

section
/-! SUPPORT. Stable properties through windows and locks: a lemma for each operation, in the order of the model. -/
namespace Sys2Proof.Machine

open Sys2Proof

namespace Kept
variable {P : State → Prop} {s : State}

theorem wnRefuse (h : Kept P s) {c src : Nat} {write : Bool} {off len reason : Nat} :
    Kept P (s.wnRefuse c src write off len reason) := by
  unfold State.wnRefuse
  extract_lets k y s0 s1 s2
  have h0 : Kept P s0 := h.withTm.satInc
  have h1 : Kept P s1 := h0.setFld.setFld
  have h2 : Kept P s2 := h1.setFlag.setFld
  exact h2.setFlag.setFld.setFld

theorem cntUpset (h : Kept P s) {c idx cls : Nat} : Kept P (s.cntUpset c idx cls) :=
  h.withTm

theorem cntMeet (h : Kept P s) {c idx : Nat} : Kept P (s.cntMeet c idx).2 := by
  unfold State.cntMeet
  extract_lets d s1 s2 y s3
  have h1 : Kept P s1 := h.cntUpset
  have h2 : Kept P s2 := h1.setFld.setFlag.setFld
  have h3 : Kept P s3 := h2.withTm
  split
  · exact h
  · exact h1.ecc.snd
  · exact h1.ecc.snd
  · exact h3.ecc.ueLog.snd

theorem postCount (h : Kept P s) {c idx inc : Nat} : Kept P (s.postCount c idx inc) := by
  unfold State.postCount
  split
  next _ s1 e =>
    exact h.cntMeet.of_eq e
  next _ s1 e =>
    have h1 : Kept P s1 := h.cntMeet.of_eq e
    exact h1.setFld

theorem cntWritten (h : Kept P s) {c idx : Nat} : Kept P (s.cntWritten c idx) :=
  h.cntUpset.withTm

theorem postAcc (h : Kept P s) {a : FabAcc} : Kept P (s.postAcc a) := by
  unfold State.postAcc
  split
  · exact h.postCount
  · exact h

theorem fabEnter (h : Kept P s) {a : FabAcc} {cls : Nat} {data : List PW} : Kept P (s.fabEnter a cls data) := by
  unfold State.fabEnter
  extract_lets lines y s1
  have h1 : Kept P s1 := h.withTm
  exact h1.pump

theorem fabDrop (h : Kept P s) {id : Nat} : Kept P (s.fabDrop id) :=
  h.withTm

theorem fabWrite (h : Kept P s) {c cls src vi off len msgs : Nat} {data : List PW} {post : Bool} :
    Kept P (s.fabWrite c cls src vi off len msgs data post).2 := by
  unfold State.fabWrite
  split
  · exact h
  · split
    · exact h
    · split
      · extract_lets r
        exact h.wnRefuse.snd
      · extract_lets a s1 s2
        have h1 : Kept P s1 := h.fabEnter.tmUntil
        have h2 : Kept P s2 := h1.flushIf
        exact (Kept.ite h2.postAcc h2).fabDrop.snd

theorem fabRead (h : Kept P s) {c cls src off len : Nat} : Kept P (s.fabRead c cls src off len).2 := by
  unfold State.fabRead
  split
  · exact h
  · split
    · exact h
    · split
      · extract_lets r
        exact h.wnRefuse.snd
      · extract_lets a s1
        have h1 : Kept P s1 := h.fabEnter.tmUntil
        split
        next _ _ s2 e =>
          have h2 : Kept P s2 := h1.returnWords.of_eq e
          exact h2.fabDrop.snd

theorem fabArrive (h : Kept P s) {c cls src vi : Nat} {write : Bool} {off len : Nat} {data : List PW} {msgs : Nat} :
    Kept P (s.fabArrive c cls src vi write off len data msgs) := by
  unfold State.fabArrive
  split
  · exact h
  · split
    · exact h.withTm
    · split
      · exact h.wnRefuse
      · exact h.fabEnter

theorem execFabAccess (h : Kept P s) {c cls src vi : Nat} {write : Bool} {off len : Nat} {data : List PW} {msgs : Nat} :
    KeptNext P (execFabAccess c cls src vi write off len data msgs s) := by
  unfold Machine.execFabAccess
  show Kept P _
  split
  · exact h
  · exact h.fabArrive

theorem fabFinish (h : Kept P s) {c : Nat} : Kept P (s.fabFinish c) := by
  unfold State.fabFinish
  exact h.each (fun _ _ ht => ht.postAcc.fabDrop)

theorem execWriteCommit (h : Kept P s) {c port : Nat} {upset : List (Nat × Nat)} : KeptNext P (execWriteCommit c port upset s) := by
  unfold Machine.execWriteCommit
  show Kept P _
  extract_lets s0 y s1
  have h0 : Kept P s0 := h.each (fun _ _ ht => ht.cntUpset)
  have h1 : Kept P s1 := by
    unfold s1
    split
    · exact h0
    · extract_lets fab t
      have ht : Kept P t := h0.withTm
      exact ht.markFlush
  split
  · exact h1.fabFinish
  · exact h1

theorem fabMute (h : Kept P s) {mine : FabAcc → Bool} : Kept P (s.fabMute mine) :=
  h.withTm

theorem serveHeld (h : Kept P s) {c : Nat} : Kept P (s.serveHeld c) := by
  unfold State.serveHeld
  extract_lets l y s1
  have h1 : Kept P s1 := h.withTm
  exact h1.each (fun _ _ ht => by
    extract_lets u
    have hu : Kept P u := ht.fabArrive
    split
    · exact hu
    · exact hu.fabMute)

theorem tmBlank (h : Kept P s) {c lo hi : Nat} : Kept P (s.tmBlank c lo hi) := by
  unfold State.tmBlank
  exact h.each (fun _ _ ht => by
    extract_lets u
    have hu : Kept P u := ht.flushIf.placeAccess
    exact hu.each (fun _ _ hv => hv.setTmRaw))

theorem closeViWindows (h : Kept P s) {v : Nat} : Kept P (s.closeViWindows v) := by
  unfold State.closeViWindows
  exact h.each (fun _ _ ht => ht.each (fun _ _ hu => by
    extract_lets u1 y
    have hu1 : Kept P u1 := hu.setFlag
    exact hu1.withTm))

theorem execWindowBlank (h : Kept P s) {c w : Nat} : KeptNext P (execWindowBlank c w s) := by
  unfold Machine.execWindowBlank
  show Kept P _
  split
  · extract_lets b l s1 s2 y s3
    have h1 : Kept P s1 := Kept.ite h.tmBlank h
    have h2 : Kept P s2 := h1.setFld.cntUpset
    have h3 : Kept P s3 := h2.withTm
    split
    · exact h3
    · exact h3.serveHeld
  · exact h

theorem hwRefuse (h : Kept P s) {src : Nat} {write : Bool} {dpa len reason : Nat} :
    Kept P (s.hwRefuse src write dpa len reason) := by
  unfold State.hwRefuse
  extract_lets k y s0 s1 s2
  have h0 : Kept P s0 := h.withTm
  have h1 : Kept P s1 := h0.setFld.setFld
  have h2 : Kept P s2 := h1.setFlag.setFld
  exact h2.setFlag.setFld.setFld

theorem incWindow (h : Kept P s) {c w inc : Nat} : Kept P (s.incWindow c w inc) := by
  unfold State.incWindow
  split
  · exact h.postCount
  · exact h

theorem incHerdWindow (h' : Kept P s) {h inc : Nat} : Kept P (s.incHerdWindow h inc) := by
  unfold State.incHerdWindow
  split
  · exact h'.postCount
  · exact h'

theorem zeroHerd (h : Kept P s) : Kept P s.zeroHerd := by
  unfold State.zeroHerd
  extract_lets l y s1
  have h1 : Kept P s1 := h.withTm
  exact h1.each (fun _ _ ht => by
    extract_lets c k
    exact ht.setFld.cntUpset)

theorem closeViHerdWindows (h : Kept P s) {v : Nat} : Kept P (s.closeViHerdWindows v) := by
  unfold State.closeViHerdWindows
  extract_lets l s1 y
  have h1 : Kept P s1 := h.each (fun _ _ ht => ht.setFlag)
  exact h1.withTm.zeroHerd

theorem lockOp (h : Kept P s) {n : Nat} {o : LockOwner} {unlock : Bool} {err : Nat} : Kept P (s.lockOp n o unlock err).2 := by
  unfold State.lockOp
  extract_lets d w s1 s0
  have h1 : Kept P s1 := h.setFlag.setFlag
  have h0 : Kept P s0 := Kept.ite h h.ecc
  split
  · exact h
  · split
    · exact h1.ecc.ueLog.snd
    · split
      · exact h0
      · split
        · split
          · exact h0.setReg.snd
          · exact h0
        · split
          · split
            · exact h0
            · exact h0
          · split
            · exact h0.setReg.satInc.snd
            · exact h0.setReg.snd

theorem lockServe (h : Kept P s) {q : LockReq} : Kept P (s.lockServe q).2 := by
  unfold State.lockServe
  extract_lets y s1
  have h1 : Kept P s1 := h.withTm
  split
  next _ _ s2 e =>
    have h2 : Kept P s2 := h1.lockOp.of_eq e
    split
    · exact h2
    · exact h2.withSc.snd

theorem lockUntil (h : Kept P s) {fuel : Nat} {q : LockReq} : Kept P (State.lockUntil fuel s q).2 := by
  induction fuel generalizing s with
  | zero => exact h
  | succ k ih =>
    unfold State.lockUntil
    split
    · exact h
    · split
      next _ _ s2 e =>
        have h2 : Kept P s2 := h.lockServe.of_eq e
        split
        · exact h2
        · exact ih h2

theorem lockAnswer (h : Kept P s) {core x rd : Nat} : Kept P (s.lockAnswer core x rd) := by
  unfold State.lockAnswer
  split
  · exact h
  · exact h.lockUntil

theorem lockDrop (h : Kept P s) {p : LockReq → Bool} : Kept P (s.lockDrop p) :=
  h.withTm

theorem releaseLocks (h : Kept P s) {p : LockOwner → Bool} : Kept P (s.releaseLocks p) := by
  have h1 : Kept P (s.each (s.heldLocks p) (fun (d, w) t => (t.setReg .LK_WORD d w
      (lockWord false true (t.flag .LK_WORD_FAULTED d w) ⟨0, 0, 0, 0⟩)).setFlag .LK_EVENT_RESET_RELEASE d 0 true)) :=
    h.each fun _ _ ht => ht.setReg.setFlag
  unfold State.releaseLocks
  dsimp only
  split
  · exact h1
  · exact h1.auditEvent

theorem forceLock (h : Kept P s) {a : Acc} {n : Nat} : Kept P (s.forceLock a n) := by
  unfold State.forceLock
  extract_lets d w old
  exact h.setReg.auditLog

theorem lkForceGo (h : Kept P s) {d : Nat} : Kept P (s.lkForceGo d) :=
  h.setReg.setFlag

theorem wakeLocks (h : Kept P s) {d : Nat} : Kept P (s.wakeLocks d) :=
  h.resetRegs

end Kept

end Sys2Proof.Machine
end

section
/-! SUPPORT. Stable properties through the trough arbiters: a lemma for each operation, in the order of the model. -/
namespace Sys2Proof.Machine

open Sys2Proof

namespace Kept
variable {P : State → Prop} {s : State}

theorem setTrough (h : Kept P s) {arb req : Nat} {v : ℤ} : Kept P (s.setTrough arb req v) :=
  h.setFld

theorem setTrReqs (h : Kept P s) {l : List TrReq} : Kept P (s.setTrReqs l) :=
  h.withTr

theorem trPresent (h : Kept P s) {arb point req cls beats : Nat} {owner : TrOwner} {vi : Nat} :
    Kept P (s.trPresent arb point req cls beats owner vi) := by
  unfold State.trPresent
  split
  · exact h
  · split
    · exact h.setTrReqs
    · exact h.withTr

theorem trCharge (h : Kept P s) {arb req : Nat} : Kept P (s.trCharge arb req) :=
  h.setTrough.cntInc

theorem trDecide (h : Kept P s) {arb point : Nat} : Kept P (s.trDecide arb point) := by
  unfold State.trDecide
  split
  · exact h.setTrReqs.trCharge
  · exact h

theorem trAbandonLog (h : Kept P s) {r : TrReq} : Kept P (s.trAbandonLog r) := by
  unfold State.trAbandonLog
  split
  next _ _ s1 e =>
    have h1 : Kept P s1 := h.ringNext.of_eq e
    extract_lets s2 s3
    have h2 : Kept P s2 := h1.setFld.setReg
    have h3 : Kept P s3 := h2.setFld.setFld.setFld
    exact h3.setFld.setFlag.wrapInc

theorem trDrop (h : Kept P s) {r : TrReq} : Kept P (s.trDrop r) := by
  unfold State.trDrop
  extract_lets s1
  have h1 : Kept P s1 := h.setTrReqs
  split
  · exact h1.trAbandonLog
  · exact h1

theorem trPreempt (h' : Kept P s) {h : TrReq} : Kept P (s.trPreempt h) := by
  unfold State.trPreempt
  split
  · exact h'.trDrop
  · extract_lets s1
    have h1 : Kept P s1 := h'.wrapInc.wrapInc
    exact h1.setTrReqs

theorem trCount (h : Kept P s) {arb point : Nat} : Kept P (s.trCount arb point) := by
  unfold State.trCount
  split
  · exact h
  · extract_lets k y
    exact h.withTr

theorem trCycle (h : Kept P s) {arb point : Nat} : Kept P (s.trCycle arb point) := by
  unfold State.trCycle
  extract_lets l
  split
  · exact h.trDecide
  · extract_lets urgent h1 s1
    have h1' : Kept P s1 := h.setTrReqs
    split
    · split
      · exact h.trPreempt.trDecide
      · exact h
    · split
      · exact h.setTrReqs.trDecide
      · split
        · exact h1'.trPreempt.trDecide
        · exact h1'.trCharge

theorem execArbiterGrant (h : Kept P s) {arb point : Nat} {reqs : List TrAsk} : KeptNext P (execArbiterGrant arb point reqs s) := by
  unfold Machine.execArbiterGrant
  show Kept P _
  split
  · exact h
  · exact (Kept.ite h.trCycle h).trCount.each (fun _ _ ht => by
      split
      · exact ht.trPresent)

theorem trRun (h : Kept P s) {fuel arb point id want : Nat} : Kept P (State.trRun fuel arb point id want s) := by
  induction fuel generalizing s with
  | zero => exact h
  | succ fuel ih =>
    unfold State.trRun
    split
    · exact h
    · split
      · exact h
      · split
        · exact ih h.trDrop
        · exact ih h.trCycle

theorem trMove (h : Kept P s) {arb point req cls : Nat} {owner : TrOwner} {vi : Nat} :
    Kept P (s.trMove arb point req cls owner vi) := by
  unfold State.trMove
  split
  · exact h
  · extract_lets mine known s1 fuel
    have h1 : Kept P s1 := Kept.ite h h.trPresent
    split
    · exact h1
    · exact h1.trRun

theorem trWhole (h : Kept P s) {arb point req cls n : Nat} {owner : TrOwner} {vi : Nat} :
    Kept P (s.trWhole arb point req cls n owner vi) := by
  unfold State.trWhole
  split
  · exact h
  · extract_lets s1
    have h1 : Kept P s1 := h.trPresent
    exact h1.trRun

theorem trBulk (h : Kept P s) {arb req n : Nat} : Kept P (s.trBulk arb req n) := by
  unfold State.trBulk
  split
  · exact h
  · exact h.setTrough.cntInc

theorem trGiveUp (h : Kept P s) {mine : TrReq → Bool} {cause : Nat} : Kept P (s.trGiveUp mine cause) :=
  h.setTrReqs

theorem execTransferAbandon (h : Kept P s) {arb point : Nat} {empty : Bool} :
    KeptNext P (execTransferAbandon arb point empty s) := by
  unfold Machine.execTransferAbandon
  show Kept P _
  split
  · exact h
  · extract_lets s1
    have h1 : Kept P s1 := by
      unfold s1
      split
      · exact h.trDrop
      · exact h
    split
    · exact h1.wrapInc
    · exact h1

theorem execFeedWindow (h : Kept P s) {arb : Nat} {first : List Nat} : KeptNext P (execFeedWindow arb first s) := by
  unfold Machine.execFeedWindow
  show Kept P _
  split
  · exact h
  · extract_lets s1 y
    have h1 : Kept P s1 := h.each (fun _ _ ht => Kept.ite ht.trCycle ht)
    exact (h1.each (fun _ _ ht => by
      extract_lets t1 w charged
      have ht1 : Kept P t1 := ht.applyShadow
      exact ht1.setTrough)).withTr

theorem execArbiterParityError (h : Kept P s) {arb : Nat} {grant : Bool} {ix : Nat} :
    KeptNext P (execArbiterParityError arb grant ix s) := by
  unfold Machine.execArbiterParityError
  show Kept P _
  split
  · exact h
  · split
    · extract_lets s1
      have h1 : Kept P s1 := by
        unfold s1
        split
        · exact h.trPreempt
        · exact h
      exact h1.setFlag
    · exact h.setTrough.setFlag

theorem trClearCounters (h : Kept P s) {arb : Nat} : Kept P (s.trClearCounters arb) :=
  h.resetRegs

theorem trReset (h : Kept P s) {arb : Nat} : Kept P (s.trReset arb) :=
  h.setTrReqs.resetRegs

theorem trStart (h : Kept P s) {arb : Nat} : Kept P (s.trStart arb) :=
  h.withTr

end Kept

end Sys2Proof.Machine
end

section
/-! SUPPORT. Stable properties through stacks and plots: a lemma for each operation, in the order of the model. -/
namespace Sys2Proof.Machine

open Sys2Proof

namespace Kept
variable {P : State → Prop} {s : State}

theorem sectorUe (h : Kept P s) {p pc row sector : Nat} : Kept P (s.sectorUe p pc row sector).2 := by
  unfold State.sectorUe
  extract_lets w s1
  exact h.ecc.ueLog

theorem strikeSector (h : Kept P s) {p pc row sector : Nat} {ue : Bool} : Kept P (s.strikeSector p pc row sector ue) := by
  unfold State.strikeSector
  extract_lets k y
  split
  · exact h.withHbm
  · exact h

theorem readSector (h : Kept P s) {p pc row sector : Nat} : Kept P (s.readSector p pc row sector).2 := by
  unfold State.readSector
  extract_lets stack raw d
  split
  · exact h
  · split
    · exact h.sectorUe
    · split
      · split
        · exact h
        · exact h.ecc.snd
        · exact h.ecc.snd
        · exact h.sectorUe
      · exact h

theorem writeSector (h : Kept P s) {p pc row sector mask : Nat} {data : List PW} :
    Kept P (s.writeSector p pc row sector mask data) := by
  unfold State.writeSector
  extract_lets stack put d s1 old drops s1'
  have hput : ∀ (t : State) (w : W288), Kept P t → Kept P (put t w) := fun _ _ ht => ht.setSectorRaw
  have h1 : Kept P s1 := by
    unfold s1
    split
    · exact h.ecc
    · exact h.ecc
    · exact h
  have h1' : Kept P s1' := Kept.ite h h.ecc
  split
  · split
    · exact hput _ _ h
    · split
      · exact h.sectorUe.ecc
      · split
        · exact h.ecc
        · exact hput _ _ h1
  · exact hput _ _ h1'

theorem lcCount (h : Kept P s) {slice e n : Nat} : Kept P (s.lcCount slice e n) := by
  unfold State.lcCount
  split
  · exact h
  · exact h.cntInc

theorem lcDrop (h : Kept P s) {f : LcLine → Nat} : Kept P (s.lcDrop f) := by
  unfold State.lcDrop
  extract_lets hit y s1
  have h1 : Kept P s1 := h.withLc
  exact h1.each (fun _ _ ht => ht.lcCount)

theorem lcWrite (h : Kept P s) {lo hi : Nat} : Kept P (s.lcWrite lo hi) := by
  unfold State.lcWrite
  extract_lets s1 y
  have h1 : Kept P s1 := h.lcDrop
  exact h1.withLc

theorem plotReadParts (h : Kept P s) {p : Nat} {parts : List SectorPart} : Kept P (s.plotReadParts p parts).2 := by
  induction parts generalizing s with
  | nil => exact h
  | cons q l ih =>
    unfold State.plotReadParts
    extract_lets l
    split
    next _ _ s2 e =>
      have h2 : Kept P s2 := h.readSector.of_eq e
      split
      next _ _ s2' e' =>
        exact (ih h2).of_eq e'

theorem plotReadRange (h : Kept P s) {p off len : Nat} : Kept P (s.plotReadRange p off len).2 := by
  unfold State.plotReadRange
  split
  next _ _ s2 e =>
    have h2 : Kept P s2 := h.plotReadParts.of_eq e
    extract_lets skip n
    exact h2

theorem plotWriteRange (h : Kept P s) {p off len : Nat} {data : List PW} : Kept P (s.plotWriteRange p off len data) := by
  unfold State.plotWriteRange
  exact h.each (fun _ _ ht => by
    extract_lets l
    exact ht.writeSector)

theorem hostWritePieces (h : Kept P s) {fuel req cls : Nat} {owner : TrOwner} {vi port addr len : Nat} {data : List PW} :
    Kept P (State.hostWritePieces fuel s req cls owner vi port addr len data) := by
  induction fuel generalizing s addr len data with
  | zero => exact h
  | succ fuel ih =>
    unfold State.hostWritePieces
    split
    · exact h
    · extract_lets n ws s1 s2
      have h1 : Kept P s1 := (h.each (fun _ _ ht => ht.trMove)).emit
      have h2 : Kept P s2 := Kept.ite h1.bite h1
      exact ih h2

theorem hostWriteAs (h : Kept P s) {req cls : Nat} {owner : TrOwner} {vi port addr len : Nat} {data : List PW} :
    Kept P (s.hostWriteAs req cls owner vi port addr len data) :=
  h.hostWritePieces

theorem hostWrite (h : Kept P s) {port addr len : Nat} {data : List PW} : Kept P (s.hostWrite port addr len data) :=
  h.hostWriteAs

theorem activate (h : Kept P s) {stack pc bank n : Nat} : Kept P (s.activate stack pc bank n) := by
  unfold State.activate
  extract_lets k y
  exact h.withHbm

theorem countExpiry (h : Kept P s) {stack : Nat} : Kept P (s.countExpiry stack) :=
  h.setFld

theorem frontMove (h : Kept P s) {p : Nat} {l : HbmLoc} {f : Front} : Kept P (s.frontMove p l f) :=
  h.trMove

theorem traceAdvance (h : Kept P s) {c : Nat} : Kept P (s.traceAdvance c) := by
  unfold State.traceAdvance
  extract_lets n h' t s1
  have h1 : Kept P s1 := h.setFld
  split
  · exact h1.setFld.satInc
  · exact h1

theorem enqueue (h : Kept P s) {p off len : Nat} {write : Bool} {data : List PW} {f : Front} {inc la : Nat} {phys : Bool} :
    Kept P (s.enqueue p off len write data f inc la phys) := by
  unfold State.enqueue
  extract_lets g s1 s2 y
  have h1 : Kept P s1 := Kept.ite h.lcWrite h
  have h2 : Kept P s2 := h1.each (fun _ _ ht => by
    extract_lets l u y'
    have hu : Kept P u := ht.frontMove
    exact hu.withHbm)
  exact h2.withHbm

theorem traceSend (h : Kept P s) {c : Nat} {rec_ : List Byte} : Kept P (s.traceSend c rec_) := by
  unfold State.traceSend
  extract_lets a lost
  have hlost : Kept P lost := h.satInc
  split
  · split
    · exact h.hostWriteAs.traceAdvance
    · exact hlost
  · split
    · split
      · exact h.enqueue
      · exact hlost
    · exact hlost

theorem tracePump (h : Kept P s) {fuel c : Nat} : Kept P (State.tracePump fuel s c) := by
  induction fuel generalizing s with
  | zero => exact h
  | succ fuel ih =>
    unfold State.tracePump
    split
    · exact h
    · split
      · exact h
      · exact ih h.withFt.traceSend

theorem traceNext (h : Kept P s) {c : Nat} : Kept P (s.traceNext c) :=
  h.tracePump

theorem traceLost (h : Kept P s) {c : Nat} : Kept P (s.traceLost c) :=
  h.satInc.traceNext

theorem groupEnd (h : Kept P s) {a : SectorAcc} : Kept P (s.groupEnd a) := by
  unfold State.groupEnd
  split
  · exact h
  · extract_lets s1
    have h1 : Kept P s1 := by
      unfold s1
      split
      · split
        · exact h.incHerdWindow
        · exact h
      · exact h.traceAdvance.traceNext
      · exact h
    exact h1.zeroHerd

theorem serveAcc (h : Kept P s) {a : SectorAcc} : Kept P (s.serveAcc a) := by
  unfold State.serveAcc
  extract_lets y s1 s2
  have h1 : Kept P s1 := h.withHbm.activate
  have h2 : Kept P s2 := by
    unfold s2
    split
    · exact h1.writeSector
    · split
      next _ _ s2' e =>
        have h2 : Kept P s2' := h1.readSector.of_eq e
        exact h2.withHbm
  exact h2.groupEnd

theorem clearSector (h : Kept P s) {fuel : Nat} {f : Front} {p : Nat} {l : HbmLoc} {write : Bool} :
    Kept P (State.clearSector fuel s f p l write).2 := by
  induction fuel generalizing s with
  | zero => exact h
  | succ fuel ih =>
    unfold State.clearSector
    extract_lets mine ahead
    split
    · exact h
    · split
      · exact h
      · exact ih h.serveAcc

theorem admitParts (h : Kept P s) {f : Front} {p : Nat} {parts : List HbmLoc} {write : Bool} :
    Kept P (s.admitParts f p parts write).2 := by
  unfold State.admitParts
  extract_lets k
  split
  next _ _ t e =>
    have ht : Kept P t := Kept.of_eq (Kept.foldl_snd h (fun _ _ hq => by
      split
      next _ _ t' e' =>
        have ht : Kept P t' := hq.clearSector.of_eq e'
        exact ht)) e
    split
    · exact Kept.snd (ht.each (fun _ _ ht' => by
        extract_lets y u
        have hu : Kept P u := by
          unfold u
          split
          · exact ht'.withHbm
          · exact ht'.frontMove
        exact hu.activate))
    · split
      · exact (ht.each (fun _ _ ht' => by
          split
          · exact ht'.withHbm
          · exact ht')).countExpiry.snd
      · exact Kept.snd (ht.each (fun _ _ ht' => Kept.ite ht' ht'.frontMove.withHbm))

theorem dropOwn (h : Kept P s) {mine : PlotReq → Bool} : Kept P (s.dropOwn mine) :=
  h.withHbm

theorem frontRead (h : Kept P s) {f : Front} {p off len : Nat} : Kept P (s.frontRead f p off len).2 := by
  unfold State.frontRead
  split
  next _ s1 e =>
    have h1 : Kept P s1 := h.admitParts.of_eq e
    split
    next _ _ s2 e' =>
      exact h1.plotReadRange.of_eq e'
  next _ s1 e =>
    exact h.admitParts.of_eq e
  next _ _ s1 e =>
    exact h.admitParts.of_eq e

theorem frontWrite (h : Kept P s) {f : Front} {p off len : Nat} {data : List PW} {inval : Bool} :
    Kept P (s.frontWrite f p off len data inval).2 := by
  unfold State.frontWrite
  split
  · exact h
  · extract_lets s0
    have h0 : Kept P s0 := Kept.ite h.lcWrite h
    split
    next _ s1 e =>
      have h1 : Kept P s1 := h0.admitParts.of_eq e
      exact h1.plotWriteRange.snd
    · exact h0.admitParts

theorem plotFault (h : Kept P s) {addr reason vi : Nat} {write phys : Bool} : Kept P (s.plotFault addr reason vi write phys) := by
  unfold State.plotFault
  split
  next _ _ s1 e =>
    have h1 : Kept P s1 := h.ringNext.of_eq e
    extract_lets s2 s3
    have h2 : Kept P s2 := h1.setFld.setFld
    have h3 : Kept P s3 := h2.setReg.setFld
    exact h3.setFld.setFlag.setFlag.setFlag

theorem readPte (h : Kept P s) {vi a : Nat} : Kept P (s.readPte vi a).2 := by
  unfold State.readPte
  split
  · split
    · split
      next _ _ s1 e =>
        exact h.frontRead.of_eq e
      next _ _ _ s1 _ e =>
        have h1 : Kept P s1 := h.frontRead.of_eq e
        split
        · split
          · exact h1
          · exact h1
        · exact h1
    · exact h
  · exact h

theorem walkFrom (h : Kept P s) {fuel table lvl vi dva : Nat} {write : Bool} :
    Kept P (State.walkFrom fuel s table lvl vi dva write).2 := by
  induction fuel generalizing s table lvl with
  | zero => exact h
  | succ fuel ih =>
    unfold State.walkFrom
    split
    next _ s1 e =>
      exact h.readPte.of_eq e
    next _ _ s1 e =>
      exact h.readPte.of_eq e
    next _ _ s1 e =>
      have h1 : Kept P s1 := h.readPte.of_eq e
      split
      · exact h1
      · exact ih h1

theorem translateTlb (h : Kept P s) {vi dva : Nat} {write : Bool} : Kept P (s.translateTlb vi dva write).2 := by
  unfold State.translateTlb
  split
  · exact h
  · split
    · split
      · exact h
      · split
        · exact h
        · exact h
    · extract_lets root
      split
      next _ _ _ s1 e =>
        have h1 : Kept P s1 := h.walkFrom.of_eq e
        exact h1.withHbm.snd
      next _ _ _ s1 e =>
        have h1 : Kept P s1 := h.walkFrom.of_eq e
        exact h1.withHbm.snd
      · exact h.walkFrom

theorem atsUse (h : Kept P s) {vi a : Nat} : Kept P (s.atsUse vi a) := by
  unfold State.atsUse
  split
  · extract_lets d y rest mine s1 y'
    have h1 : Kept P s1 := Kept.ite h h.trMove.emit
    exact h1.withHq
  · exact h

theorem translate (h : Kept P s) {vi dva : Nat} {write : Bool} : Kept P (s.translate vi dva write).2 := by
  unfold State.translate
  split
  next _ _ _ s1 e =>
    have h1 : Kept P s1 := h.translateTlb.of_eq e
    exact h1.atsUse.snd
  · exact h.translateTlb

theorem sendPages (h : Kept P s) {vi : Nat} : Kept P (s.sendPages vi) := by
  unfold State.sendPages
  exact h.each (fun _ _ ht => by
    extract_lets mine same pages since y t1 port
    have ht1 : Kept P t1 := ht.withHbm
    split
    · exact ht
    · split
      · exact ht
      · split
        · exact ht1
        · exact ht1.trMove.emit)

theorem askPage (h : Kept P s) {w : PageWait} : Kept P (s.askPage w) :=
  h.withHbm.sendPages

theorem reach (h : Kept P s) {vi dva : Nat} {write : Bool} {req : PlotReq} : Kept P (s.reach vi dva write req).2 := by
  unfold State.reach
  split
  · exact h.withHbm.snd
  · split
    · exact h
    · split
      next _ s1 e =>
        have h1 : Kept P s1 := h.translate.of_eq e
        exact h1.askPage.snd
      next _ _ s1 e =>
        have h1 : Kept P s1 := h.translate.of_eq e
        exact h1.plotFault.snd
      · exact h.translate

theorem dropPages (h : Kept P s) {mine : PlotReq → Bool} : Kept P (s.dropPages mine) :=
  h.withHbm

theorem memFault (h : Kept P s) {m : MemReq} {reason : Nat} {write : Bool} : Kept P (s.memFault m reason write) :=
  h.plotFault

theorem physRead (h : Kept P s) {m : MemReq} {addr len : Nat} : Kept P (s.physRead m addr len).2 := by
  unfold State.physRead
  split
  · exact h.memFault.snd
  · split
    next _ _ s1 e =>
      exact h.fabRead.of_eq e
  · split
    · exact h.memFault.snd
    · split
      next _ _ _ s1 e =>
        exact h.frontRead.of_eq e

theorem physWrite (h : Kept P s) {m : MemReq} {addr len msgs : Nat} {data : List PW} {inval : Bool} :
    Kept P (s.physWrite m addr len msgs data inval).2 := by
  unfold State.physWrite
  split
  · exact h.memFault.snd
  · split
    next _ _ s1 e =>
      exact h.fabWrite.of_eq e
  · split
    · exact h.memFault.snd
    · split
      next _ _ s1 e =>
        exact h.frontWrite.of_eq e

theorem fillRange (h : Kept P s) {p lo hi : Nat} {w : W288} : Kept P (s.fillRange p lo hi w) := by
  unfold State.fillRange
  extract_lets d inRange s0 y s1
  have h0 : Kept P s0 := h.lcWrite
  have h1 : Kept P s1 := h0.withHbmOf (swf_sdrop inRange)
  split
  · exact h1
  · exact h1.each (fun _ _ ht => by
      extract_lets l
      exact ht.setSectorRaw)

theorem startFill (h : Kept P s) {p : Nat} : Kept P (s.startFill p) := by
  unfold State.startFill
  extract_lets s1 y
  have h1 : Kept P s1 := h.setFld.setFld
  exact h1.withHbm

theorem endFill (h : Kept P s) {p : Nat} : Kept P (s.endFill p) := by
  unfold State.endFill
  extract_lets k j blank bg0 s0 y s1
  have h0 : Kept P s0 := h.lcWrite
  have hbm : s0.hbm.bgBlank = s.hbm.bgBlank := congrArg HbmState.bgBlank (lcWrite_hbm ..)
  have h1 : Kept P s1 := h0.withHbmOf fun h => swf_sdrop_of_default (p := fun x => keyPlot x == p) h fun x hx =>
    hbmDefault_of_nbit_eq (by
      rw [hbm]
      exact nbit_drop_add blank (by simpa using hx))
  exact h1.setFld.setFlag.setFld

theorem fillRows (h : Kept P s) {p lo hi : Nat} : Kept P (s.fillRows p lo hi) := by
  unfold State.fillRows
  extract_lets k s1 s2 y
  have h1 : Kept P s1 := h.trBulk.setFld
  have h2 : Kept P s2 := h1.each (fun _ _ ht => ht.activate)
  exact h2.withHbm

theorem execPlotFillDone (h : Kept P s) {p row : Nat} : KeptNext P (execPlotFillDone p row s) := by
  unfold Machine.execPlotFillDone
  show Kept P _
  split
  · exact h
  · split
    · exact h
    · split
      · exact h.fillRows
      · exact h.fillRows.endFill

theorem rangeFillGo (h : Kept P s) {k : Nat} : Kept P (s.rangeFillGo k) := by
  unfold State.rangeFillGo
  extract_lets p y
  split
  · exact h.setFld
  · split
    · exact h.setFld.setFlag
    · split
      · exact h.setFld.setFlag
      · exact h.withHbm.setFlag

theorem fillClear (h : Kept P s) {p : Nat} {l : HbmLoc} : Kept P (s.fillClear p l).2 :=
  h.clearSector

theorem fillSectors (h : Kept P s) {k p lo hi : Nat} : Kept P (s.fillSectors k p lo hi) := by
  unfold State.fillSectors
  extract_lets cls prot w s1
  have h1 : Kept P s1 := h.each (fun _ _ ht => by
    extract_lets l u
    have hu : Kept P u := ht.trMove
    split
    · exact hu.activate
    · exact hu)
  split
  · exact h1.fillRange
  · exact h1

theorem execRangeFillDone (h : Kept P s) {k upto : Nat} : KeptNext P (execRangeFillDone k upto s) := by
  unfold Machine.execRangeFillDone
  show Kept P _
  split
  · exact h
  · extract_lets p last fin hi locs
    have hfin : ∀ (t : State) (r : Nat), Kept P t → Kept P (fin t r) := fun _ _ ht => ht.withHbm.setFld.setFlag
    split
    · exact hfin _ _ h
    · split
      · exact hfin _ _ h
      · split
        · exact h
        · split
          next _ _ t e =>
            have ht : Kept P t := Kept.of_eq (Kept.foldl_snd h (fun _ _ hq => by
              split
              next _ _ t' e' =>
                have ht : Kept P t' := hq.fillClear.of_eq e'
                exact ht)) e
            split
            · exact ht
            · extract_lets s2 y
              have h2 : Kept P s2 := ht.fillSectors
              split
              · exact hfin _ _ h2
              · exact h2.withHbm

theorem retireGen (h : Kept P s) {tset gen : Nat} : Kept P (s.retireGen tset gen) := by
  unfold State.retireGen
  exact h.each (fun _ _ ht => by
    extract_lets k j
    split
    · exact ht.setFlag
    · exact ht)

theorem plotArrive (h : Kept P s) {addr len : Nat} {write : Bool} {data : List PW} {vi : Nat} {phys : Bool}
    {pin : Option (Nat × Nat)} {req : PlotReq} {la : Nat} : Kept P (s.plotArrive addr len write data vi phys pin req la) := by
  unfold State.plotArrive
  extract_lets f v
  split
  · exact h.plotFault
  · split
    · split
      · exact h
      · exact h.fabArrive
    · exact h
  · extract_lets refused inc
    split
    · split
      · exact h.hwRefuse
      · exact h
    · split
      · exact h.plotFault
      · split
        · exact h.plotFault
        · split
          · exact h
          · split
            · exact h
            · exact h.enqueue

theorem virtArrive (h : Kept P s) {vi dva len : Nat} {write : Bool} {data : List PW} {pin : Option (Nat × Nat)} {req : PlotReq} :
    Kept P (s.virtArrive vi dva len write data pin req) := by
  unfold State.virtArrive
  split
  next _ _ _ s1 e =>
    have h1 : Kept P s1 := h.translate.of_eq e
    exact h1.plotArrive
  next _ _ _ s1 e =>
    have h1 : Kept P s1 := h.translate.of_eq e
    split
    · exact h1
    · split
      · exact h1.hostWrite
      · exact h1.emit
  next _ s1 e =>
    have h1 : Kept P s1 := h.translate.of_eq e
    split
    · exact h1
    · exact h1.askPage
  next _ s1 e =>
    exact h.translate.of_eq e
  next _ _ s1 e =>
    have h1 : Kept P s1 := h.translate.of_eq e
    exact h1.plotFault

theorem execPlotAccess (h : Kept P s) {phys : Bool} {addr len : Nat} {write : Bool} {data : List PW} {vi : Nat}
    {pin : Option (Nat × Nat)} {req : PlotReq} : KeptNext P (execPlotAccess phys addr len write data vi pin req s) := by
  unfold Machine.execPlotAccess
  show Kept P _
  split
  · exact h.plotArrive
  · exact h.virtArrive

theorem pageFail (h : Kept P s) {w : PageWait} {reason : Nat} : Kept P (s.pageFail w reason) := by
  unfold State.pageFail
  extract_lets s1 y
  have h1 : Kept P s1 := h.plotFault
  split
  · exact h1.withHbm
  · exact h1

theorem execPriResponse (h : Kept P s) {vi page : Nat} {ok : Bool} : KeptNext P (execPriResponse vi page ok s) := by
  unfold Machine.execPriResponse
  show Kept P _
  extract_lets mine y s1
  have h1 : Kept P s1 := h.withHbm
  split
  · exact h1.sendPages
  · exact (h1.each (fun _ _ ht => Kept.ite (by
        split
        next _ t1 e =>
          have ht1 : Kept P t1 := ht.translate.of_eq e
          exact ht1.pageFail
        next _ _ t1 _ e =>
          have ht1 : Kept P t1 := ht.translate.of_eq e
          split
          · exact ht1
          · exact ht1.virtArrive) ht.pageFail)).sendPages

theorem execPriTimeout (h : Kept P s) {vi page : Nat} : KeptNext P (execPriTimeout vi page s) := by
  unfold Machine.execPriTimeout
  show Kept P _
  extract_lets limit due mine y s1
  have h1 : Kept P s1 := h.withHbm
  exact (h1.each (fun _ _ ht => ht.pageFail)).sendPages

theorem tlbInvGo (h : Kept P s) : Kept P s.tlbInvGo := by
  unfold State.tlbInvGo
  extract_lets v all lo n s1 hit y
  have h1 : Kept P s1 := h.applyShadow
  exact h1.withHbm

theorem execTlbInvDone (h : Kept P s) : KeptNext P (execTlbInvDone s) := by
  unfold Machine.execTlbInvDone
  show Kept P _
  split
  · exact h
  · exact h.withHbm.setFlag

theorem holdBank (h : Kept P s) {stack pc bank : Nat} : Kept P (s.holdBank stack pc bank) := by
  unfold State.holdBank
  extract_lets mine from_ y
  exact h.withHbm

theorem execRefresh (h : Kept P s) {stack pc bank : Nat} : KeptNext P (execRefresh stack pc bank s) := by
  unfold Machine.execRefresh
  show Kept P _
  split
  · exact h.holdBank
  · exact h

theorem execRefreshManagement (h : Kept P s) {stack pc bank : Nat} : KeptNext P (execRefreshManagement stack pc bank s) := by
  unfold Machine.execRefreshManagement
  show Kept P _
  extract_lets k s1 y
  have h1 : Kept P s1 := h.holdBank
  split
  · exact h1.withHbm
  · exact h

theorem serveForward (h : Kept P s) {a : SectorAcc} : Kept P (s.serveForward a) := by
  unfold State.serveForward
  extract_lets y s1 later ws s2 y'
  have h1 : Kept P s1 := h.withHbm.activate
  have hlater : Kept P later := h1.each (fun _ _ ht => ht.writeSector)
  have h2 : Kept P s2 := h1.readSector
  exact h2.withHbm.groupEnd

theorem execHbmAccess (h : Kept P s) {group : Nat} {ue : Bool} : KeptNext P (execHbmAccess group ue s) := by
  unfold Machine.execHbmAccess
  show Kept P _
  split
  · exact h
  · split
    · exact h
    · extract_lets t
      have ht : Kept P t := h.strikeSector
      split
      · exact ht.serveForward
      · exact ht.serveAcc

theorem chanRelease (h : Kept P s) {stack pc : Nat} : Kept P (s.chanRelease stack pc) := by
  unfold State.chanRelease
  extract_lets here gone dead y s1 s2
  have h1 : Kept P s1 := h.setFld.withHbm
  have h2 : Kept P s2 := h1.each (fun _ _ ht => ht.plotFault)
  exact h2.each (fun _ _ ht => Kept.ite ht ht.serveAcc)

theorem clearStack (h : Kept P s) {k : Nat} : Kept P (s.clearStack k) := by
  unfold State.clearStack
  extract_lets mine y s1 lost s2
  have hbg : ∀ x, mine (keyPlot x) = false → nbit ((List.range 48).foldl (fun b j =>
      if nbit b (48 * k + j) then b - 2 ^ (48 * k + j) else b) s.hbm.bgBlank) (keyPlot x) = nbit s.hbm.bgBlank (keyPlot x) := fun x
          hx =>
    nbit_foldl_drop _ fun j hj he => by
      have hk : ¬ keyPlot x / 48 = k := by simpa [mine, plotStack] using hx
      have := List.mem_range.1 hj
      omega
  have h1 : Kept P s1 := h.withHbmOf fun h => swf_sdrop_of_default (p := fun x => mine (keyPlot x)) h fun x hx =>
    hbmDefault_of_nbit_eq (hbg x hx)
  have h2 : Kept P s2 := h1.resetRegs
  exact h2.each (fun _ _ ht => ht.traceLost)

end Kept

end Sys2Proof.Machine
end

section
/-! SUPPORT. Stable properties through the mules: a lemma for each operation, in the order of the model. -/
namespace Sys2Proof.Machine

open Sys2Proof

namespace Kept
variable {P : State → Prop} {s : State}

theorem setMuQueue (h : Kept P s) {stack pc : Nat} {q : List MuleCmd} : Kept P (s.setMuQueue stack pc q) :=
  h.withMule

theorem muStat (h : Kept P s) {stack status op pc window tag rows : Nat} :
    Kept P (s.muStat stack status op pc window tag rows) := by
  unfold State.muStat
  split
  next _ _ s1 e =>
    have h1 : Kept P s1 := h.ringNext.of_eq e
    extract_lets s2 s3 s4
    have h2 : Kept P s2 := h1.setFld.setReg
    have h3 : Kept P s3 := h2.setFld.setFld.setFld
    have h4 : Kept P s4 := h3.setFld.setFld.setFld
    exact h4.setFlag

theorem muPost (h : Kept P s) {d : BitVec 256} : Kept P (s.muPost d) := by
  unfold State.muPost
  split
  · extract_lets c
    split
    · exact h.postCount
    · exact h
  · exact h

theorem muFinish (h : Kept P s) {stack pc : Nat} {m : MuleCmd} {status : Nat} : Kept P (s.muFinish stack pc m status) :=
  h.muStat.muPost

theorem setSuspect (h : Kept P s) {stack pc bank row status : Nat} : Kept P (s.setSuspect stack pc bank row status) := by
  unfold State.setSuspect
  split
  · split
    · exact h
    · exact h.setFlag
  · extract_lets s1
    have h1 : Kept P s1 := h.setReg.setFld.setFld
    exact h1.setFld.setFlag

theorem muSettle (h : Kept P s) {w : Nat} : Kept P (s.muSettle w) := by
  unfold State.muSettle
  split
  · exact h.setFld
  · exact h

theorem muOpen (h : Kept P s) {w : Nat} : Kept P (s.muOpen w).2 := by
  unfold State.muOpen
  extract_lets st k s1
  have h1 : Kept P s1 := h.applyShadow.setFld
  split
  · exact h
  · exact Kept.snd (h1.each (fun _ _ ht => by
      extract_lets t1
      have ht1 : Kept P t1 := ht.setFld.setFld
      exact ht1.setFld.setFld))

theorem muDiscard (h : Kept P s) {stack pc status : Nat} : Kept P (s.muDiscard stack pc status) := by
  unfold State.muDiscard
  extract_lets q s1
  have h1 : Kept P s1 := h.setMuQueue
  exact h1.each (fun _ _ ht => ht.muFinish)

theorem muClose (h : Kept P s) {w status : Nat} : Kept P (s.muClose w status).2 := by
  unfold State.muClose
  split
  · exact h
  · extract_lets k s1 s2
    have h1 : Kept P s1 := h.setFld
    have h2 : Kept P s2 := h1.each (fun _ _ ht => ht.setFld.muDiscard)
    exact h2.muSettle.snd

theorem muCharge (h : Kept P s) {stack pc bank n : Nat} : Kept P (s.muCharge stack pc bank n) := by
  unfold State.muCharge
  extract_lets s1 y
  have h1 : Kept P s1 := h.activate
  exact h1.withMule

theorem putRow (h : Kept P s) {stack pc bank row n : Nat} {f : Nat → Nat} : Kept P (s.putRow stack pc bank row n f) := by
  unfold State.putRow
  exact h.each (fun _ _ ht => ht.setSectorRaw)

theorem muWriteRow (h : Kept P s) {op : MuleOp} {d : BitVec 256} {stack pc k i n : Nat} :
    Kept P (s.muWriteRow op d stack pc k i n) := by
  unfold State.muWriteRow
  split
  · extract_lets pat
    exact h.putRow

theorem muRowStep (h : Kept P s) {op : MuleOp} {d : BitVec 256} {stack pc k i : Nat} : Kept P (s.muRowStep op d stack pc k i) := by
  unfold State.muRowStep
  split
  · extract_lets s2
    have h2 : Kept P s2 := h.muWriteRow.muCharge
    split
    · exact h2.muCharge
    · exact h2

theorem muStopStack (h : Kept P s) {k : Nat} : Kept P (s.muStopStack k) := by
  unfold State.muStopStack
  exact h.each (fun _ _ ht => by
    extract_lets u
    have hu : Kept P u := ht.muClose
    exact hu.each (fun _ _ hv => by
      split
      · split
        · exact hv.setMuQueue
        · exact hv
      · exact hv))

theorem muAbandonRow (h : Kept P s) {stack pc : Nat} : Kept P (s.muAbandonRow stack pc) := by
  unfold State.muAbandonRow
  split
  · exact h
  · split
    · split
      · extract_lets k
        split
        next _ _ s1 e =>
          have h1 : Kept P s1 := h.free.of_eq e
          extract_lets n s2
          have h2 : Kept P s2 := h1.muWriteRow
          split
          · split
            · exact h2
            · exact h2.setSuspect
      · exact h
    · exact h

theorem muAbandon (h : Kept P s) {w : Nat} : Kept P (s.muAbandon w) := by
  unfold State.muAbandon
  extract_lets k
  exact (h.each (fun _ _ ht => ht.muAbandonRow.setMuQueue.chanRelease)).setFld

theorem muViReset (h : Kept P s) {v : Nat} : Kept P (s.muViReset v) := by
  unfold State.muViReset
  exact h.each (fun _ _ ht => ht.muAbandon)

theorem muStackGone (h : Kept P s) {k : Nat} : Kept P (s.muStackGone k) := by
  unfold State.muStackGone
  exact h.each (fun _ _ ht => ht.muAbandon)

theorem muWinAct (h : Kept P s) {d : BitVec 256} : Kept P (s.muWinAct d) := by
  unfold State.muWinAct
  extract_lets w
  split
  next _ _ s1 e =>
    have h1 : Kept P s1 := Kept.of_eq (by
      split
      · exact h.muOpen
      · exact h.muClose) e
    exact h1.muStat.muPost

theorem muWinCommand (h : Kept P s) {d : BitVec 256} : Kept P (s.muWinCommand d) := by
  unfold State.muWinCommand
  split
  · exact h.withMule
  · exact h.muWinAct

theorem muIssue (h : Kept P s) {d : BitVec 256} {vi : Nat} {svc : Bool} {core : Option Nat} :
    Kept P (s.muIssue d vi svc core).2 := by
  unfold State.muIssue
  extract_lets w k q
  split
  · exact Kept.ite h.muWinCommand h
  · split
    · exact h
    · exact h.setMuQueue.snd

theorem execWinopen (h : Kept P s) {d : BitVec 256} {vi : Nat} {svc : Bool} : KeptNext P (execWinopen d vi svc s) := by
  unfold Machine.execWinopen
  show Kept P _
  split
  · exact h.muWinCommand
  · exact h

theorem execWinclose (h : Kept P s) {d : BitVec 256} {vi : Nat} {svc : Bool} : KeptNext P (execWinclose d vi svc s) := by
  unfold Machine.execWinclose
  show Kept P _
  split
  · exact h.muWinCommand
  · exact h

/-- The function is replaced by its body as a whole: the kernel would evaluate the descriptor to compare the applied forms. -/
theorem muCmdGo (h : Kept P s) {vi : Nat} {svc : Bool} : Kept P (s.muCmdGo vi svc) := by
  have hgo : ∃ f, @State.muCmdGo = f ∧ Kept P (f s vi svc) := by
    refine ⟨?f, ?eq, ?kept⟩
    case eq =>
      delta State.muCmdGo
      exact rfl
    extract_lets d
    clear_value d
    split
    next _ _ s1 e =>
      have h1 : Kept P s1 := h.muIssue.of_eq e
      exact h1.setFld.setFlag
  obtain ⟨f, rfl, hf⟩ := hgo
  exact hf

theorem muWinCmd (h : Kept P s) : Kept P s.muWinCmd := by
  unfold State.muWinCmd
  split
  · exact h.setFlag
  · extract_lets w
    split
    next _ _ s1 e =>
      have h1 : Kept P s1 := Kept.of_eq (by
        split
        · exact h.muClose
        · exact h.muOpen) e
      exact h1.setFld.setFlag

end Kept

end Sys2Proof.Machine
end

section
/-! SUPPORT. Stable properties through the lookup cache: a lemma for each operation, in the order of the model. -/
namespace Sys2Proof.Machine

open Sys2Proof

namespace Kept
variable {P : State → Prop} {s : State}

theorem lcTouch (h : Kept P s) {slice set way : Nat} : Kept P (s.lcTouch slice set way) := by
  unfold State.lcTouch
  extract_lets mine others full y
  exact h.withLc

theorem lcStrike (h : Kept P s) {l : LcLine} : Kept P (s.lcStrike l) := by
  unfold State.lcStrike
  split
  · exact h.strikeSpare
  · exact h

theorem lcReadWords (h : Kept P s) {l : LcLine} {k : Nat} {ws : List W40} : Kept P (s.lcReadWords l k ws).2 := by
  induction ws generalizing s with
  | nil => exact h
  | cons w l ih =>
    unfold State.lcReadWords
    extract_lets pa
    split
    next _ _ s1 e =>
      have h1 : Kept P s1 := h.tallyWord.of_eq e
      extract_lets s0
      have h0 : Kept P s0 := Kept.ite h1.lcStrike h1
      split
      next _ _ s2 e' =>
        exact (ih h0).of_eq e'

theorem lcReadSector (h : Kept P s) {l : LcLine} {k : Nat} : Kept P (s.lcReadSector l k).2 := by
  unfold State.lcReadSector
  extract_lets raw
  split
  next _ _ s2 e =>
    have h2 : Kept P s2 := h.lcReadWords.of_eq e
    split
    · exact h2.lcDrop.snd
    · exact h2

theorem lcReadSectors (h : Kept P s) {l : LcLine} {ks : List Nat} : Kept P (s.lcReadSectors l ks).2 := by
  induction ks generalizing s with
  | nil => exact h
  | cons k l ih =>
    unfold State.lcReadSectors
    split
    next _ _ s2 e =>
      have h2 : Kept P s2 := h.lcReadSector.of_eq e
      split
      next _ _ s2' e' =>
        exact (ih h2).of_eq e'

theorem lcInstall (h : Kept P s) {slice la way k : Nat} {ws : List PW} : Kept P (s.lcInstall slice la way k ws) := by
  unfold State.lcInstall
  extract_lets set tag new old l y s1
  have h1 : Kept P s1 := h.withLc
  exact h1.lcTouch

theorem lcFresh (h : Kept P s) {s' : State} : Kept P (s.lcFresh s') := by
  unfold State.lcFresh
  split
  · exact h.withLc
  · exact h

theorem lcSend (h : Kept P s) {r : LcRet} : Kept P (s.lcSend r) :=
  h.withLc

theorem lcDeliver (h : Kept P s) {w : LcWaiter} {sectors : List (Nat × List PW)} : Kept P (s.lcDeliver w sectors) := by
  unfold State.lcDeliver
  split
  · exact h
  · exact h.lcSend

theorem lcRaise (h : Kept P s) {slice la cls : Nat} : Kept P (s.lcRaise slice la cls) :=
  h.setTrReqs

theorem lcFill (h : Kept P s) {slice la p k cls : Nat} : Kept P (s.lcFill slice la p k cls) := by
  unfold State.lcFill
  extract_lets l f s1
  have h1 : Kept P s1 := h.trPresent
  split
  · exact h1
  · exact h1.admitParts

theorem lcMiss (h : Kept P s) {slice la p : Nat} {w : LcWaiter} {way present : Nat} {l : Option LcLine} :
    Kept P (s.lcMiss slice la p w way present l) := by
  unfold State.lcMiss
  extract_lets s1 y s2 w1
  have h1 : Kept P s1 := h.lcCount
  have h2 : Kept P s2 := Kept.ite h1.withLc h1
  split
  next _ _ s2' e =>
    have h2' : Kept P s2' := Kept.of_eq (by
      split
      · exact h2.lcReadSectors
      · exact h2) e
    extract_lets s4 r new r1 y' s5
    have h4 : Kept P s4 := h2'.lcDeliver
    have h5 : Kept P s5 := h4.withLc
    exact h5.lcRaise.each (fun _ _ ht => ht.lcFill)

theorem lcAgain (h : Kept P s) {slice : Nat} {w : LcWaiter} : Kept P (s.lcAgain slice w) :=
  h.lcCount.withLc

theorem lcTags (h : Kept P s) {slice set : Nat} : Kept P (s.lcTags slice set) := by
  unfold State.lcTags
  extract_lets mine s1
  have h1 : Kept P s1 := h.each (fun _ _ ht => ht.tallyWord)
  split
  · exact h1.lcDrop
  · exact h1

theorem lcServe (h : Kept P s) {slice p : Nat} {w : LcWaiter} : Kept P (s.lcServe slice p w) := by
  unfold State.lcServe
  extract_lets la s1 l present way
  have h1 : Kept P s1 := h.lcTags
  clear_value s1 present way l
  split
  · split
    · extract_lets s2
      have h2 : Kept P s2 := h1.lcCount.lcTouch
      split
      next _ _ s3 e =>
        have h3 : Kept P s3 := h2.lcReadSectors.of_eq e
        exact h3.lcDeliver
    · exact h1
  · split
    · exact Kept.ite h1.lcMiss h1.lcAgain
    · exact h1.lcAgain

theorem lcAtSlice (h : Kept P s) {slice p : Nat} {w : LcWaiter} : Kept P (s.lcAtSlice slice p w) :=
  h.lcServe.lcFresh

theorem lcPass (h : Kept P s) {p : Nat} {w : LcWaiter} : Kept P (s.lcPass p w) := by
  unfold State.lcPass
  split
  · exact h.lcCount
  · exact h

theorem lcDirect (h : Kept P s) {p : Nat} {w : LcWaiter} : Kept P (s.lcDirect p w) := by
  unfold State.lcDirect
  extract_lets a ks
  split
  next _ _ s1 e =>
    have h1 : Kept P s1 := h.frontRead.of_eq e
    exact h1.lcSend.lcFresh
  next _ _ s1 e =>
    exact h.frontRead.of_eq e
  next _ _ _ s1 e =>
    have h1 : Kept P s1 := h.frontRead.of_eq e
    exact h1.lcSend

theorem lcPlace (h : Kept P s) {p : Nat} {w : LcWaiter} : Kept P (s.lcPlace p w) := by
  unfold State.lcPlace
  split
  · extract_lets s1
    have h1 : Kept P s1 := h.lcPass
    split
    · exact h1.lcDirect
    · exact h1.enqueue
  · split
    · exact h.withLc
    · exact h

theorem lcPresent (h : Kept P s) {w : LcWaiter} : Kept P (s.lcPresent w) := by
  unfold State.lcPresent
  split
  · split
    · exact h.plotArrive
    · split
      · exact h.plotFault.lcSend
      · exact h.lcPlace
  · exact h.plotArrive

theorem lcAccept (h : Kept P s) {slice : Nat} : Kept P (s.lcAccept slice) := by
  unfold State.lcAccept
  split
  · exact h
  · extract_lets y s1
    have h1 : Kept P s1 := h.withLc
    split
    · split
      · split
        · exact h1
        · exact h1.lcPlace
      · exact h1.lcAtSlice
    · exact h1

theorem lcFlipTag (h : Kept P s) {slice set way bit : Nat} : Kept P (s.lcFlipTag slice set way bit) :=
  h.withLc

theorem execLcLookup (h : Kept P s) {asks : List LcAsk} {upset : List (Nat × Nat × Nat × Nat)} :
    KeptNext P (execLcLookup asks upset s) := by
  unfold Machine.execLcLookup
  show Kept P _
  extract_lets s1 s2
  have h1 : Kept P s1 := h.each (fun _ _ ht => by
    split
    · exact ht.lcFlipTag)
  have h2 : Kept P s2 := h1.each (fun _ _ ht => ht.lcPresent)
  exact h2.each (fun _ _ ht => ht.lcAccept)

theorem execLcRetry (h : Kept P s) {slice : Nat} : KeptNext P (execLcRetry slice s) := by
  unfold Machine.execLcRetry
  show Kept P _
  split
  · exact h
  · extract_lets y s1
    have h1 : Kept P s1 := h.withLc
    exact h1.lcPresent.lcAccept

theorem lcHandOut (h : Kept P s) {r : LcReg} {k : Nat} {ws : List PW} : Kept P (s.lcHandOut r k ws) := by
  unfold State.lcHandOut
  extract_lets sh rest s1 s2
  have h1 : Kept P s1 := Kept.ite h h.lcCount
  have h2 : Kept P s2 := h1.each (fun _ _ ht => ht.lcSend)
  exact h2.each (fun _ _ ht => ht.lcDeliver)

theorem lcArrive (h : Kept P s) {r : LcReg} {k : Nat} {ws : List PW} : Kept P (s.lcArrive r k ws) := by
  unfold State.lcArrive
  extract_lets owner inst s1 s2 r1 y
  have h1 : Kept P s1 := Kept.ite h.lcInstall h
  have h2 : Kept P s2 := h1.lcHandOut
  exact h2.withLc

theorem lcFree (h : Kept P s) {r : LcReg} {e : LcEnd} : Kept P (s.lcFree r e) := by
  unfold State.lcFree
  extract_lets mine here y s1 y' s2
  have h1 : Kept P s1 := h.withLc.setTrReqs
  have h2 : Kept P s2 := h1.withHbm
  exact h2.each (fun _ _ ht => ht.lcSend)

theorem lcFillRefused (h : Kept P s) {r : LcReg} {reason : Nat} : Kept P (s.lcFillRefused r reason) := by
  unfold State.lcFillRefused
  exact (h.each (fun _ _ ht => ht.plotFault)).lcFree

theorem execLcFillArrive (h : Kept P s) {slice la k : Nat} {ue : Bool} : KeptNext P (execLcFillArrive slice la k ue s) := by
  unfold Machine.execLcFillArrive
  show Kept P _
  split
  · exact h
  · split
    · exact h
    · extract_lets +onlyGivenNames o f
      split
      · exact h.lcFillRefused
      · extract_lets +onlyGivenNames l
        split
        next s1 e =>
          have h1 : Kept P s1 := h.admitParts.of_eq e
          split
          next ws s2 e2 =>
            have h2 : Kept P s2 := h1.strikeSector.readSector.of_eq e2
            exact h2.lcArrive.lcFresh
        next s1 e => exact h.admitParts.of_eq e
        next _ s1 e => exact (h.admitParts.of_eq e).lcFree

theorem lcTake (h : Kept P s) {mine : LcWaiter → Bool} : Kept P (s.lcTake mine) :=
  h.withLc

theorem lcMake (h : Kept P s) {p : Nat} {w : LcWaiter} : Kept P (s.lcMake p w) := by
  unfold State.lcMake
  split
  · exact h
  · split
    · exact h.lcDirect
    · extract_lets s1
      have h1 : Kept P s1 := h.lcPlace
      split
      · split
        · exact h1.lcAccept
        · exact h1
      · exact h1

theorem cachedRead (h : Kept P s) {m : MemReq} {alloc shared : Bool} {addr len : Nat} :
    Kept P (s.cachedRead m alloc shared addr len).2 := by
  unfold State.cachedRead
  split
  · extract_lets looks begun s1 done
    have h1 : Kept P s1 := h.each (fun _ _ ht => ht.lcMake)
    have hdone : Kept P done := h1.lcTake
    split
    · exact h.memFault.snd
    · split
      · exact hdone
      · exact hdone
      · split
        · exact hdone
        · exact h1
  · exact h.physRead

theorem dropUnit (h : Kept P s) {mine : PlotReq → Bool} : Kept P (s.dropUnit mine) :=
  h.dropOwn.dropPages.lcTake

theorem lcSweep (h : Kept P s) {v slices : Nat} : Kept P (s.lcSweep v slices) :=
  h.lcDrop.setFlag

theorem execLcSweepDone (h : Kept P s) {v : Nat} : KeptNext P (execLcSweepDone v s) := by
  unfold Machine.execLcSweepDone
  show Kept P _
  split
  · exact h
  · exact h.setFlag

theorem lcOpStart (h : Kept P s) {o0 : LcOp} : Kept P (s.lcOpStart o0) := by
  unfold State.lcOpStart
  extract_lets none_ off o s1 y
  have h1 : Kept P s1 := h.lcDrop
  exact h1.withLc

theorem execLcOpDone (h : Kept P s) {n : Nat} : KeptNext P (execLcOpDone n s) := by
  unfold Machine.execLcOpDone
  show Kept P _
  split
  · exact h
  · split
    · exact h
    · extract_lets y s1 y'
      have h1 : Kept P s1 := h.withLc
      split
      · exact h1.setFld.setFlag
      · split
        · exact h1
        · exact h1.withSc

theorem lcViReset (h : Kept P s) {v : Nat} : Kept P (s.lcViReset v) := by
  unfold State.lcViReset
  extract_lets m s1 y
  have h1 : Kept P s1 := h.lcSweep.lcTake
  exact h1.withLc

theorem lcClearCounters (h : Kept P s) {d : Nat} : Kept P (s.lcClearCounters d) :=
  h.resetRegs

theorem lcService (h : Kept P s) {slice : Nat} {on : Bool} : Kept P (s.lcService slice on) := by
  unfold State.lcService
  extract_lets s0 mine out y s1
  have h0 : Kept P s0 := h.lcDrop.setFlag
  have h1 : Kept P s1 := by
    unfold s1
    split
    · exact h0
    · exact h0.withLc.each (fun _ _ ht => by
        split
        · split
          · exact ht
          · exact ht.lcPlace
        · exact ht)
  split
  · exact h1.lcSweep
  · exact h1

theorem lcDropStack (h : Kept P s) {k : Nat} : Kept P (s.lcDropStack k) :=
  h.lcDrop

theorem execLcInvalWrite (h : Kept P s) {addr len : Nat} {data : List PW} {vi : Nat} {req : PlotReq} :
    KeptNext P (execLcInvalWrite addr len data vi req s) := by
  unfold Machine.execLcInvalWrite
  show Kept P _
  split
  · split
    · exact h
    · exact h.plotArrive
  · exact h

end Kept

end Sys2Proof.Machine
end

section
/-! SUPPORT. Stable properties through trace: a lemma for each operation, in the order of the model. -/
namespace Sys2Proof.Machine

open Sys2Proof

namespace Kept
variable {P : State → Prop} {s : State}

theorem traceWrite (h : Kept P s) {c : Nat} {rec_ : List Byte} : Kept P (s.traceWrite c rec_) := by
  unfold State.traceWrite
  split
  · exact h
  · exact h.withFt.traceNext

theorem traceDrop (h : Kept P s) {c : Nat} : Kept P (s.traceDrop c) :=
  h.withFt.withHbm

theorem traceSleep (h : Kept P s) {c cause : Nat} : Kept P (s.traceSleep c cause) := by
  unfold State.traceSleep
  split
  · split
    next _ _ s1 e =>
      have h1 : Kept P s1 := h.free.of_eq e
      exact h1.traceWrite
  · exact h

theorem traceSync (h : Kept P s) {c : Nat} : Kept P (s.traceSync c) :=
  h.traceWrite

theorem traceWake (h : Kept P s) {c cause : Nat} : Kept P (s.traceWake c cause) :=
  h.traceWrite.traceSync

theorem traceMark (h : Kept P s) {mark c : Nat} : Kept P (s.traceMark mark c) := by
  unfold State.traceMark
  split
  · split
    next _ _ s1 e =>
      have h1 : Kept P s1 := h.free.of_eq e
      exact h1.traceWrite
  · exact h

theorem traceMarkAll (h : Kept P s) {mark : Nat} : Kept P (s.traceMarkAll mark) := by
  unfold State.traceMarkAll
  exact h.each (fun _ _ ht => ht.traceMark)

theorem traceEnable (h : Kept P s) {c : Nat} : Kept P (s.traceEnable c) :=
  h.traceDrop.setReg.setReg.setReg.traceSync

theorem traceReset (h : Kept P s) {d : Nat} : Kept P (s.traceReset d) := by
  unfold State.traceReset
  exact h.each (fun _ _ ht => ht.traceDrop.resetRegs)

end Kept

end Sys2Proof.Machine
end

section
/-! SUPPORT. Stable properties through the steer cores: a lemma for each operation, in the order of the model. -/
namespace Sys2Proof.Machine

open Sys2Proof

namespace Kept
variable {P : State → Prop} {s : State}

theorem setCtxState (h : Kept P s) {core x st : Nat} : Kept P (s.setCtxState core x st) :=
  h.setFld

theorem steerWord (h : Kept P s) {core w : Nat} : Kept P (s.steerWord core w).2 :=
  h.tallyWord

theorem steerStore (h : Kept P s) {core w : Nat} {p : PW} : Kept P (s.steerStore core w p) :=
  h.setSteerRaw

theorem steerMerge (h : Kept P s) {core w mask data : Nat} : Kept P (s.steerMerge core w mask data) := by
  unfold State.steerMerge
  extract_lets ue
  split
  next _ _ s1 e =>
    have h1 : Kept P s1 := h.steerWord.of_eq e
    split
    · split
      · exact h1.steerStore
      · exact h1
    · exact h1.steerStore

theorem steerWriteWords (h : Kept P s) {core : Nat} {ws : List TmWord} : Kept P (s.steerWriteWords core ws) := by
  unfold State.steerWriteWords
  exact h.each (fun _ _ ht => Kept.ite ht.steerStore ht.steerMerge)

theorem steerReadWords (h : Kept P s) {core : Nat} {ws : List TmWord} : Kept P (s.steerReadWords core ws).2 := by
  induction ws generalizing s with
  | nil => exact h
  | cons w l ih =>
    unfold State.steerReadWords
    split
    next _ _ s1 e =>
      have h1 : Kept P s1 := h.steerWord.of_eq e
      split
      next _ _ s2 e' =>
        exact (ih h1).of_eq e'

theorem scCount (h : Kept P s) {core e : Nat} : Kept P (s.scCount core e) :=
  h.cntInc

theorem schedule (h : Kept P s) {core : Nat} : Kept P (s.schedule core) := by
  unfold State.schedule
  split
  · exact h
  · split
    · extract_lets s1 s2
      have h1 : Kept P s1 := Kept.ite h.traceWake h
      have h2 : Kept P s2 := h1.setFlag.setFld.setCtxState
      exact h2.applyShadow.scCount
    · split
      · exact h
      · extract_lets s1
        have h1 : Kept P s1 := h.setFlag
        split
        · exact h1.traceSleep
        · exact h1

theorem dropWait (h : Kept P s) {core x : Nat} : Kept P (s.dropWait core x) :=
  h.withSc

theorem makeReady (h : Kept P s) {core x : Nat} : Kept P (s.makeReady core x) :=
  h.setCtxState.schedule

theorem releaseCtxLocks (h : Kept P s) {core x : Nat} : Kept P (s.releaseCtxLocks core x) :=
  h.lockDrop.releaseLocks

theorem releaseCoreLocks (h : Kept P s) {core : Nat} : Kept P (s.releaseCoreLocks core) :=
  h.lockDrop.releaseLocks

theorem slFault (h : Kept P s) {core x cause cause2 : Nat} : Kept P (s.slFault core x cause cause2) := by
  unfold State.slFault
  extract_lets s1 s2
  have h1 : Kept P s1 := h.setCtxState.setFld.setFld
  have h2 : Kept P s2 := h1.dropWait.releaseCtxLocks.setFlag
  exact h2.setFld.schedule

theorem slTrap (h : Kept P s) {core x cause info : Nat} {tag : W32} {epc : Nat} : Kept P (s.slTrap core x cause info tag epc) := by
  unfold State.slTrap
  split
  · exact h.slFault
  · extract_lets s0 s1 s2 s3 s4 pc
    have h0 : Kept P s0 := h.applyShadow
    have h1 : Kept P s1 := h0.setFld.setFld
    have h2 : Kept P s2 := h1.setFld.setFld
    have h3 : Kept P s3 := h2.setFld.setFld
    have h4 : Kept P s4 := h3.setFlag.setFld
    exact h4.setSlPc.scCount

theorem slReturn (h : Kept P s) {core x : Nat} : Kept P (s.slReturn core x) :=
  h.setSlPc.setFld.setFlag

theorem raiseIrq (h : Kept P s) {core x src : Nat} : Kept P (s.raiseIrq core x src) :=
  h.setFld

theorem wake (h : Kept P s) {core x : Nat} {w : SlWait} : Kept P (s.wake core x w) :=
  h.withSc.makeReady

theorem execInterruptDeliver (h : Kept P s) {core x : Nat} : KeptNext P (execInterruptDeliver core x s) := by
  unfold Machine.execInterruptDeliver
  show Kept P _
  extract_lets st
  split
  · split
    · exact h
    · split
      · exact h.wake
      · exact h
    · extract_lets s1
      have h1 : Kept P s1 := h.dropWait.slTrap
      split
      · exact h1.makeReady
      · exact h1
  · exact h

theorem execAlarm (h : Kept P s) {core x : Nat} : KeptNext P (execAlarm core x s) := by
  unfold Machine.execAlarm
  show Kept P _
  extract_lets a
  split
  · exact h.setFld.raiseIrq
  · exact h

theorem execTimeSliceEnd (h : Kept P s) {core : Nat} : KeptNext P (execTimeSliceEnd core s) := by
  unfold Machine.execTimeSliceEnd
  show Kept P _
  split
  · exact h
  · split
    · exact h.setCtxState.schedule
    · exact h

theorem execRegParityError (h : Kept P s) {core x : Nat} : KeptNext P (execRegParityError core x s) := by
  unfold Machine.execRegParityError
  show Kept P _
  split
  · exact h.withSc.slFault
  · exact h

theorem ctxStart (h : Kept P s) {core x : Nat} : Kept P (s.ctxStart core x) := by
  unfold State.ctxStart
  extract_lets s0 s1
  have h0 : Kept P s0 := h.setFlag
  have h1 : Kept P s1 := h0.setFld
  split
  · exact h0.setFld
  · split
    · exact h1.makeReady
    · exact h1

theorem ctxStop (h : Kept P s) {core x : Nat} : Kept P (s.ctxStop core x) := by
  unfold State.ctxStop
  extract_lets st
  split
  · split
    · exact h.setFlag
    · exact h.dropWait.setCtxState.setFlag.schedule
  · exact h.setFlag

theorem ctxReset (h : Kept P s) {core x : Nat} : Kept P (s.ctxReset core x) := by
  unfold State.ctxReset
  extract_lets k s1 y s2 s3 s4 s5
  have h1 : Kept P s1 := h.releaseCtxLocks
  have h2 : Kept P s2 := h1.withScOf (swf_sdrop fun r => r / 32 == k) (swf_sdrop fun r => r / 16 == k)
    (swf_sdrop fun r => r / 8 == k) id
  have h3 : Kept P s3 := h2.setReg.setReg.setReg.setReg
  have h4 : Kept P s4 := h3.setFld.setFlag
  have h5 : Kept P s5 := h4.setSlPc.setCtxState
  exact h5.setFlag.setFlag.schedule

theorem coreReset (h : Kept P s) {core : Nat} : Kept P (s.coreReset core) := by
  unfold State.coreReset
  exact (h.each (fun _ _ ht => ht.ctxReset)).releaseCoreLocks

theorem scViReset (h : Kept P s) {v : Nat} : Kept P (s.scViReset v) := by
  unfold State.scViReset
  exact h.each (fun _ _ ht => Kept.ite (ht.each (fun _ _ hu => hu.ctxReset)) ht)

theorem coreOff (h : Kept P s) {core : Nat} : Kept P (s.coreOff core) := by
  unfold State.coreOff
  extract_lets own s1 mine y s2
  have h1 : Kept P s1 := h.releaseCoreLocks.steerBlank.dropUnit
  have h2 : Kept P s2 := h1.withScOf (swf_sdrop fun r => mine r 32) (swf_sdrop fun r => mine r 16)
    (swf_sdrop fun r => mine r 8) (swf_sdrop fun k => k / 16 == core)
  exact h2.resetRegs

theorem scClearCounters (h : Kept P s) {core : Nat} : Kept P (s.scClearCounters core) :=
  h.resetRegs

theorem execWaitWake (h : Kept P s) {core x : Nat} : KeptNext P (execWaitWake core x s) := by
  unfold Machine.execWaitWake
  show Kept P _
  split
  · exact h
  · split
    · exact h.wake
    · exact h

theorem execUnitAnswer (h : Kept P s) {core x rd : Nat} : KeptNext P (execUnitAnswer core x rd s) := by
  unfold Machine.execUnitAnswer
  show Kept P _
  extract_lets s' y
  have h' : Kept P s' := h.lockAnswer
  split
  · exact h'
  · exact h'.withSc.setSlG

theorem deliverMsgWords (h : Kept P s) {n x src len : Nat} {payload : List PW} :
    Kept P (s.deliverMsgWords n x src len payload).2 := by
  unfold State.deliverMsgWords
  extract_lets core base ptr order ws
  split
  · exact h
  · extract_lets a s1
    have h1 : Kept P s1 := h.steerWriteWords
    exact h1.setFld.raiseIrq.snd

theorem deliverMsg (h : Kept P s) {n x src : Nat} {payload : List Byte} : Kept P (s.deliverMsg n x src payload).2 :=
  h.deliverMsgWords

theorem msgToShepherd (h : Kept P s) {n x : Nat} {payload : List Byte} : Kept P (s.msgToShepherd n x payload).2 := by
  unfold State.msgToShepherd
  split
  · exact h
  · split
    · exact h.deliverMsg
    · extract_lets tag y f
      split
      · exact h
      next _ s1 e =>
        have h1 : Kept P s1 := Kept.of_some h.sendFrame e
        exact h1.withHerd.snd

theorem powerAlert (h : Kept P s) {r : Nat} : Kept P (s.powerAlert r) := by
  unfold State.powerAlert
  split
  · extract_lets payload
    split
    next _ s1 e =>
      have h1 : Kept P s1 := h.msgToShepherd.of_eq e
      exact h1.setFlag
    next _ s1 e =>
      have h1 : Kept P s1 := h.msgToShepherd.of_eq e
      exact h1.setFlag
  · exact h

theorem throttle (h : Kept P s) {r : Nat} {on : Bool} : Kept P (s.throttle r on) := by
  unfold State.throttle
  extract_lets last prev y s1 s2 s1' y' s2' y''
  have h1 : Kept P s1 := h.withPower
  have h2 : Kept P s2 := h1.setFld.setFld
  have h1' : Kept P s1' := h.setFld
  have h2' : Kept P s2' := h1'.withPm
  split
  · exact h
  · split
    · split
      · exact h1.setFld.setFld
      · exact h2.powerAlert
    · exact h2'.setFld.withPower

end Kept

end Sys2Proof.Machine
end

section
/-! SUPPORT. Stable properties through egress: a lemma for each operation, in the order of the model. -/
namespace Sys2Proof.Machine

open Sys2Proof

namespace Kept
variable {P : State → Prop} {s : State}

theorem freeBuffer (h : Kept P s) {p vc sub beats : Nat} : Kept P (s.freeBuffer p vc sub beats) := by
  unfold State.freeBuffer
  split
  · exact h
  · extract_lets s1
    have h1 : Kept P s1 := h.emit
    split
    · exact h1
    · exact h1.emit

theorem egressLeave (h : Kept P s) {e : Egress} : Kept P (s.egressLeave e) := by
  unfold State.egressLeave
  extract_lets y s0 s1
  have h0 : Kept P s0 := h.withHerd
  have h1 : Kept P s1 := h0.trWhole.putFrame
  split
  · exact h1
  · exact h1.freeBuffer

theorem egressRun (h : Kept P s) {fuel p : Nat} : Kept P (State.egressRun fuel s p) := by
  induction fuel generalizing s with
  | zero => exact h
  | succ fuel ih =>
    unfold State.egressRun
    split
    · exact h
    · exact ih h.egressLeave

theorem portRun (h : Kept P s) {p : Nat} : Kept P (s.portRun p) :=
  h.egressRun

theorem enterPort (h : Kept P s) {p : Nat} {f : Frame} {req : Nat} {arrival : Option (Nat × Nat)} :
    Kept P (s.enterPort p f req arrival) := by
  unfold State.enterPort
  split
  · extract_lets s1
    have h1 : Kept P s1 := h.offerFrame
    split
    · exact h1
    · exact h1.freeBuffer
  · exact h.withHerd.portRun

theorem sendAs (h : Kept P s) {f : Frame} {req : Nat} : KeptSome P (s.sendAs f req) := by
  unfold State.sendAs
  split
  · exact trivial
  · exact trivial
  · extract_lets s1
    have h1 : Kept P s1 := h.enterPort
    exact Kept.ite h1.setFlag h1

theorem remoteSend (h : Kept P s) {type vc dest len addr arg : Nat} {payload : List PW} {owner : TxnOwner} :
    KeptSome P (s.remoteSend type vc dest len addr arg payload owner) := by
  unfold State.remoteSend
  split
  · exact trivial
  · extract_lets tag f req
    split
    · exact trivial
    next _ s1 e =>
      have h1 : Kept P s1 := Kept.of_some h.sendAs e
      exact h1.withHerd

end Kept

end Sys2Proof.Machine
end

section
/-! SUPPORT. Stable properties through streams: a lemma for each operation, in the order of the model. -/
namespace Sys2Proof.Machine

open Sys2Proof

namespace Kept
variable {P : State → Prop} {s : State}

theorem herdFab (h : Kept P s) {src c off len : Nat} {write post : Bool} {data : List PW} {inc cls : Nat} :
    Kept P (s.herdFab src c off len write post data inc cls).2 := by
  unfold State.herdFab
  extract_lets code r
  split
  · exact h
  · split
    · exact h
    · split
      · exact h.wnRefuse.snd
      · split
        · exact h.incWindow.snd
        · split
          · extract_lets n
            split
            next _ _ t e =>
              have ht : Kept P t := h.fabWrite.of_eq e
              exact ht.incWindow.snd
            next _ _ t _ e =>
              exact h.fabWrite.of_eq e
          · split
            next _ _ t e =>
              exact h.fabRead.of_eq e
            next _ _ t _ e =>
              exact h.fabRead.of_eq e

theorem herdPlot (h : Kept P s) {src tag die addr p off len : Nat} {write post : Bool} {data : List PW} {inc cls : Nat} :
    Kept P (s.herdPlot src tag die addr p off len write post data inc cls).2 := by
  unfold State.herdPlot
  extract_lets was r
  split
  · exact h.hwRefuse.snd
  · split
    · exact h.incHerdWindow.snd
    · split
      · exact h.plotFault.snd
      · split
        · exact h.plotFault.snd
        · extract_lets f
          split
          · split
            next _ s1 e =>
              have h1 : Kept P s1 := h.frontWrite.of_eq e
              exact h1.incHerdWindow.zeroHerd.snd
            next _ s1 e =>
              exact h.frontWrite.of_eq e
            next _ _ s1 e =>
              have h1 : Kept P s1 := h.frontWrite.of_eq e
              exact h1.zeroHerd.snd
          · split
            next _ _ s1 e =>
              exact h.frontRead.of_eq e
            next _ _ _ s1 _ e =>
              have h1 : Kept P s1 := h.frontRead.of_eq e
              exact h1.zeroHerd.snd

theorem herdAccess (h : Kept P s) {src tag die addr len : Nat} {write post : Bool} {data : List PW} {inc cls : Nat} :
    Kept P (s.herdAccess src tag die addr len write post data inc cls).2 := by
  unfold State.herdAccess
  split
  · exact h.plotFault.snd
  · exact h.herdFab
  · exact h.herdPlot

theorem herdWhole (h : Kept P s) {src addr len : Nat} : Kept P (s.herdWhole src addr len).2 := by
  unfold State.herdWhole
  split
  · exact h
  · extract_lets c code r
    split
    · exact h
    · split
      · exact h
      · exact h.wnRefuse.snd
  · split
    · exact h
    · extract_lets r
      exact h.hwRefuse.snd

theorem setStCtx (h : Kept P s) {e x : Nat} {c : StCtx} : Kept P (s.setStCtx e x c) :=
  h.withSt

theorem setStState (h : Kept P s) {e x n : Nat} : Kept P (s.setStState e x n) :=
  h.setFld

theorem stCount (h : Kept P s) {e ev n : Nat} : Kept P (s.stCount e ev n) :=
  h.cntInc

theorem stPlace (h : Kept P s) {e x : Nat} {req : PlotReq} {a : StAddr} {addr : Nat} {write : Bool} :
    Kept P (s.stPlace e x req a addr write).2 := by
  unfold State.stPlace
  split
  · split
    next _ _ _ s1 e' =>
      exact h.reach.of_eq e'
    next _ _ _ s1 e' =>
      exact h.reach.of_eq e'
    next _ _ s1 e' =>
      exact h.reach.of_eq e'
    next _ _ s1 _ _ _ e' =>
      exact h.reach.of_eq e'
  · exact h
  · exact h
  · exact h

theorem stReadPart (h : Kept P s) {j : StJob} {o n : Nat} : Kept P (s.stReadPart j o n).2 := by
  unfold State.stReadPart
  extract_lets b a req
  split
  · exact h
  · split
    next _ _ s1 e =>
      have h1 : Kept P s1 := h.stPlace.of_eq e
      split
      · split
        next _ _ s2 e' =>
          exact h1.tmReadN.of_eq e'
      · exact h1
    next _ _ _ s1 e =>
      have h1 : Kept P s1 := h.stPlace.of_eq e
      split
      next _ _ s1' e' =>
        exact h1.fabRead.of_eq e'
    next _ _ s1 e =>
      have h1 : Kept P s1 := h.stPlace.of_eq e
      extract_lets m
      split
      next _ _ t e' =>
        have ht : Kept P t := Kept.of_eq (by
          split
          · exact h1.cachedRead
          · exact h1.physRead) e'
        exact ht
    next _ _ s1 e =>
      have h1 : Kept P s1 := h.stPlace.of_eq e
      split
      · exact h1.trMove.snd
      · exact h1
    next _ _ _ s1 e =>
      exact h.stPlace.of_eq e
    next _ _ s1 e =>
      exact h.stPlace.of_eq e
    next _ s1 e =>
      exact h.stPlace.of_eq e

theorem stReadLoop (h : Kept P s) {fuel : Nat} {j : StJob} {o stop : Nat} {acc : List (Nat × PW)} {gap : Option Nat} :
    Kept P (State.stReadLoop fuel s j o stop acc gap).st := by
  induction fuel generalizing s o acc gap with
  | zero => exact h
  | succ fuel ih =>
    unfold State.stReadLoop
    extract_lets b full n y
    split
    · exact h
    · split
      next _ s1 e =>
        have h1 : Kept P s1 := h.stReadPart.of_eq e
        exact ih h1
      next _ _ _ s1 e =>
        exact h.stReadPart.of_eq e
      next _ _ s1 e =>
        have h1 : Kept P s1 := h.stReadPart.of_eq e
        extract_lets ws fresh acc1
        split
        · exact h1
        · exact ih h1

theorem stAdmit (h : Kept P s) {j : StJob} {c addr off : Nat} : Kept P (s.stAdmit j c addr off).2 := by
  unfold State.stAdmit
  dsimp only
  split
  · exact h
  · split
    · exact h
    · split
      · exact h.wnRefuse
      · split
        · exact h.withTm
        · exact h.wnRefuse

theorem fabPut (h : Kept P s) {a : FabAcc} {cls off len : Nat} {data : List PW} : Kept P (s.fabPut a cls off len data) := by
  unfold State.fabPut
  extract_lets lines y s1 y'
  have h0 : Kept P (s.withTm { s.tm with fabQ := s.tm.fabQ ++ lines }) := h.withTm
  have h1 : Kept P s1 := h0.pump.tmUntil
  clear_value s1
  exact h1.withTm

theorem dropWins (h : Kept P s) {l : List (Nat × Nat)} : Kept P (s.dropWins l) := by
  unfold State.dropWins
  exact h.each (fun _ _ ht => ht.fabDrop)

theorem stWritePart (h : Kept P s) {j : StJob} {o n : Nat} {ws : List PW} : Kept P (s.stWritePart j o n ws).2.2 := by
  unfold State.stWritePart
  extract_lets b a req
  split
  next _ _ s1 e =>
    have h1 : Kept P s1 := h.stPlace.of_eq e
    split
    · exact h1.tmWriteAll.snd
    · exact h1
  next _ _ _ s1 e =>
    have h1 : Kept P s1 := h.stPlace.of_eq e
    split
    · exact h1
    · split
      next _ _ s2 e' =>
        exact h1.stAdmit.of_eq e'
      next _ _ s2 e' =>
        have h2 : Kept P s2 := h1.stAdmit.of_eq e'
        exact h2.fabPut.snd
  next _ _ s1 e =>
    have h1 : Kept P s1 := h.stPlace.of_eq e
    split
    next _ _ t e' =>
      exact h1.physWrite.of_eq e'
  next _ _ s1 e =>
    have h1 : Kept P s1 := h.stPlace.of_eq e
    exact h1.hostWriteAs.snd
  next _ _ _ s1 e =>
    exact h.stPlace.of_eq e
  next _ _ s1 e =>
    exact h.stPlace.of_eq e
  next _ s1 e =>
    exact h.stPlace.of_eq e

theorem stWriteLoop (h : Kept P s) {fuel : Nat} {j : StJob} {o stop : Nat} {l : List (Nat × PW)} {wins : List (Nat × Nat)} :
    Kept P (State.stWriteLoop fuel s j o stop l wins).st := by
  induction fuel generalizing s o wins with
  | zero => exact h
  | succ fuel ih =>
    unfold State.stWriteLoop
    extract_lets b n y y'
    split
    · exact h
    · split
      next _ _ s1 e =>
        exact h.stWritePart.of_eq_snd e
      next _ _ _ _ s1 e =>
        exact h.stWritePart.of_eq_snd e
      next _ _ _ s1 e =>
        have h1 : Kept P s1 := h.stWritePart.of_eq_snd e
        exact ih h1

theorem stMove (h : Kept P s) {j : StJob} {o stop : Nat} : Kept P (s.stMove j o stop).st := by
  unfold State.stMove
  extract_lets r w t0 t
  have hr : Kept P r.st := h.stReadLoop
  have hw : Kept P w.st := hr.stWriteLoop
  have ht0 : Kept P t0 := Kept.ite hw.fencePorts hw
  have ht : Kept P t := ht0.stCount
  split
  · exact ht
  · exact ht

theorem stPresent (h : Kept P s) {e x : Nat} {pts : List (Nat × Nat)} : Kept P (s.stPresent e x pts) := by
  unfold State.stPresent
  exact h.each (fun _ _ ht => ht.trPresent)

theorem stHostReads (h : Kept P s) {e x : Nat} {t : StEntry} : Kept P (s.stHostReads e x t) := by
  unfold State.stHostReads
  extract_lets b
  split
  · exact h
  · exact h.each (fun _ _ hu => by
      split
      · split
        · exact hu.emit
        · exact hu)

theorem stOpen (h : Kept P s) {e x group : Nat} : Kept P (s.stOpen e x group) := by
  unfold State.stOpen
  extract_lets c mine s1 s2 s3
  have h1 : Kept P s1 := h.setStCtx
  have h2 : Kept P s2 := h1.stPresent
  have h3 : Kept P s3 := h2.stPresent
  exact h3.each (fun _ _ hu => hu.stHostReads)

theorem stServe (h : Kept P s) {e : Nat} : Kept P (s.stServe e) := by
  unfold State.stServe
  exact h.each (fun _ _ ht => by
    split
    · extract_lets u y
      have hu : Kept P u := ht.stOpen
      exact hu.withTr
    · exact ht)

theorem stFinish (h : Kept P s) {e x : Nat} : Kept P (s.stFinish e x) := by
  unfold State.stFinish
  exact h.each (fun _ _ ht => ht.trRun)

theorem sendAll (h : Kept P s) {l : List (Nat × (State → Option State))} (hl : ∀ p ∈ l, ∀ t, Kept P t → KeptSome P (p.2 t)) :
    Kept P (s.sendAll l).2 := by
  induction l generalizing s with
  | nil => exact h
  | cons p l ih =>
    unfold State.sendAll
    have hp := hl p (List.mem_cons_self ..) s h
    obtain ⟨o, f⟩ := p
    dsimp only at hp ⊢
    cases hf : f s with
    | none => exact h
    | some s1 =>
      rw [hf] at hp
      exact ih hp fun q hq => hl q (List.mem_cons_of_mem _ hq)

theorem sendAll_map {α : Type} (h : Kept P s) {l : List α} {g : α → Nat × (State → Option State)}
    (hg : ∀ a t, Kept P t → KeptSome P ((g a).2 t)) : Kept P (s.sendAll (l.map g)).2 :=
  h.sendAll fun p hp t ht => by
    obtain ⟨a, _, rfl⟩ := List.mem_map.1 hp
    exact hg a t ht

theorem setEntry (h : Kept P s) {e x seq : Nat} {f : StEntry → StEntry} : Kept P (s.setEntry e x seq f) := by
  unfold State.setEntry
  extract_lets c
  exact h.setStCtx

theorem selfRead (h : Kept P s) {e x seq : Nat} {b : StBlk} {pieces : List (Nat × Nat)} :
    Kept P (State.selfRead e x seq b pieces s).2.2 := by
  induction pieces generalizing s with
  | nil => exact h
  | cons p l ih =>
    unfold State.selfRead
    split
    · exact ih h
    · split
      next _ u e' =>
        exact h.herdAccess.of_eq e'
      next _ _ _ u e' =>
        exact h.herdAccess.of_eq e'
      next _ _ u e' =>
        have hu : Kept P u := h.herdAccess.of_eq e'
        exact ih hu.setEntry

theorem selfWrite (h : Kept P s) {e x seq : Nat} {b : StBlk} {l : List (Nat × PW)} {pieces : List (Nat × Nat)} :
    Kept P (State.selfWrite e x seq b l pieces s).2.2 := by
  induction pieces generalizing s with
  | nil => exact h
  | cons p l ih =>
    unfold State.selfWrite
    split
    next _ u e' =>
      exact h.herdAccess.of_eq e'
    next _ _ _ u e' =>
      exact h.herdAccess.of_eq e'
    next _ _ u e' =>
      have hu : Kept P u := h.herdAccess.of_eq e'
      exact ih hu.setEntry

theorem selfPost (h : Kept P s) {e x : Nat} {b : StBlk} : Kept P (s.selfPost e x b).2 :=
  h.herdAccess

theorem stHerdRead (h : Kept P s) {e x : Nat} {t : StEntry} {cls : Nat} : Kept P (s.stHerdRead e x t cls) := by
  unfold State.stHerdRead
  extract_lets b y reqs
  split
  · split
    next _ _ _ u e' =>
      have hu : Kept P u := h.selfRead.of_eq_snd e'
      exact hu.setEntry
    next _ _ _ _ u e' =>
      have hu : Kept P u := h.selfRead.of_eq_snd e'
      exact hu.setEntry
    next _ _ u e' =>
      exact h.selfRead.of_eq_snd e'
  · have hall : Kept P (s.sendAll reqs).2 := by
      refine sendAll_map h ?_
      rintro ⟨o, n⟩ u hu
      dsimp only
      exact hu.remoteSend
    split
    next _ u e' =>
      have hu : Kept P u := hall.of_eq e'
      exact hu.setEntry
    next _ _ u e' =>
      have hu : Kept P u := hall.of_eq e'
      exact hu.setEntry

theorem selfAdmit (h : Kept P s) {j : StJob} : Kept P (s.selfAdmit j).2 := by
  unfold State.selfAdmit
  split
  · exact h
  · split
    · exact h.herdWhole

theorem stHerdWrite (h : Kept P s) {e x : Nat} {t : StEntry} {cls : Nat} : Kept P (s.stHerdWrite e x t cls) := by
  unfold State.stHerdWrite
  extract_lets b j r s1 held y reqs
  have hr : Kept P r.st := h.stReadLoop
  have h1 : Kept P s1 := hr.setEntry
  split
  · exact h1
  · split
    · split
      next _ _ u e' =>
        have hu : Kept P u := h1.selfAdmit.of_eq e'
        exact hu.setEntry
      next _ u0 e' =>
        have hu0 : Kept P u0 := h1.selfAdmit.of_eq e'
        split
        next _ _ _ u e'' =>
          have hu : Kept P u := hu0.selfWrite.of_eq_snd e''
          exact hu.setEntry
        next _ _ _ _ u e'' =>
          have hu : Kept P u := hu0.selfWrite.of_eq_snd e''
          exact hu.setEntry
        next _ _ u e'' =>
          exact hu0.selfWrite.of_eq_snd e''
    · have hall : Kept P (s1.sendAll reqs).2 := by
        refine sendAll_map h1 ?_
        rintro ⟨o, n⟩ u hu
        dsimp only
        exact hu.remoteSend
      split
      next _ u e' =>
        have hu : Kept P u := hall.of_eq e'
        exact hu.setEntry
      next _ _ u e' =>
        have hu : Kept P u := hall.of_eq e'
        exact hu.setEntry

theorem stIssueOne (h : Kept P s) {e x : Nat} {t : StEntry} {run : Bool} : Kept P (s.stIssueOne e x t run) := by
  unfold State.stIssueOne
  extract_lets b cls
  split
  · exact h
  · split
    · exact h.stHerdRead
    · split
      · exact h.stHerdWrite
      · exact h

theorem stIssue (h : Kept P s) {e x : Nat} : Kept P (s.stIssue e x) := by
  unfold State.stIssue
  split
  · extract_lets c run
    exact h.each (fun _ _ hu => hu.stIssueOne)
  · exact h

theorem stIssueList (h : Kept P s) {e x vi addr space : Nat} : Kept P (s.stIssueList e x vi addr space).2 := by
  unfold State.stIssueList
  split
  · exact h
  · extract_lets c
    split
    · exact h
    · split
      · exact h.setStCtx.setStState.snd
      · exact h.setStCtx.snd

theorem stResume (h : Kept P s) {e x vi : Nat} : Kept P (s.stResume e x vi).2 := by
  unfold State.stResume
  split
  · exact h
  · split
    · exact h
    · exact h.setStState.stCount.snd

theorem stForget (h : Kept P s) {e x : Nat} : Kept P (s.stForget e x) :=
  h.withHerd

theorem stQuiet (h : Kept P s) {e x cause : Nat} : Kept P (s.stQuiet e x cause) := by
  unfold State.stQuiet
  extract_lets s1
  have h1 : Kept P s1 := h.trGiveUp.dropUnit
  exact h1.dropOwn.zeroHerd

theorem stDrop (h : Kept P s) {e x cause : Nat} : Kept P (s.stDrop e x cause) :=
  h.stQuiet.dropWins.stForget

theorem stClear (h : Kept P s) {e x cause : Nat} : Kept P (s.stClear e x cause) := by
  unfold State.stClear
  extract_lets c y
  exact h.stDrop.setStCtx

theorem stCancelDone (h : Kept P s) {e x : Nat} : Kept P (s.stCancelDone e x) := by
  have h2 : Kept P ((((s.stClear e x 3).setStState e x 0).setFld .ST_CTX_DONE_FT e x s.now).setFlag .ST_CTX_STATUS_CANCELLED e x
      true) :=
    h.stClear.setStState.setFld.setFlag
  unfold State.stCancelDone
  dsimp only
  split
  · exact h2
  · exact h2.setStCtx.setStState

theorem stCancel (h : Kept P s) {e x vi : Nat} : Kept P (s.stCancel e x vi).2 := by
  unfold State.stCancel
  split
  · exact h
  · split
    · exact h.stCancelDone.stCount.snd
    · exact h
    · extract_lets s1 y
      have h1 : Kept P s1 := h.stQuiet
      exact h1.setStCtx.setStState.snd

theorem stEntryRead (h : Kept P s) {e x : Nat} {a0 : StAddr} {part : Nat} {ext : List PW} :
    Kept P (s.stEntryRead e x a0 part ext).2 := by
  unfold State.stEntryRead
  extract_lets a req own
  split
  next _ _ s1 e' =>
    have h1 : Kept P s1 := h.stPlace.of_eq e'
    split
    · split
      next _ _ s2 e'' =>
        exact h1.tmReadN.of_eq e''
    · exact h1
  next _ _ _ s1 e' =>
    have h1 : Kept P s1 := h.stPlace.of_eq e'
    split
    next _ _ s1' e'' =>
      exact h1.fabRead.of_eq e''
  next _ _ s1 e' =>
    have h1 : Kept P s1 := h.stPlace.of_eq e'
    split
    next _ _ t e'' =>
      exact h1.physRead.of_eq e''
  next _ _ s1 e' =>
    have h1 : Kept P s1 := h.stPlace.of_eq e'
    split
    · exact h1
    · exact h1
  next _ _ _ s1 e' =>
    have h1 : Kept P s1 := h.stPlace.of_eq e'
    extract_lets c
    split
    · split
      next _ _ t e'' =>
        exact h1.herdAccess.of_eq e''
      next _ _ _ t e'' =>
        exact h1.herdAccess.of_eq e''
      next _ t e'' =>
        exact h1.herdAccess.of_eq e''
    · split
      · exact h1
      · exact h1
      · split
        · exact h1
        · split
          next _ s1' e'' =>
            exact Kept.of_some h1.remoteSend e''
          · exact h1
  next _ _ s1 e' =>
    exact h.stPlace.of_eq e'
  next _ s1 e' =>
    exact h.stPlace.of_eq e'

theorem stAppend (h : Kept P s) {e x : Nat} {place : StAddr} {slots : Nat} {b : StBlk} {f : Option StFault} :
    Kept P (s.stAppend e x place slots b f) := by
  unfold State.stAppend
  extract_lets c m t more next s1
  have h1 : Kept P s1 := h.setStCtx
  split
  · exact h1.stCount
  · exact h1

theorem stEarly (h : Kept P s) {e x : Nat} {ext : List (Nat × PW)} : Kept P (s.stEarly e x ext) := by
  unfold State.stEarly
  split
  · exact h
  · extract_lets b s1 r
    have h1 : Kept P s1 := h.stServe.stOpen
    have hr : Kept P r.st := h1.stReadLoop
    split
    · exact h
    · exact hr.setEntry

theorem stTake (h : Kept P s) {e x : Nat} {place : StAddr} {slots : Nat} {b : StBlk} {f : Option StFault} {early : Bool}
    {src : List PW} : Kept P (s.stTake e x place slots b f early src) := by
  unfold State.stTake
  extract_lets s1
  have h1 : Kept P s1 := h.stAppend
  exact (Kept.ite h1.stEarly h1).stIssue

theorem stTakeExt (h : Kept P s) {e x : Nat} {a : StAddr} {ws ext : List PW} {early : Bool} {src : List PW} :
    Kept P (s.stTakeExt e x a ws ext early src) := by
  unfold State.stTakeExt
  extract_lets c
  split
  · exact h
  · split
    · exact h.stAppend
    · split
      next _ s1 e' =>
        exact h.stEntryRead.of_eq e'
      next _ _ _ s1 e' =>
        have h1 : Kept P s1 := h.stEntryRead.of_eq e'
        exact h1.stAppend
      next _ _ s1 e' =>
        have h1 : Kept P s1 := h.stEntryRead.of_eq e'
        extract_lets b
        exact h1.stTake

theorem execEntryFetch (h : Kept P s) {e x : Nat} {ext : List PW} {early : Bool} {src : List PW} :
    KeptNext P (execEntryFetch e x ext early src s) := by
  unfold Machine.execEntryFetch
  show Kept P _
  extract_lets c a
  split
  · split
    · exact h.stAppend
    · split
      next _ s1 e' =>
        exact h.stEntryRead.of_eq e'
      next _ _ _ s1 e' =>
        have h1 : Kept P s1 := h.stEntryRead.of_eq e'
        exact h1.stAppend
      next _ _ s1 e' =>
        have h1 : Kept P s1 := h.stEntryRead.of_eq e'
        extract_lets b y
        split
        · exact h1.stTakeExt
        · split
          · exact h1.stAppend
          · split
            · exact h1.setStCtx
            · exact h1.stTake
  · exact h

theorem stPostWins (h : Kept P s) {wins : List (Nat × Nat)} : Kept P (s.stPostWins wins) := by
  unfold State.stPostWins
  exact h.each (fun _ _ ht => by
    split
    · split
      · extract_lets u
        have hu : Kept P u := ht.flushIf
        exact hu.postAcc.fabDrop
      · exact ht)

theorem stSignal (h : Kept P s) {l cnt : Nat} : Kept P (s.stSignal l cnt) := by
  unfold State.stSignal
  extract_lets c
  split
  · exact h.postCount
  · exact h

theorem stRetire (h : Kept P s) {e x : Nat} {t : StEntry} {wins : List (Nat × Nat)} : Kept P (s.stRetire e x t wins) := by
  unfold State.stRetire
  extract_lets b s1 s2 s3 c rest s4
  have h1 : Kept P s1 := h.stPostWins
  have h2 : Kept P s2 := by
    unfold s2
    split
    · exact h1.selfPost
    · split
      · exact Kept.getD h1.remoteSend h1
      · exact h1
  have h3 : Kept P s3 := Kept.ite h2.stSignal h2
  have h4 : Kept P s4 := h3.setStCtx.stCount
  split
  · exact h4
  · exact h4.stFinish

theorem stKeep {r : StProg} (hr : Kept P r.st) {e x seq : Nat} : Kept P (State.stKeep r e x seq) :=
  hr.setEntry

theorem stRunTo (h : Kept P s) {e x : Nat} {t : StEntry} {src : List PW} {upset : List Nat} {stop : Nat} :
    Kept P (s.stRunTo e x t src upset stop).st :=
  h.stMove

theorem stBlock (h : Kept P s) {e x : Nat} {t : StEntry} {src : List PW} {upset : List Nat} :
    Kept P (s.stBlock e x t src upset) := by
  unfold State.stBlock
  extract_lets r
  have hr : Kept P r.st := h.stRunTo
  split
  · exact hr.stRetire.stIssue
  · split
    · exact h
    · exact hr.stKeep.setEntry

theorem execBlockRetire (h : Kept P s) {e x : Nat} {src : List PW} {upset : List Nat} :
    KeptNext P (execBlockRetire e x src upset s) := by
  unfold Machine.execBlockRetire
  show Kept P _
  split
  · extract_lets s'
    have h' : Kept P s' := h.stServe
    split
    · exact h'
    · split
      · exact h'
      · split
        · split
          · exact h'
          · split
            · exact h'.stCount.stRetire.stIssue
            · exact h'.stIssue
        · split
          · exact h'.stIssue
          · exact h'.stBlock
  · exact h

theorem execListEnd (h : Kept P s) {e x : Nat} : KeptNext P (execListEnd e x s) := by
  unfold Machine.execListEnd
  show Kept P _
  extract_lets c
  split
  · split
    · exact h
    · split
      · exact h
      · extract_lets s1 s2
        have h1 : Kept P s1 := Kept.ite h.stSignal h
        have h2 : Kept P s2 := h1.setFld
        split
        · exact h2.stClear.setStState
        · extract_lets c1
          exact h2.setStCtx.stIssue
  · exact h

theorem crumbWrite (h : Kept P s) {e x : Nat} {ws : List PW} : Kept P (s.crumbWrite e x ws).2 := by
  unfold State.crumbWrite
  extract_lets a sp req
  split
  · exact h
  · split
    next _ _ s1 e' =>
      have h1 : Kept P s1 := h.stPlace.of_eq e'
      split
      · exact h1.tmWriteAll.fencePorts.snd
      · exact h1
    next _ _ _ s1 e' =>
      have h1 : Kept P s1 := h.stPlace.of_eq e'
      split
      next _ _ s2 e'' =>
        exact h1.fabWrite.of_eq e''
      next _ _ s2 e'' =>
        exact h1.fabWrite.of_eq e''
      next _ s2 e'' =>
        exact h1.fabWrite.of_eq e''
    next _ _ s1 e' =>
      have h1 : Kept P s1 := h.stPlace.of_eq e'
      split
      next _ _ s2 e'' =>
        exact h1.physWrite.of_eq e''
      next _ s2 e'' =>
        exact h1.physWrite.of_eq e''
      next _ _ s2 _ _ e'' =>
        exact h1.physWrite.of_eq e''
    next _ _ s1 e' =>
      have h1 : Kept P s1 := h.stPlace.of_eq e'
      exact h1.hostWriteAs.snd
    next _ s1 e' =>
      exact h.stPlace.of_eq e'
    next _ _ s1 _ _ _ _ _ e' =>
      exact h.stPlace.of_eq e'

theorem stHaltSignal (h : Kept P s) {e x : Nat} : Kept P (s.stHaltSignal e x) := by
  unfold State.stHaltSignal
  extract_lets vi s1
  have h1 : Kept P s1 := by
    unfold s1
    split
    · split
      · exact h.postCount
      · exact h.stSignal
    · exact h
  exact h1.each (fun _ _ hu => hu.each (fun _ _ hv => hv.raiseIrq))

theorem stHalt (h : Kept P s) {e x : Nat} {t : StEntry} {f : StFault} {frontier : Nat} : Kept P (s.stHalt e x t f frontier) := by
  unfold State.stHalt
  extract_lets c s' crumb
  have h' : Kept P s' := h.stDrop
  split
  next _ s2 e' =>
    have h2 : Kept P s2 := Kept.of_eq (by
      split
      · exact h'.crumbWrite
      · exact h') e'
    exact h2.setEntry
  next _ _ s2 e' =>
    have h2 : Kept P s2 := Kept.of_eq (by
      split
      · exact h'.crumbWrite
      · exact h') e'
    extract_lets s3 s4 s5
    have h3 : Kept P s3 := (Kept.ite h2 h2.setFlag).each (fun _ _ hu => by
      split
      · exact hu.setReg)
    have h4 : Kept P s4 := h3.setStCtx
    have h5 : Kept P s5 := h4.setStState.stCount
    exact (Kept.ite h5.bite h5).stHaltSignal

theorem stLand (h : Kept P s) {e x : Nat} {landed : List StLanded} : Kept P (s.stLand e x landed) := by
  unfold State.stLand
  extract_lets es
  exact h.each (fun _ _ hu => by
    split
    · split
      · exact hu
      · split
        · exact hu
        · extract_lets r
          have hr : Kept P r.st := hu.stMove
          exact hr.dropWins)

theorem stOuterHalt (h : Kept P s) {e x : Nat} {t : StEntry} {k d o : Nat} {src : List PW} {upset : List Nat}
    {fin : State → StFault → Nat → State} (hfin : ∀ (a : State) (t : StFault) (n : Nat), Kept P a → Kept P (fin a t n)) :
    Kept P (s.stOuterHalt e x t k d o src upset fin) := by
  unfold State.stOuterHalt
  extract_lets b r u tag y
  have hr : Kept P r.st := h.stRunTo
  have hu : Kept P u := hr.stKeep
  split
  · exact hfin _ _ _ hr.stKeep
  · split
    · exact hu
    · exact hfin _ _ _ hu

theorem execStreamHalt (h : Kept P s) {e x : Nat} {outer : Option (Nat × Nat × Nat)} {src : List PW} {upset : List Nat}
    {landed : List StLanded} : KeptNext P (execStreamHalt e x outer src upset landed s) := by
  unfold Machine.execStreamHalt
  show Kept P _
  split
  · extract_lets s' fin a
    have h' : Kept P s' := h.stServe
    have hfin : ∀ (t : StEntry) (u : State) (f : StFault) (n : Nat), Kept P u → Kept P (fin t u f n) := fun _ _ _ _ hu =>
        hu.stLand.stHalt
    split
    · split
      · split
        · extract_lets u
          have hu : Kept P u := h'.stAppend
          split
          · exact hfin _ _ _ _ hu
          · exact hu
        · exact h'
      · exact h'
    · extract_lets b r
      have hr : Kept P r.st := h'.stRunTo
      split
      · split
        · exact hfin _ _ _ _ h'
        · split
          · exact hfin _ _ _ _ h'
          · split
            · exact hfin _ _ _ _ h'
            · extract_lets r'
              have hr' : Kept P r'.st := h'.stRunTo
              exact hfin _ _ _ _ hr'.stKeep
      · split
        · split
          · exact hfin _ _ _ _ h'
          · exact h'.stOuterHalt (fun _ _ _ hu => hfin _ _ _ _ hu)
        · split
          · exact h'
          · exact h'.stOuterHalt (fun _ _ _ hu => hfin _ _ _ _ hu)
        · split
          · exact h'
          · split
            · exact hfin _ _ _ _ hr.stKeep
            · exact hr.stKeep
  · exact h

theorem execCancelComplete (h : Kept P s) {e x : Nat} {landed : List StLanded} : KeptNext P (execCancelComplete e x landed s) := by
  unfold Machine.execCancelComplete
  show Kept P _
  split
  · exact h.stLand.stCancelDone.stCount
  · exact h

theorem stReset (h : Kept P s) {e x cause : Nat} : Kept P (s.stReset e x cause) := by
  unfold State.stReset
  split
  · exact h
  · exact h.stClear.setStState

theorem stViReset (h : Kept P s) {v : Nat} : Kept P (s.stViReset v) := by
  unfold State.stViReset
  exact h.each (fun _ _ ht => ht.each (fun _ _ hu => hu.stReset))

theorem stEngineOff (h : Kept P s) {e : Nat} : Kept P (s.stEngineOff e) := by
  unfold State.stEngineOff
  extract_lets s1
  have h1 : Kept P s1 := h.each (fun _ _ ht => Kept.ite ht.stClear ht)
  exact h1.withSt.resetRegs

theorem stClearCounters (h : Kept P s) {e : Nat} : Kept P (s.stClearCounters e) :=
  h.resetRegs

end Kept

end Sys2Proof.Machine
end

section
/-! SUPPORT. Stable properties through the engines: a lemma for each operation, in the order of the model. -/
namespace Sys2Proof.Machine

open Sys2Proof

namespace Kept
variable {P : State → Prop} {s : State}

theorem setEngQueue (h : Kept P s) {c k : Nat} {l : List EngOp} : Kept P (s.setEngQueue c k l) := by
  unfold State.setEngQueue
  extract_lets rest y
  exact h.withEng

theorem engIssue (h : Kept P s) {c k : Nat} {desc : BitVec 256} {vi : Nat} : Kept P (s.engIssue c k desc vi).2 := by
  unfold State.engIssue
  split
  · exact h
  · exact h.withEng.snd

theorem engRan (h : Kept P s) {c k : Nat} {d : EngDone} : Kept P (s.engRan c k d) := by
  unfold State.engRan
  split
  · exact h
  · exact h.setEngQueue

theorem engCount (h : Kept P s) {c k e n : Nat} : Kept P (s.engCount c k e n) :=
  h.cntInc

theorem accSummary (h : Kept P s) {c k flags : Nat} : Kept P (s.accSummary c k flags) := by
  unfold State.accSummary
  extract_lets put
  have hput : ∀ (t : State) (b : Nat) (f : Fld), Kept P t → Kept P (put t b f) := fun _ _ _ ht => Kept.ite ht.setFlag ht
  exact hput _ _ _ (hput _ _ _ (hput _ _ _ h))

theorem readElems (h : Kept P s) {c port addr size n : Nat} : Kept P (s.readElems c port addr size n).2 := by
  unfold State.readElems
  split
  next _ _ s2 e =>
    exact h.tmReadN.of_eq e

theorem readRows (h : Kept P s) {c port addr step size cols r : Nat} : Kept P (s.readRows c port addr step size cols r).2 := by
  induction r with
  | zero => exact h
  | succ r ih =>
    unfold State.readRows
    split
    next _ _ s1 e =>
      have h1 : Kept P s1 := ih.of_eq e
      split
      next _ _ s2 e' =>
        exact h1.readElems.of_eq e'

theorem mxRows (h : Kept P s) {c : Nat} {o : EngOp} {b : List (List Elem)} {upset : List (Nat × Nat)}
    {rows : List (Nat × List Elem)} : Kept P (s.mxRows c o b upset rows).2 := by
  induction rows generalizing s with
  | nil => exact h
  | cons p l ih =>
    unfold State.mxRows
    extract_lets fc n size per addr
    split
    next _ _ s2 e =>
      have h2 : Kept P s2 := Kept.of_eq (by
        split
        · exact h.readElems
        · exact h) e
      extract_lets r s2' s3
      have h2' : Kept P s2' := h2.tmWriteAll.accSummary
      have h3 : Kept P s3 := Kept.ite h2'.setFlag h2'
      split
      next _ _ t e' =>
        exact (ih h3).of_eq e'

theorem mxRun (h : Kept P s) {c : Nat} {o : EngOp} {upset : List (Nat × Nat)} : Kept P (s.mxRun c o upset) := by
  unfold State.mxRun
  extract_lets m n k
  split
  next _ _ s1 e =>
    have h1 : Kept P s1 := h.readRows.of_eq e
    split
    next _ _ s1' e' =>
      have h1' : Kept P s1' := h1.readRows.of_eq e'
      split
      next _ _ t e'' =>
        have ht : Kept P t := h1'.mxRows.of_eq e''
        extract_lets macs y s4
        have h4 : Kept P s4 := ht.withEng.engCount
        exact h4.engRan

theorem mxMode (h : Kept P s) {c exactBit : Nat} {upset : List (Nat × Nat)} : Kept P (s.mxMode c exactBit upset) := by
  unfold State.mxMode
  split
  · exact h
  · split
    · exact h.mxRun
    · exact h

theorem execMxNormal (h : Kept P s) {c : Nat} {upset : List (Nat × Nat)} : KeptNext P (execMxNormal c upset s) :=
  h.mxMode

theorem execMxExact (h : Kept P s) {c : Nat} {upset : List (Nat × Nat)} : KeptNext P (execMxExact c upset s) :=
  h.mxMode

theorem setVxAcc (h : Kept P s) {c lane ix : Nat} {a : LongAcc} : Kept P (s.setVxAcc c lane ix a) :=
  h.withEng

theorem clearAccs (h : Kept P s) {c : Nat} : Kept P (s.clearAccs c) :=
  h.withEng

theorem vxEnter (h : Kept P s) {c vi : Nat} : Kept P (s.vxEnter c vi) := by
  unfold State.vxEnter
  extract_lets last y s1
  have h1 : Kept P s1 := h.withEng
  split
  · exact h1
  · exact h1.clearAccs.engCount

theorem vxSrc (h : Kept P s) {c : Nat} {o : EngOp} {lo : Nat} : Kept P (s.vxSrc c o lo).2 := by
  unfold State.vxSrc
  extract_lets f
  split
  next _ _ s2 e =>
    exact h.readElems.of_eq e

theorem vxWrite (h : Kept P s) {c : Nat} {o : EngOp} {size : Nat} {l : List Elem} {upset : List (Nat × Nat)} :
    Kept P (s.vxWrite c o size l upset) := by
  unfold State.vxWrite
  extract_lets l1 s1
  have h1 : Kept P s1 := h.tmWriteAll
  exact h1.engCount.engRan

theorem vxOp (h : Kept P s) {c op : Nat} {run : State → EngOp → State} (hrun : ∀ (a : State)
    (t : EngOp), Kept P a → Kept P (run a t)) : Kept P (s.vxOp c op run) := by
  unfold State.vxOp
  split
  · exact h
  · split
    · exact hrun _ _ h.vxEnter
    · exact h

theorem vxEach (h : Kept P s) {c : Nat} {o : EngOp} {n : Nat} {upset : List (Nat × Nat)} {f : FVal → FVal → FVal → FVal} :
    Kept P (s.vxEach c o n upset f) := by
  unfold State.vxEach
  extract_lets g zero
  split
  next _ _ s3 e =>
    have h3 : Kept P s3 := h.vxSrc.of_eq e
    split
    next _ _ s3' e' =>
      have h3' : Kept P s3' := Kept.of_eq (by
        split
        · exact h3.vxSrc
        · exact h3) e'
      split
      next _ _ s3'' e'' =>
        have h3'' : Kept P s3'' := Kept.of_eq (by
          split
          · exact h3'.vxSrc
          · exact h3') e''
        extract_lets out
        exact h3''.vxWrite

theorem vxMap (h : Kept P s) {c op : Nat} {upset : List (Nat × Nat)} {f : FVal → FVal → FVal → FVal} :
    Kept P (s.vxMap c op upset f) := by
  unfold State.vxMap
  exact h.vxOp (fun _ _ h' => h'.vxEach)

theorem execVxAdd (h : Kept P s) {c : Nat} {upset : List (Nat × Nat)} : KeptNext P (execVxAdd c upset s) :=
  h.vxMap

theorem execVxSub (h : Kept P s) {c : Nat} {upset : List (Nat × Nat)} : KeptNext P (execVxSub c upset s) :=
  h.vxMap

theorem execVxMul (h : Kept P s) {c : Nat} {upset : List (Nat × Nat)} : KeptNext P (execVxMul c upset s) :=
  h.vxMap

theorem execVxFma (h : Kept P s) {c : Nat} {upset : List (Nat × Nat)} : KeptNext P (execVxFma c upset s) :=
  h.vxMap

theorem execVxMin (h : Kept P s) {c : Nat} {upset : List (Nat × Nat)} : KeptNext P (execVxMin c upset s) :=
  h.vxMap

theorem execVxMax (h : Kept P s) {c : Nat} {upset : List (Nat × Nat)} : KeptNext P (execVxMax c upset s) :=
  h.vxMap

theorem vxCmpRun (h : Kept P s) {c : Nat} {o : EngOp} {upset : List (Nat × Nat)} : Kept P (s.vxCmpRun c o upset) := by
  unfold State.vxCmpRun
  split
  next _ _ s3 e =>
    have h3 : Kept P s3 := h.vxSrc.of_eq e
    split
    next _ _ s3' e' =>
      have h3' : Kept P s3' := h3.vxSrc.of_eq e'
      extract_lets bits bytes
      exact h3'.vxWrite

theorem execVxCmp (h : Kept P s) {c : Nat} {upset : List (Nat × Nat)} : KeptNext P (execVxCmp c upset s) := by
  unfold Machine.execVxCmp
  show Kept P _
  exact h.vxOp (fun _ _ h' => h'.vxCmpRun)

theorem vxSelRun (h : Kept P s) {c : Nat} {o : EngOp} {upset : List (Nat × Nat)} : Kept P (s.vxSelRun c o upset) := by
  unfold State.vxSelRun
  split
  next _ _ s3 e =>
    have h3 : Kept P s3 := h.vxSrc.of_eq e
    split
    next _ _ s3' e' =>
      have h3' : Kept P s3' := h3.vxSrc.of_eq e'
      split
      next _ _ s2 e'' =>
        have h2 : Kept P s2 := h3'.tmReadN.of_eq e''
        extract_lets g out
        exact h2.vxWrite

theorem execVxSel (h : Kept P s) {c : Nat} {upset : List (Nat × Nat)} : KeptNext P (execVxSel c upset s) := by
  unfold Machine.execVxSel
  show Kept P _
  exact h.vxOp (fun _ _ h' => h'.vxSelRun)

theorem execVxCvt (h : Kept P s) {c : Nat} {upset : List (Nat × Nat)} : KeptNext P (execVxCvt c upset s) :=
  h.vxMap

theorem execVxExp (h : Kept P s) {c : Nat} {upset : List (Nat × Nat)} : KeptNext P (execVxExp c upset s) :=
  h.vxMap

theorem execVxLog (h : Kept P s) {c : Nat} {upset : List (Nat × Nat)} : KeptNext P (execVxLog c upset s) :=
  h.vxMap

theorem execVxRcp (h : Kept P s) {c : Nat} {upset : List (Nat × Nat)} : KeptNext P (execVxRcp c upset s) :=
  h.vxMap

theorem execVxRsqrt (h : Kept P s) {c : Nat} {upset : List (Nat × Nat)} : KeptNext P (execVxRsqrt c upset s) :=
  h.vxMap

theorem execVxSigmoid (h : Kept P s) {c : Nat} {upset : List (Nat × Nat)} : KeptNext P (execVxSigmoid c upset s) :=
  h.vxMap

theorem execVxTanh (h : Kept P s) {c : Nat} {upset : List (Nat × Nat)} : KeptNext P (execVxTanh c upset s) :=
  h.vxMap

theorem accUpset (h : Kept P s) {c ix : Nat} {upset : List (Nat × Nat)} : Kept P (s.accUpset c ix upset) := by
  unfold State.accUpset
  exact h.each (fun _ _ ht => ht.setVxAcc)

theorem accDone (h : Kept P s) {c : Nat} {o : EngOp} {upset : List (Nat × Nat)} : Kept P (s.accDone c o upset) :=
  h.accUpset.engCount.engRan

theorem accclrRun (h : Kept P s) {c : Nat} {o : EngOp} {upset : List (Nat × Nat)} : Kept P (s.accclrRun c o upset) := by
  unfold State.accclrRun
  exact (h.each (fun _ _ ht => ht.setVxAcc)).accDone

theorem execAccclr (h : Kept P s) {c : Nat} {upset : List (Nat × Nat)} : KeptNext P (execAccclr c upset s) := by
  unfold Machine.execAccclr
  show Kept P _
  exact h.vxOp (fun _ _ h' => h'.accclrRun)

theorem accsumRun (h : Kept P s) {c : Nat} {o : EngOp} {upset : List (Nat × Nat)} : Kept P (s.accsumRun c o upset) := by
  unfold State.accsumRun
  split
  next _ _ s3 e =>
    have h3 : Kept P s3 := h.vxSrc.of_eq e
    exact (h3.each (fun _ _ ht => by
      split
      · exact ht.setVxAcc)).accDone

theorem execAccsum (h : Kept P s) {c : Nat} {upset : List (Nat × Nat)} : KeptNext P (execAccsum c upset s) := by
  unfold Machine.execAccsum
  show Kept P _
  exact h.vxOp (fun _ _ h' => h'.accsumRun)

theorem accdotRun (h : Kept P s) {c : Nat} {o : EngOp} {upset : List (Nat × Nat)} : Kept P (s.accdotRun c o upset) := by
  unfold State.accdotRun
  split
  next _ _ s3 e =>
    have h3 : Kept P s3 := h.vxSrc.of_eq e
    split
    next _ _ s3' e' =>
      have h3' : Kept P s3' := h3.vxSrc.of_eq e'
      exact (h3'.each (fun _ _ ht => by
        split
        · exact ht.setVxAcc)).accDone

theorem execAccdot (h : Kept P s) {c : Nat} {upset : List (Nat × Nat)} : KeptNext P (execAccdot c upset s) := by
  unfold Machine.execAccdot
  show Kept P _
  exact h.vxOp (fun _ _ h' => h'.accdotRun)

theorem accmergeRun (h : Kept P s) {c : Nat} {o : EngOp} {upset : List (Nat × Nat)} : Kept P (s.accmergeRun c o upset) := by
  unfold State.accmergeRun
  split
  next _ _ s2 e =>
    have h2 : Kept P s2 := h.tmReadN.of_eq e
    exact (h2.each (fun _ _ ht => ht.setVxAcc)).accDone

theorem execAccmerge (h : Kept P s) {c : Nat} {upset : List (Nat × Nat)} : KeptNext P (execAccmerge c upset s) := by
  unfold Machine.execAccmerge
  show Kept P _
  exact h.vxOp (fun _ _ h' => h'.accmergeRun)

theorem accloadRun (h : Kept P s) {c : Nat} {o : EngOp} {upset : List (Nat × Nat)} : Kept P (s.accloadRun c o upset) := by
  unfold State.accloadRun
  split
  next _ _ s2 e =>
    have h2 : Kept P s2 := h.tmReadN.of_eq e
    exact (h2.each (fun _ _ ht => ht.setVxAcc)).accDone

theorem execAccload (h : Kept P s) {c : Nat} {upset : List (Nat × Nat)} : KeptNext P (execAccload c upset s) := by
  unfold Machine.execAccload
  show Kept P _
  exact h.vxOp (fun _ _ h' => h'.accloadRun)

theorem accstoreRun (h : Kept P s) {c : Nat} {o : EngOp} {upset : List (Nat × Nat)} : Kept P (s.accstoreRun c o upset) := by
  unfold State.accstoreRun
  extract_lets s0
  have h0 : Kept P s0 := h.accUpset
  exact h0.vxWrite

theorem execAccstore (h : Kept P s) {c : Nat} {upset : List (Nat × Nat)} : KeptNext P (execAccstore c upset s) := by
  unfold Machine.execAccstore
  show Kept P _
  exact h.vxOp (fun _ _ h' => h'.accstoreRun)

theorem accroundRun (h : Kept P s) {c : Nat} {o : EngOp} {upset : List (Nat × Nat)} : Kept P (s.accroundRun c o upset) := by
  unfold State.accroundRun
  extract_lets s0 f lanes all
  have h0 : Kept P s0 := h.accUpset
  split
  · split
    · exact h0.vxWrite
    · exact h0.accSummary.vxWrite
  · exact h0.accSummary.vxWrite

theorem execAccround (h : Kept P s) {c : Nat} {upset : List (Nat × Nat)} : KeptNext P (execAccround c upset s) := by
  unfold Machine.execAccround
  show Kept P _
  exact h.vxOp (fun _ _ h' => h'.accroundRun)

theorem topkRun (h : Kept P s) {c : Nat} {o : EngOp} {upset : List (Nat × Nat)} : Kept P (s.topkRun c o upset) := by
  unfold State.topkRun
  extract_lets n k score
  split
  next _ _ s2 e =>
    have h2 : Kept P s2 := h.readElems.of_eq e
    split
    next _ _ s2' e' =>
      have h2' : Kept P s2' := Kept.of_eq (by
        split
        · exact h2
        · exact h2.readElems) e'
      extract_lets tag sorted out
      exact h2'.vxWrite

theorem execTopk (h : Kept P s) {c : Nat} {upset : List (Nat × Nat)} : KeptNext P (execTopk c upset s) := by
  unfold Machine.execTopk
  show Kept P _
  exact h.vxOp (fun _ _ h' => h'.topkRun)

theorem gtList (h : Kept P s) {c addr n : Nat} : Kept P (s.gtList c addr n).2 :=
  h.tmReadN

theorem setGtRun (h : Kept P s) {c : Nat} {r : Option GtRun} : Kept P (s.setGtRun c r) :=
  h.withEng

theorem gtWriteBag (h : Kept P s) {c : Nat} {o : EngOp} {r : GtRun} {b : Nat} {upset : List Nat} :
    Kept P (s.gtWriteBag c o r b upset).1 := by
  unfold State.gtWriteBag
  extract_lets pool f n rows eng outs elems size s1 s2 s3
  have h1 : Kept P s1 := h.tmWriteAll
  have h2 : Kept P s2 := h1.accSummary
  exact Kept.ite h2.engCount h2

theorem gtWriteReady (h : Kept P s) {c : Nat} {o : EngOp} {r : GtRun} {upset bs : List Nat} :
    Kept P (s.gtWriteReady c o r upset bs).1 := by
  induction bs generalizing s r with
  | nil => exact h
  | cons b l ih =>
    unfold State.gtWriteReady
    split
    · split
      next _ s1 _ e =>
        have h1 : Kept P s1 := h.gtWriteBag.of_eq_fst e
        exact ih h1
    · exact ih h

theorem gtAdvance (h : Kept P s) {c : Nat} {o : EngOp} {r : GtRun} {upset : List Nat} : Kept P (s.gtAdvance c o r upset) := by
  unfold State.gtAdvance
  split
  next _ s1 _ e =>
    have h1 : Kept P s1 := h.gtWriteReady.of_eq_fst e
    split
    · exact h1.setGtRun.engRan
    · exact h1.setGtRun

theorem gtBegin (h : Kept P s) {c pool : Nat} {o : EngOp} : Kept P (s.gtBegin c pool o) := by
  unfold State.gtBegin
  extract_lets s0 nb
  have h0 : Kept P s0 := h.applyShadow
  split
  next _ _ s2 e =>
    have h2 : Kept P s2 := h0.gtList.of_eq e
    extract_lets tab
    split
    next _ _ s2' e' =>
      have h2' : Kept P s2' := h2.gtList.of_eq e'
      extract_lets lasts top drops
      split
      · exact (Kept.ite h2.bite h2).engRan
      · split
        · exact h2'.engRan
        · split
          · exact h2'.engRan
          · split
            · exact h2'.engRan
            · split
              next _ _ s2'' e'' =>
                have h2'' : Kept P s2'' := h2'.gtList.of_eq e''
                split
                next _ _ s2''' e''' =>
                  have h2''' : Kept P s2''' := Kept.of_eq (by
                    split
                    · exact h2''.gtList
                    · exact h2'') e'''
                  extract_lets r r' bites oob s5
                  have h5 : Kept P s5 := h2'''.satInc
                  exact (Kept.ite h5 h5.engCount).gtAdvance

theorem gtStart (h : Kept P s) {c pool : Nat} : Kept P (s.gtStart c pool) := by
  unfold State.gtStart
  split
  · exact h
  · split
    · exact h
    · exact h.gtBegin

theorem execGtSum (h : Kept P s) {c : Nat} : KeptNext P (execGtSum c s) :=
  h.gtStart

theorem execGtMean (h : Kept P s) {c : Nat} : KeptNext P (execGtMean c s) :=
  h.gtStart

theorem execGtMax (h : Kept P s) {c : Nat} : KeptNext P (execGtMax c s) :=
  h.gtStart

theorem execGtWsum (h : Kept P s) {c : Nat} : KeptNext P (execGtWsum c s) :=
  h.gtStart

theorem gtReadPhys (h : Kept P s) {c vi cls tab dva addr len : Nat} : Kept P (s.gtReadPhys c vi cls tab dva addr len).2 := by
  unfold State.gtReadPhys
  extract_lets pin m
  split
  · extract_lets raw
    split
    next _ _ s1 e =>
      exact h.cachedRead.of_eq e
    next _ _ s1 e =>
      exact h.cachedRead.of_eq e
    next _ _ s1 e =>
      exact h.cachedRead.of_eq e
    next _ _ s1 e =>
      exact h.cachedRead.of_eq e
    next _ _ s1 e =>
      exact h.cachedRead.of_eq e
    next _ s1 e =>
      exact h.cachedRead.of_eq e
  · exact h.memFault.snd

theorem gtReadRow (h : Kept P s) {fuel : Nat} {r : GtRun} {vi cls pos dva len : Nat} :
    Kept P (State.gtReadRow fuel s r vi cls pos dva len).2 := by
  induction fuel generalizing s dva len with
  | zero => exact h
  | succ fuel ih =>
    unfold State.gtReadRow
    extract_lets n page
    have hpage : Kept P page.2 := by
      unfold page
      split
      · exact h
      · split
        next _ _ s1 e => exact (h.reach.of_eq e).gtReadPhys
        next _ _ s1 e => exact (h.reach.of_eq e).plotFault
        next _ s1 e => exact h.reach.of_eq e
        next _ s1 _ _ _ e => exact h.reach.of_eq e
    clear_value page
    split
    next ws k s2 =>
      have h2 : Kept P s2 := hpage
      split
      · exact h2
      · extract_lets y s3
        have h3 : Kept P s3 := h2.withEng
        clear_value s3
        split
        next w2 k2 s4 e2 => exact (ih h3).of_eq e2
        next => exact ih h3
    next => exact hpage

theorem execGatherRowArrive (h : Kept P s) {c pos : Nat} {upset : List Nat} : KeptNext P (execGatherRowArrive c pos upset s) := by
  unfold Machine.execGatherRowArrive
  show Kept P _
  split
  · extract_lets left cap len dva
    split
    · exact h
    · split
      next _ s1 e =>
        exact h.gtReadRow.of_eq e
      next _ _ s1 e =>
        have h1 : Kept P s1 := h.gtReadRow.of_eq e
        exact h1.engCount.dropUnit.setGtRun.engRan
      next _ _ s1 e =>
        have h1 : Kept P s1 := h.gtReadRow.of_eq e
        exact h1.engCount.gtAdvance
      next _ _ _ s1 e =>
        have h1 : Kept P s1 := h.gtReadRow.of_eq e
        split
        · extract_lets s2 s3 s4
          have h2 : Kept P s2 := (Kept.ite h1.engCount h1).engCount
          have h3 : Kept P s3 := Kept.ite h2.engCount h2
          have h4 : Kept P s4 := Kept.ite h3.engCount h3
          exact h4.gtAdvance
  · exact h

theorem engFinish (h : Kept P s) {c k : Nat} {o : EngOp} {d : EngDone} : Kept P (s.engFinish c k o d) := by
  unfold State.engFinish
  split
  · extract_lets s1 reg s2 s3 s4 s5
    have h1 : Kept P s1 := h.fencePorts
    have h2 : Kept P s2 := h1.setReg
    have h3 : Kept P s3 := h2.setFld.engCount
    have h4 : Kept P s4 := Kept.ite h3.stSignal h3
    have h5 : Kept P s5 := h4.setEngQueue
    split
    · exact h5.each (fun _ _ ht => ht.raiseIrq)
    · exact h5

theorem execEngineComplete (h : Kept P s) {c k : Nat} {err : Bool} : KeptNext P (execEngineComplete c k err s) := by
  unfold Machine.execEngineComplete
  show Kept P _
  split
  · split
    · exact (Kept.ite h.dropUnit.setGtRun h).engFinish
    · split
      · exact h.engFinish
      · exact h
  · exact h

theorem engViReset (h : Kept P s) {v : Nat} : Kept P (s.engViReset v) := by
  unfold State.engViReset
  exact h.each (fun _ _ ht => by
    extract_lets t1 t2
    have ht1 : Kept P t1 := by
      unfold t1
      split
      · split
        · exact ht.dropUnit.setGtRun
        · exact ht
      · exact ht
    have ht2 : Kept P t2 := ht1.each (fun _ _ hu => hu.setEngQueue)
    split
    · exact ht2.clearAccs
    · exact ht2)

theorem engOff (h : Kept P s) {c : Nat} : Kept P (s.engOff c) := by
  unfold State.engOff
  extract_lets s1 y s2
  have h1 : Kept P s1 := (h.each (fun _ _ ht => ht.setEngQueue)).dropUnit.setGtRun.clearAccs
  have h2 : Kept P s2 := h1.withEng
  exact h2.resetRegs

theorem engClearCounters (h : Kept P s) {c k : Nat} : Kept P (s.engClearCounters c k) :=
  h.resetRegs

end Kept

end Sys2Proof.Machine
end

section
/-! SUPPORT. Stable properties through the host and its queues: a lemma for each operation, in the order of the model. -/
namespace Sys2Proof.Machine

open Sys2Proof

namespace Kept
variable {P : State → Prop} {s : State}

theorem setQueue (h : Kept P s) {q : Nat} {x : HqQueue} : Kept P (s.setQueue q x) :=
  h.withHq

theorem viCount (h : Kept P s) {v e : Nat} : Kept P (s.viCount v e) :=
  h.wrapInc

theorem viEvent (h : Kept P s) {v : Nat} : Kept P (s.viEvent v) :=
  h.emit

theorem freezeQueue (h : Kept P s) {q err : Nat} : Kept P (s.freezeQueue q err) := by
  unfold State.freezeQueue
  extract_lets s1
  have h1 : Kept P s1 := h.setFlag.setFld.setFlag
  exact h1.viEvent

theorem dropStaged (h : Kept P s) {q : Nat} : Kept P (s.dropStaged q) := by
  unfold State.dropStaged
  extract_lets h' y s1 y'
  have h1 : Kept P s1 := h.setQueue
  exact h1.withHq

theorem addComp (h : Kept P s) {c : HqComp} : Kept P (s.addComp c) :=
  h.withHq

theorem releasePin (h : Kept P s) {p : Option (Nat × Nat)} : Kept P (s.releasePin p) := by
  unfold State.releasePin
  split
  · exact h
  · exact h.setFld

theorem freeSlot (h : Kept P s) {k : Nat} : Kept P (s.freeSlot k) := by
  unfold State.freeSlot
  split
  · exact h
  · extract_lets s1 y
    have h1 : Kept P s1 := h.releasePin.setFld
    exact h1.withHq

theorem genswapFire (h : Kept P s) {t gen : Nat} : Kept P (s.genswapFire t gen) := by
  unfold State.genswapFire
  extract_lets a s1 stale s2 s3 y
  have h1 : Kept P s1 := h.setFld.setFld.setFlag
  have h2 : Kept P s2 := h1.setFld.setFld
  have h3 : Kept P s3 := h2.setFld
  exact h3.withHq

theorem genretireFire (h : Kept P s) {t gen : Nat} : Kept P (s.genretireFire t gen) := by
  unfold State.genretireFire
  extract_lets s1
  have h1 : Kept P s1 := h.retireGen.setFld
  split
  · exact h1.setFlag
  · exact h1

theorem queueEnable (h : Kept P s) {q : Nat} : Kept P (s.queueEnable q) := by
  unfold State.queueEnable
  extract_lets s1 s2 y
  have h1 : Kept P s1 := h.each (fun _ _ ht => ht.freeSlot)
  have h2 : Kept P s2 := h1.setReg.setFlag
  exact h2.setQueue.withHq

theorem operatorEnable (h : Kept P s) {v o : Nat} : Kept P (s.operatorEnable v o) :=
  h.withHq

theorem queueCancel (h : Kept P s) {q : Nat} : Kept P (s.queueCancel q) := by
  unfold State.queueCancel
  split
  · extract_lets s1 s2 y
    have h1 : Kept P s1 := h.setFlag
    have h2 : Kept P s2 := h1.each (fun _ _ ht => ht.addComp)
    exact h2.withHq
  · exact h

theorem execPcieUnsupportedRequest (h : Kept P s) {port : Nat} : KeptNext P (execPcieUnsupportedRequest port s) :=
  h.emit

theorem execAtsInvalidation (h : Kept P s) {port vi addr len tag : Nat} :
    KeptNext P (execAtsInvalidation port vi addr len tag s) := by
  unfold Machine.execAtsInvalidation
  show Kept P _
  extract_lets hit y s1
  have h1 : Kept P s1 := h.withHq
  split
  · exact h1
  · exact h1.emit

theorem doorbellHalf (h : Kept P s) {v q : Nat} {tail : Bool} {x : Option Nat} : Kept P (s.doorbellHalf v q tail x) := by
  unfold State.doorbellHalf
  split
  · exact h
  · split
    · exact h.viCount
    · split
      · exact h.setQueue
      · exact h.setQueue

theorem execDoorbell (h : Kept P s) {port fn i : Nat} {tail head : Option Nat} {poison : Bool} :
    KeptNext P (execDoorbell port fn i tail head poison s) := by
  unfold Machine.execDoorbell
  show Kept P _
  split
  · exact h
  · extract_lets q
    split
    · exact h.viCount
    · split
      · exact h.viCount
      · exact h.doorbellHalf.doorbellHalf

theorem ringBeats (h : Kept P s) {q : Nat} : Kept P (s.ringBeats q) := by
  unfold State.ringBeats
  exact h.each (fun _ _ ht => ht.trMove)

theorem ringRead (h : Kept P s) {q addr : Nat} : Kept P (s.ringRead q addr).2 := by
  unfold State.ringRead
  split
  · exact h.fabRead
  · exact h

theorem ringWrite (h : Kept P s) {q addr : Nat} {data : List PW} : Kept P (s.ringWrite q addr data).2 := by
  unfold State.ringWrite
  split
  · exact h.fabWrite
  · exact h

theorem execSqFetch (h : Kept P s) {q : Nat} : KeptNext P (execSqFetch q s) := by
  unfold Machine.execSqFetch
  show Kept P _
  split
  · extract_lets y addr s1 put
    have h1 : Kept P s1 := h.setQueue
    have hput : ∀ (t : State) (d : Option (List PW)), Kept P t → Kept P (put t d) := fun _ _ ht => ht.withHq
    split
    · split
      next _ _ s2 e =>
        have h2 : Kept P s2 := h.ringRead.of_eq e
        split
        next _ _ s1' e' =>
          have h1' : Kept P s1' := h1.ringRead.of_eq e'
          exact hput _ _ h1'
      next _ _ s2 e =>
        have h2 : Kept P s2 := h.ringRead.of_eq e
        exact h2.freezeQueue
      next _ s2 e =>
        have h2 : Kept P s2 := h.ringRead.of_eq e
        exact h
    · exact hput _ _ h1.emit
  · exact h.setQueue

theorem readFill (h : Kept P s) {q ix : Nat} {d : List PW} : Kept P (s.readFill q ix d) :=
  h.withHq

theorem execHostReadCompletion (h : Kept P s) {q ix : Nat} {data : List PW} {poison ok : Bool} :
    KeptNext P (execHostReadCompletion q ix data poison ok s) := by
  unfold Machine.execHostReadCompletion
  show Kept P _
  split
  · split
    · exact h.ringBeats.readFill
    · exact h.freezeQueue.dropStaged
  · exact h

theorem execPcieCompletionTimeout (h : Kept P s) {q ix : Nat} : KeptNext P (execPcieCompletionTimeout q ix s) :=
  h.readFill

theorem execEntryStaged (h : Kept P s) {q : Nat} : KeptNext P (execEntryStaged q s) := by
  unfold Machine.execEntryStaged
  show Kept P _
  split
  · exact h
  · split
    · exact h
    · extract_lets y s1 desc y'
      have h1 : Kept P s1 := h.withHq
      split
      · exact h1.addComp
      · split
        · split
          · exact h1.addComp
          · exact h
        · exact h1.withHq

theorem newWeights (h : Kept P s) : Kept P s.newWeights := by
  unfold State.newWeights
  exact h.each (fun _ _ ht => ht.applyShadow)

theorem pickVi (h : Kept P s) {die cls : Nat} {vis : Nat → Bool} : Kept P (s.pickVi die cls vis).2 := by
  unfold State.pickVi
  extract_lets k put
  have hput : ∀ (t : State) (x : Nat × Nat), Kept P t → Kept P (put t x) := fun _ _ ht => ht.withHq
  split
  · split
    · exact Kept.snd (hput _ _ h)
    · extract_lets pick s1
      have h1 : Kept P s1 := by
        unfold s1
        split
        · split
          · exact h
          · exact h.newWeights
        · exact h.newWeights
      split
      · exact Kept.snd (hput _ _ h1)
      · split
        · exact Kept.snd (hput _ _ h1)
        · exact h

theorem pickQueue (h : Kept P s) {die cls v : Nat} {l : List HqStaged} : Kept P (s.pickQueue die cls v l).2 := by
  unfold State.pickQueue
  dsimp only
  split
  · exact h
  · exact h.withHq

theorem pickEntry (h : Kept P s) {die : Nat} : Kept P (s.pickEntry die).2 := by
  unfold State.pickEntry
  extract_lets l of cls
  split
  · exact h
  · split
    next _ u e =>
      have hu : Kept P u := h.pickVi.of_eq e
      exact h
    next _ _ u e =>
      have hu : Kept P u := h.pickVi.of_eq e
      exact hu.pickQueue

theorem admitAt (h : Kept P s) {die : Nat} {e : HqStaged} : Kept P (s.admitAt die e) := by
  unfold State.admitAt
  extract_lets y s' q v o t seq gen n off s1 y'
  have h' : Kept P s' := h.withHq
  have h1 : Kept P s1 := h'.viCount.setFld
  split
  · exact h'.addComp
  · split
    · exact h'.addComp
    · split
      · exact h'.viCount.addComp
      · split
        · exact h
        · extract_lets k slot s2 s3
          have h2 : Kept P s2 := h1.withHq
          have h3 : Kept P s3 := Kept.ite h2.setFld h2
          split
          next _ _ s2' e' =>
            have h2' : Kept P s2' := h3.fabWrite.of_eq e'
            exact h2'.wrapInc
          next _ _ s2' e' =>
            have h2' : Kept P s2' := h3.fabWrite.of_eq e'
            extract_lets s5 y'' s6
            have h5 : Kept P s5 := h2'.satInc
            have h6 : Kept P s6 := h5.withHq
            exact h6.addComp
          next _ s2' e' =>
            have h2' : Kept P s2' := h3.fabWrite.of_eq e'
            exact h

theorem execAdmission (h : Kept P s) {die : Nat} : KeptNext P (execAdmission die s) := by
  unfold Machine.execAdmission
  show Kept P _
  split
  · exact h
  · split
    next _ snd e =>
      have hsnd : Kept P snd := h.pickEntry.of_eq e
      exact h
    next _ _ t e =>
      have ht : Kept P t := h.pickEntry.of_eq e
      extract_lets u
      have hu : Kept P u := ht.admitAt
      split
      · exact h
      · exact hu

theorem serviceEstimate (h : Kept P s) {v o dur r : Nat} : Kept P (s.serviceEstimate v o dur r) := by
  unfold State.serviceEstimate
  extract_lets old y
  split
  · exact h.setFld
  · split
    next _ _ s1 e =>
      have h1 : Kept P s1 := h.free.of_eq e
      exact h1.setFld

theorem slotDone (h : Kept P s) {x : HqSlot} {status : Nat} : Kept P (s.slotDone x status) := by
  unfold State.slotDone
  extract_lets y s1
  have h1 : Kept P s1 := h.withHq
  exact h1.addComp

theorem hqPost (h : Kept P s) {a : Acc} {value : W64} {poison : Bool} : Kept P (s.hqPost a value poison) := by
  unfold State.hqPost
  extract_lets k st seq v
  split
  · exact h.viCount
  · split
    · split
      · exact h.bite.slotDone
      · split
        · extract_lets s1
          have h1 : Kept P s1 := h.serviceEstimate
          split
          · exact h1.viCount.slotDone
          · exact h1.slotDone
        · exact h.slotDone
    · exact h.viCount

theorem execSlotParityError (h : Kept P s) {slot : Nat} : KeptNext P (execSlotParityError slot s) := by
  unfold Machine.execSlotParityError
  show Kept P _
  split
  · exact h
  · split
    · exact h.withHq
    · exact h.slotDone

theorem cqAdvance (h : Kept P s) {q : Nat} : Kept P (s.cqAdvance q) := by
  unfold State.cqAdvance
  extract_lets n s1
  have h1 : Kept P s1 := h.setFld
  split
  · exact h1.setFld
  · exact h1

theorem queueIrq (h : Kept P s) {q : Nat} : Kept P (s.queueIrq q) :=
  h.setQueue.emit

theorem coalesce (h : Kept P s) {q : Nat} : Kept P (s.coalesce q) := by
  unfold State.coalesce
  split
  · extract_lets y lim
    split
    · exact h.setQueue
    · exact h.queueIrq
  · exact h

theorem writeComp (h : Kept P s) {c : HqComp} : Kept P (s.writeComp c).2 := by
  unfold State.writeComp
  extract_lets q addr
  split
  · split
    next _ _ s2 e =>
      have h2 : Kept P s2 := h.ringWrite.of_eq e
      exact h2.cqAdvance.coalesce.snd
    next _ _ s2 e =>
      have h2 : Kept P s2 := h.ringWrite.of_eq e
      exact h2.freezeQueue.snd
    next _ s2 e =>
      have h2 : Kept P s2 := h.ringWrite.of_eq e
      exact h
  · exact h.hostWriteAs.cqAdvance.coalesce.snd

theorem execCompletionWrite (h : Kept P s) {q : Nat} {fails : Bool} : KeptNext P (execCompletionWrite q fails s) := by
  unfold Machine.execCompletionWrite
  show Kept P _
  split
  · exact h
  · split
    · split
      · exact h.freezeQueue
      · split
        next _ t e =>
          exact h.writeComp.of_eq e
        next _ t e =>
          have ht : Kept P t := h.writeComp.of_eq e
          extract_lets y t1
          have ht1 : Kept P t1 := ht.withHq
          split
          · exact ht1
          · exact ht1.freeSlot
    · exact h

theorem execMsixCoalesceTimeout (h : Kept P s) {q : Nat} : KeptNext P (execMsixCoalesceTimeout q s) := by
  unfold Machine.execMsixCoalesceTimeout
  show Kept P _
  extract_lets y flr
  split
  · exact h.queueIrq
  · exact h

theorem execBar2Access (h : Kept P s) {port off : Nat} {write : Bool} {len : Nat} {data : List PW} {poison : Bool} :
    KeptNext P (execBar2Access port off write len data poison s) := by
  unfold Machine.execBar2Access
  show Kept P _
  extract_lets mine addr n m ended wait
  have hended : ∀ (t : State), Kept P t → Kept P (ended t) := fun _ ht => ht.withHq
  have hwait : ∀ (t : State), Kept P t → Kept P (wait t) := fun _ ht => Kept.ite ht ht.withHq
  split
  next _ _ t e =>
    have ht : Kept P t := Kept.of_eq (by
      split
      · exact h.physWrite
      · exact h.physRead) e
    split
    · exact hwait _ ht
    · split
      · exact hended _ ht
      · exact (hended _ ht).emit
    · split
      · exact hended _ ht
      · exact (hended _ ht).emit
    · split
      · exact hended _ ht
      · exact (hended _ ht).emit

theorem viResetBegin (h : Kept P s) {v : Nat} : Kept P (s.viResetBegin v) := by
  unfold State.viResetBegin
  extract_lets s1 s2 s3 y s4 s5 s5a y' s6
  have h1 : Kept P s1 := h.setFlag.setFlag
  have h2 : Kept P s2 := h1.each (fun _ _ ht => ht.setFlag.setFld.dropStaged)
  have h3 : Kept P s3 := h2.stViReset.engViReset.muViReset.scViReset
  have h4 : Kept P s4 := h3.withHbm
  have h5 : Kept P s5 := h4.lcViReset.closeViWindows.closeViHerdWindows
  have hs5a : Kept P s5a := h5.fabMute
  have h6 : Kept P s6 := hs5a.withTm
  exact h6.lockDrop.releaseLocks

theorem viReset (h : Kept P s) {v : Nat} {flush flr : Bool} : Kept P (s.viReset v flush flr) := by
  unfold State.viReset
  split
  · exact h.withHq
  · extract_lets t y
    have ht : Kept P t := h.viResetBegin
    exact ht.withHq

theorem viResetGo (h : Kept P s) : Kept P s.viResetGo :=
  h.setFlag.viReset

theorem flushSlot (h : Kept P s) {flush : Bool} {x : HqSlot} : Kept P (s.flushSlot flush x) := by
  unfold State.flushSlot
  extract_lets lost s1
  have hlost : ∀ (t : State), Kept P t → Kept P (lost t) := fun _ ht => ht.withHq
  have h1 : Kept P s1 := by
    unfold s1
    split
    · split
      · split
        next _ s1' e =>
          exact h.writeComp.of_eq e
        next _ s1' e =>
          have h1 : Kept P s1' := h.writeComp.of_eq e
          exact hlost _ h1
      · exact hlost _ h
    · exact h
  exact h1.freeSlot

theorem viResetEnd (h : Kept P s) {r : ViReset} : Kept P (s.viResetEnd r) := by
  unfold State.viResetEnd
  extract_lets v s1 y s2 s3 s4 s5
  have h1 : Kept P s1 := h.each (fun _ _ ht => ht.flushSlot)
  have h2 : Kept P s2 := h1.withHq
  have h3 : Kept P s3 := h2.each (fun _ _ ht => ht.setFlag)
  have h4 : Kept P s4 := h3.setFlag.setFlag
  have h5 : Kept P s5 := Kept.ite h4.setFlag h4
  split
  · exact h5.resetRegs
  · exact h5.viEvent

theorem execViResetDone (h : Kept P s) {v : Nat} : KeptNext P (execViResetDone v s) := by
  unfold Machine.execViResetDone
  show Kept P _
  split
  · exact h
  · split
    · exact h
    · exact h.viResetEnd

theorem pfReset (h : Kept P s) {port : Nat} : Kept P (s.pfReset port) := by
  unfold State.pfReset
  extract_lets vis
  exact (h.each (fun _ _ ht => ht.viReset)).setReg.emit

theorem execFlr (h : Kept P s) {port fn : Nat} : KeptNext P (execFlr port fn s) := by
  unfold Machine.execFlr
  show Kept P _
  split
  · exact h
  · split
    · exact h.pfReset
    · exact h.viReset

theorem execPcieLinkLoss (h : Kept P s) {port : Nat} : KeptNext P (execPcieLinkLoss port s) := by
  unfold Machine.execPcieLinkLoss
  show Kept P _
  split
  · extract_lets y s1
    have h1 : Kept P s1 := h.withPower
    exact h1.pfReset.auditEvent
  · exact h

end Kept

end Sys2Proof.Machine
end

section
/-! SUPPORT. Stable properties through the herd: a lemma for each operation, in the order of the model. -/
namespace Sys2Proof.Machine

open Sys2Proof

namespace Kept
variable {P : State → Prop} {s : State}

theorem portCount (h : Kept P s) {p e : Nat} : Kept P (s.portCount p e) :=
  h.wrapInc

theorem setLink (h : Kept P s) {p : Nat} {x : LinkState} : Kept P (s.setLink p x) :=
  h.withHerd

theorem execCredit (h : Kept P s) {p vc sub : Nat} {header : Bool} {n : Nat} : KeptNext P (execCredit p vc sub header n s) := by
  unfold Machine.execCredit
  show Kept P _
  split
  · extract_lets cap
    exact h.setCredits.portRun
  · exact h

theorem reply (h : Kept P s) {f : Frame} {type arg len : Nat} {payload : List PW} : Kept P (s.reply f type arg len payload) :=
  Kept.getD h.sendAs h

theorem replyRefuse (h : Kept P s) {f : Frame} {family code : Nat} : Kept P (s.replyRefuse f family code) :=
  h.reply

theorem forward (h : Kept P s) {p : Nat} {f : Frame} : Kept P (s.forward p f) := by
  unfold State.forward
  split
  · exact h
  · extract_lets s1
    have h1 : Kept P s1 := Kept.ite h.setFlag h
    exact h1.enterPort
  · extract_lets s1
    have h1 : Kept P s1 := h.portCount.freeBuffer
    split
    · exact h1.replyRefuse
    · exact h1

theorem frameAt (h : Kept P s) {p : Nat} {f : Frame} {k : State → Bool × State} (hk : ∀ (a : State), Kept P a → Kept P (k a).2) :
    Kept P (s.frameAt p f k) := by
  unfold State.frameAt
  split
  · exact h
  · split
    · exact h.portCount.freeBuffer
    · extract_lets s1 free
      have h1 : Kept P s1 := h.portCount
      have hfree : ∀ (t : State), Kept P t → Kept P (free t) := fun _ ht => ht.freeBuffer
      split
      · exact (hfree _ h1).portCount
      · split
        · exact h1.forward
        · split
          next _ s1' e =>
            exact Kept.of_eq (hk _ (hfree _ h1)) e
          next _ s1' e =>
            have h1' : Kept P s1' := Kept.of_eq (hk _ (hfree _ h1)) e
            exact hk _ h

theorem frameIn (h : Kept P s) {p : Nat} {f : Frame} {k : State → Option State} (hk : ∀ (a : State), Kept P a → KeptSome P (k a)) :
    Kept P (s.frameIn p f k) := by
  unfold State.frameIn
  exact h.frameAt (fun _ ht => by
    split
    next _ s1 e =>
      exact Kept.of_some (hk _ ht) e
    · exact ht)

theorem execFrameRoute (h : Kept P s) {p : Nat} {f : Frame} : KeptNext P (execFrameRoute p f s) := by
  unfold Machine.execFrameRoute
  show Kept P _
  split
  · exact h
  · exact h.frameIn (fun _ ht => by
      exact ht)

theorem execBadFrame (h : Kept P s) {p : Nat} : KeptNext P (execBadFrame p s) := by
  unfold Machine.execBadFrame
  show Kept P _
  split
  · exact h.portCount
  · exact h

theorem txnEnd (h : Kept P s) {t : Txn} : Kept P (s.txnEnd t) :=
  h.withHerd

theorem txnRefused (h : Kept P s) {t : Txn} {family code : Nat} : Kept P (s.txnRefused t family code) := by
  unfold State.txnRefused
  extract_lets s' y
  have h' : Kept P s' := h.txnEnd
  split
  · extract_lets s1
    have h1 : Kept P s1 := h'.withSc
    exact h1.slTrap
  · exact h'.setEntry
  · exact h'.setStCtx
  · exact h'

theorem txnsRefused (h : Kept P s) {p : Txn → Bool} {family code : Nat} : Kept P (s.txnsRefused p family code) := by
  unfold State.txnsRefused
  exact h.each (fun _ _ hu => hu.txnRefused)

theorem execTransactionTimeout (h : Kept P s) {tag : Nat} : KeptNext P (execTransactionTimeout tag s) := by
  unfold Machine.execTransactionTimeout
  show Kept P _
  split
  · exact h
  · exact h.txnRefused

theorem portDown (h : Kept P s) {p st : Nat} : Kept P (s.portDown p st) := by
  unfold State.portDown
  extract_lets s1 y s2 s3
  have h1 : Kept P s1 := h.setFld.setFlag
  have h2 : Kept P s2 := h1.withHerd
  have h3 : Kept P s3 := h2.each (fun _ _ ht => by
    split
    · exact ht
    · exact ht.portCount.freeBuffer)
  exact h3.txnsRefused

theorem execPortDown (h : Kept P s) {p : Nat} : KeptNext P (execPortDown p s) := by
  unfold Machine.execPortDown
  show Kept P _
  extract_lets s1
  have h1 : Kept P s1 := h.setFld
  split
  · exact h1.portDown
  · split
    · exact h1.setFld
    · exact h

theorem execLaneLoss (h : Kept P s) {p l : Nat} : KeptNext P (execLaneLoss p l s) := by
  unfold Machine.execLaneLoss
  show Kept P _
  extract_lets m s1
  have h1 : Kept P s1 := h.setFld.setFlag
  split
  · exact h1.portDown
  · exact h

theorem execPortTrained (h : Kept P s) {p lanes neighbour nport : Nat} :
    KeptNext P (execPortTrained p lanes neighbour nport s) := by
  unfold Machine.execPortTrained
  show Kept P _
  extract_lets n s1 s2 y
  have h1 : Kept P s1 := h.setFld.setFld
  have h2 : Kept P s2 := h1.setFld.setFld
  split
  · exact h2.withHerd
  · exact h

theorem execSparePortTakeover (h : Kept P s) {p : Nat} : KeptNext P (execSparePortTakeover p s) := by
  unfold Machine.execSparePortTakeover
  show Kept P _
  extract_lets d ps
  split
  · exact h.setFld.setFlag
  · exact h

theorem execLinkReplay (h : Kept P s) {p : Nat} {bad : Bool} {cell : Nat} : KeptNext P (execLinkReplay p bad cell s) := by
  unfold Machine.execLinkReplay
  show Kept P _
  split
  · extract_lets l recent n s1
    have h1 : Kept P s1 := h.portCount.setLink
    split
    · split
      · exact h1.portDown
      · exact h1
    · exact h.setLink
  · exact h

theorem execUncorrectableCodeword (h : Kept P s) {p cell : Nat} {fec : Bool} :
    KeptNext P (execUncorrectableCodeword p cell fec s) := by
  unfold Machine.execUncorrectableCodeword
  show Kept P _
  split
  · extract_lets s1 y
    have h1 : Kept P s1 := Kept.ite h.portCount h
    exact h1.setLink.emit
  · exact h

theorem frameAccess (h : Kept P s) {p : Nat} {f : Frame} {len : Nat} {write post : Bool} :
    Kept P (s.frameAccess p f len write post).2 :=
  h.herdAccess

theorem herdReply {f : Frame} {ack len : Nat} {r : HerdOut × State} (h : Kept P r.2) : Kept P (State.herdReply f ack len r).2 := by
  unfold State.herdReply
  split
  · exact h.reply
  · exact h.replyRefuse
  · exact h

theorem execWrite (h : Kept P s) {p : Nat} {f : Frame} : KeptNext P (execWrite p f s) :=
  h.frameAt fun _ ht => herdReply ht.frameAccess

theorem execPost (h : Kept P s) {p : Nat} {f : Frame} : KeptNext P (execPost p f s) :=
  h.frameAt fun _ ht => herdReply ht.frameAccess

theorem execReadReq (h : Kept P s) {p : Nat} {f : Frame} : KeptNext P (execReadReq p f s) :=
  h.frameAt fun _ ht => by
    split
    · exact ht.portCount
    · exact ht.frameAccess.herdReply

theorem execLockReq (h : Kept P s) {p : Nat} {f : Frame} {err : Nat} : KeptNext P (execLockReq p f err s) := by
  unfold Machine.execLockReq
  show Kept P _
  exact h.frameIn (fun _ ht => by
    extract_lets o q y
    split
    next _ _ s2 e =>
      have h2 : Kept P s2 := ht.withTm.lockUntil.of_eq e
      exact h2.reply)

theorem msgIn (h : Kept P s) {f : Frame} : Kept P (s.msgIn f) := by
  unfold State.msgIn
  extract_lets n
  split
  · exact h.replyRefuse
  · split
    next _ s1 e =>
      exact h.deliverMsgWords.of_eq e
    next _ s1 e =>
      have h1 : Kept P s1 := h.deliverMsgWords.of_eq e
      exact h1.replyRefuse

theorem execHoldExpiry (h : Kept P s) {group : Nat} : KeptNext P (execHoldExpiry group s) := by
  unfold Machine.execHoldExpiry
  show Kept P _
  split
  · exact h
  · extract_lets k n busy y s1 s2 y'
    have h1 : Kept P s1 := h.withHbm
    have h2 : Kept P s2 := h1.countExpiry.zeroHerd
    split
    · split
      · exact h2
      · exact h2.emit
    · exact h2.traceLost
    · extract_lets y'' f
      split
      · exact h2.replyRefuse
      · exact h2.reply
    · split
      · exact h2
      · exact h2.withHbm

theorem execReadResp (h : Kept P s) {p : Nat} {f : Frame} : KeptNext P (execReadResp p f s) := by
  unfold Machine.execReadResp
  show Kept P _
  exact h.frameIn (fun _ ht => by
    split
    · exact ht.portCount
    · split
      · exact ht.txnEnd.setEntry.stIssue
      · extract_lets u y
        have hu : Kept P u := ht.txnEnd
        exact hu.setStCtx
      · exact ht.txnEnd)

theorem execWriteAck (h : Kept P s) {p : Nat} {f : Frame} : KeptNext P (execWriteAck p f s) := by
  unfold Machine.execWriteAck
  show Kept P _
  exact h.frameIn (fun _ ht => by
    split
    · exact ht.portCount
    · exact ht.txnEnd)

theorem execRefuse (h : Kept P s) {p : Nat} {f : Frame} : KeptNext P (execRefuse p f s) := by
  unfold Machine.execRefuse
  show Kept P _
  exact h.frameIn (fun _ ht => by
    split
    · exact ht.portCount
    · exact ht.txnRefused)

theorem execLockResp (h : Kept P s) {p : Nat} {f : Frame} : KeptNext P (execLockResp p f s) := by
  unfold Machine.execLockResp
  show Kept P _
  exact h.frameIn (fun _ ht => by
    split
    · exact ht.portCount
    · extract_lets u y
      have hu : Kept P u := ht.txnEnd
      split
      · exact hu.withSc
      · exact hu)

theorem setRole (h : Kept P s) {a : Acc} {role : Nat} : Kept P (s.setRole a role) := by
  unfold State.setRole
  extract_lets old s1
  have h1 : Kept P s1 := h.setFld
  exact h1.auditLog.ftModeChange

theorem becomeAlone (h : Kept P s) {a : Acc} : Kept P (s.becomeAlone a) := by
  unfold State.becomeAlone
  extract_lets s1 s2 y
  have h1 : Kept P s1 := h.setRole
  have h2 : Kept P s2 := h1.setFld.setFld.setFlag
  exact h2.withHerd

theorem mirror (h' : Kept P s) {h : Nat} : Kept P (s.mirror h) := by
  unfold State.mirror
  split
  · exact h'
  · extract_lets arg
    exact h'.sendOrDrop

theorem setEntryState (h' : Kept P s) {h st : Nat} : Kept P (s.setEntryState h st) := by
  unfold State.setEntryState
  extract_lets s1 y
  have h1 : Kept P s1 := h'.setFld.setFld.setFld
  exact h1.withHerd.mirror

theorem setStandby (h' : Kept P s) {h : Nat} : Kept P (s.setStandby h) :=
  h'.withHerd.setFlag

theorem dropMember (h' : Kept P s) {h : Nat} : Kept P (s.dropMember h) := by
  unfold State.dropMember
  extract_lets y s1
  have h1 : Kept P s1 := h'.withHerd
  exact h1.txnsRefused

theorem releaseMember (h' : Kept P s) {h : Nat} : Kept P (s.releaseMember h) :=
  h'.lockDrop.releaseLocks

theorem expelMember (h' : Kept P s) {h st : Nat} : Kept P (s.expelMember h st) := by
  unfold State.expelMember
  extract_lets s1 s2 s3
  have h1 : Kept P s1 := h'.setEntryState
  have h2 : Kept P s2 := h1.broadcast.broadcast
  have h3 : Kept P s3 := h2.dropMember.releaseMember
  split
  · exact h3.setStandby
  · exact h3

theorem execMemberLost {h : Nat} (h' : Kept P s) : KeptNext P (execMemberLost h s) := by
  unfold Machine.execMemberLost
  show Kept P _
  split
  · exact h'.expelMember
  · exact h'

theorem assignStandby (h : Kept P s) : Kept P s.assignStandby := by
  unfold State.assignStandby
  split
  · split
    · exact h
    · exact h.setStandby.sendOrDrop
  · exact h

theorem sendBeat (h : Kept P s) : Kept P s.sendBeat := by
  unfold State.sendBeat
  extract_lets ms y s1
  have h1 : Kept P s1 := h.withHerd
  exact h1.broadcast

theorem execHeartbeatSend (h : Kept P s) : KeptNext P (execHeartbeatSend s) := by
  unfold Machine.execHeartbeatSend
  show Kept P _
  split
  · exact h.assignStandby.sendBeat
  · exact h

theorem execBeatAck (h : Kept P s) {p : Nat} {f : Frame} : KeptNext P (execBeatAck p f s) := by
  unfold Machine.execBeatAck
  show Kept P _
  exact h.frameIn (fun _ ht => by
    split
    · extract_lets late y
      exact ht.withHerd
    · exact ht)

theorem bcastIn (h : Kept P s) {p : Nat} {f : Frame} {epoch : Nat} {k : State → State}
    (hk : ∀ (a : State), Kept P a → Kept P (k a)) : Kept P (s.bcastIn p f epoch k) := by
  unfold State.bcastIn
  split
  · exact h
  · extract_lets y s1 s2
    have h1 : Kept P s1 := h.withHerd
    have h2 : Kept P s2 := h1.each (fun _ _ ht => ht.offerFrame)
    exact hk _ h2

theorem followBeat (h : Kept P s) {f : Frame} {member : Bool} : Kept P (s.followBeat f member) := by
  unfold State.followBeat
  extract_lets e s1 s2 y s3 s4
  have h1 : Kept P s1 := h.setFld.setFld
  have h2 : Kept P s2 := h1.setFlag.setStandby
  have h3 : Kept P s3 := h2.withHerd
  have h4 : Kept P s4 := Kept.ite h3.setRole h3
  split
  · exact h3.becomeAlone
  · exact h4.sendOrDrop

theorem execHeartbeat (h : Kept P s) {p : Nat} {f : Frame} {member : Bool} : KeptNext P (execHeartbeat p f member s) := by
  unfold Machine.execHeartbeat
  show Kept P _
  exact h.frameIn (fun _ ht => by
    exact ht.bcastIn (fun _ hu => Kept.ite hu.followBeat hu))

theorem execLost (h : Kept P s) {p : Nat} {f : Frame} : KeptNext P (execLost p f s) := by
  unfold Machine.execLost
  show Kept P _
  exact h.frameIn (fun _ ht => by
    exact ht.bcastIn (fun _ hu => by
      extract_lets h'
      split
      · exact hu.becomeAlone
      · exact hu.dropMember))

theorem execRelease (h : Kept P s) {p : Nat} {f : Frame} : KeptNext P (execRelease p f s) := by
  unfold Machine.execRelease
  show Kept P _
  exact h.frameIn (fun _ ht => by
    exact ht.bcastIn (fun _ hu => hu.releaseMember))

theorem execJoinSend (h : Kept P s) : KeptNext P (execJoinSend s) := by
  unfold Machine.execJoinSend
  show Kept P _
  split
  · exact h.withHerd.each (fun _ _ ht => ht.offerFrame)
  · exact h

theorem judgeJoin (h : Kept P s) {neighbour port serial : Nat} : Kept P (s.judgeJoin neighbour port serial) := by
  unfold State.judgeJoin
  extract_lets dir h' y s1 s2
  have h1 : Kept P s1 := h.withHerd
  have h2 : Kept P s2 := Kept.ite h1 h1.broadcast.releaseMember
  split
  · exact h2.setEntryState.sendOrDrop
  · exact h.sendOrDrop

theorem execJoin (h : Kept P s) {p : Nat} {f : Frame} : KeptNext P (execJoin p f s) := by
  unfold Machine.execJoin
  show Kept P _
  exact h.frameIn (fun _ ht => by
    split
    · split
      · exact ht.judgeJoin
      · exact ht.sendOrDrop
    · split
      · exact ht.judgeJoin
      · exact ht)

theorem joinHerd (h : Kept P s) {f : Frame} {dims bcast : Nat} : Kept P (s.joinHerd f dims bcast) := by
  unfold State.joinHerd
  split
  · exact h.setFlag
  · extract_lets s1 s2 s3 y s4
    have h1 : Kept P s1 := h.setFld.setFld
    have h2 : Kept P s2 := h1.setFld.setReg
    have h3 : Kept P s3 := h2.setFld.setFlag
    have h4 : Kept P s4 := h3.withHerd
    exact h4.setRole

theorem execAssign (h : Kept P s) {p : Nat} {f : Frame} {dims bcast : Nat} : KeptNext P (execAssign p f dims bcast s) := by
  unfold Machine.execAssign
  show Kept P _
  split
  · split
    · exact h.portCount.joinHerd
    · exact h
  · exact h.frameIn (fun _ ht => by
      extract_lets r
      split
      · exact ht
      · split
        · exact ht.setRole
        · split
          · exact ht.setRole
          · exact ht)

theorem execExpel (h : Kept P s) {p : Nat} {f : Frame} : KeptNext P (execExpel p f s) := by
  unfold Machine.execExpel
  show Kept P _
  exact h.frameIn (fun _ ht => by
    exact ht.becomeAlone)

theorem execMirror (h : Kept P s) {p : Nat} {f : Frame} : KeptNext P (execMirror p f s) := by
  unfold Machine.execMirror
  show Kept P _
  exact h.frameIn (fun _ ht => by
    split
    · extract_lets h' t1 t2
      have ht1 : Kept P t1 := ht.setReg.setFld
      have ht2 : Kept P t2 := ht1.setFld.setFld
      exact ht2.setFld
    · exact ht)

theorem execHerdSilent (h : Kept P s) : KeptNext P (execHerdSilent s) := by
  unfold Machine.execHerdSilent
  show Kept P _
  split
  · exact h.setFlag
  · exact h

theorem takeOver (h : Kept P s) : Kept P s.takeOver := by
  unfold State.takeOver
  extract_lets old s1 s2 y s3 s4
  have h1 : Kept P s1 := h.setFld.setFld
  have h2 : Kept P s2 := h1.setFlag.setStandby
  have h3 : Kept P s3 := h2.withHerd
  have h4 : Kept P s4 := h3.setRole.auditEvent
  exact h4.sendBeat.expelMember

theorem execTakeover (h : Kept P s) : KeptNext P (execTakeover s) := by
  unfold Machine.execTakeover
  show Kept P _
  split
  · exact h.takeOver
  · exact h

theorem hdResult (h : Kept P s) {r : Nat} : Kept P (s.hdResult r) :=
  h.setFld.setFlag

theorem hdFound (h : Kept P s) {a : Acc} : Kept P (s.hdFound a) := by
  unfold State.hdFound
  split
  · exact h.hdResult
  · split
    · exact h.hdResult
    · extract_lets h' s1 s2 y s3
      have h1 : Kept P s1 := h.setFld.setFld
      have h2 : Kept P s2 := h1.setFld.setStandby
      have h3 : Kept P s3 := h2.withHerd
      exact h3.setRole.setEntryState.hdResult

theorem handOver (h : Kept P s) {tag by_ : Nat} : Kept P (s.handOver tag by_) := by
  unfold State.handOver
  extract_lets y s1
  have h1 : Kept P s1 := h.withHerd
  exact h1.sendOrDrop

theorem hdSwap (h : Kept P s) : Kept P s.hdSwap := by
  unfold State.hdSwap
  split
  · split
    · exact h.hdResult
    · exact h.handOver
  · split
    · extract_lets tag y s1
      have h1 : Kept P s1 := h.withHerd
      exact h1.sendOrDrop
    · exact h.hdResult

theorem hdLeave (h : Kept P s) {a : Acc} : Kept P (s.hdLeave a) := by
  unfold State.hdLeave
  split
  · exact h.hdResult
  · exact h.becomeAlone.hdResult

theorem hdExpel (h : Kept P s) : Kept P s.hdExpel := by
  unfold State.hdExpel
  extract_lets h'
  split
  · exact h.hdResult
  · exact h.sendOrDrop.expelMember.hdResult

theorem hdGo (h : Kept P s) {a : Acc} : Kept P (s.hdGo a) := by
  unfold State.hdGo
  extract_lets s'
  have h' : Kept P s' := h.setFlag
  split
  · exact h'.hdFound
  · exact h'.hdSwap
  · exact h'.hdLeave
  · exact h'.hdExpel
  · exact h'.hdResult

theorem execSwapReq (h : Kept P s) {p : Nat} {f : Frame} : KeptNext P (execSwapReq p f s) := by
  unfold Machine.execSwapReq
  show Kept P _
  exact h.frameIn (fun _ ht => by
    split
    · exact ht.handOver
    · exact ht)

theorem takeHerd (h : Kept P s) {f : Frame} : Kept P (s.takeHerd f) := by
  unfold State.takeHerd
  extract_lets s1 s2 y s3
  have h1 : Kept P s1 := h.setFld.setFld
  have h2 : Kept P s2 := h1.setFlag.setStandby
  have h3 : Kept P s3 := h2.withHerd
  exact h3.setRole.sendOrDrop

theorem execHandover (h : Kept P s) {p : Nat} {f : Frame} : KeptNext P (execHandover p f s) := by
  unfold Machine.execHandover
  show Kept P _
  exact h.frameIn (fun _ ht => by
    split
    · exact Kept.ite ht.takeHerd.hdResult ht.takeHerd
    · exact ht)

theorem cedeHerd (h : Kept P s) {f : Frame} : Kept P (s.cedeHerd f) := by
  unfold State.cedeHerd
  extract_lets s1 y s2
  have h1 : Kept P s1 := h.setFld.setFld
  have h2 : Kept P s2 := h1.withHerd
  exact h2.setRole

theorem execTaken (h : Kept P s) {p : Nat} {f : Frame} : KeptNext P (execTaken p f s) := by
  unfold Machine.execTaken
  show Kept P _
  exact h.frameIn (fun _ ht => by
    split
    · extract_lets by_
      exact Kept.ite ht.cedeHerd.hdResult ht.cedeHerd.sendOrDrop
    · exact ht)

theorem execSwapResult (h : Kept P s) {p : Nat} {f : Frame} : KeptNext P (execSwapResult p f s) := by
  unfold Machine.execSwapResult
  show Kept P _
  exact h.frameIn (fun _ ht => by
    exact ht.hdResult)

theorem execForce (h : Kept P s) {p : Nat} {f : Frame} : KeptNext P (execForce p f s) := by
  unfold Machine.execForce
  show Kept P _
  exact h.frameIn (fun _ ht => by
    exact ht.forceLock)

theorem execStroke (h : Kept P s) {p : Nat} {f : Frame} : KeptNext P (execStroke p f s) := by
  unfold Machine.execStroke
  show Kept P _
  exact h.frameIn (fun _ ht => by
    split
    next _ _ _ s1 e =>
      have h1 : Kept P s1 := ht.commitStroke.of_eq_snd e
      exact h1.sendOrDrop)

theorem execStrokeResult (h : Kept P s) {p : Nat} {f : Frame} : KeptNext P (execStrokeResult p f s) := by
  unfold Machine.execStrokeResult
  show Kept P _
  exact h.frameIn (fun _ ht => by
    split
    · exact ht
    · extract_lets y u v
      have hu : Kept P u := ht.withHerd
      have hv : Kept P v := Kept.ite hu.setFld hu
      split
      · exact hu.setFld
      · exact hv.setFld)

theorem execStrokeResultTimeout {h : Nat} (h' : Kept P s) : KeptNext P (execStrokeResultTimeout h s) := by
  unfold Machine.execStrokeResultTimeout
  show Kept P _
  split
  · exact h'
  · exact h'.withHerd.setFld

theorem execRoute (h : Kept P s) {p : Nat} {f : Frame} : KeptNext P (execRoute p f s) := by
  unfold Machine.execRoute
  show Kept P _
  exact h.frameIn (fun _ ht => by
    extract_lets h' n old u
    have hu : Kept P u := ht.each (fun _ _ hv => hv.setReg)
    split
    · exact ht.portCount
    · exact hu.auditLog)

end Kept

end Sys2Proof.Machine
end

section
/-! SUPPORT. Stable properties through repair and scrub: a lemma for each operation, in the order of the model. -/
namespace Sys2Proof.Machine

open Sys2Proof

namespace Kept
variable {P : State → Prop} {s : State}

theorem rasEvent (h : Kept P s) {kind unit detail : Nat} : Kept P (s.rasEvent kind unit detail) := by
  unfold State.rasEvent
  split
  next _ _ s1 e =>
    have h1 : Kept P s1 := h.ringNext.of_eq e
    extract_lets s2 s3 s4 payload
    have h2 : Kept P s2 := h1.setFld.setReg
    have h3 : Kept P s3 := h2.setFld.setFld.setFld
    have h4 : Kept P s4 := h3.setFlag
    split
    · split
      next _ s1' e' =>
        have h1' : Kept P s1' := h4.msgToShepherd.of_eq e'
        exact h1'.setFlag
      next _ s1' e' =>
        have h1' : Kept P s1' := h4.msgToShepherd.of_eq e'
        exact h1'.setFlag
    · exact h4

theorem rasDone (h : Kept P s) {store unit detail : Nat} : Kept P (s.rasDone store unit detail) :=
  h.satInc.rasEvent

theorem rasSpent (h : Kept P s) {store unit detail : Nat} : Kept P (s.rasSpent store unit detail) :=
  h.satInc.rasEvent

theorem rasFail (h : Kept P s) {store unit detail : Nat} : Kept P (s.rasFail store unit detail) :=
  h.rasEvent.rasSpent

theorem addFuse (h : Kept P s) {f : SoftFuse} : Kept P (s.addFuse f) :=
  h.withRas

theorem repairDone (h : Kept P s) {store unit bank detail limit kind : Nat} :
    Kept P (s.repairDone store unit bank detail limit kind) := by
  unfold State.repairDone
  extract_lets s1
  have h1 : Kept P s1 := h.rasDone
  split
  · exact h1.rasSpent
  · exact h1

theorem moveTmRow (h : Kept P s) {c bank row spare : Nat} : Kept P (s.moveTmRow c bank row spare) := by
  unfold State.moveTmRow
  extract_lets s1 old ws s2 y
  have h1 : Kept P s1 := h.flushIf.placeAccess
  have h2 : Kept P s2 := h1.each (fun _ _ ht => ht.tmFetch)
  exact h2.withTmOf (swf_ssetAll ws) id (swf_sset ((c * 64 + bank) * 8192 + row) (spare + 1))

theorem moveSteerLine (h : Kept P s) {c line : Nat} : Kept P (s.moveSteerLine c line) := by
  unfold State.moveSteerLine
  exact h.each (fun _ _ ht => by
    extract_lets w u
    have hu : Kept P u := ht.tallyWord
    exact hu.setSteerRaw)

theorem repairTm (h : Kept P s) {c bank row spare : Nat} : Kept P (s.repairTm c bank row spare).2 := by
  unfold State.repairTm
  extract_lets store s1 s2
  have h1 : Kept P s1 := Kept.ite h.moveTmRow h
  have h2 : Kept P s2 := Kept.ite h1.moveSteerLine h1
  split
  · exact h
  · split
    · exact h.rasFail.snd
    · split
      · exact h.rasEvent.snd
      · split
        · exact h.rasEvent.snd
        · exact h2.addFuse.repairDone.snd

theorem repairLc (h : Kept P s) {slice row spare : Nat} : Kept P (s.repairLc slice row spare).2 := by
  unfold State.repairLc
  split
  · exact h
  · split
    · exact h.rasEvent.snd
    · split
      · exact h.rasEvent.snd
      · extract_lets s1 y s2
        have h1 : Kept P s1 := h.lcDrop
        have h2 : Kept P s2 := h1.withLc
        exact h2.addFuse.repairDone.snd

theorem rewriteRow (h : Kept P s) {stack pc bank row : Nat} : Kept P (s.rewriteRow stack pc bank row) := by
  unfold State.rewriteRow
  extract_lets p s'
  have h' : Kept P s' := h.trBulk.activate
  split
  · exact h'.each (fun _ _ ht => by
      split
      next _ _ s2 e =>
        have h2 : Kept P s2 := ht.readSector.of_eq e
        exact h2.setSectorRaw)
  · exact h'

theorem softRepair (h : Kept P s) {stack pc bank row : Nat} : Kept P (s.softRepair stack pc bank row).2 := by
  unfold State.softRepair
  extract_lets u used s1 s2
  have h1 : Kept P s1 := h.rewriteRow.addFuse
  have h2 : Kept P s2 := h1.rasDone
  split
  · exact h.rasFail.snd
  · split
    · exact h.rasEvent.snd
    · exact Kept.ite h2.rasSpent h2

theorem repairResult (h : Kept P s) {d r : Nat} : Kept P (s.repairResult d r) :=
  h.setFld.setFlag

theorem repairTmGo (h : Kept P s) {d : Nat} : Kept P (s.repairTmGo d) := by
  unfold State.repairTmGo
  extract_lets c
  split
  · exact h.repairResult
  · split
    next _ _ s1 e =>
      have h1 : Kept P s1 := h.repairTm.of_eq e
      exact h1.repairResult

theorem repairLcGo (h : Kept P s) {d : Nat} : Kept P (s.repairLcGo d) := by
  unfold State.repairLcGo
  extract_lets i
  split
  · exact h.repairResult
  · split
    next _ _ s1 e =>
      have h1 : Kept P s1 := h.repairLc.of_eq e
      exact h1.repairResult

theorem repairHbmGo (h : Kept P s) {d : Nat} : Kept P (s.repairHbmGo d) := by
  unfold State.repairHbmGo
  extract_lets k pc bank row y
  split
  · exact h.repairResult
  · split
    · exact h.withRas.setFlag
    · split
      next _ _ s1 e =>
        have h1 : Kept P s1 := h.softRepair.of_eq e
        exact h1.repairResult

theorem repairGo (h : Kept P s) {d : Nat} : Kept P (s.repairGo d) := by
  unfold State.repairGo
  split
  · exact h.repairTmGo
  · exact h.repairLcGo
  · exact h.repairHbmGo
  · exact h.repairResult

theorem execHbmRepairDeferredStart (h : Kept P s) {stack pc : Nat} : KeptNext P (execHbmRepairDeferredStart stack pc s) := by
  unfold Machine.execHbmRepairDeferredStart
  show Kept P _
  split
  · exact h
  · split
    · exact h
    · extract_lets y s1
      have h1 : Kept P s1 := h.withRas
      split
      · split
        next _ _ s1' e =>
          have h1' : Kept P s1' := h1.softRepair.of_eq e
          exact h1'.repairResult
      · exact h1.repairResult

theorem scrubStart (h : Kept P s) {d n : Nat} : Kept P (s.scrubStart d n).2 := by
  unfold State.scrubStart
  split
  · exact h
  · split
    · exact h
    · extract_lets t copying run y
      split
      · exact h
      · exact h.withRas.setFlag.snd

theorem scrubWords (h : Kept P s) {run : ScrubRun} {correct steer : Bool} {c : Nat} {addrs : List Nat} :
    Kept P (s.scrubWords run correct steer c addrs).2 := by
  induction addrs generalizing s run with
  | nil => exact h
  | cons addr l ih =>
    unfold State.scrubWords
    split
    · split
      · split
        next _ _ s1 e =>
          have h1 : Kept P s1 := Kept.of_eq (by
            split
            · exact h.tallyWord
            · exact h.tallyTm) e
          extract_lets s2
          have h2 : Kept P s2 := by
            unfold s2
            split
            · exact h1
            · split
              · exact h1.setSteerRaw
              · exact h1.setTmRaw
          exact ih h2

theorem scrubLine (h : Kept P s) {run : ScrubRun} {correct : Bool} {l : LcLine} : Kept P (s.scrubLine run correct l).2 := by
  unfold State.scrubLine
  extract_lets ks step
  have hstep : ∀ (m : List Nat) (p : ScrubRun × State × Bool), Kept P p.2.1 → Kept P (m.foldl step p).2.1 := by
    intro m
    induction m with
    | nil => exact fun _ hp => hp
    | cons k m ih => exact fun p hp => ih (step p k) hp.tallyWord
  have h1 := hstep ks (run, s, false) h
  split
  next _ _ s1 _ e =>
    rw [e] at h1
    exact Kept.ite h1.lcDrop h1

theorem scrubSector (h : Kept P s) {run : ScrubRun} {correct : Bool} {p off : Nat} {ue skip : Bool} :
    Kept P (s.scrubSector run correct p off ue skip).2 := by
  unfold State.scrubSector
  extract_lets loc k sec addr s' bad d0 cls first r1 w
  have h' : Kept P s' := h.strikeSector
  split
  · exact h'.readSector.snd
  · split
    next _ _ s2 e =>
      have h2 : Kept P s2 := h'.readSector.of_eq e
      split
      · exact h2
      · split
        · exact h2
        · extract_lets s2'
          have h2' : Kept P s2' := h2.setSectorRaw
          exact Kept.ite h2'.lcWrite h2'

theorem scrubRows (h : Kept P s) {run : ScrubRun} {t : ScrubTarget} {base from_ to_ : Nat} :
    Kept P (s.scrubRows run t base from_ to_).2 := by
  unfold State.scrubRows
  extract_lets n ends
  split
  · exact h
  · exact h
  · split
    · exact h
    · exact Kept.foldl_snd h (fun _ _ hq => by
        split
        · exact hq
        · extract_lets addr y
          exact hq.ecc.snd)

theorem execScrubAccess (h : Kept P s) {d n : Nat} {ue skip : Bool} : KeptNext P (execScrubAccess d n ue skip s) := by
  unfold Machine.execScrubAccess
  show Kept P _
  split
  · exact h
  · extract_lets +onlyGivenNames t stop
    split
    · exact h
    · extract_lets +onlyGivenNames correct next words clear
      clear_value t
      split
      next _ _ s0 e =>
        have h0 : Kept P s0 := Kept.of_eq (by
          split
          · exact h.admitParts
          · exact h) e
        split
        · exact h0
        · split
          next _ _ s1 e1 =>
            have h1 : Kept P s1 := Kept.of_eq (by
              split
              · exact h0
              · split
                · exact h0.placeAccess.scrubWords
                · exact h0.scrubWords
                · split
                  · exact h0.scrubLine
                  · exact h0
                · exact h0.scrubSector
                · exact h0) e1
            extract_lets +onlyGivenNames base
            split
            next _ _ s2 e2 => exact (h1.scrubRows.of_eq e2).withRas

theorem autoRepair (h : Kept P s) {r : RepairSite} : Kept P (s.autoRepair r) := by
  unfold State.autoRepair
  extract_lets d s0 k y
  have h0 : Kept P s0 := h.auditLog
  split
  · exact h0.repairTm
  · split
    · exact h0.rasFail
    · exact h0.repairLc
  · split
    · exact h0.withRas
    · exact h0.softRepair

theorem readSummary (h : Kept P s) {run : ScrubRun} : Kept P (s.readSummary run) := by
  unfold State.readSummary
  extract_lets t lc hits sites need covers count y s1
  have h1 : Kept P s1 := h.withRas
  exact h1.each (fun _ _ hu => hu.autoRepair.withRas)

theorem readUeLog (h : Kept P s) {d : Nat} : Kept P (s.readUeLog d) := by
  unfold State.readUeLog
  exact h.each (fun _ _ ht => by
    extract_lets a mark y t1 kind lc
    have ht1 : Kept P t1 := ht.withRas
    split
    · split
      · split
        · exact ht1.autoRepair
        · exact ht1
      · exact ht1
    · exact ht)

theorem scrubEnd (h : Kept P s) {run : ScrubRun} {code : Nat} : Kept P (s.scrubEnd run code) := by
  unfold State.scrubEnd
  extract_lets ws s1 s2 y s3
  have h1 : Kept P s1 := h.each (fun _ _ ht => ht.setReg)
  have h2 : Kept P s2 := h1.setFlag.setFlag
  have h3 : Kept P s3 := h2.withRas.dropOwn
  exact h3.readSummary.readUeLog

theorem scrubStopGo (h : Kept P s) {d n : Nat} : Kept P (s.scrubStopGo d n) := by
  unfold State.scrubStopGo
  split
  · exact h.scrubEnd
  · exact h

theorem scrubEndIf (h : Kept P s) {code : Nat} {p : ScrubTarget → Bool} : Kept P (s.scrubEndIf code p) := by
  unfold State.scrubEndIf
  exact h.each (fun _ _ ht => ht.scrubEnd)

theorem execScrubPassEnd (h : Kept P s) {d n : Nat} : KeptNext P (execScrubPassEnd d n s) := by
  unfold Machine.execScrubPassEnd
  show Kept P _
  split
  · exact h
  · extract_lets t hot
    split
    · exact h.scrubEnd
    · split
      · exact h.scrubEnd
      · split
        · exact h.scrubEnd
        · exact h

theorem splitWrite (h : Kept P s) {d : Nat} : Kept P (s.splitWrite d) := by
  unfold State.splitWrite
  extract_lets u a fin hit y l data s0 s1
  have hfin : ∀ (t : State) (r : Nat), Kept P t → Kept P (fin t r) := fun _ _ ht => ht.setFld.setFlag
  have h0 : Kept P s0 := h.trMove
  have h1 : Kept P s1 := h0.activate.lcWrite
  split
  · exact hfin _ _ h
  · split
    · split
      · exact hfin _ _ h
      · split
        · exact hfin _ _ h
        · split
          · exact h.setFlag
          · exact hfin _ _ h.flushIf.placeAccess.setTmRaw
    · split
      · exact hfin _ _ h
      · split
        · exact hfin _ _ h
        · exact hfin _ _ h.setSteerRaw
    · split
      · exact hfin _ _ h
      · split
        · exact hfin _ _ h
        · exact hfin _ _ h.withLc
    · split
      · exact hfin _ _ h
      · split
        · exact hfin _ _ h
        · split
          · exact hfin _ _ h
          · split
            · exact h.setFlag
            · exact hfin _ _ h1.setSectorRaw

theorem splitRetry (h : Kept P s) {d : Nat} : Kept P (s.splitRetry d) := by
  unfold State.splitRetry
  split
  · exact h.splitWrite
  · exact h

theorem clearErrors (h : Kept P s) {d : Nat} : Kept P (s.clearErrors d) :=
  h.resetRegs

theorem selfTest (h : Kept P s) {d bit : Nat} {ok : Bool} : Kept P (s.selfTest d bit ok) := by
  unfold State.selfTest
  extract_lets v v1
  exact h.setReg

end Kept

end Sys2Proof.Machine
end

section
/-! SUPPORT. Stable properties through the power manager: a lemma for each operation, in the order of the model. -/
namespace Sys2Proof.Machine

open Sys2Proof

namespace Kept
variable {P : State → Prop} {s : State}

theorem setPmG (h : Kept P s) {g : Nat} {x : PmGroup} : Kept P (s.setPmG g x) :=
  h.withPm

theorem shown (h : Kept P s) {w : Nat} {x : Rat} : Kept P (s.shown w x).2 := by
  unfold State.shown
  split
  · exact h
  · exact h.free

theorem ratio (h : Kept P s) {a b : Rat} : Kept P (s.ratio a b).2 := by
  unfold State.ratio
  split
  · split
    next _ _ s1 e =>
      exact h.free.of_eq e
  · exact h

theorem reasons (h : Kept P s) : Kept P s.reasons := by
  unfold State.reasons
  extract_lets s1 below gated rail broken s2 s3
  have h1 : Kept P s1 := h.each (fun _ _ ht => Kept.ite ht ht.setPmG)
  have h2 : Kept P s2 := h1.throttle.throttle.throttle.throttle
  have h3 : Kept P s3 := h2.throttle.throttle.throttle
  exact h3.setFlag

theorem startStep (h : Kept P s) {g target : Nat} : Kept P (s.startStep g target) := by
  unfold State.startStep
  extract_lets cur y go
  have hgo : ∀ (up : Bool), Kept P (go up) := fun _ => h.setFld.setFlag.setPmG
  split
  · split
    · exact h.setFld
    · exact hgo _
  · split
    · exact hgo _
    · exact h

theorem endStep (h : Kept P s) {g : Nat} : Kept P (s.endStep g) := by
  unfold State.endStep
  extract_lets s1 y
  have h1 : Kept P s1 := h.setFld.setFlag
  exact h1.setPmG

theorem execDvfsStepComplete (h : Kept P s) {g : Nat} {whole : Bool} : KeptNext P (execDvfsStepComplete g whole s) := by
  unfold Machine.execDvfsStepComplete
  show Kept P _
  split
  · exact h
  · split
    · exact h.endStep.reasons
    · extract_lets y s1
      have h1 : Kept P s1 := h.setPmG
      split
      · exact h1.setFlag
      · exact h1.setFld.reasons

theorem execRegulatorTimeout (h : Kept P s) {g : Nat} : KeptNext P (execRegulatorTimeout g s) := by
  unfold Machine.execRegulatorTimeout
  show Kept P _
  split
  · exact h
  · split
    · split
      · exact h
      · extract_lets s1 y
        have h1 : Kept P s1 := h.setFld.setFlag
        exact h1.endStep.setPmG.reasons
    · exact h.endStep.setFlag.reasons

theorem pmStart (h : Kept P s) : Kept P s.pmStart := by
  unfold State.pmStart
  split
  · exact h
  · extract_lets bad s1 s2 total
    have h1 : Kept P s1 := Kept.ite h.setFlag h
    have h2 : Kept P s2 := h1.each (fun _ _ ht => ht.setPmG)
    split
    · exact h1
    · exact h2.setFlag.setFlag.reasons

theorem softUpdate (h : Kept P s) : Kept P s.softUpdate := by
  unfold State.softUpdate
  extract_lets h' y s1
  have h1 : Kept P s1 := h.withPm
  split
  · split
    · exact h1
    · exact h1.setFlag
  · split
    · exact h.withPm
    · exact h

theorem windowDvfs (h : Kept P s) {g : Nat} {est : Rat} : Kept P (s.windowDvfs g est) := by
  unfold State.windowDvfs
  extract_lets y s1 y'
  have h1 : Kept P s1 := by
    unfold s1
    split
    · exact h
    · split
      · extract_lets s2
        have h2 : Kept P s2 := h.setPmG
        exact h2.startStep
  exact h1.setPmG

theorem windowGate (h : Kept P s) {g : Nat} {est : Rat} : Kept P (s.windowGate g est) := by
  unfold State.windowGate
  extract_lets y n share limit fewer m
  exact h.setFld.setPmG

theorem setStackGate (h : Kept P s) {k n : Nat} : Kept P (s.setStackGate k n) :=
  h.withPm

theorem windowStack (h : Kept P s) {k : Nat} : Kept P (s.windowStack k) := by
  unfold State.windowStack
  extract_lets lvl n
  split
  · exact h.setStackGate
  · split
    · exact h.setStackGate
    · exact h

theorem showEst (h : Kept P s) {g : Nat} {est : Rat} : Kept P (s.showEst g est) := by
  unfold State.showEst
  split
  next _ _ s1 e =>
    have h1 : Kept P s1 := Kept.of_eq (by
      split
      · exact h
      · exact h.shown) e
    split
    next _ _ s1' e' =>
      have h1' : Kept P s1' := h1.shown.of_eq e'
      exact h1'.setFld.setFld

theorem windowEnd (h : Kept P s) {mx tm vx mem io : Nat} : Kept P (s.windowEnd mx tm vx mem io) := by
  unfold State.windowEnd
  extract_lets s0 est e floor s1
  have h0 : Kept P s0 := (Kept.ite h.applyShadow h).softUpdate
  have h1 : Kept P s1 := h0.each (fun _ _ ht => ht.showEst)
  split
  next _ _ s1' e' =>
    have h1' : Kept P s1' := h1.shown.of_eq e'
    extract_lets s3 s4 s5 s6 y
    have h3 : Kept P s3 := h1'.setFld
    have h4 : Kept P s4 := h3.each (fun _ _ ht => ht.windowDvfs)
    have h5 : Kept P s5 := h4.windowGate.windowGate
    have h6 : Kept P s6 := h5.each (fun _ _ ht => ht.windowStack)
    exact h6.withPm.reasons

theorem execEstimateWindow (h : Kept P s) {mx tm vx mem io : Nat} : KeptNext P (execEstimateWindow mx tm vx mem io s) := by
  unfold Machine.execEstimateWindow
  show Kept P _
  split
  · exact h
  · exact h.windowEnd

theorem execActivityParityError (h : Kept P s) {g : Nat} : KeptNext P (execActivityParityError g s) := by
  unfold Machine.execActivityParityError
  show Kept P _
  split
  · exact h.setPmG.setFlag
  · exact h

theorem calGroup (h : Kept P s) {g : Nat} {m : Rat} : Kept P (s.calGroup g m) := by
  unfold State.calGroup
  extract_lets e ml
  split
  next _ _ s2 e' =>
    have h2 : Kept P s2 := h.ratio.of_eq e'
    extract_lets gain held
    split
    next _ _ s2' e'' =>
      have h2' : Kept P s2' := h2.ratio.of_eq e''
      extract_lets err
      split
      next _ _ s1 e''' =>
        have h1 : Kept P s1 := Kept.of_eq (by
          split
          · exact h2'
          · exact h2'.free) e'''
        exact h1.setFld.setFld

theorem scaleShares (h : Kept P s) {watts : Rat} : Kept P (s.scaleShares watts) := by
  unfold State.scaleShares
  extract_lets cap excess scale floor y
  exact h.withPm

theorem calSkip (h : Kept P s) : Kept P s.calSkip := by
  unfold State.calSkip
  extract_lets n y s1
  have h1 : Kept P s1 := h.setFlag.setFlag.withPm
  split
  · exact h1.setFlag
  · exact h1

theorem clearSums (h : Kept P s) : Kept P s.clearSums := by
  unfold State.clearSums
  exact h.each (fun _ _ ht => ht.setPmG)

theorem calibrate (h : Kept P s) {input : List (Nat × Nat)} {rails : List (List (Nat × Nat))} :
    Kept P (s.calibrate input rails) := by
  unfold State.calibrate
  extract_lets e m min_
  split
  next _ _ s2 e' =>
    have h2 : Kept P s2 := h.ratio.of_eq e'
    extract_lets y s2' s3 s4
    have h2' : Kept P s2' := h2.withPm
    have h3 : Kept P s3 := h2'.each (fun _ _ ht => ht.calGroup)
    have h4 : Kept P s4 := h3.setFlag.setFlag
    split
    next _ _ s1 e'' =>
      have h1 : Kept P s1 := h4.shown.of_eq e''
      exact h1.setFld.scaleShares.clearSums.reasons

theorem execCalibrationPeriod (h : Kept P s) {input : List (Nat × Nat)} {rails : List (List (Nat × Nat))} {bad : Bool} :
    KeptNext P (execCalibrationPeriod input rails bad s) := by
  unfold Machine.execCalibrationPeriod
  show Kept P _
  split
  · exact h
  · split
    · exact h.calSkip.clearSums.reasons
    · exact h.calibrate

theorem execRailLimitWindow (h : Kept P s) {r mean : Nat} : KeptNext P (execRailLimitWindow r mean s) := by
  unfold Machine.execRailLimitWindow
  show Kept P _
  split
  · exact h
  · extract_lets d l least n
    exact h.setFld.setFld.reasons

theorem followWanted (h : Kept P s) : Kept P s.followWanted := by
  unfold State.followWanted
  split
  · exact (h.each (fun _ _ ht => Kept.ite ht.startStep ht)).reasons
  · exact h.reasons

theorem namePhase (h : Kept P s) {n : Nat} : Kept P (s.namePhase n) :=
  h.setFld.setFlag.followWanted

theorem phaseByVi (h : Kept P s) {vi n : Nat} : Kept P (s.phaseByVi vi n).2 := by
  unfold State.phaseByVi
  split
  · exact h.namePhase.snd
  · exact h

theorem oxEnter (h : Kept P s) {arg : Nat} : Kept P (s.oxEnter arg) :=
  h.setFlag.withPm.followWanted

theorem oxLeave (h : Kept P s) : Kept P s.oxLeave :=
  h.setFlag.followWanted

theorem capSet (h : Kept P s) {watts : Nat} : Kept P (s.capSet watts) :=
  h.withPm.setFld

end Kept

end Sys2Proof.Machine
end

section
/-! SUPPORT. Stable properties through the power domains: a lemma for each operation, in the order of the model. -/
namespace Sys2Proof.Machine

open Sys2Proof

namespace Kept
variable {P : State → Prop} {s : State}

theorem clusterDrop (h : Kept P s) {c : Nat} : Kept P (s.clusterDrop c) := by
  unfold State.clusterDrop
  extract_lets s0 s1 y s2 y' s3
  have h0 : Kept P s0 := h.trGiveUp
  have h1 : Kept P s1 := h0.traceSleep.coreOff.stEngineOff.engOff
  have h2 : Kept P s2 := h1.withTmOf (swf_sdrop fun k => k / 8388608 == c) id id
  have h3 : Kept P s3 := h2.resetRegs.withPower
  exact h3.scrubEndIf

theorem execClusterDomainOff (h : Kept P s) {c : Nat} : KeptNext P (execClusterDomainOff c s) := by
  unfold Machine.execClusterDomainOff
  show Kept P _
  split
  · exact h
  · exact h.fencePorts.clusterDrop

theorem clusterWake (h : Kept P s) {c : Nat} : Kept P (s.clusterWake c) := by
  unfold State.clusterWake
  split
  · extract_lets y s1
    have h1 : Kept P s1 := h.withPower.resetRegs
    exact h1.setFlag.traceWake
  · exact h

theorem execClusterDomainWake (h : Kept P s) {c : Nat} : KeptNext P (execClusterDomainWake c s) :=
  h.clusterWake

theorem clearDone (h : Kept P s) {c : Nat} {ok : Bool} : Kept P (s.clearDone c ok) := by
  unfold State.clearDone
  split
  · extract_lets s1
    have h1 : Kept P s1 := h.selfTest
    split
    · exact h1.setFlag.setFlag.serveHeld.splitRetry
    · exact h1.clusterDrop
  · exact h

theorem execTmClearDone (h : Kept P s) {c : Nat} {ok : Bool} : KeptNext P (execTmClearDone c ok s) :=
  h.clearDone

theorem spineDrop (h : Kept P s) {d : Nat} : Kept P (s.spineDrop d) := by
  unfold State.spineDrop
  extract_lets s1 s2 y s3 y'
  have h1 : Kept P s1 := h.each (fun _ _ ht => ht.lcService)
  have h2 : Kept P s2 := h1.scrubEndIf
  have h3 : Kept P s3 := h2.withRas
  exact h3.resetRegs.withPower

theorem execSpineDomainOff (h : Kept P s) {d : Nat} : KeptNext P (execSpineDomainOff d s) := by
  unfold Machine.execSpineDomainOff
  show Kept P _
  split
  · exact h.spineDrop
  · exact h

theorem spineWake (h : Kept P s) {d fail : Nat} : Kept P (s.spineWake d fail) := by
  unfold State.spineWake
  split
  · extract_lets y s1 s2
    have h1 : Kept P s1 := h.withPower.wakeLocks.traceReset
    have h2 : Kept P s2 := h1.each (fun _ _ ht => ht.selfTest)
    exact h2.each (fun _ _ ht => Kept.ite ht ht.lcService)
  · exact h

theorem execSpineDomainWake (h : Kept P s) {d fail : Nat} : KeptNext P (execSpineDomainWake d fail s) :=
  h.spineWake

theorem stackDrop (h : Kept P s) {k : Nat} : Kept P (s.stackDrop k) := by
  unfold State.stackDrop
  extract_lets s1 s2 s3 y s4 y'
  have h1 : Kept P s1 := h.muStackGone
  have h2 : Kept P s2 := h1.clearStack.trReset
  have h3 : Kept P s3 := h2.scrubEndIf
  have h4 : Kept P s4 := h3.withRas
  exact h4.setStackGate.withPower

theorem stackUp (h : Kept P s) {k : Nat} {ok : Bool} : Kept P (s.stackUp k ok) := by
  unfold State.stackUp
  split
  · split
    · extract_lets s1 y
      have h1 : Kept P s1 := h.clearStack.trReset.trStart
      exact h1.withPower
    · exact h
  · exact h

theorem stackInit (h : Kept P s) {k : Nat} {ok test : Bool} : Kept P (s.stackInit k ok test) := by
  unfold State.stackInit
  split
  · exact h
  · extract_lets s1
    have h1 : Kept P s1 := Kept.ite h.selfTest h
    exact h1.stackUp

theorem execStackInit (h : Kept P s) {k : Nat} {ok test : Bool} : KeptNext P (execStackInit k ok test s) :=
  h.stackInit

theorem ioDrop (h : Kept P s) : Kept P s.ioDrop := by
  unfold State.ioDrop
  extract_lets s1 s2 s3 s4 y s5 y' s6 y'' s7 gone s8 y'''
  have h1 : Kept P s1 := h.each (fun _ _ ht => ht.portDown)
  have h2 : Kept P s2 := h1.each (fun _ _ ht => ht.auditEvent)
  have h3 : Kept P s3 := (h2.each (fun _ _ ht => ht.coreOff)).each (fun _ _ ht => ht.stEngineOff)
  clear_value s3
  have h4 : Kept P s4 := h3.withHq
  have h5 : Kept P s5 := h4.withHbm
  have h6 : Kept P s6 := h5.withLc
  have h7 : Kept P s7 := h6.withHerd
  have h8 : Kept P s8 := (h7.each (fun _ _ ht => ht.trReset)).resetRegs
  clear_value s8
  exact h8.withPower

theorem railsDown (h : Kept State.canonical s) : Kept State.canonical s.railsDown := by
  unfold State.railsDown
  extract_lets s1 s2 s3 s4 y y' s5 s6 s7 y'' s8
  have h1 : Kept State.canonical s1 := h.each (fun _ _ ht => ht.clusterDrop)
  have h2 : Kept State.canonical s2 := h1.each (fun _ _ ht => ht.stackDrop)
  have h3 : Kept State.canonical s3 := h2.each (fun _ _ ht => ht.spineDrop)
  have h4 : Kept State.canonical s4 := h3.ioDrop
  have h5 : Kept State.canonical s5 := h4.power.pins
  have h6 : Kept State.canonical s6 := h5.each (fun _ _ ht => ht.setFld.setFld.setFlag)
  have h7 : Kept State.canonical s7 := h6.each (fun _ _ ht => ht.setFld)
  have h8 : Kept State.canonical s8 := h7.setFlag.withPm
  exact h8.setFld.setFld.throttle.reasons

end Kept

end Sys2Proof.Machine
end

section
/-! SUPPORT. Stable properties through spare clusters and retirement: a lemma for each operation, in the order of the model. -/
namespace Sys2Proof.Machine

open Sys2Proof

namespace Kept
variable {P : State → Prop} {s : State}

theorem spareResult (h : Kept P s) {d r : Nat} : Kept P (s.spareResult d r) :=
  h.setFld.setFlag

theorem retireCluster (h : Kept P s) {p : Nat} : Kept P (s.retireCluster p) := by
  unfold State.retireCluster
  extract_lets d r s1
  have h1 : Kept P s1 := h.setFld.addFuse
  split
  · exact h1.clusterDrop
  · exact h1

theorem setClmap (h : Kept P s) {l p : Nat} : Kept P (s.setClmap l p) :=
  h.setReg

theorem loseCluster (h : Kept P s) {l : Nat} : Kept P (s.loseCluster l) := by
  unfold State.loseCluster
  extract_lets d p s1 s2
  have h1 : Kept P s1 := h.setFld
  have h2 : Kept P s2 := Kept.ite h1.clusterDrop h1
  exact h2.rasEvent

theorem sparePrepare (h : Kept P s) {d : Nat} : Kept P (s.sparePrepare d) := by
  unfold State.sparePrepare
  split
  · exact h.spareResult
  · split
    · exact h.clusterWake.setFld
    · exact h.spareResult
  · exact h.spareResult

theorem spareLost (h : Kept P s) {d : Nat} : Kept P (s.spareLost d) :=
  h.loseCluster.spareResult

theorem spareMigrate (h : Kept P s) {d : Nat} : Kept P (s.spareMigrate d) := by
  unfold State.spareMigrate
  extract_lets l p y s1 y' s2
  have h1 : Kept P s1 := h.withTm
  have h2 : Kept P s2 := h1.withRas
  split
  · exact h.spareLost
  · split
    · exact h.spareResult
    · split
      · exact h.spareResult
      · exact h2.scrubEndIf.setFld
  · exact h.spareResult
  · exact h.spareResult

theorem heldTo (h : Kept P s) {p q : Nat} : Kept P (s.heldTo p q) :=
  h.withTm

theorem spareFresh (h : Kept P s) {d : Nat} : Kept P (s.spareFresh d) := by
  unfold State.spareFresh
  extract_lets l p sp s0 s1
  have h0 : Kept P s0 := h.setClmap.heldTo
  have h1 : Kept P s1 := h0.retireCluster.serveHeld.setFld
  split
  · exact h.spareLost
  · exact h1.setFld.rasEvent.spareResult
  · exact h.spareResult
  · exact h.spareResult

theorem spareCancel (h : Kept P s) {d : Nat} : Kept P (s.spareCancel d) := by
  unfold State.spareCancel
  split
  · exact h.spareResult
  · exact h.clusterDrop.setFld.spareResult
  · exact h.spareResult
  · exact h.spareResult

theorem spareGo (h : Kept P s) {d : Nat} : Kept P (s.spareGo d) := by
  unfold State.spareGo
  split
  · exact h.sparePrepare
  · exact h.spareMigrate
  · exact h.spareFresh
  · exact h.spareCancel
  · exact h.setFlag

theorem execSparePrepared (h : Kept P s) {d : Nat} {ok : Bool} : KeptNext P (execSparePrepared d ok s) := by
  unfold Machine.execSparePrepared
  show Kept P _
  split
  · extract_lets p s1
    have h1 : Kept P s1 := h.selfTest.retireCluster.setFld
    split
    · exact h.clearDone.setFld.spareResult
    · exact h1.rasEvent.spareResult
  · exact h

theorem moveRegs (h : Kept P s) {p q : Nat} : Kept P (s.moveRegs p q) := by
  unfold State.moveRegs
  extract_lets hit dest old s1 s2
  have h1 : Kept P s1 := h.withRegs fun h => swf_ssetAll _ (swf_sdrop _ h)
  have h2 : Kept P s2 := h1.withApplied fun h => swf_ssetAll _ (swf_sdrop _ h)
  exact h2.withShadowPend

theorem moveMemory (h : Kept P s) {p q : Nat} : Kept P (s.moveMemory p q) := by
  unfold State.moveMemory
  extract_lets s0 offs s1 ws
  have h0 : Kept P s0 := h.fencePorts
  have h1 : Kept P s1 := h0.each (fun _ _ ht => ht.tmFetch.setTmRaw)
  exact h1.each (fun _ _ ht => ht.steerWord.setSteerRaw)

theorem moveContexts (h : Kept P s) {p q : Nat} : Kept P (s.moveContexts p q) := by
  unfold State.moveContexts
  extract_lets y s1 s2 y'
  have h1 : Kept P s1 := h.withScOf swf_movePlace swf_movePlace swf_movePlace swf_movePlace
  have h2 : Kept P s2 := h1.withSt
  exact h2.withTm

theorem moveLocks (h : Kept P s) {p q : Nat} : Kept P (s.moveLocks p q) := by
  unfold State.moveLocks
  exact h.each (fun _ _ ht => by
    split
    · exact ht.setFld)

theorem execMigrateSwitch (h : Kept P s) {d : Nat} {fault : Bool} : KeptNext P (execMigrateSwitch d fault s) := by
  unfold Machine.execMigrateSwitch
  show Kept P _
  split
  · exact h
  · extract_lets l p q done y s1 s1' s2 y' s3 s4
    have hdone : ∀ (t : State) (r : Nat), Kept P t → Kept P (done t r) := fun _ _ ht => ht.withRas.setFld.spareResult
    have h1 : Kept P s1 := h.withTm.serveHeld
    have h1' : Kept P s1' := h.moveMemory.moveRegs.moveContexts.moveLocks
    clear_value s1'
    have h2 : Kept P s2 := h1'.setClmap
    clear_value s2
    have h3 : Kept P s3 := h2.withTm.heldTo
    have h4 : Kept P s4 := h3.serveHeld.retireCluster
    split
    · exact (hdone _ _ h1.retireCluster).rasEvent
    · split
      · exact h
      · exact (hdone _ _ h4).setFld.rasEvent

theorem retireResult (h : Kept P s) {r : Nat} : Kept P (s.retireResult r) :=
  h.setFld.setFlag

theorem refuseHeld (h : Kept P s) {k : Nat} : Kept P (s.refuseHeld k) := by
  unfold State.refuseHeld
  extract_lets groups firsts y s1
  have h1 : Kept P s1 := h.withHbm
  exact h1.each (fun _ _ ht => by
    split
    · exact ht
    · split
      · exact ht.traceLost
      · exact ht.plotFault.groupEnd)

theorem finishAccs (h : Kept P s) {k : Nat} : Kept P (s.finishAccs k) := by
  unfold State.finishAccs
  exact h.each (fun _ _ ht => ht.serveAcc)

theorem stackRetire (h : Kept P s) {k : Nat} : Kept P (s.stackRetire k) := by
  unfold State.stackRetire
  extract_lets s1 s2 s3 s4 s5 s6
  have h1 : Kept P s1 := h.refuseHeld.finishAccs
  have h2 : Kept P s2 := h1.each (fun _ _ ht => ht.muClose)
  have h3 : Kept P s3 := h2.each (fun _ _ ht => ht.setFlag)
  have h4 : Kept P s4 := Kept.ite h3.setFld.setFlag h3
  have h5 : Kept P s5 := h4.lcDropStack
  have h6 : Kept P s6 := h5.setFld
  exact (Kept.ite h6.stackDrop h6).rasEvent

theorem sliceRetire (h : Kept P s) {i : Nat} : Kept P (s.sliceRetire i) := by
  unfold State.sliceRetire
  extract_lets s1
  have h1 : Kept P s1 := h.setFld
  exact (Kept.ite h1.lcService h1).rasEvent

theorem stackReinstate (h : Kept P s) {k : Nat} {ok : Bool} : Kept P (s.stackReinstate k ok) := by
  unfold State.stackReinstate
  split
  · exact h.retireResult
  · split
    · exact h.retireResult
    · split
      · exact h.retireResult
      · split
        · extract_lets s1 y s2
          have h1 : Kept P s1 := h.setFld
          have h2 : Kept P s2 := h1.withRas
          exact h2.stackUp.rasEvent.retireResult
        · exact h.retireResult

theorem sliceReinstate (h : Kept P s) {i : Nat} {ok : Bool} : Kept P (s.sliceReinstate i ok) := by
  unfold State.sliceReinstate
  split
  · exact h.retireResult
  · split
    · exact h.retireResult
    · extract_lets s0 s1 y s2
      have h0 : Kept P s0 := h.selfTest
      have h1 : Kept P s1 := h0.setFld
      have h2 : Kept P s2 := h1.withRas
      split
      · exact h2.lcService.rasEvent.retireResult
      · exact h0.retireResult

theorem retireGo (h : Kept P s) {ok : Bool} : Kept P (s.retireGo ok) := by
  unfold State.retireGo
  extract_lets u persist slice
  split
  · split
    · exact h.retireResult
    · split
      · exact h.retireResult
      · split
        · exact h.retireResult
        · exact (Kept.ite h.stackRetire.addFuse h.stackRetire).retireResult
  · split
    · exact h.retireResult
    · split
      · exact h.retireResult
      · exact (Kept.ite h.sliceRetire.addFuse h.sliceRetire).retireResult
  · split
    · exact h.sliceReinstate
    · split
      · exact h.retireResult
      · exact h.stackReinstate
  · exact h.setFlag

end Kept

end Sys2Proof.Machine
end

section
/-! SUPPORT. Stable properties through heat, trip and power loss: a lemma for each operation, in the order of the model. -/
namespace Sys2Proof.Machine

open Sys2Proof

namespace Kept
variable {P : State → Prop} {s : State}

theorem setLevel (h : Kept P s) {k lvl : Nat} : Kept P (s.setLevel k lvl) := by
  unfold State.setLevel
  extract_lets old s1 s2
  have h1 : Kept P s1 := h.setFld
  have h2 : Kept P s2 := h1.satInc.setStackGate.muStopStack
  split
  · exact h
  · split
    · exact h1.setStackGate
    · split
      · exact h2.scrubEndIf
      · exact h1

theorem stackHeat (h : Kept P s) {k : Nat} : Kept P (s.stackHeat k) := by
  unfold State.stackHeat
  extract_lets t l fast s1
  have h1 : Kept P s1 := h.setFld.setFlag
  exact h1.setLevel.reasons

theorem execSensorSample (h : Kept P s) {i temp : Nat} : KeptNext P (execSensorSample i temp s) := by
  unfold Machine.execSensorSample
  show Kept P _
  split
  · exact h
  · extract_lets s1
    have h1 : Kept P s1 := h.setFld.setFlag
    split
    · exact h1.stackHeat
    · exact h1

theorem execSensorBad (h : Kept P s) {i : Nat} : KeptNext P (execSensorBad i s) := by
  unfold Machine.execSensorBad
  show Kept P _
  split
  · extract_lets s1
    have h1 : Kept P s1 := h.setFlag.setFlag
    split
    · exact h1.stackHeat
    · exact h1
  · exact h

theorem writeRecord (h : Kept P s) {head : List Byte} : Kept P (s.writeRecord head) :=
  h.withPm

theorem execThermalTrip (h : Kept State.canonical s) {i temp : Nat} : KeptNext State.canonical (execThermalTrip i temp s) := by
  unfold Machine.execThermalTrip
  show Kept State.canonical _
  split
  · exact h
  · extract_lets s1 head s2 s3 st s4 y y' s5
    have h1 : Kept State.canonical s1 := h.setFld
    have h2 : Kept State.canonical s2 := h1.setFld.setFld.setFld
    have h3 : Kept State.canonical s3 := h2.setFlag.setFlag
    have h4 : Kept State.canonical s4 := Kept.ite h3.setFld h3
    have h5 : Kept State.canonical s5 := h4.power.pins
    exact h5.railsDown.auditEvent.writeRecord

theorem execRailStuck (h : Kept P s) : KeptNext P (execRailStuck s) := by
  unfold Machine.execRailStuck
  show Kept P _
  split
  · exact h.setFlag
  · exact h

theorem forceOp0 (h : Kept P s) : Kept P s.forceOp0 := by
  unfold State.forceOp0
  exact h.each (fun _ _ ht => by
    extract_lets y moving t1
    have ht1 : Kept P t1 := ht.setFld.setFld
    split
    · exact ht1.setFlag.setPmG
    · exact ht1)

theorem alert (h : Kept P s) {n : Nat} : Kept P (s.alert n) := by
  unfold State.alert
  extract_lets y s1
  have h1 : Kept P s1 := h.setFlag.setFlag.withPm
  exact h1.forceOp0.throttle.reasons

theorem execRegAlert (h : Kept P s) {rail : Nat} : KeptNext P (execRegAlert rail s) := by
  unfold Machine.execRegAlert
  show Kept P _
  split
  · exact h
  · extract_lets y s1
    have h1 : Kept P s1 := h.withPins.setFlag
    exact h1.setFld.alert

theorem execExtAlert (h : Kept P s) : KeptNext P (execExtAlert s) := by
  unfold Machine.execExtAlert
  show Kept P _
  split
  · exact h
  · exact h.withPins.setFlag.alert

theorem alertHold (h : Kept P s) {n : Nat} : Kept P (s.alertHold n) :=
  h.withPm

theorem execRegAlertRelease (h : Kept P s) : KeptNext P (execRegAlertRelease s) := by
  unfold Machine.execRegAlertRelease
  show Kept P _
  split
  · exact h.withPins.setFlag.alertHold
  · exact h

theorem execExtAlertRelease (h : Kept P s) : KeptNext P (execExtAlertRelease s) := by
  unfold Machine.execExtAlertRelease
  show Kept P _
  split
  · exact h.withPins.setFlag.alertHold
  · exact h

theorem execAlertHoldEnd (h : Kept P s) {n : Nat} : KeptNext P (execAlertHoldEnd n s) := by
  unfold Machine.execAlertHoldEnd
  show Kept P _
  split
  · exact h
  · extract_lets y s1 still
    have h1 : Kept P s1 := h.withPm.throttle
    exact h1.setFlag.reasons

theorem execHuReady (h : Kept P s) {volt soc : Nat} {charging : Bool} : KeptNext P (execHuReady volt soc charging s) := by
  unfold Machine.execHuReady
  show Kept P _
  split
  · exact h
  · extract_lets s1
    have h1 : Kept P s1 := h.setFld.setFld.setFlag
    exact h1.setFlag

theorem execGaugeDisagree (h : Kept P s) : KeptNext P (execGaugeDisagree s) := by
  unfold Machine.execGaugeDisagree
  show Kept P _
  split
  · exact h.setFlag.setFlag
  · exact h

theorem execGaugeRezero (h : Kept P s) : KeptNext P (execGaugeRezero s) := by
  unfold Machine.execGaugeRezero
  show Kept P _
  split
  · exact h.setFld.setFlag.satInc
  · exact h

theorem execHuFault (h : Kept P s) : KeptNext P (execHuFault s) := by
  unfold Machine.execHuFault
  show Kept P _
  split
  · exact h.setFlag
  · exact h

theorem svcReset (h : Kept State.canonical s) {cold : Bool} : Kept State.canonical (s.svcReset cold) := by
  unfold State.svcReset
  extract_lets seq kept life img au ents y sv y' pins_ y'' y2 y3 r r0 r1
  have hr : Kept State.canonical r :=
    ⟨stable_canonical, (by exact swfFrom_filter (fun e => kept e.1) h.holds.1), swf_nil _, ⟨swf_nil _, swf_nil _, swf_nil _⟩,
      swf_nil _, ⟨swf_nil _, swf_nil _⟩, swf_nil _, swf_nil _, swf_nil _, swf_nil _⟩
  clear_value r
  have h0 : Kept State.canonical r0 := hr.setFld.setFld
  have h1 : Kept State.canonical r1 := h0.setFld.setFld.setFlag
  exact h1.setFlag.setFlag

theorem powerLoss (h : Kept State.canonical s) : Kept State.canonical s.powerLoss := by
  unfold State.powerLoss
  split
  · extract_lets both head y s1 s2 y' y''
    have h1 : Kept State.canonical s1 := h.setFlag.pins
    have h2 : Kept State.canonical s2 := h1.railsDown
    exact h2.withPm.power
  · exact h

theorem execPowerLoss (h : Kept State.canonical s) : KeptNext State.canonical (execPowerLoss s) :=
  h.powerLoss

theorem execInputOvervoltage (h : Kept State.canonical s) : KeptNext State.canonical (execInputOvervoltage s) :=
  h.powerLoss

theorem execShutdownSaveDone (h : Kept State.canonical s) {whole : Bool} {entries : Nat} :
    KeptNext State.canonical (execShutdownSaveDone whole entries s) := by
  unfold Machine.execShutdownSaveDone
  show Kept State.canonical _
  split
  · exact h
  · extract_lets seq q s1 s2 s3 y
    have h1 : Kept State.canonical s1 := h.withAudit
    have h2 : Kept State.canonical s2 := Kept.ite h1.writeRecord h1
    have h3 : Kept State.canonical s3 := h2.svcReset
    exact h3.power

end Kept

end Sys2Proof.Machine
end

section
/-! SUPPORT. Stable properties through the service domain: a lemma for each operation, in the order of the model. -/
namespace Sys2Proof.Machine

open Sys2Proof

namespace Kept
variable {P : State → Prop} {s : State}

theorem fwStop (h : Kept P s) {most : Nat} {handover : Bool} : Kept P (s.fwStop most handover) := by
  unfold State.fwStop
  split
  next _ _ s1 e =>
    have h1 : Kept P s1 := h.free.of_eq e
    exact h1.withSvc

theorem execWatchdogRestart (h : Kept P s) : KeptNext P (execWatchdogRestart s) := by
  unfold Machine.execWatchdogRestart
  show Kept P _
  split
  · exact h.satInc.auditEvent.fwStop
  · exact h

theorem mctp (h : Kept P s) {serve : State → State} (hserve : ∀ (a : State), Kept P a → Kept P (serve a)) :
    Kept P (s.mctp serve) := by
  unfold State.mctp
  split
  · exact h
  · split
    · exact h.emit
    · exact hserve _ h

theorem nestRestore (h : Kept P s) : Kept P s.nestRestore := by
  unfold State.nestRestore
  split
  · exact h.nestPut
  · exact h

theorem nestWipe (h : Kept P s) {cause : Nat} {erase : Bool} : Kept P (s.nestWipe cause erase) := by
  unfold State.nestWipe
  extract_lets s1 s2 y s3 s4 y'
  have h2 : Kept P s2 := h.auditEvent.setFld
  have h4 : Kept P s4 := h2.setFlag.satInc.setFld.resetRegs
  split
  · exact h2.withSvc
  · exact h4.withSvcOf (fun _ => swf_nil _) id

theorem execNestWipeDone (h : Kept P s) : KeptNext P (execNestWipeDone s) := by
  unfold Machine.execNestWipeDone
  show Kept P _
  split
  · exact h
  · extract_lets s1 y s2 s3
    have h1 : Kept P s1 := h.setFlag
    have h2 : Kept P s2 := h1.withSvc
    have h3 : Kept P s3 := h2.nestRestore
    split
    · exact h3.setFlag
    · exact h3

theorem execTamper (h : Kept P s) : KeptNext P (execTamper s) := by
  unfold Machine.execTamper
  show Kept P _
  extract_lets y s1
  have h1 : Kept P s1 := h.withPins
  split
  · exact h1.nestWipe
  · exact h1

theorem setNsData (h : Kept P s) {v : BitVec 512} : Kept P (s.setNsData v) := by
  unfold State.setNsData
  exact h.each (fun _ _ ht => ht.setFld)

theorem nsResult (h : Kept P s) {r : Nat} : Kept P (s.nsResult r) :=
  h.setFld.setFlag

theorem nestAudit (h : Kept P s) {a : Acc} {slot : Nat} : Kept P (s.nestAudit a slot) :=
  h.auditLog

theorem nestRead (h : Kept P s) {a : Acc} {slot off : Nat} : Kept P (s.nestRead a slot off) := by
  unfold State.nestRead
  split
  · exact h.nsResult
  · split
    · exact h.nsResult
    · split
      · exact h.setNsData.nsResult
      · exact h.setNsData.nsResult

theorem nestWrite (h : Kept P s) {a : Acc} {slot off : Nat} : Kept P (s.nestWrite a slot off) := by
  unfold State.nestWrite
  split
  · exact h.nsResult
  · split
    · exact h.nsResult
    · extract_lets v s1 y
      have h1 : Kept P s1 := h.nestPut.nestAudit
      exact (Kept.ite h1.withSvc h1).nsResult

theorem nestEmptySlot (h : Kept P s) {a : Acc} {slot : Nat} : Kept P (s.nestEmptySlot a slot) := by
  unfold State.nestEmptySlot
  split
  · exact h.nsResult
  · split
    · exact h.nsResult
    · exact h.nestEmpty.nestAudit.nsResult

theorem nestGo (h : Kept P s) {a : Acc} : Kept P (s.nestGo a) := by
  unfold State.nestGo
  extract_lets slot off
  split
  · exact h.nsResult
  · split
    · exact h.nestRead
    · exact h.nestWrite
    · exact h.nestEmptySlot
    · split
      · exact h.nestWipe.nsResult
      · exact h.nestWipe.nsResult
      · exact h.nsResult
    · exact h.nsResult

theorem measure (h : Kept P s) {img : List Byte} : Kept P (s.measure img) := by
  unfold State.measure
  extract_lets s1 y
  have h1 : Kept P s1 := h.nestPut
  exact h1.withSvc

theorem execAuditMirror (h : Kept P s) {err : Bool} : KeptNext P (execAuditMirror err s) := by
  unfold Machine.execAuditMirror
  show Kept P _
  split
  · split
    · exact h.setFlag
    · exact h.withAudit
  · exact h

theorem auditAck (h : Kept P s) {seq : Nat} : Kept P (s.auditAck seq) := by
  unfold State.auditAck
  extract_lets old s1 y s2 s3 y'
  have h1 : Kept P s1 := h.setFld
  have h2 : Kept P s2 := h1.withAudit
  have h3 : Kept P s3 := Kept.ite h2.setFlag h2
  split
  · exact h
  · split
    · exact h3.setFlag.withPins
    · exact h3

theorem execAuditExportPush (h : Kept P s) : KeptNext P (execAuditExportPush s) := by
  unfold Machine.execAuditExportPush
  show Kept P _
  extract_lets from_ n es payload
  split
  · exact h
  · split
    next _ s1 e =>
      have h1 : Kept P s1 := h.msgToShepherd.of_eq e
      exact h1.withAudit
    next _ s1 e =>
      exact h.msgToShepherd.of_eq e

theorem auditFetch (h : Kept P s) : Kept P s.auditFetch := by
  unfold State.auditFetch
  extract_lets q
  split
  · exact h.setFld
  · split
    · exact h.setFld
    · extract_lets b
      exact (h.each (fun _ _ ht => ht.setReg)).setFld

theorem execReadAudit (h : Kept P s) {seq n : Nat} : KeptNext P (execReadAudit seq n s) := by
  unfold Machine.execReadAudit
  show Kept P _
  exact h.mctp (fun _ h' => Kept.ite h'.emit h'.emit)

theorem execAckAudit (h : Kept P s) {seq : Nat} : KeptNext P (execAckAudit seq s) := by
  unfold Machine.execAckAudit
  show Kept P _
  exact h.mctp (fun _ h' => h'.auditAck.emit)

theorem svcRead (h : Kept P s) {addr len : Nat} : Kept P (s.svcRead addr len).2 := by
  unfold State.svcRead
  split
  next _ _ s2 e =>
    exact h.physRead.of_eq e
  next _ s2 e =>
    exact h.physRead.of_eq e
  next _ _ s2 _ _ e =>
    exact h.physRead.of_eq e

theorem setFwImage (h : Kept P s) {i : Nat} {b : List Byte} : Kept P (s.setFwImage i b) := by
  unfold State.setFwImage
  split
  · exact h.withSvc
  · exact h.withSvc

theorem fwLoadGo (h : Kept P s) : Kept P s.fwLoadGo := by
  unfold State.fwLoadGo
  extract_lets i addr fail bad s1 y
  have hfail : ∀ (r : Nat), Kept P (fail r) := fun _ => h.setFld.setFlag
  have h1 : Kept P s1 := h.setFld.setFlag
  split
  · exact hfail _
  · split
    · exact hfail _
    · exact h1.withSvc

theorem fwStaged (h : Kept P s) {i : Nat} {b : List Byte} {ver : Nat} : Kept P (s.fwStaged i b ver) :=
  h.setFwImage.setFld.setFld

theorem execFwLoadDone (h : Kept P s) {err : Bool} {ver : Nat} : KeptNext P (execFwLoadDone err ver s) := by
  unfold Machine.execFwLoadDone
  show Kept P _
  split
  · exact h
  · extract_lets fin empty
    have hfin : ∀ (t : State) (r : Nat), Kept P t → Kept P (fin t r) := fun _ _ ht => ht.withSvc.setFld.setFlag
    have hempty : ∀ (t : State), Kept P t → Kept P (empty t) := fun _ ht => ht.setFwImage.setFld
    split
    · exact hfin _ _ (hempty _ h)
    · split
      · exact hfin _ _ h.fwStaged
      · split
        next _ _ t e =>
          have ht : Kept P t := h.svcRead.of_eq e
          exact hfin _ _ ht.fwStaged
        next _ t e =>
          exact h.svcRead.of_eq e
        next _ t e =>
          have ht : Kept P t := h.svcRead.of_eq e
          exact hfin _ _ (hempty _ ht)

theorem execFwStage (h : Kept P s) {image off : Nat} {chunk : List Byte} : KeptNext P (execFwStage image off chunk s) := by
  unfold Machine.execFwStage
  show Kept P _
  exact h.mctp (fun _ h' => Kept.ite h'.emit (Kept.ite h'.emit h'.setFwImage.setFld.withSvc.emit))

theorem execFwVerifyDone (h : Kept P s) {image : Nat} {signed : Bool} : KeptNext P (execFwVerifyDone image signed s) := by
  unfold Machine.execFwVerifyDone
  show Kept P _
  split
  · split
    · extract_lets s1 y
      have h1 : Kept P s1 := h.setFld
      exact h1.withSvc
    · exact h.setFld
  · exact h

theorem fwActivate (h : Kept P s) {arg : Nat} : Kept P (s.fwActivate arg).2 := by
  unfold State.fwActivate
  extract_lets i v st s1 y s2
  have h1 : Kept P s1 := h.setFld.setFld
  have h2 : Kept P s2 := h1.withSvc
  split
  · exact h.nestWipe.snd
  · split
    · exact h
    · split
      · exact h
      · split
        · exact h
        · exact h2.measure.auditEvent.fwStop.snd

theorem freshNonce (h : Kept P s) : Kept P s.freshNonce.2 := by
  unfold State.freshNonce
  split
  next _ _ s1 e =>
    have h1 : Kept P s1 := h.free.of_eq e
    extract_lets b t1 y
    have ht1 : Kept P t1 := h1.each (fun _ _ hu => hu.setReg)
    exact ht1.withSvc.snd

theorem authCheck (h : Kept P s) {auth : List Byte} {target : Nat} {keys : List (Nat × List Byte)} :
    Kept P (s.authCheck auth target keys).2.2 := by
  unfold State.authCheck
  extract_lets fresh y s1 head plain
  have h1 : Kept P s1 := h.withSvc
  split
  · exact h
  · split
    · exact h1
    · split
      · exact h1
      · exact h1

theorem lifeRequest (h : Kept P s) {a : Acc} {target : Nat} {auth : List Byte} : Kept P (s.lifeRequest a target auth).2 := by
  unfold State.lifeRequest
  extract_lets old
  split
  · exact h
  · extract_lets keys
    split
    · exact h
    · split
      next _ _ t e =>
        have ht : Kept P t := h.authCheck.of_eq_snd e
        extract_lets y t1 t2
        have ht1 : Kept P t1 := ht.withSvc.setFld
        have ht2 : Kept P t2 := ht1.auditLog
        exact ht2.nestWipe.snd
      next _ _ _ t _ e =>
        exact h.authCheck.of_eq_snd e

theorem lfGo (h : Kept P s) {a : Acc} : Kept P (s.lfGo a) := by
  unfold State.lfGo
  extract_lets fin
  have hfin : ∀ r : Nat × State, Kept P r.2 → Kept P (fin r) := fun _ hr => hr.setFld.setFlag
  split
  next _ t e => exact hfin _ (h.svcRead.of_eq e).lifeRequest
  next t e => exact h.svcRead.of_eq e
  next t e => exact hfin _ (h.svcRead.of_eq e)

theorem execLfRequest (h : Kept P s) {target : Nat} {auth : List Byte} : KeptNext P (execLfRequest target auth s) := by
  unfold Machine.execLfRequest
  show Kept P _
  exact h.mctp (fun _ h' => by
    split
    next _ _ s1 e =>
      have h1 : Kept P s1 := h'.lifeRequest.of_eq e
      exact h1.emit)

theorem execGetChallenge (h : Kept P s) : KeptNext P (execGetChallenge s) := by
  unfold Machine.execGetChallenge
  show Kept P _
  exact h.mctp (fun _ h' => by
    split
    next _ _ t e =>
      have ht : Kept P t := h'.freshNonce.of_eq e
      exact ht.emit)

theorem debugUnlock (h : Kept P s) {a : Acc} {token : List Byte} : Kept P (s.debugUnlock a token).2 := by
  unfold State.debugUnlock
  extract_lets keys
  split
  · exact h
  · split
    next _ _ t e =>
      have ht : Kept P t := h.authCheck.of_eq_snd e
      extract_lets t1 y
      have ht1 : Kept P t1 := ht.auditLog.nestWipe
      exact ht1.withSvc.snd
    next _ _ _ t _ e =>
      have ht : Kept P t := h.authCheck.of_eq_snd e
      exact ht.satInc.snd

theorem unlockBy (h : Kept P s) {jtag : Bool} {token : List Byte} : Kept P (s.unlockBy jtag token) := by
  unfold State.unlockBy
  split
  next _ _ t e =>
    have ht : Kept P t := h.debugUnlock.of_eq e
    split
    · exact ht.withPower
    · exact ht.emit

theorem execDebugUnlock (h : Kept P s) {jtag : Bool} {token : List Byte} : KeptNext P (execDebugUnlock jtag token s) := by
  unfold Machine.execDebugUnlock
  show Kept P _
  split
  · exact h
  · split
    · exact h.withSvc
    · exact h.mctp (fun _ ht => ht.unlockBy)

theorem mbxCollide (h : Kept P s) {addr : Nat} {coll : List (Nat × W32)} : Kept P (s.mbxCollide addr coll) := by
  unfold State.mbxCollide
  extract_lets s1 y
  have h1 : Kept P s1 := h.each (fun _ _ ht => ht.setMbx.satInc)
  exact h1.withPins

theorem spiWords (h : Kept P s) {addr : Nat} {coll : List (Nat × W32)} {ks : List Nat} : Kept P (s.spiWords addr coll ks).2 := by
  induction ks generalizing s with
  | nil => exact h
  | cons k l ih =>
    unfold State.spiWords
    split
    next _ _ s1 e =>
      have h1 : Kept P s1 := Kept.of_eq (by
        split
        · exact h.free
        · exact h) e
      split
      next _ _ t e' =>
        exact (ih h1).of_eq e'

theorem execSpiRead (h : Kept P s) {addr n : Nat} {coll : List (Nat × W32)} : KeptNext P (execSpiRead addr n coll s) := by
  unfold Machine.execSpiRead
  show Kept P _
  split
  · exact h
  · split
    next _ _ t e =>
      have ht : Kept P t := h.spiWords.of_eq e
      exact ht.mbxCollide.emit

theorem execSpiWrite (h : Kept P s) {addr : Nat} {words : List W32} {coll : List (Nat × W32)} :
    KeptNext P (execSpiWrite addr words coll s) := by
  unfold Machine.execSpiWrite
  show Kept P _
  split
  · exact h
  · exact (h.each (fun _ _ ht => ht.setMbx)).mbxCollide

theorem execSpiStatus (h : Kept P s) : KeptNext P (execSpiStatus s) := by
  unfold Machine.execSpiStatus
  show Kept P _
  split
  · extract_lets b
    exact h.emit
  · exact h

theorem execSpiRing (h : Kept P s) {n : Nat} : KeptNext P (execSpiRing n s) := by
  unfold Machine.execSpiRing
  show Kept P _
  split
  · exact h.setFlag
  · exact h

theorem execMctpControl (h : Kept P s) {cmd eid : Nat} : KeptNext P (execMctpControl cmd eid s) := by
  unfold Machine.execMctpControl
  show Kept P _
  exact h.mctp (fun _ h' => by
    extract_lets y s1
    have h1 : Kept P s1 := Kept.ite h'.withSvc h'
    split
    next _ _ s1' e =>
      have h1' : Kept P s1' := h1.free.of_eq e
      exact h1'.emit)

theorem execGetIdentity (h : Kept P s) : KeptNext P (execGetIdentity s) := by
  unfold Machine.execGetIdentity
  show Kept P _
  exact h.mctp (fun _ h' => h'.emit)

theorem execGetTelemetry (h : Kept P s) : KeptNext P (execGetTelemetry s) := by
  unfold Machine.execGetTelemetry
  show Kept P _
  exact h.mctp (fun _ h' => h'.emit)

theorem execFwStatus (h : Kept P s) : KeptNext P (execFwStatus s) := by
  unfold Machine.execFwStatus
  show Kept P _
  exact h.mctp (fun _ h' => h'.emit)

theorem execSetPowerLimit (h : Kept P s) {watts : Nat} : KeptNext P (execSetPowerLimit watts s) := by
  unfold Machine.execSetPowerLimit
  show Kept P _
  exact h.mctp (fun _ h' => by
    split
    next _ _ _ s1 e =>
      have h1 : Kept P s1 := h'.commitStroke.of_eq_snd e
      exact h1.emit)

end Kept

end Sys2Proof.Machine
end

section
/-! SUPPORT. Stable properties through boot and reset: a lemma for each operation, in the order of the model. -/
namespace Sys2Proof.Machine

open Sys2Proof

namespace Kept
variable {P : State → Prop} {s : State}

theorem setStage (h : Kept P s) {n : Nat} : Kept P (s.setStage n) :=
  h.setFld

theorem bootFail (h : Kept P s) {r : Nat} : Kept P (s.bootFail r) :=
  h.setFld

theorem bootFuses (h : Kept P s) : Kept P s.bootFuses := by
  unfold State.bootFuses
  extract_lets life s1 y s2
  have h1 : Kept P s1 := h.setFld.setFlag
  have h2 : Kept P s2 := h1.withSvc
  split
  · exact h2.nestWipe
  · exact h2

theorem bootRegion (h : Kept P s) {i : Nat} {tried ok : Bool} : Kept P (s.bootRegion i tried ok) :=
  h.setFld

theorem bootImage (h : Kept P s) {i : Nat} : Kept P (s.bootImage i) :=
  h.setFld.setFld.measure

theorem bootRom (h : Kept P s) {b : BootIn} : Kept P (s.bootRom b) := by
  unfold State.bootRom
  extract_lets s0 restored first other good s1
  have h0 : Kept P s0 := Kept.ite h.nestWipe h
  have hrestored : ∀ (t : State), Kept P t → Kept P (restored t) := fun _ ht => Kept.ite ht ht.nestRestore
  have h1 : Kept P s1 := h0.nestWipe
  split
  · exact (hrestored _ h0).bootFail
  · split
    · exact (hrestored _ h0.bootRegion.bootRegion.bootImage).setStage
    · split
      · exact (hrestored _ h1.bootRegion.bootRegion.bootImage).setStage
      · exact h1.nestWipe.bootRegion.bootRegion.bootFail

theorem bootRails (h : Kept State.canonical s) {b : BootIn} : Kept State.canonical (s.bootRails b) := by
  unfold State.bootRails
  extract_lets s1 y y'
  have h1 : Kept State.canonical s1 := h.satInc
  split
  · exact (h1.power.each (fun _ _ ht => ht.trStart)).pins.setStage
  · exact h1.railsDown.bootFail

theorem bootPlls (h : Kept State.canonical s) {b : BootIn} : Kept State.canonical (s.bootPlls b) := by
  unfold State.bootPlls
  split
  · extract_lets y s1 ports
    have h1 : Kept State.canonical s1 := h.power
    exact (h1.each (fun _ _ ht => ht.setFld)).setStage
  · exact h.railsDown.bootFail

theorem bootThermal (h : Kept State.canonical s) {b : BootIn} : Kept State.canonical (s.bootThermal b) := by
  unfold State.bootThermal
  extract_lets l s1
  have h1 : Kept State.canonical s1 := h.each (fun _ _ ht => ht.setFld.setFlag)
  split
  · exact h1.setStage
  · exact h1.railsDown.bootFail

theorem bootPm (h : Kept P s) : Kept P s.bootPm := by
  unfold State.bootPm
  extract_lets s1
  have h1 : Kept P s1 := h.pmStart
  split
  · exact h1.setStage
  · exact h1.bootFail

theorem applyFuses (h : Kept P s) : Kept P s.applyFuses := by
  unfold State.applyFuses
  extract_lets all rows lines y s1 y' s2 s3 s4
  have h1 : Kept P s1 := h.withTmOf id id fun _ => swf_ssetAll _ (swf_nil _)
  have h2 : Kept P s2 := h1.withLc
  have h3 : Kept P s3 := h2.setFld.setFld
  have h4 : Kept P s4 := h3.setReg
  exact h4.each (fun _ _ ht => by
    extract_lets m t1
    have ht1 : Kept P t1 := ht.setFld.setFld
    exact ht1.setFld)

theorem bootCluster (h : Kept P s) {b : BootIn} {c : Nat} : Kept P (s.bootCluster b c) :=
  h.clusterWake.clearDone

theorem bootUnits (h : Kept P s) {b : BootIn} : Kept P (s.bootUnits b) := by
  unfold State.bootUnits
  extract_lets s1 cs s2
  have h1 : Kept P s1 := h.applyFuses
  have h2 : Kept P s2 := h1.each (fun _ _ ht => ht.bootCluster)
  exact (h2.each (fun _ _ ht => ht.spineWake)).setStage

theorem bootReplace (h : Kept P s) {b : BootIn} {l : Nat} : Kept P (s.bootReplace b l) := by
  unfold State.bootReplace
  extract_lets d p q retire
  have hretire : ∀ (t : State) (c : Nat), Kept P t → Kept P (retire t c) := fun _ _ ht => Kept.ite ht ht.retireCluster
  split
  · exact h
  · split
    · split
      · exact (hretire _ _ h.bootCluster).setClmap.setFld.rasEvent
      · exact (hretire _ _ h.bootCluster).setFld.rasEvent.loseCluster
    · exact h.loseCluster

theorem bootMap (h : Kept P s) {b : BootIn} : Kept P (s.bootMap b) := by
  unfold State.bootMap
  exact (h.each (fun _ _ ht => ht.bootReplace)).setStage

theorem bootStacks (h : Kept P s) {b : BootIn} : Kept P (s.bootStacks b) := by
  unfold State.bootStacks
  extract_lets s1
  have h1 : Kept P s1 := h.each (fun _ _ ht => ht.stackInit)
  exact h1.setStage.setFld

theorem runStage (h : Kept State.canonical s) {b : BootIn} : Kept State.canonical (s.runStage b) := by
  unfold State.runStage
  split
  · exact h.setStage
  · exact h.bootFuses.setStage
  · exact h.bootRom
  · split
    · exact h.setStage
    · exact h
  · exact h.bootRails
  · exact h.bootPlls
  · exact h.bootThermal
  · exact h.bootPm
  · exact h.bootUnits
  · exact h.bootMap
  · exact h.bootStacks
  · exact h

theorem bootRun (h : Kept State.canonical s) {b : BootIn} {n : Nat} : Kept State.canonical (State.bootRun b n s) := by
  induction n generalizing s with
  | zero => exact h
  | succ n ih =>
    unfold State.bootRun
    split
    · exact ih h.runStage
    · exact h

theorem execBootSequence (h : Kept State.canonical s) {b : BootIn} {n : Nat} :
    KeptNext State.canonical (execBootSequence b n s) := by
  unfold Machine.execBootSequence
  show Kept State.canonical _
  split
  · exact h.bootRun
  · exact h

theorem execThermalHoldRetry (h : Kept State.canonical s) {b : BootIn} {n : Nat} :
    KeptNext State.canonical (execThermalHoldRetry b n s) := by
  unfold Machine.execThermalHoldRetry
  show Kept State.canonical _
  split
  · exact h.setStage.bootFail.bootRun
  · exact h

theorem execPwrEnRise (h : Kept State.canonical s) {b : BootIn} {n : Nat} : KeptNext State.canonical (execPwrEnRise b n s) := by
  unfold Machine.execPwrEnRise
  show Kept State.canonical _
  split
  · exact h
  · extract_lets y s1
    have h1 : Kept State.canonical s1 := h.pins
    split
    · exact h1.setFlag.bootFail.bootRun
    · exact h1

theorem mainsDown (h : Kept State.canonical s) : Kept State.canonical s.mainsDown := by
  unfold State.mainsDown
  split
  · exact h.railsDown.setStage
  · exact h

theorem execPwrEnFall (h : Kept State.canonical s) : KeptNext State.canonical (execPwrEnFall s) := by
  unfold Machine.execPwrEnFall
  show Kept State.canonical _
  split
  · extract_lets y s1
    have h1 : Kept State.canonical s1 := h.pins
    split
    · exact h1.mainsDown
    · exact h1
  · exact h

theorem execRailFault (h : Kept State.canonical s) : KeptNext State.canonical (execRailFault s) := by
  unfold Machine.execRailFault
  show Kept State.canonical _
  split
  · exact h.railsDown.bootFail
  · split
    · exact h.mainsDown.bootFail
    · exact h

theorem svcStart (h : Kept P s) : Kept P s.svcStart := by
  unfold State.svcStart
  extract_lets rec_ s1 unclean s2 s3
  have h1 : Kept P s1 := h.each (fun _ _ ht => ht.setReg)
  have h2 : Kept P s2 := Kept.ite h1.setFlag h1
  have h3 : Kept P s3 := Kept.ite h2.setFlag.alert h2
  split
  · exact h3.setFlag.alert
  · exact h3

theorem execSvcPowerOn (h : Kept State.canonical s) {addr : Nat} : KeptNext State.canonical (execSvcPowerOn addr s) := by
  unfold Machine.execSvcPowerOn
  show Kept State.canonical _
  split
  · exact h
  · extract_lets s0 s1 y y' s2
    have h0 : Kept State.canonical s0 := h.svcReset
    have h1 : Kept State.canonical s1 := h0.setFld.setFld
    have h2 : Kept State.canonical s2 := h1.power.pins
    exact h2.setFlag.svcStart

theorem coldReset (h : Kept State.canonical s) : Kept State.canonical s.coldReset := by
  unfold State.coldReset
  extract_lets s0 s1 s2
  have h0 : Kept State.canonical s0 := h.svcReset
  have h1 : Kept State.canonical s1 := h0.setReg
  have h2 : Kept State.canonical s2 := h1.setFlag.setFlag
  exact h2.setFlag.svcStart

theorem execModuleColdReset (h : Kept State.canonical s) : KeptNext State.canonical (execModuleColdReset s) := by
  unfold Machine.execModuleColdReset
  show Kept State.canonical _
  split
  · exact h
  · split
    · exact h.power.setStage
    · exact h.coldReset

theorem execTripHoldEnd (h : Kept State.canonical s) : KeptNext State.canonical (execTripHoldEnd s) := by
  unfold Machine.execTripHoldEnd
  show Kept State.canonical _
  split
  · exact h.coldReset
  · exact h

theorem execRejectedResetPulse (h : Kept P s) : KeptNext P (execRejectedResetPulse s) := by
  unfold Machine.execRejectedResetPulse
  show Kept P _
  split
  · exact h.satInc
  · exact h

theorem execTapReset (h : Kept P s) : KeptNext P (execTapReset s) :=
  h.withPower

theorem setPerst (h : Kept P s) {e : Nat} {b : Bool} : Kept P (s.setPerst e b) := by
  unfold State.setPerst
  split
  · exact h.withPins
  · exact h.withPins

theorem execPcieConventionalReset (h : Kept P s) {e : Nat} : KeptNext P (execPcieConventionalReset e s) := by
  unfold Machine.execPcieConventionalReset
  show Kept P _
  extract_lets s1 y s2
  have h1 : Kept P s1 := h.setPerst
  have h2 : Kept P s2 := h1.withPower
  split
  · exact h2.pfReset
  · exact h2

theorem execPcieLinkTrain (h : Kept P s) {e : Nat} : KeptNext P (execPcieLinkTrain e s) := by
  unfold Machine.execPcieLinkTrain
  show Kept P _
  extract_lets s1 y
  have h1 : Kept P s1 := h.setPerst
  split
  · exact h1.withPower
  · exact h1

end Kept

end Sys2Proof.Machine
end

section
/-! SUPPORT. Stable properties through strokes: a lemma for each operation, in the order of the model. -/
namespace Sys2Proof.Machine

open Sys2Proof

namespace Kept
variable {P : State → Prop} {s : State}

theorem strokeFailed (h : Kept P s) {i r : Nat} : Kept P (s.strokeFailed i r) :=
  h.setFld.setFld.setFlag

theorem strokeFired (h : Kept P s) {i : Nat} : Kept P (s.strokeFired i) := by
  unfold State.strokeFired
  split
  · exact h.setFld.setFlag
  · exact h.setFld

theorem fwAct (h : Kept P s) {action arg : Nat} : Kept P (s.fwAct action arg).2 := by
  unfold State.fwAct
  split
  · split
    · exact h.namePhase.snd
    · exact h
  · exact h.oxEnter.snd
  · exact h.oxLeave.snd
  · exact h.capSet.snd
  · exact h.fwActivate
  · exact h

theorem fwLate (h : Kept P s) {a : FwAct} : Kept P (s.fwLate a) := by
  unfold State.fwLate
  split
  next _ _ s1 e =>
    have h1 : Kept P s1 := h.fwAct.of_eq e
    extract_lets st
    split
    · exact h1.strokeFailed
    · exact h1

theorem fwResume (h : Kept P s) {fuel : Nat} : Kept P (State.fwResume fuel s) := by
  induction fuel generalizing s with
  | zero => exact h
  | succ fuel ih =>
    unfold State.fwResume
    split
    · exact h
    · split
      · exact h
      · exact ih h.withSvc.fwLate

theorem fwBack (h : Kept P s) : Kept P s.fwBack := by
  unfold State.fwBack
  extract_lets s1 y
  have h1 : Kept P s1 := h.fwResume
  split
  · exact h1
  · exact h1.withSvc.each (fun _ _ ht => ht.unlockBy)

theorem idle (h : Kept P s) : Kept P s.idle :=
  h.tick.fwBack

theorem strokeFire (h : Kept P s) {action i : Nat} {act : State → Nat → Nat × State} (hact : ∀ (a : State)
    (t : Nat), Kept P a → Kept P (act a t).2) : Kept P (s.strokeFire action i act) := by
  unfold State.strokeFire
  extract_lets s1 y
  have h1 : Kept P s1 := h.setFld
  have hsvc : (s1.strokeFired i).svc = s.svc := (strokeFired_svc s1 i).trans (State.setFld_svc ..)
  split
  · exact h
  · split
    · exact h1.strokeFailed
    · split
      · exact h.setFld.setFlag
      · split
        ·          exact h1.strokeFired.withSvcOf (by rw [hsvc]; exact id) (by rw [hsvc]; exact id)
        · split
          next _ s2 e =>
            have h2 : Kept P s2 := (hact _ _ h1.strokeFired).of_eq e
            split
            · exact h2
            · exact h2.strokeFailed.setFld

theorem hqAction (h : Kept P s) {f : State → State} (hf : ∀ (a : State), Kept P a → Kept P (f a)) : Kept P (hqAction f s).2 := by
  unfold Machine.hqAction
  split
  · exact Kept.snd (hf _ h)
  · split
    next _ _ s1 e =>
      exact h.free.of_eq e

theorem execGenswap (h : Kept P s) {i : Nat} : KeptNext P (execGenswap i s) := by
  unfold Machine.execGenswap
  show Kept P _
  exact h.strokeFire (fun _ _ ht => ht.hqAction (fun _ hu => hu.genswapFire))

theorem execGenretire (h : Kept P s) {i : Nat} : KeptNext P (execGenretire i s) := by
  unfold Machine.execGenretire
  show Kept P _
  exact h.strokeFire (fun _ _ ht => ht.hqAction (fun _ hu => hu.genretireFire))

theorem execPhaseStroke (h : Kept P s) {i : Nat} : KeptNext P (execPhaseStroke i s) := by
  unfold Machine.execPhaseStroke
  show Kept P _
  exact h.strokeFire (fun _ _ ht => ht.fwAct)

theorem execOxenter (h : Kept P s) {i : Nat} : KeptNext P (execOxenter i s) := by
  unfold Machine.execOxenter
  show Kept P _
  exact h.strokeFire (fun _ _ ht => ht.fwAct)

theorem execOxleave (h : Kept P s) {i : Nat} : KeptNext P (execOxleave i s) := by
  unfold Machine.execOxleave
  show Kept P _
  exact h.strokeFire (fun _ _ ht => ht.fwAct)

theorem execCapset (h : Kept P s) {i : Nat} : KeptNext P (execCapset i s) := by
  unfold Machine.execCapset
  show Kept P _
  exact h.strokeFire (fun _ _ ht => ht.fwAct)

theorem execScrubStroke (h : Kept P s) {i : Nat} : KeptNext P (execScrubStroke i s) := by
  unfold Machine.execScrubStroke
  show Kept P _
  exact h.strokeFire (fun _ _ ht => by
    split
    · exact ht.scrubStart
    · exact ht)

theorem execMuwinOpen (h : Kept P s) {i : Nat} : KeptNext P (execMuwinOpen i s) := by
  unfold Machine.execMuwinOpen
  show Kept P _
  exact h.strokeFire (fun _ _ ht => ht.muOpen)

theorem execMuwinClose (h : Kept P s) {i : Nat} : KeptNext P (execMuwinClose i s) := by
  unfold Machine.execMuwinClose
  show Kept P _
  exact h.strokeFire (fun _ _ ht => ht.muClose)

theorem execFwactivate (h : Kept P s) {i : Nat} : KeptNext P (execFwactivate i s) := by
  unfold Machine.execFwactivate
  show Kept P _
  exact h.strokeFire (fun _ _ ht => ht.fwAct)

theorem execTracemark (h : Kept P s) {i : Nat} : KeptNext P (execTracemark i s) := by
  unfold Machine.execTracemark
  show Kept P _
  exact h.strokeFire (fun _ _ ht => ht.traceMarkAll.snd)

theorem acceptStepGo (h : Kept P s) : Kept P s.acceptStepGo := by
  unfold State.acceptStepGo
  split
  · exact h
  · extract_lets now passed order y
    exact h.setFld.withFt

end Kept

end Sys2Proof.Machine
end

section
/-! SUPPORT. Stable properties through register accesses: a lemma for each operation, in the order of the model. -/
namespace Sys2Proof.Machine

open Sys2Proof

namespace Kept
variable {P : State → Prop} {s : State}

theorem afterPlCtl (h : Kept P s) {i j : Nat} {old : W64} : Kept P (s.afterPlCtl i j old) := by
  unfold State.afterPlCtl
  extract_lets p new y
  split
  · split
    · exact h.startFill
    · exact h
  · exact h.setFld.withHbm

theorem afterStCmd (h : Kept P s) {a : Acc} {i j : Nat} {v : W64} : Kept P (s.afterStCmd a i j v) := by
  unfold State.afterStCmd
  extract_lets vi fin s1 s2
  have hfin : ∀ r : Nat × State, Kept P r.2 → Kept P (fin r) := fun _ hr => hr.setFld.setFlag
  have h1 : Kept P s1 := Kept.ite (hfin _ h.stCancel) h
  have h2 : Kept P s2 := Kept.ite (hfin _ h1.stResume) h1
  split
  · exact hfin _ h2.stIssueList
  · exact h2

theorem afterScrub (h : Kept P s) {i j : Nat} {v : W64} : Kept P (s.afterScrub i j v) := by
  unfold State.afterScrub
  extract_lets s1
  have h1 : Kept P s1 := Kept.ite h.scrubStopGo h
  split
  · exact h1.scrubStart.setFlag
  · exact h1

theorem afterCtxCtl (h : Kept P s) {i j : Nat} {v : W64} : Kept P (s.afterCtxCtl i j v) := by
  unfold State.afterCtxCtl
  extract_lets s1 s2
  have h1 : Kept P s1 := Kept.ite h.ctxStart h
  have h2 : Kept P s2 := Kept.ite h1.ctxStop h1
  split
  · exact h2.ctxReset
  · exact h2

theorem afterTable (h' : Kept P s) {h : Nat} : Kept P (s.afterTable h) := by
  unfold State.afterTable
  split
  · exact h'.withHerd.mirror
  · exact h'

theorem afterMuCmd (h : Kept P s) {a : Acc} : Kept P (s.afterMuCmd a) :=
  h.muCmdGo

theorem afterWrite (h : Kept P s) {a : Acc} {id : RegId} {i j : Nat} {v old : W64} : Kept P (s.afterWrite a id i j v old) := by
  unfold State.afterWrite
  split
  · split
    · exact h.setReg
    · exact h
  · split
    · exact h.acceptStepGo
    · exact h
  · split
    · exact h.stageCommit
    · exact h
  · split
    · exact h.traceEnable
    · exact h
  · split
    · exact h.clearPortCounters
    · exact h
  · exact h.cntWritten
  · extract_lets t
    have ht : Kept P t := h.cntMeet.cntWritten
    exact ht.setFld
  · split
    · exact h.lkForceGo
    · exact h
  · split
    · exact h.clearErrors
    · exact h
  · exact h.afterScrub
  · split
    · exact h.splitWrite
    · exact h
  · split
    · exact h.repairGo
    · exact h
  · exact h.afterPlCtl
  · exact h.setFlag
  · split
    · exact h.rangeFillGo
    · exact h
  · split
    · exact h.tlbInvGo
    · exact h
  · split
    · exact h.afterMuCmd
    · exact h
  · split
    · exact h.muWinCmd
    · exact h
  · split
    · exact h.setReg
    · exact h
  · exact h.lcSweep
  · split
    · exact h.lcOpStart
    · exact h
  · split
    · exact h.lcClearCounters
    · exact h
  · split
    · exact h.trClearCounters
    · exact h
  · exact h.afterStCmd
  · split
    · exact h.stClearCounters
    · exact h
  · split
    · exact h.engClearCounters
    · exact h
  · split
    · exact h.engClearCounters
    · exact h
  · split
    · exact h.engClearCounters
    · exact h
  · exact h.afterCtxCtl
  · split
    · exact h.coreReset
    · exact h
  · split
    · exact h.raiseIrq
    · exact h
  · split
    · exact h.scClearCounters
    · exact h
  · split
    · exact h.setReg
    · exact h
  · split
    · exact h.viResetGo
    · exact h
  · split
    · exact h.operatorEnable
    · exact h
  · exact h.setFld
  · split
    · exact h.queueEnable
    · exact h
  · split
    · exact h.queueCancel
    · exact h
  · exact h.hqPost
  · exact h.hqPost
  · split
    · exact h.hdGo
    · exact h
  · exact h.afterTable
  · exact h.afterTable
  · split
    · exact h.pmStart
    · exact h
  · split
    · exact h.fwLoadGo
    · exact h
  · split
    · exact h.auditAck
    · exact h
  · exact h.auditFetch
  · split
    · exact h.lfGo
    · exact h
  · split
    · exact h.nestGo
    · exact h
  · split
    · exact h.spareGo
    · exact h
  · split
    · split
      next _ _ s1 e =>
        have h1 : Kept P s1 := h.free.of_eq e
        exact h1.retireGo
    · exact h
  · exact h

theorem storeWrite (h : Kept P s) {w : Wr} {id : RegId} {i j off : Nat} : Kept P (s.storeWrite w id i j off) := by
  unfold State.storeWrite
  extract_lets old new s1 s2
  have h1 : Kept P s1 := h.setReg
  have h2 : Kept P s2 := Kept.ite h1.shadowWait h1
  split
  · exact h2.auditChange
  · exact h2

theorem acceptBy (h : Kept P s) {w : Wr} {id : RegId} {i j off : Nat} {act : State → State}
    (hact : ∀ (a : State), Kept P a → Kept P (act a)) : Kept P (s.acceptBy w id i j off act) := by
  unfold State.acceptBy
  split
  · exact h
  · exact hact _ h.storeWrite

theorem refused (h : Kept P s) {w : Wr} {id : RegId} {i j off kind : Nat} : Kept P (s.refused w id i j off kind) := by
  unfold State.refused
  split
  · exact h.accessErr
  · extract_lets s1
    have h1 : Kept P s1 := Kept.ite h.setFlag h
    exact h1.refuseWrite

theorem regWriteBy (h : Kept P s) {w : Wr} {id : RegId} {i j off : Nat} {act : State → State}
    (hact : ∀ (a : State), Kept P a → Kept P (act a)) : Kept P (s.regWriteBy w id i j off act).2 := by
  unfold State.regWriteBy
  extract_lets k
  split
  · exact Kept.snd (h.acceptBy (fun _ ha => hact _ ha))
  · exact h.refused.snd

theorem regWrite (h : Kept P s) {w : Wr} {id : RegId} {i j off : Nat} : Kept P (s.regWrite w id i j off).2 := by
  unfold State.regWrite
  exact h.regWriteBy (fun _ ht => ht.afterWrite)

theorem rowWriteBy (h : Kept P s) {w : Wr} {id : RegId} {i j : Nat} {act : State → State}
    (hact : ∀ (a : State), Kept P a → Kept P (act a)) : Kept P (s.rowWriteBy w id i j act).2 := by
  unfold State.rowWriteBy
  split
  · exact h
  · split
    · exact h
    · extract_lets b
      split
      · exact h.accessErr.snd
      · exact h.regWriteBy (fun _ ha => hact _ ha)

theorem rowWrite (h : Kept P s) {w : Wr} {id : RegId} {i j : Nat} : Kept P (s.rowWrite w id i j).2 := by
  unfold State.rowWrite
  exact h.rowWriteBy (fun _ ht => ht.afterWrite)

theorem steerWinWrite (h : Kept P s) {a : Acc} {core word off : Nat} {v : W32} : Kept P (s.steerWinWrite a core word off v).2 := by
  unfold State.steerWinWrite
  split
  · exact h.steerStore.snd
  · exact h.refuseWrite.snd

theorem steerWinRead (h : Kept P s) {a : Acc} {core word off : Nat} : Kept P (s.steerWinRead a core word off).2 := by
  unfold State.steerWinRead
  split
  · exact h.steerWord
  · exact h.accessErr.snd

theorem writeAt (h : Kept P s) {w : Wr} {off : Nat} : Kept P (s.writeAt w off).2 := by
  unfold State.writeAt
  extract_lets b
  split
  · exact h.accessErr.snd
  · split
    · exact h.steerWinWrite
    · exact h
    · exact h.regWrite

theorem busWrite (h : Kept P s) {w : Wr} {off0 : Nat} : Kept P (s.busWrite w off0).2 := by
  unfold State.busWrite
  extract_lets off
  split
  · split
    next _ _ s1 e =>
      have h1 : Kept P s1 := h.writeAt.of_eq e
      split
      next _ _ s1' e' =>
        exact h1.writeAt.of_eq e'
  · exact h.writeAt

theorem beforeRead (h : Kept P s) {id : RegId} {i : Nat} : Kept P (s.beforeRead id i) := by
  unfold State.beforeRead
  split
  · exact h.freshNonce
  · exact h

theorem readAt (h : Kept P s) {a : Acc} {off : Nat} : Kept P (s.readAt a off).2 := by
  unfold State.readAt
  split
  · exact h.steerWinRead
  · exact h
  · extract_lets s1 v
    exact h.beforeRead

theorem readOne (h : Kept P s) {a : Acc} {off : Nat} : Kept P (s.readOne a off).2.2 := by
  unfold State.readOne
  extract_lets b
  split
  · exact h.accessErr.snd
  · split
    next _ _ s1 e =>
      exact h.readAt.of_eq e

theorem busRead (h : Kept P s) {a : Acc} {wide : Bool} {off0 : Nat} : Kept P (s.busRead a wide off0).2.2 := by
  unfold State.busRead
  extract_lets off
  split
  next _ _ _ s2 e =>
    have h2 : Kept P s2 := h.readOne.of_eq_snd e
    split
    · exact h2
    · split
      · split
        next _ _ _ s2' e' =>
          exact h2.readOne.of_eq_snd e'
      · split
        · exact h2
        · split
          next _ _ s1 e' =>
            exact h2.readAt.of_eq e'

end Kept

end Sys2Proof.Machine
end

section
/-! SUPPORT. Stable properties through the row operations of mules: a lemma for each operation, in the order of the model. -/
namespace Sys2Proof.Machine

open Sys2Proof

namespace Kept
variable {P : State → Prop} {s : State}

theorem muRows (h : Kept P s) {op : MuleOp} {d : BitVec 256} {stack pc k : Nat} {err : Option Nat} {n i : Nat} :
    Kept P (State.muRows op d stack pc k err n i s).2.2 := by
  induction n generalizing s i with
  | zero => exact h
  | succ n ih =>
    unfold State.muRows
    split
    · split
      · exact h
      · split
        · exact h
        · split
          · exact h.sectorUe.snd
          · split
            · exact h.setSuspect.snd
            · exact ih h.muRowStep

theorem muWaited (h : Kept P s) {k : Nat} : Kept P (s.muWaited k) := by
  unfold State.muWaited
  extract_lets at_
  split
  · exact h
  · exact h.setFld

theorem muWait (h : Kept P s) {stack pc : Nat} {waits : Bool} : Kept P (s.muWait stack pc waits) := by
  unfold State.muWait
  extract_lets k s1 y s2
  have h1 : Kept P s1 := h.muWaited
  have h2 : Kept P s2 := h1.withMule
  exact h2.throttle

theorem muExec (h : Kept P s) {op : MuleOp} {most stack pc : Nat} {ue : Option (Nat × Bool × Nat)} {err : Option Nat} :
    Kept P (s.muExec op most stack pc ue err) := by
  unfold State.muExec
  split
  · exact h
  · split
    · extract_lets k s0
      have h0 : Kept P s0 := by
        unfold s0
        split
        · exact h.strikeSector
        · exact h
      split
      next _ _ _ s1 e =>
        have h1 : Kept P s1 := h0.muRows.of_eq_snd e
        extract_lets s2 s3
        have h2 : Kept P s2 := h1.setFld
        have h3 : Kept P s3 := h2.setMuQueue
        exact h3.muWait
    · exact h

theorem muRun (h : Kept P s) {code most stack pc : Nat} {ue : Option (Nat × Bool × Nat)} {err : Option Nat} :
    Kept P (s.muRun code most stack pc ue err) := by
  unfold State.muRun
  split
  · exact h.muExec
  · exact h

theorem execRowcopy (h : Kept P s) {stack pc : Nat} {ue : Option (Nat × Bool × Nat)} {err : Option Nat} :
    KeptNext P (execRowcopy stack pc ue err s) :=
  h.muRun

theorem execRowinit (h : Kept P s) {stack pc : Nat} {ue : Option (Nat × Bool × Nat)} {err : Option Nat} :
    KeptNext P (execRowinit stack pc ue err s) :=
  h.muRun

theorem execRowand (h : Kept P s) {stack pc : Nat} {ue : Option (Nat × Bool × Nat)} {err : Option Nat} :
    KeptNext P (execRowand stack pc ue err s) :=
  h.muRun

theorem execRowor (h : Kept P s) {stack pc : Nat} {ue : Option (Nat × Bool × Nat)} {err : Option Nat} :
    KeptNext P (execRowor stack pc ue err s) :=
  h.muRun

theorem execRowxor (h : Kept P s) {stack pc : Nat} {ue : Option (Nat × Bool × Nat)} {err : Option Nat} :
    KeptNext P (execRowxor stack pc ue err s) :=
  h.muRun

theorem execRowandn (h : Kept P s) {stack pc : Nat} {ue : Option (Nat × Bool × Nat)} {err : Option Nat} :
    KeptNext P (execRowandn stack pc ue err s) :=
  h.muRun

theorem execRownot (h : Kept P s) {stack pc : Nat} {ue : Option (Nat × Bool × Nat)} {err : Option Nat} :
    KeptNext P (execRownot stack pc ue err s) :=
  h.muRun

theorem execChain (h : Kept P s) {stack pc : Nat} {ue : Option (Nat × Bool × Nat)} {err : Option Nat} :
    KeptNext P (execChain stack pc ue err s) :=
  h.muRun

theorem execBuscopy (h : Kept P s) {stack pc : Nat} {ue : Option (Nat × Bool × Nat)} {err : Option Nat} :
    KeptNext P (execBuscopy stack pc ue err s) := by
  unfold Machine.execBuscopy
  show Kept P _
  split
  · extract_lets s1 y
    have h1 : Kept P s1 := h.muRun
    exact h1.withMule
  · exact h

theorem execMuleCommandDone (h : Kept P s) {stack pc : Nat} : KeptNext P (execMuleCommandDone stack pc s) := by
  unfold Machine.execMuleCommandDone
  show Kept P _
  split
  · exact h
  · split
    · split
      · exact h.muWait
      · extract_lets s1
        have h1 : Kept P s1 := h.setMuQueue.muFinish.muWait
        split
        · exact h1.setFld
        · exact h1
    · extract_lets st
      split
      · exact h.setMuQueue.muFinish
      · exact h

theorem execDrainComplete (h : Kept P s) {stack pc : Nat} : KeptNext P (execDrainComplete stack pc s) := by
  unfold Machine.execDrainComplete
  show Kept P _
  split
  · exact h.setFld
  · exact h

theorem execExitComplete (h : Kept P s) {stack pc : Nat} : KeptNext P (execExitComplete stack pc s) := by
  unfold Machine.execExitComplete
  show Kept P _
  split
  · exact h.chanRelease.muSettle.splitRetry
  · exact h

theorem execBudgetPeriod (h : Kept P s) : KeptNext P (execBudgetPeriod s) := by
  unfold Machine.execBudgetPeriod
  show Kept P _
  extract_lets n s1 y s2 waits y' s3
  have h1 : Kept P s1 := h.each (fun _ _ ht => ht.muWaited)
  have h2 : Kept P s2 := h1.withMule
  have h3 : Kept P s3 := h2.withMule
  split
  · exact h
  · exact h3.throttle

end Kept

end Sys2Proof.Machine
end

section
/-! SUPPORT. Stable properties through the Sloak instructions: a lemma for each operation, in the order of the model. -/
namespace Sys2Proof.Machine

open Sys2Proof

namespace Kept
variable {P : State → Prop} {s : State}

theorem slFetchWord (h : Kept P s) {core x a : Nat} : Kept P (s.slFetchWord core x a).2 := by
  unfold State.slFetchWord
  split
  · exact h
  · split
    · exact h
    · extract_lets ue
      split
      next _ _ s1 e =>
        have h1 : Kept P s1 := h.steerWord.of_eq e
        split
        · exact h1
        · exact h1

theorem slFetch (h : Kept P s) {core x : Nat} : Kept P (s.slFetch core x).2 := by
  unfold State.slFetch
  extract_lets pc
  split
  next _ _ _ _ s2 e =>
    exact h.slFetchWord.of_eq e
  next _ _ s2 e =>
    have h2 : Kept P s2 := h.slFetchWord.of_eq e
    split
    · split
      next _ _ _ _ s2' e' =>
        exact h2.slFetchWord.of_eq e'
      next _ _ s2' e' =>
        exact h2.slFetchWord.of_eq e'
    · exact h2

theorem slRun (h : Kept P s) {op : SlOp} {core x : Nat} {body : SlI → State → SlOut}
    (hbody : ∀ i t, Kept P t → KeptOut P (body i t)) : Kept P (s.slRun op core x body) := by
  have hfetch : Kept P (s.slFetch core x).2 := h.slFetch
  unfold State.slRun
  split
  · extract_lets out
    have hout : KeptOut P out := by
      unfold out
      split
      next _ _ _ s1 e => exact hfetch.of_eq e
      next i s1 e =>
        have h1 : Kept P s1 := hfetch.of_eq e
        split
        · exact h1
        · split
          · split
            · exact trivial
            · exact hbody _ _ h1
          · exact trivial
    clear_value out
    split
    next t => exact hout
    next t => exact Kept.ite h (Kept.slTrap hout)
    next => exact h
  · exact h

theorem SlI_trap (h : Kept P s) {i : SlI} {cause info : Nat} {tag : W32} : KeptOut P (i.trap cause info tag s) :=
  h

theorem SlI_illegal (h : Kept P s) {i : SlI} : KeptOut P (i.illegal s) :=
  h.SlI_trap

theorem SlI_privilege (h : Kept P s) {i : SlI} : KeptOut P (i.privilege s) :=
  h.SlI_trap

theorem SlI_bite (h : Kept P s) {i : SlI} {kind : Nat} {tag : W32} : KeptOut P (i.bite kind tag s) :=
  h.bite.SlI_trap

theorem slNext (h : Kept P s) {i : SlI} : Kept P (s.slNext i) :=
  h.setSlPc.scCount

theorem slJump (h : Kept P s) {i : SlI} {pc : Nat} : Kept P (s.slJump i pc) :=
  h.setSlPc.scCount

theorem slGuarded (h : Kept P s) {body : SlI → State → SlOut} (hbody : ∀ (a : SlI) (t : State), Kept P t → KeptOut P (body a t))
    {i : SlI} : KeptOut P (slGuarded body i s) := by
  unfold Machine.slGuarded
  extract_lets p
  split
  · exact h.SlI_bite
  · split
    · exact hbody _ _ h
    · exact h.slNext

theorem slPut (h : Kept P s) {i : SlI} {v : SlG} : Kept P (s.slPut i v) :=
  h.setSlG.slNext

theorem slAlu (h : Kept P s) {op : SlOp} {core x : Nat} {f : W64 → W64 → W64} : Kept P (s.slAlu op core x f) := by
  unfold State.slAlu
  exact h.slRun (fun _ _ h' => h'.slGuarded (fun _ _ ht => by
    exact ht.slPut))

theorem slAlu1 (h : Kept P s) {op : SlOp} {core x : Nat} {f : W64 → W64} : Kept P (s.slAlu1 op core x f) := by
  unfold State.slAlu1
  exact h.slRun (fun _ _ h' => h'.slGuarded (fun _ _ ht => by
    exact ht.slPut))

theorem execAdd (h : Kept P s) {core x : Nat} : KeptNext P (execAdd core x s) :=
  h.slAlu

theorem execSub (h : Kept P s) {core x : Nat} : KeptNext P (execSub core x s) :=
  h.slAlu

theorem execAnd (h : Kept P s) {core x : Nat} : KeptNext P (execAnd core x s) :=
  h.slAlu

theorem execOr (h : Kept P s) {core x : Nat} : KeptNext P (execOr core x s) :=
  h.slAlu

theorem execXor (h : Kept P s) {core x : Nat} : KeptNext P (execXor core x s) :=
  h.slAlu

theorem execAndn (h : Kept P s) {core x : Nat} : KeptNext P (execAndn core x s) :=
  h.slAlu

theorem execShl (h : Kept P s) {core x : Nat} : KeptNext P (execShl core x s) :=
  h.slAlu

theorem execShr (h : Kept P s) {core x : Nat} : KeptNext P (execShr core x s) :=
  h.slAlu

theorem execSra (h : Kept P s) {core x : Nat} : KeptNext P (execSra core x s) :=
  h.slAlu

theorem execMin (h : Kept P s) {core x : Nat} : KeptNext P (execMin core x s) :=
  h.slAlu

theorem execMax (h : Kept P s) {core x : Nat} : KeptNext P (execMax core x s) :=
  h.slAlu

theorem execMinu (h : Kept P s) {core x : Nat} : KeptNext P (execMinu core x s) :=
  h.slAlu

theorem execMaxu (h : Kept P s) {core x : Nat} : KeptNext P (execMaxu core x s) :=
  h.slAlu

theorem execClz (h : Kept P s) {core x : Nat} : KeptNext P (execClz core x s) :=
  h.slAlu1

theorem execPopc (h : Kept P s) {core x : Nat} : KeptNext P (execPopc core x s) :=
  h.slAlu1

theorem execMul (h : Kept P s) {core x : Nat} : KeptNext P (execMul core x s) :=
  h.slAlu

theorem execMulh (h : Kept P s) {core x : Nat} : KeptNext P (execMulh core x s) :=
  h.slAlu

theorem execMulhu (h : Kept P s) {core x : Nat} : KeptNext P (execMulhu core x s) :=
  h.slAlu

theorem execDiv (h : Kept P s) {core x : Nat} : KeptNext P (execDiv core x s) :=
  h.slAlu

theorem execDivu (h : Kept P s) {core x : Nat} : KeptNext P (execDivu core x s) :=
  h.slAlu

theorem execRem (h : Kept P s) {core x : Nat} : KeptNext P (execRem core x s) :=
  h.slAlu

theorem execRemu (h : Kept P s) {core x : Nat} : KeptNext P (execRemu core x s) :=
  h.slAlu

theorem slImmOp (h : Kept P s) {op : SlOp} {core x : Nat} {f : SlI → W64 → W64} : Kept P (s.slImmOp op core x f) := by
  unfold State.slImmOp
  exact h.slRun (fun _ _ ht => by
    exact ht.slPut)

theorem execAddi (h : Kept P s) {core x : Nat} : KeptNext P (execAddi core x s) :=
  h.slImmOp

theorem execAndi (h : Kept P s) {core x : Nat} : KeptNext P (execAndi core x s) :=
  h.slImmOp

theorem execOri (h : Kept P s) {core x : Nat} : KeptNext P (execOri core x s) :=
  h.slImmOp

theorem execXori (h : Kept P s) {core x : Nat} : KeptNext P (execXori core x s) :=
  h.slImmOp

theorem execShli (h : Kept P s) {core x : Nat} : KeptNext P (execShli core x s) :=
  h.slImmOp

theorem execShri (h : Kept P s) {core x : Nat} : KeptNext P (execShri core x s) :=
  h.slImmOp

theorem execSrai (h : Kept P s) {core x : Nat} : KeptNext P (execSrai core x s) :=
  h.slImmOp

theorem execLui (h : Kept P s) {core x : Nat} : KeptNext P (execLui core x s) := by
  unfold Machine.execLui
  show Kept P _
  exact h.slRun (fun _ _ ht => by
    exact ht.slPut)

theorem execLi32 (h : Kept P s) {core x : Nat} : KeptNext P (execLi32 core x s) := by
  unfold Machine.execLi32
  show Kept P _
  exact h.slRun (fun _ _ h' => h'.slGuarded (fun _ _ ht => by
    exact ht.slPut))

theorem execOrhi (h : Kept P s) {core x : Nat} : KeptNext P (execOrhi core x s) := by
  unfold Machine.execOrhi
  show Kept P _
  exact h.slRun (fun _ _ h' => h'.slGuarded (fun _ _ ht => by
    exact ht.slPut))

theorem execAddi32 (h : Kept P s) {core x : Nat} : KeptNext P (execAddi32 core x s) := by
  unfold Machine.execAddi32
  show Kept P _
  exact h.slRun (fun _ _ h' => h'.slGuarded (fun _ _ ht => by
    exact ht.slPut))

theorem slPutP (h : Kept P s) {i : SlI} {v : SlP} : Kept P (s.slPutP i v) :=
  h.setSlP.slNext

theorem slCompare (h : Kept P s) {op : SlOp} {core x : Nat} {f : W64 → W64 → Bool} : Kept P (s.slCompare op core x f) := by
  unfold State.slCompare
  exact h.slRun (fun _ _ h' => h'.slGuarded (fun _ _ ht => by
    exact ht.slPutP))

theorem slLogic (h : Kept P s) {op : SlOp} {core x : Nat} {f : Bool → Bool → Bool} : Kept P (s.slLogic op core x f) := by
  unfold State.slLogic
  exact h.slRun (fun _ _ h' => h'.slGuarded (fun _ _ ht => by
    exact ht.slPutP))

theorem execCmpeq (h : Kept P s) {core x : Nat} : KeptNext P (execCmpeq core x s) :=
  h.slCompare

theorem execCmpne (h : Kept P s) {core x : Nat} : KeptNext P (execCmpne core x s) :=
  h.slCompare

theorem execCmplt (h : Kept P s) {core x : Nat} : KeptNext P (execCmplt core x s) :=
  h.slCompare

theorem execCmpge (h : Kept P s) {core x : Nat} : KeptNext P (execCmpge core x s) :=
  h.slCompare

theorem execCmpltu (h : Kept P s) {core x : Nat} : KeptNext P (execCmpltu core x s) :=
  h.slCompare

theorem execCmpgeu (h : Kept P s) {core x : Nat} : KeptNext P (execCmpgeu core x s) :=
  h.slCompare

theorem execTst (h : Kept P s) {core x : Nat} : KeptNext P (execTst core x s) :=
  h.slCompare

theorem execTstz (h : Kept P s) {core x : Nat} : KeptNext P (execTstz core x s) :=
  h.slCompare

theorem execPand (h : Kept P s) {core x : Nat} : KeptNext P (execPand core x s) :=
  h.slLogic

theorem execPor (h : Kept P s) {core x : Nat} : KeptNext P (execPor core x s) :=
  h.slLogic

theorem execPxor (h : Kept P s) {core x : Nat} : KeptNext P (execPxor core x s) :=
  h.slLogic

theorem execPandn (h : Kept P s) {core x : Nat} : KeptNext P (execPandn core x s) :=
  h.slLogic

theorem execPnot (h : Kept P s) {core x : Nat} : KeptNext P (execPnot core x s) := by
  unfold Machine.execPnot
  show Kept P _
  exact h.slRun (fun _ _ h' => h'.slGuarded (fun _ _ ht => by
    exact ht.slPutP))

theorem execPset (h : Kept P s) {core x : Nat} : KeptNext P (execPset core x s) := by
  unfold Machine.execPset
  show Kept P _
  exact h.slRun (fun _ _ h' => h'.slGuarded (fun _ _ ht => by
    exact ht.slPutP))

theorem execPclr (h : Kept P s) {core x : Nat} : KeptNext P (execPclr core x s) := by
  unfold Machine.execPclr
  show Kept P _
  exact h.slRun (fun _ _ h' => h'.slGuarded (fun _ _ ht => by
    exact ht.slPutP))

theorem execPtog (h : Kept P s) {core x : Nat} : KeptNext P (execPtog core x s) := by
  unfold Machine.execPtog
  show Kept P _
  exact h.slRun (fun _ _ h' => h'.slGuarded (fun _ _ ht => by
    extract_lets p
    exact ht.slPut))

theorem execGtop (h : Kept P s) {core x : Nat} : KeptNext P (execGtop core x s) := by
  unfold Machine.execGtop
  show Kept P _
  exact h.slRun (fun _ _ h' => h'.slGuarded (fun _ _ ht => by
    extract_lets g
    exact ht.slPutP))

theorem slPutD (h : Kept P s) {i : SlI} {v : SlD} : Kept P (s.slPutD i v) :=
  h.setSlD.slNext

theorem execDset (h : Kept P s) {core x : Nat} : KeptNext P (execDset core x s) := by
  unfold Machine.execDset
  show Kept P _
  exact h.slRun (fun _ _ h' => h'.slGuarded (fun _ _ ht => by
    extract_lets g d
    exact ht.slPutD))

theorem execDget (h : Kept P s) {core x : Nat} : KeptNext P (execDget core x s) := by
  unfold Machine.execDget
  show Kept P _
  exact h.slRun (fun _ _ h' => h'.slGuarded (fun _ _ ht => by
    extract_lets d
    exact ht.slPut))

theorem execDcopy (h : Kept P s) {core x : Nat} : KeptNext P (execDcopy core x s) := by
  unfold Machine.execDcopy
  show Kept P _
  exact h.slRun (fun _ _ h' => h'.slGuarded (fun _ _ ht => by
    exact ht.slPutD))

theorem execDzero (h : Kept P s) {core x : Nat} : KeptNext P (execDzero core x s) := by
  unfold Machine.execDzero
  show Kept P _
  exact h.slRun (fun _ _ h' => h'.slGuarded (fun _ _ ht => by
    exact ht.slPutD))

theorem slBranch (h : Kept P s) {op : SlOp} {core x : Nat} {link : Bool} : Kept P (s.slBranch op core x link) := by
  unfold State.slBranch
  exact h.slRun (fun _ _ ht => by
    extract_lets p t1
    have ht1 : Kept P t1 := Kept.ite ht.setSlG ht
    split
    · exact ht.SlI_bite
    · split
      · exact ht1.slJump
      · exact ht.slNext)

theorem execBr (h : Kept P s) {core x : Nat} : KeptNext P (execBr core x s) :=
  h.slBranch

theorem execCall (h : Kept P s) {core x : Nat} : KeptNext P (execCall core x s) :=
  h.slBranch

theorem execJr (h : Kept P s) {core x : Nat} : KeptNext P (execJr core x s) := by
  unfold Machine.execJr
  show Kept P _
  exact h.slRun (fun _ _ ht => by
    extract_lets a target
    split
    · exact ht.SlI_bite
    · split
      · exact ht.SlI_trap
      · exact ht.setSlG.slJump)

end Kept

end Sys2Proof.Machine
end

section
/-! SUPPORT. Stable properties through the memory instructions of Sloak: a lemma for each operation, in the order of the model. -/
namespace Sys2Proof.Machine

open Sys2Proof

namespace Kept
variable {P : State → Prop} {s : State}

theorem slLoaded (h : Kept P s) {i : SlI} {wide signed : Bool} {addr size : Nat} {ws : List PW} :
    Kept P (s.slLoaded i wide signed addr size ws) := by
  unfold State.slLoaded
  split
  · exact h.setSlD
  · exact h.setSlG

theorem slSuspend (h : Kept P s) {core x : Nat} {k : SlWaitKind} : Kept P (s.slSuspend core x k) :=
  h.withSc.setCtxState.schedule

theorem slMemory (h : Kept P s) {store wide : Bool} {i : SlI} : KeptOut P (State.slMemory store wide i s) := by
  unfold State.slMemory
  extract_lets size base addr signed data
  split
  · exact h.SlI_illegal
  · split
    · exact h.SlI_privilege
    · split
      · exact h.SlI_bite
      · split
        · exact h.SlI_trap
        · split
          · split
            · exact h.SlI_trap
            · split
              · exact h.steerWriteWords.slNext
              · split
                next _ _ s2 e =>
                  have h2 : Kept P s2 := h.steerReadWords.of_eq e
                  exact h2.slLoaded.slNext
          · split
            · exact h.SlI_trap
            · split
              · exact trivial
              · split
                · exact h.tmWriteAll.slNext
                · split
                  next _ _ s2 e =>
                    have h2 : Kept P s2 := h.tmReadN.of_eq e
                    exact h2.slLoaded.slNext
          · exact h.slSuspend

theorem execLd (h : Kept P s) {core x : Nat} : KeptNext P (execLd core x s) := by
  unfold Machine.execLd
  show Kept P _
  exact h.slRun (fun _ _ h' => h'.slMemory)

theorem execSt (h : Kept P s) {core x : Nat} : KeptNext P (execSt core x s) := by
  unfold Machine.execSt
  show Kept P _
  exact h.slRun (fun _ _ h' => h'.slMemory)

theorem execLdd (h : Kept P s) {core x : Nat} : KeptNext P (execLdd core x s) := by
  unfold Machine.execLdd
  show Kept P _
  exact h.slRun (fun _ _ h' => h'.slMemory)

theorem execStd (h : Kept P s) {core x : Nat} : KeptNext P (execStd core x s) := by
  unfold Machine.execStd
  show Kept P _
  exact h.slRun (fun _ _ h' => h'.slMemory)

theorem slDevice (h : Kept P s) {core x : Nat} {a : SlAccess} {pa : Nat} : Kept P (s.slDevice core x a pa).2 := by
  unfold State.slDevice
  split
  · split
    · exact h
    · split
      · exact h.tmWriteAll.snd
      · split
        next _ _ s2 e =>
          exact h.tmReadN.of_eq e
  · extract_lets m
    split
    next _ _ t e =>
      have ht : Kept P t := Kept.of_eq (by
        split
        · exact h.physWrite
        · exact h.cachedRead) e
      exact ht

theorem slHost (h' : Kept P s) {a : SlAccess} {h : Nat} {data : List PW} : Kept P (s.slHost a h data).2 := by
  unfold State.slHost
  extract_lets port n
  split
  · exact h'
  · split
    · exact h'.hostWrite.snd
    · split
      · exact h'
      · exact h'

theorem slAccess (h : Kept P s) {core x : Nat} {a : SlAccess} {data : List PW} : Kept P (s.slAccess core x a data).2 := by
  unfold State.slAccess
  split
  · exact h.slDevice
  · split
    next _ _ _ s1 e =>
      have h1 : Kept P s1 := h.reach.of_eq e
      exact h1.slDevice
    next _ _ _ s1 e =>
      have h1 : Kept P s1 := h.reach.of_eq e
      exact h1.slHost
    next _ _ s1 e =>
      exact h.reach.of_eq e
    next _ _ s1 _ _ _ e =>
      exact h.reach.of_eq e

theorem slResume (h : Kept P s) {core x : Nat} : Kept P (s.slResume core x) := by
  unfold State.slResume
  split
  · exact h.setCtxState.setFlag.schedule
  · exact h.makeReady

theorem execRemoteAccessComplete (h : Kept P s) {core x : Nat} {data : List PW} :
    KeptNext P (execRemoteAccessComplete core x data s) := by
  unfold Machine.execRemoteAccessComplete
  show Kept P _
  split
  · exact h
  · split
    · split
      next _ _ t e =>
        have ht : Kept P t := h.slAccess.of_eq e
        extract_lets y u i
        have hu : Kept P u := ht.withSc
        split
        · split
          · exact ht
          · exact hu
        · split
          · exact ht
          · exact (Kept.ite hu hu.slLoaded).slNext.slResume
          · split
            · exact h
            · extract_lets v
              have hv : Kept P v := hu.slTrap
              split
              · exact hv
              · exact hv.slResume
    · exact h

end Kept

end Sys2Proof.Machine
end

section
/-! SUPPORT. Stable properties through the unit instructions of Sloak: a lemma for each operation, in the order of the model. -/
namespace Sys2Proof.Machine

open Sys2Proof

namespace Kept
variable {P : State → Prop} {s : State}

theorem slAnswer (h : Kept P s) {i : SlI} {code : Nat} {ready : Bool} : Kept P (s.slAnswer i code ready) :=
  h.withSc.slNext

theorem slEngine (h : Kept P s) {op : SlOp} {core x k : Nat} : Kept P (s.slEngine op core x k) := by
  unfold State.slEngine
  exact h.slRun (fun _ _ h' => h'.slGuarded (fun _ _ ht => by
    extract_lets d
    split
    · exact ht.SlI_illegal
    · split
      · exact ht.SlI_bite
      · split
        next _ _ s1 e =>
          have h1 : Kept P s1 := ht.engIssue.of_eq e
          exact h1.slAnswer))

theorem execMxissue (h : Kept P s) {core x : Nat} : KeptNext P (execMxissue core x s) :=
  h.slEngine

theorem execVxissue (h : Kept P s) {core x : Nat} : KeptNext P (execVxissue core x s) :=
  h.slEngine

theorem execGtissue (h : Kept P s) {core x : Nat} : KeptNext P (execGtissue core x s) :=
  h.slEngine

theorem execMuissue (h : Kept P s) {core x : Nat} : KeptNext P (execMuissue core x s) := by
  unfold Machine.execMuissue
  show Kept P _
  exact h.slRun (fun _ _ h' => h'.slGuarded (fun _ _ ht => by
    extract_lets d
    split
    · exact ht.SlI_bite
    · split
      · exact ht.slAnswer
      · split
        next _ _ s1 e =>
          have h1 : Kept P s1 := ht.muIssue.of_eq e
          exact h1.slAnswer))

theorem slOnStream (h : Kept P s) {f : Nat → SlI → State → SlOut} (hf : ∀ (a : Nat) (t : SlI)
    (u : State), Kept P u → KeptOut P (f a t u)) {i : SlI} : KeptOut P (slOnStream f i s) := by
  unfold Machine.slOnStream
  extract_lets b
  split
  · exact h.SlI_bite
  · split
    · exact h.SlI_illegal
    · exact hf _ _ _ h

theorem execStissue (h : Kept P s) {core x : Nat} : KeptNext P (execStissue core x s) := by
  unfold Machine.execStissue
  show Kept P _
  exact h.slRun (fun _ _ h' => h'.slGuarded (fun _ _ ht => by
    extract_lets a
    split
    · exact ht.SlI_bite
    · exact ht.slOnStream (fun _ _ _ ht' => by
        split
        · exact ht'.SlI_illegal
        · split
          next _ _ s1 e =>
            have h1 : Kept P s1 := ht'.stIssueList.of_eq e
            exact h1.slAnswer)))

theorem execStcancel (h : Kept P s) {core x : Nat} : KeptNext P (execStcancel core x s) := by
  unfold Machine.execStcancel
  show Kept P _
  exact h.slRun (fun _ _ h' => h'.slGuarded (fun _ _ h'' => h''.slOnStream (fun _ _ _ ht => by
    split
    next _ _ s1 e =>
      have h1 : Kept P s1 := ht.stCancel.of_eq e
      exact h1.slAnswer)))

theorem execStresume (h : Kept P s) {core x : Nat} : KeptNext P (execStresume core x s) := by
  unfold Machine.execStresume
  show Kept P _
  exact h.slRun (fun _ _ h' => h'.slGuarded (fun _ _ h'' => h''.slOnStream (fun _ _ _ ht => by
    split
    next _ _ s1 e =>
      have h1 : Kept P s1 := ht.stResume.of_eq e
      exact h1.slAnswer)))

theorem slWaitFor (h : Kept P s) {i : SlI} {k : SlWaitKind} : KeptOut P (s.slWaitFor i k) := by
  unfold State.slWaitFor
  extract_lets woken
  split
  · exact h.dropWait.slPut
  · exact h.slSuspend

theorem execWaitcnt (h : Kept P s) {core x : Nat} : KeptNext P (execWaitcnt core x s) := by
  unfold Machine.execWaitcnt
  show Kept P _
  exact h.slRun (fun _ _ h' => h'.slGuarded (fun _ _ ht => by
    extract_lets a b l
    split
    · exact ht.SlI_bite
    · split
      · exact ht.SlI_bite
      · split
        · exact ht.SlI_illegal
        · exact ht.slWaitFor))

theorem execWaitmu (h : Kept P s) {core x : Nat} : KeptNext P (execWaitmu core x s) := by
  unfold Machine.execWaitmu
  show Kept P _
  exact h.slRun (fun _ _ h' => h'.slGuarded (fun _ _ ht => by
    extract_lets a b
    split
    · exact ht.SlI_bite
    · split
      · exact ht.SlI_bite
      · split
        · exact ht.SlI_illegal
        · exact ht.slWaitFor))

theorem execWaitft (h : Kept P s) {core x : Nat} : KeptNext P (execWaitft core x s) := by
  unfold Machine.execWaitft
  show Kept P _
  exact h.slRun (fun _ _ h' => h'.slGuarded (fun _ _ ht => by
    extract_lets a
    split
    · exact ht.SlI_bite
    · exact ht.slWaitFor))

theorem execFence (h : Kept P s) {core x : Nat} : KeptNext P (execFence core x s) := by
  unfold Machine.execFence
  show Kept P _
  exact h.slRun (fun _ _ h' => h'.slGuarded (fun _ _ ht => by
    split
    · exact ht.slNext
    · split
      · exact ht.fencePorts.slNext
      · exact ht.fencePorts.slNext))

theorem slLock (h : Kept P s) {unlock : Bool} {err : Nat} {i : SlI} : KeptOut P (slLock unlock err i s) := by
  unfold Machine.slLock
  extract_lets a v herd q y
  split
  · exact h.SlI_bite
  · split
    · exact h.SlI_illegal
    · split
      · split
        next _ s1 e =>
          have h1 : Kept P s1 := Kept.of_some h.remoteSend e
          exact h1.slAnswer
        · exact h.SlI_trap
      · exact h.withTm.slAnswer

theorem execLock (h : Kept P s) {core x err : Nat} : KeptNext P (execLock core x err s) := by
  unfold Machine.execLock
  show Kept P _
  exact h.slRun (fun _ _ h' => h'.slGuarded (fun _ _ h'' => h''.slLock))

theorem execUnlock (h : Kept P s) {core x err : Nat} : KeptNext P (execUnlock core x err s) := by
  unfold Machine.execUnlock
  show Kept P _
  exact h.slRun (fun _ _ h' => h'.slGuarded (fun _ _ h'' => h''.slLock))

theorem lcRanges (h : Kept P s) {core x fuel vi addr len : Nat} : Kept P (State.lcRanges core x fuel s vi addr len).2 := by
  induction fuel generalizing s addr len with
  | zero => exact h
  | succ fuel ih =>
    unfold State.lcRanges
    split
    · exact h
    · extract_lets n
      split
      next _ _ t e =>
        exact h.reach.of_eq e
      next _ t e =>
        exact h.reach.of_eq e
      next _ t e =>
        exact h.reach.of_eq e
      next _ _ t _ _ _ e =>
        have ht : Kept P t := h.reach.of_eq e
        split
        next _ _ u e' =>
          exact (ih ht).of_eq e'

theorem slCache (h : Kept P s) {flush : Bool} {i : SlI} : KeptOut P (slCache flush i s) := by
  unfold Machine.slCache
  extract_lets a b vi addr len space who
  split
  · exact h.SlI_bite
  · split
    · exact h.SlI_bite
    · split
      · exact h.SlI_illegal
      · split
        · exact h.SlI_privilege
        · split
          · exact h.lcOpStart.slAnswer
          · split
            · exact h.lcOpStart.slAnswer
            · split
              next _ _ _ t e =>
                have ht : Kept P t := h.lcRanges.of_eq e
                exact ht.SlI_trap
              next _ t e =>
                exact h.lcRanges.of_eq e
              next _ t e =>
                have ht : Kept P t := h.lcRanges.of_eq e
                exact ht.slAnswer
              next _ _ t _ e =>
                have ht : Kept P t := h.lcRanges.of_eq e
                exact (ht.each (fun _ _ hu => hu.lcOpStart)).slAnswer

theorem execLcflush (h : Kept P s) {core x : Nat} : KeptNext P (execLcflush core x s) := by
  unfold Machine.execLcflush
  show Kept P _
  exact h.slRun (fun _ _ h' => h'.slGuarded (fun _ _ h'' => h''.slCache))

theorem execLcinval (h : Kept P s) {core x : Nat} : KeptNext P (execLcinval core x s) := by
  unfold Machine.execLcinval
  show Kept P _
  exact h.slRun (fun _ _ h' => h'.slGuarded (fun _ _ h'' => h''.slCache))

theorem execTrap (h : Kept P s) {core x : Nat} : KeptNext P (execTrap core x s) := by
  unfold Machine.execTrap
  show Kept P _
  exact h.slRun (fun _ _ h' => h'.slGuarded (fun _ _ ht => by
    exact ht.scCount))

theorem execEret (h : Kept P s) {core x : Nat} : KeptNext P (execEret core x s) := by
  unfold Machine.execEret
  show Kept P _
  exact h.slRun (fun _ _ ht => by
    split
    · exact ht.slReturn.scCount
    · exact ht.SlI_privilege)

end Kept

end Sys2Proof.Machine
end

section
/-! SUPPORT. Stable properties through the register writes: a lemma for each operation, in the order of the model. -/
namespace Sys2Proof.Machine

open Sys2Proof

namespace Kept
variable {P : State → Prop} {s : State}

theorem fieldWrite (h : Kept P s) {w : Wr} {f : Fld} {x i j : Nat} : Kept P (s.fieldWrite w f x i j) :=
  h.rowWrite

theorem pathWrite (h : Kept P s) {w : Wr} {off : Nat} {poison : Bool} : Kept P (s.pathWrite w off poison).2 := by
  unfold State.pathWrite
  split
  · exact h
  · split
    · exact h.viCount.snd
    · split
      · exact h.accessErr.snd
      · exact h.busWrite

theorem pathRead (h : Kept P s) {a : Acc} {wide : Bool} {off : Nat} : Kept P (s.pathRead a wide off).2.2 := by
  unfold State.pathRead
  split
  · exact h.accessErr.snd
  · exact h.busRead

theorem answerRead (h : Kept P s) {a : Acc} {ws : List PW} : Kept P (s.answerRead a ws) := by
  unfold State.answerRead
  split
  · exact h.emit
  · exact h

theorem execRegisterWrite (h : Kept P s) {w : Wr} {off : Nat} {poison : Bool} : KeptNext P (execRegisterWrite w off poison s) :=
  h.pathWrite

theorem execRegisterRead (h : Kept P s) {a : Acc} {wide : Bool} {off : Nat} : KeptNext P (execRegisterRead a wide off s) := by
  unfold Machine.execRegisterRead
  show Kept P _
  split
  · exact h
  · extract_lets r
    have hr : Kept P r.2.2 := h.pathRead
    exact hr.answerRead

theorem execShadowApply (h : Kept P s) {off : Nat} : KeptNext P (execShadowApply off s) := by
  unfold Machine.execShadowApply
  show Kept P _
  split
  · split
    · exact h.applyShadow
    · exact h
  · exact h

theorem execAccessErrClear (h : Kept P s) {w : Wr} : KeptNext P (execAccessErrClear w s) :=
  h.fieldWrite

theorem execAcceptStep (h : Kept P s) {w : Wr} : KeptNext P (execAcceptStep w s) :=
  h.fieldWrite

theorem execStrokeCommit (h : Kept P s) {w : Wr} : KeptNext P (execStrokeCommit w s) :=
  h.fieldWrite

theorem execStrokeReplace (h : Kept P s) {w : Wr} : KeptNext P (execStrokeReplace w s) :=
  h.fieldWrite

theorem execStrokeCancel (h : Kept P s) {w : Wr} : KeptNext P (execStrokeCancel w s) :=
  h.fieldWrite

theorem execTraceEnable (h : Kept P s) {w : Wr} {u : Nat} : KeptNext P (execTraceEnable w u s) :=
  h.fieldWrite

theorem execTmxCounterClear (h : Kept P s) {w : Wr} {c : Nat} : KeptNext P (execTmxCounterClear w c s) :=
  h.fieldWrite

theorem execWindowOpen (h : Kept P s) {w : Wr} {c n : Nat} : KeptNext P (execWindowOpen w c n s) :=
  h.fieldWrite

theorem execWindowClose (h : Kept P s) {w : Wr} {c n : Nat} : KeptNext P (execWindowClose w c n s) :=
  h.fieldWrite

theorem execWnCntWrite (h : Kept P s) {w : Wr} {c n : Nat} : KeptNext P (execWnCntWrite w c n s) :=
  h.rowWrite

theorem execWnCntSub (h : Kept P s) {w : Wr} {c n : Nat} : KeptNext P (execWnCntSub w c n s) :=
  h.rowWrite

theorem execLockForce (h : Kept P s) {w : Wr} {d : Nat} : KeptNext P (execLockForce w d s) :=
  h.fieldWrite

theorem execScrubGo (h : Kept P s) {w : Wr} {d n : Nat} : KeptNext P (execScrubGo w d n s) :=
  h.fieldWrite

theorem execScrubStop (h : Kept P s) {w : Wr} {d n : Nat} : KeptNext P (execScrubStop w d n s) :=
  h.fieldWrite

theorem execErrorCountClear (h : Kept P s) {w : Wr} {d : Nat} : KeptNext P (execErrorCountClear w d s) :=
  h.fieldWrite

theorem execSplitWrite (h : Kept P s) {w : Wr} {d : Nat} : KeptNext P (execSplitWrite w d s) :=
  h.fieldWrite

theorem execTmRowRepair (h : Kept P s) {w : Wr} {d : Nat} : KeptNext P (execTmRowRepair w d s) :=
  h.fieldWrite

theorem execLcLineRepair (h : Kept P s) {w : Wr} {d : Nat} : KeptNext P (execLcLineRepair w d s) :=
  h.fieldWrite

theorem execHbmRowRepair (h : Kept P s) {w : Wr} {d : Nat} : KeptNext P (execHbmRowRepair w d s) :=
  h.fieldWrite

theorem execPlotEnable (h : Kept P s) {w : Wr} {k n : Nat} : KeptNext P (execPlotEnable w k n s) :=
  h.fieldWrite

theorem execPlotAttrChange (h : Kept P s) {w : Wr} {k n : Nat} : KeptNext P (execPlotAttrChange w k n s) :=
  h.fieldWrite

theorem execPlTagWrite (h : Kept P s) {w : Wr} {k n : Nat} : KeptNext P (execPlTagWrite w k n s) :=
  h.rowWrite

theorem execRangeFill (h : Kept P s) {w : Wr} {k : Nat} : KeptNext P (execRangeFill w k s) :=
  h.fieldWrite

theorem execTlbInv (h : Kept P s) {w : Wr} : KeptNext P (execTlbInv w s) :=
  h.fieldWrite

theorem execMuCmdGo (h : Kept P s) {w : Wr} : KeptNext P (execMuCmdGo w s) :=
  h.fieldWrite

theorem execMuWinCmdOpen (h : Kept P s) {w : Wr} : KeptNext P (execMuWinCmdOpen w s) :=
  h.fieldWrite

theorem execMuWinCmdClose (h : Kept P s) {w : Wr} : KeptNext P (execMuWinCmdClose w s) :=
  h.fieldWrite

theorem execSuspectClear (h : Kept P s) {w : Wr} {k pc : Nat} : KeptNext P (execSuspectClear w k pc s) :=
  h.fieldWrite

theorem execLcPartWrite (h : Kept P s) {w : Wr} {v : Nat} : KeptNext P (execLcPartWrite w v s) :=
  h.rowWrite

theorem execLcOpFlush (h : Kept P s) {w : Wr} : KeptNext P (execLcOpFlush w s) :=
  h.fieldWrite

theorem execLcOpInval (h : Kept P s) {w : Wr} : KeptNext P (execLcOpInval w s) :=
  h.fieldWrite

theorem execLcCounterClear (h : Kept P s) {w : Wr} {d : Nat} : KeptNext P (execLcCounterClear w d s) :=
  h.fieldWrite

theorem execTrCounterClear (h : Kept P s) {w : Wr} {arb : Nat} : KeptNext P (execTrCounterClear w arb s) :=
  h.fieldWrite

theorem execStCmdIssue (h : Kept P s) {w : Wr} {e c : Nat} : KeptNext P (execStCmdIssue w e c s) :=
  h.fieldWrite

theorem execStCmdCancel (h : Kept P s) {w : Wr} {e c : Nat} : KeptNext P (execStCmdCancel w e c s) :=
  h.fieldWrite

theorem execStCmdResume (h : Kept P s) {w : Wr} {e c : Nat} : KeptNext P (execStCmdResume w e c s) :=
  h.fieldWrite

theorem execStCounterClear (h : Kept P s) {w : Wr} {e : Nat} : KeptNext P (execStCounterClear w e s) :=
  h.fieldWrite

theorem execEngineCounterClear (h : Kept P s) {w : Wr} {c k : Nat} : KeptNext P (execEngineCounterClear w c k s) :=
  h.fieldWrite

theorem execContextStart (h : Kept P s) {w : Wr} {core x : Nat} : KeptNext P (execContextStart w core x s) :=
  h.fieldWrite

theorem execContextStop (h : Kept P s) {w : Wr} {core x : Nat} : KeptNext P (execContextStop w core x s) :=
  h.fieldWrite

theorem execContextReset (h : Kept P s) {w : Wr} {core x : Nat} : KeptNext P (execContextReset w core x s) :=
  h.fieldWrite

theorem execCoreReset (h : Kept P s) {w : Wr} {core : Nat} : KeptNext P (execCoreReset w core s) :=
  h.fieldWrite

theorem execHostKick (h : Kept P s) {w : Wr} {core x : Nat} : KeptNext P (execHostKick w core x s) :=
  h.fieldWrite

theorem execCfgErrClear (h : Kept P s) {w : Wr} {core : Nat} : KeptNext P (execCfgErrClear w core s) :=
  h.fieldWrite

theorem execScCounterClear (h : Kept P s) {w : Wr} {core : Nat} : KeptNext P (execScCounterClear w core s) :=
  h.fieldWrite

theorem execSteerWindowAccess (h : Kept P s) {a : Acc} {core off : Nat} {write : Bool} {v : W32} :
    KeptNext P (execSteerWindowAccess a core off write v s) := by
  unfold Machine.execSteerWindowAccess
  show Kept P _
  split
  · exact h
  · extract_lets o
    split
    · exact h.accessErr
    · exact h.writeAt
    · extract_lets r
      have hr : Kept P r.2.2 := h.readOne
      exact hr.answerRead

theorem execQueueEnable (h : Kept P s) {w : Wr} {q : Nat} : KeptNext P (execQueueEnable w q s) :=
  h.fieldWrite

theorem execHqPost (h : Kept P s) {w : Wr} {c : Option Nat} {poison : Bool} : KeptNext P (execHqPost w c poison s) := by
  unfold Machine.execHqPost
  show Kept P _
  split
  · exact h.rowWriteBy (fun _ ht => ht.hqPost)
  · exact h.rowWriteBy (fun _ ht => ht.hqPost)

theorem execOperatorEnable (h : Kept P s) {w : Wr} {v op : Nat} : KeptNext P (execOperatorEnable w v op s) :=
  h.fieldWrite

theorem execQueueCancel (h : Kept P s) {w : Wr} {q : Nat} : KeptNext P (execQueueCancel w q s) :=
  h.fieldWrite

theorem execViReset (h : Kept P s) {w : Wr} : KeptNext P (execViReset w s) :=
  h.fieldWrite

theorem execHdFound (h : Kept P s) {w : Wr} : KeptNext P (execHdFound w s) :=
  h.fieldWrite

theorem execHdSwap (h : Kept P s) {w : Wr} : KeptNext P (execHdSwap w s) :=
  h.fieldWrite

theorem execHdLeave (h : Kept P s) {w : Wr} : KeptNext P (execHdLeave w s) :=
  h.fieldWrite

theorem execHdExpel (h : Kept P s) {w : Wr} : KeptNext P (execHdExpel w s) :=
  h.fieldWrite

theorem execPmStart (h : Kept P s) {w : Wr} : KeptNext P (execPmStart w s) :=
  h.fieldWrite

theorem execLfReq (h : Kept P s) {w : Wr} : KeptNext P (execLfReq w s) :=
  h.fieldWrite

theorem execLfChallengeRead (h : Kept P s) {a : Acc} {k : Nat} : KeptNext P (execLfChallengeRead a k s) := by
  unfold Machine.execLfChallengeRead
  show Kept P _
  split
  · exact h
  · extract_lets r
    have hr : Kept P r.2.2 := h.pathRead
    exact hr.answerRead

theorem nestWr (h : Kept P s) {w : Wr} {op : Nat} : Kept P (s.nestWr w op).2 :=
  h.rowWrite

theorem execNestRead (h : Kept P s) {w : Wr} {ue : Bool} : KeptNext P (execNestRead w ue s) := by
  unfold Machine.execNestRead
  extract_lets slot y s1
  have h1 : Kept P s1 := Kept.ite h.withSvc h
  show Kept P _
  split
  · exact h1.nestWr
  · exact h

theorem execNestWrite (h : Kept P s) {w : Wr} : KeptNext P (execNestWrite w s) :=
  h.nestWr

theorem execNestEmptySlot (h : Kept P s) {w : Wr} : KeptNext P (execNestEmptySlot w s) :=
  h.nestWr

theorem execNestWipe (h : Kept P s) {w : Wr} : KeptNext P (execNestWipe w s) :=
  h.nestWr

theorem execAuditAck (h : Kept P s) {w : Wr} : KeptNext P (execAuditAck w s) :=
  h.rowWrite

theorem execAuditRead (h : Kept P s) {w : Wr} : KeptNext P (execAuditRead w s) :=
  h.rowWrite

theorem execFwLoad (h : Kept P s) {w : Wr} : KeptNext P (execFwLoad w s) :=
  h.fieldWrite

theorem execReadReg (h : Kept P s) {off : Nat} {wide : Bool} : KeptNext P (execReadReg off wide s) := by
  unfold Machine.execReadReg
  show Kept P _
  exact h.mctp (fun _ h' => by
    extract_lets r
    have hr : Kept P r.2.2 := h'.busRead
    exact hr.emit)

theorem execWriteReg (h : Kept P s) {off : Nat} {wide : Bool} {v : W64} : KeptNext P (execWriteReg off wide v s) := by
  unfold Machine.execWriteReg
  show Kept P _
  exact h.mctp (fun _ h' => by
    extract_lets r
    have hr : Kept P r.2 := h'.busWrite
    exact hr.emit)

theorem serviceMsg (h : Kept P s) {f : Frame} : Kept P (s.serviceMsg f) := by
  unfold State.serviceMsg
  split
  · exact h
  · split
    · exact h.auditAck
    · exact h.busWrite

theorem execMsg (h : Kept P s) {p : Nat} {f : Frame} : KeptNext P (execMsg p f s) := by
  unfold Machine.execMsg
  show Kept P _
  exact h.frameIn (fun _ ht => by
    exact Kept.ite ht.serviceMsg ht.msgIn)

theorem execAuditAckMsg (h : Kept P s) {p : Nat} {f : Frame} : KeptNext P (execAuditAckMsg p f s) := by
  unfold Machine.execAuditAckMsg
  show Kept P _
  split
  · exact h.frameIn (fun _ ht => by
      exact ht.serviceMsg)
  · exact h

theorem execRegisterWriteMsg (h : Kept P s) {p : Nat} {f : Frame} : KeptNext P (execRegisterWriteMsg p f s) := by
  unfold Machine.execRegisterWriteMsg
  show Kept P _
  split
  · exact h.frameIn (fun _ ht => by
      exact ht.serviceMsg)
  · exact h

theorem spareWr (h : Kept P s) {w : Wr} {d action : Nat} : Kept P (s.spareWr w d action) :=
  h.fieldWrite

theorem execSparePrepare (h : Kept P s) {w : Wr} {d : Nat} : KeptNext P (execSparePrepare w d s) :=
  h.spareWr

theorem execSpareMigrate (h : Kept P s) {w : Wr} {d : Nat} : KeptNext P (execSpareMigrate w d s) :=
  h.spareWr

theorem execSpareFresh (h : Kept P s) {w : Wr} {d : Nat} : KeptNext P (execSpareFresh w d s) :=
  h.spareWr

theorem execSpareCancel (h : Kept P s) {w : Wr} {d : Nat} : KeptNext P (execSpareCancel w d s) :=
  h.spareWr

theorem retireWr (h : Kept P s) {w : Wr} {kind action : Nat} {ok : Bool} : Kept P (s.retireWr w kind action ok) := by
  unfold State.retireWr
  exact h.rowWriteBy (fun _ ht => ht.retireGo)

theorem execStackRetire (h : Kept P s) {w : Wr} : KeptNext P (execStackRetire w s) :=
  h.retireWr

theorem execSliceRetire (h : Kept P s) {w : Wr} : KeptNext P (execSliceRetire w s) :=
  h.retireWr

theorem execStackReinstate (h : Kept P s) {w : Wr} {ok : Bool} : KeptNext P (execStackReinstate w ok s) :=
  h.retireWr

theorem execSliceReinstate (h : Kept P s) {w : Wr} {ok : Bool} : KeptNext P (execSliceReinstate w ok s) :=
  h.retireWr

end Kept

end Sys2Proof.Machine
end

section
/-! SUPPORT. Stable properties through the configuration instructions: a lemma for each operation, in the order of the model. -/
namespace Sys2Proof.Machine

open Sys2Proof

namespace Kept
variable {P : State → Prop} {s : State}

theorem execPhase (h : Kept P s) {core x : Nat} : KeptNext P (execPhase core x s) := by
  unfold Machine.execPhase
  show Kept P _
  exact h.slRun (fun _ _ h' => h'.slGuarded (fun _ _ ht => by
    extract_lets a n r
    have hr : Kept P r.2 := ht.phaseByVi
    split
    · exact ht.SlI_illegal
    · exact Kept.ite hr.slPut hr.slAnswer))

theorem cfgWrite (h : Kept P s) {w : Wr} {off0 : Nat} : Kept P (s.cfgWrite w off0).2 := by
  unfold State.cfgWrite
  extract_lets off b
  split
  · exact h.accessErr.snd
  · split
    · exact h.steerWinWrite
    · exact h
    · extract_lets i
      split
      · exact h.accessErr.snd
      · exact h.regWrite

theorem cfgRefused (h : Kept P s) {core x off code : Nat} {wide : Bool} : Kept P (s.cfgRefused core x off code wide) := by
  unfold State.cfgRefused
  extract_lets s1
  have h1 : Kept P s1 := Kept.ite h h.setFld.setFld.setFld.setFlag.setFlag.setFld
  exact h1.satInc

theorem execSetcfg (h : Kept P s) {core x : Nat} : KeptNext P (execSetcfg core x s) := by
  unfold Machine.execSetcfg
  show Kept P _
  exact h.slRun (fun _ _ h' => h'.slGuarded (fun _ _ ht => by
    extract_lets a b w k u
    have hu : Kept P u := ht.slPut.cfgWrite
    split
    · exact ht.SlI_privilege
    · split
      · exact ht.SlI_bite
      · split
        · exact ht.SlI_bite
        · split
          · exact ht.SlI_illegal
          · exact Kept.ite hu hu.cfgRefused))

theorem execGetcfg (h : Kept P s) {core x : Nat} : KeptNext P (execGetcfg core x s) := by
  unfold Machine.execGetcfg
  show Kept P _
  exact h.slRun (fun _ _ h' => h'.slGuarded (fun _ _ ht => by
    extract_lets a r v
    have hr : Kept P r.2.2 := ht.busRead
    split
    · exact ht.SlI_bite
    · split
      · exact ht.SlI_privilege
      · exact hr.slPut))

end Kept

end Sys2Proof.Machine
end

section
/-! SUPPORT. Stable properties through one instruction: a lemma for each operation, in the order of the model. -/
namespace Sys2Proof.Machine

open Sys2Proof

namespace Kept
variable {s : State}

theorem exec (h : Kept State.canonical s) (i : Instr) : KeptNext State.canonical (exec i s) := by
  cases i with
  | registerWrite => exact h.execRegisterWrite
  | shadowApply => exact h.execShadowApply
  | accessErrClear => exact h.execAccessErrClear
  | ptpSync => exact h.execPtpSync
  | ptpDelayResp => exact h.execPtpDelayResp
  | ppsPulse => exact h.execPpsPulse
  | ppsOutPulse => exact h.execPpsOutPulse
  | time => exact h.execTime
  | timeSend => exact h.execTimeSend
  | delayReq => exact h.execDelayReq
  | delayResp => exact h.execDelayResp
  | holdoverEnter => exact h.execHoldoverEnter
  | acceptStep => exact h.execAcceptStep
  | strokeCommit => exact h.execStrokeCommit
  | strokeReplace => exact h.execStrokeReplace
  | strokeCancel => exact h.execStrokeCancel
  | genswap => exact h.execGenswap
  | genretire => exact h.execGenretire
  | phaseStroke => exact h.execPhaseStroke
  | oxenter => exact h.execOxenter
  | oxleave => exact h.execOxleave
  | capset => exact h.execCapset
  | scrubStroke => exact h.execScrubStroke
  | muwinOpen => exact h.execMuwinOpen
  | muwinClose => exact h.execMuwinClose
  | fwactivate => exact h.execFwactivate
  | tracemark => exact h.execTracemark
  | traceEnable => exact h.execTraceEnable
  | portIssue => exact h.execPortIssue
  | bankGrant => exact h.execBankGrant
  | readReturn => exact h.execReadReturn
  | writeCommit => exact h.execWriteCommit
  | mergeTimeout => exact h.execMergeTimeout
  | tmxCounterClear => exact h.execTmxCounterClear
  | hotPeriodEnd => exact h.execHotPeriodEnd
  | clusterDomainWake => exact h.execClusterDomainWake
  | tmClearDone => exact h.execTmClearDone
  | clusterDomainOff => exact h.execClusterDomainOff
  | spineDomainWake => exact h.execSpineDomainWake
  | fabAccess => exact h.execFabAccess
  | windowOpen => exact h.execWindowOpen
  | windowClose => exact h.execWindowClose
  | windowBlank => exact h.execWindowBlank
  | wnCntWrite => exact h.execWnCntWrite
  | wnCntSub => exact h.execWnCntSub
  | lockForce => exact h.execLockForce
  | scrubGo => exact h.execScrubGo
  | scrubAccess => exact h.execScrubAccess
  | scrubPassEnd => exact h.execScrubPassEnd
  | scrubStop => exact h.execScrubStop
  | errorCountClear => exact h.execErrorCountClear
  | splitWrite => exact h.execSplitWrite
  | tmRowRepair => exact h.execTmRowRepair
  | lcLineRepair => exact h.execLcLineRepair
  | hbmRowRepair => exact h.execHbmRowRepair
  | hbmRepairDeferredStart => exact h.execHbmRepairDeferredStart
  | plotEnable => exact h.execPlotEnable
  | plotAttrChange => exact h.execPlotAttrChange
  | plotFillDone => exact h.execPlotFillDone
  | plTagWrite => exact h.execPlTagWrite
  | rangeFill => exact h.execRangeFill
  | rangeFillDone => exact h.execRangeFillDone
  | plotAccess => exact h.execPlotAccess
  | priResponse => exact h.execPriResponse
  | priTimeout => exact h.execPriTimeout
  | tlbInv => exact h.execTlbInv
  | tlbInvDone => exact h.execTlbInvDone
  | refresh => exact h.execRefresh
  | refreshManagement => exact h.execRefreshManagement
  | stackInit => exact h.execStackInit
  | muissue => exact h.execMuissue
  | muCmdGo => exact h.execMuCmdGo
  | rowcopy => exact h.execRowcopy
  | rowinit => exact h.execRowinit
  | rowand => exact h.execRowand
  | rowor => exact h.execRowor
  | rowxor => exact h.execRowxor
  | rowandn => exact h.execRowandn
  | rownot => exact h.execRownot
  | chain => exact h.execChain
  | buscopy => exact h.execBuscopy
  | winopen => exact h.execWinopen
  | winclose => exact h.execWinclose
  | muleCommandDone => exact h.execMuleCommandDone
  | muWinCmdOpen => exact h.execMuWinCmdOpen
  | muWinCmdClose => exact h.execMuWinCmdClose
  | drainComplete => exact h.execDrainComplete
  | exitComplete => exact h.execExitComplete
  | holdExpiry => exact h.execHoldExpiry
  | budgetPeriod => exact h.execBudgetPeriod
  | suspectClear => exact h.execSuspectClear
  | lcLookup => exact h.execLcLookup
  | lcRetry => exact h.execLcRetry
  | lcFillArrive => exact h.execLcFillArrive
  | lcInvalWrite => exact h.execLcInvalWrite
  | lcPartWrite => exact h.execLcPartWrite
  | lcSweepDone => exact h.execLcSweepDone
  | lcOpFlush => exact h.execLcOpFlush
  | lcOpInval => exact h.execLcOpInval
  | lcOpDone => exact h.execLcOpDone
  | lcCounterClear => exact h.execLcCounterClear
  | feedWindow => exact h.execFeedWindow
  | arbiterGrant => exact h.execArbiterGrant
  | transferAbandon => exact h.execTransferAbandon
  | arbiterParityError => exact h.execArbiterParityError
  | trCounterClear => exact h.execTrCounterClear
  | stissue => exact h.execStissue
  | stCmdIssue => exact h.execStCmdIssue
  | stCmdCancel => exact h.execStCmdCancel
  | stCmdResume => exact h.execStCmdResume
  | entryFetch => exact h.execEntryFetch
  | blockRetire => exact h.execBlockRetire
  | listEnd => exact h.execListEnd
  | streamHalt => exact h.execStreamHalt
  | cancelComplete => exact h.execCancelComplete
  | stCounterClear => exact h.execStCounterClear
  | mxNormal => exact h.execMxNormal
  | mxExact => exact h.execMxExact
  | vxAdd => exact h.execVxAdd
  | vxSub => exact h.execVxSub
  | vxMul => exact h.execVxMul
  | vxFma => exact h.execVxFma
  | vxMin => exact h.execVxMin
  | vxMax => exact h.execVxMax
  | vxCmp => exact h.execVxCmp
  | vxSel => exact h.execVxSel
  | vxCvt => exact h.execVxCvt
  | vxExp => exact h.execVxExp
  | vxLog => exact h.execVxLog
  | vxRcp => exact h.execVxRcp
  | vxRsqrt => exact h.execVxRsqrt
  | vxSigmoid => exact h.execVxSigmoid
  | vxTanh => exact h.execVxTanh
  | accclr => exact h.execAccclr
  | accsum => exact h.execAccsum
  | accdot => exact h.execAccdot
  | accmerge => exact h.execAccmerge
  | accload => exact h.execAccload
  | accstore => exact h.execAccstore
  | accround => exact h.execAccround
  | topk => exact h.execTopk
  | gtSum => exact h.execGtSum
  | gtMean => exact h.execGtMean
  | gtMax => exact h.execGtMax
  | gtWsum => exact h.execGtWsum
  | gatherRowArrive => exact h.execGatherRowArrive
  | engineComplete => exact h.execEngineComplete
  | engineCounterClear => exact h.execEngineCounterClear
  | contextStart => exact h.execContextStart
  | contextStop => exact h.execContextStop
  | contextReset => exact h.execContextReset
  | coreReset => exact h.execCoreReset
  | hostKick => exact h.execHostKick
  | alarm => exact h.execAlarm
  | interruptDeliver => exact h.execInterruptDeliver
  | timeSliceEnd => exact h.execTimeSliceEnd
  | waitWake => exact h.execWaitWake
  | remoteAccessComplete => exact h.execRemoteAccessComplete
  | unitAnswer => exact h.execUnitAnswer
  | regParityError => exact h.execRegParityError
  | steerWindowAccess => exact h.execSteerWindowAccess
  | cfgErrClear => exact h.execCfgErrClear
  | scCounterClear => exact h.execScCounterClear
  | add => exact h.execAdd
  | sub => exact h.execSub
  | and => exact h.execAnd
  | or => exact h.execOr
  | xor => exact h.execXor
  | andn => exact h.execAndn
  | shl => exact h.execShl
  | shr => exact h.execShr
  | sra => exact h.execSra
  | min => exact h.execMin
  | max => exact h.execMax
  | minu => exact h.execMinu
  | maxu => exact h.execMaxu
  | clz => exact h.execClz
  | popc => exact h.execPopc
  | mul => exact h.execMul
  | mulh => exact h.execMulh
  | mulhu => exact h.execMulhu
  | div => exact h.execDiv
  | divu => exact h.execDivu
  | rem => exact h.execRem
  | remu => exact h.execRemu
  | addi => exact h.execAddi
  | andi => exact h.execAndi
  | ori => exact h.execOri
  | xori => exact h.execXori
  | shli => exact h.execShli
  | shri => exact h.execShri
  | srai => exact h.execSrai
  | lui => exact h.execLui
  | li32 => exact h.execLi32
  | orhi => exact h.execOrhi
  | addi32 => exact h.execAddi32
  | cmpeq => exact h.execCmpeq
  | cmpne => exact h.execCmpne
  | cmplt => exact h.execCmplt
  | cmpge => exact h.execCmpge
  | cmpltu => exact h.execCmpltu
  | cmpgeu => exact h.execCmpgeu
  | tst => exact h.execTst
  | tstz => exact h.execTstz
  | pand => exact h.execPand
  | por => exact h.execPor
  | pxor => exact h.execPxor
  | pandn => exact h.execPandn
  | pnot => exact h.execPnot
  | pset => exact h.execPset
  | pclr => exact h.execPclr
  | ptog => exact h.execPtog
  | gtop => exact h.execGtop
  | dset => exact h.execDset
  | dget => exact h.execDget
  | dcopy => exact h.execDcopy
  | dzero => exact h.execDzero
  | br => exact h.execBr
  | call => exact h.execCall
  | jr => exact h.execJr
  | ld => exact h.execLd
  | st => exact h.execSt
  | ldd => exact h.execLdd
  | std => exact h.execStd
  | mxissue => exact h.execMxissue
  | vxissue => exact h.execVxissue
  | gtissue => exact h.execGtissue
  | stcancel => exact h.execStcancel
  | stresume => exact h.execStresume
  | waitcnt => exact h.execWaitcnt
  | waitmu => exact h.execWaitmu
  | waitft => exact h.execWaitft
  | fence => exact h.execFence
  | lock => exact h.execLock
  | unlock => exact h.execUnlock
  | lcflush => exact h.execLcflush
  | lcinval => exact h.execLcinval
  | phase => exact h.execPhase
  | setcfg => exact h.execSetcfg
  | getcfg => exact h.execGetcfg
  | trap => exact h.execTrap
  | eret => exact h.execEret
  | pcieUnsupportedRequest => exact h.execPcieUnsupportedRequest
  | bar2Access => exact h.execBar2Access
  | atsInvalidation => exact h.execAtsInvalidation
  | queueEnable => exact h.execQueueEnable
  | doorbell => exact h.execDoorbell
  | sqFetch => exact h.execSqFetch
  | entryStaged => exact h.execEntryStaged
  | admission => exact h.execAdmission
  | hqPost => exact h.execHqPost
  | completionWrite => exact h.execCompletionWrite
  | msixCoalesceTimeout => exact h.execMsixCoalesceTimeout
  | operatorEnable => exact h.execOperatorEnable
  | queueCancel => exact h.execQueueCancel
  | viReset => exact h.execViReset
  | viResetDone => exact h.execViResetDone
  | flr => exact h.execFlr
  | pcieLinkLoss => exact h.execPcieLinkLoss
  | pcieCompletionTimeout => exact h.execPcieCompletionTimeout
  | slotParityError => exact h.execSlotParityError
  | credit => exact h.execCredit
  | linkReplay => exact h.execLinkReplay
  | laneLoss => exact h.execLaneLoss
  | portDown => exact h.execPortDown
  | portTrained => exact h.execPortTrained
  | sparePortTakeover => exact h.execSparePortTakeover
  | frameRoute => exact h.execFrameRoute
  | write => exact h.execWrite
  | post => exact h.execPost
  | readReq => exact h.execReadReq
  | readResp => exact h.execReadResp
  | writeAck => exact h.execWriteAck
  | refuse => exact h.execRefuse
  | lockReq => exact h.execLockReq
  | lockResp => exact h.execLockResp
  | msg => exact h.execMsg
  | heartbeat => exact h.execHeartbeat
  | heartbeatSend => exact h.execHeartbeatSend
  | beatAck => exact h.execBeatAck
  | memberLost => exact h.execMemberLost
  | joinSend => exact h.execJoinSend
  | join => exact h.execJoin
  | assign => exact h.execAssign
  | takeover => exact h.execTakeover
  | swapReq => exact h.execSwapReq
  | handover => exact h.execHandover
  | taken => exact h.execTaken
  | swapResult => exact h.execSwapResult
  | lost => exact h.execLost
  | release => exact h.execRelease
  | force => exact h.execForce
  | stroke => exact h.execStroke
  | strokeResult => exact h.execStrokeResult
  | strokeResultTimeout => exact h.execStrokeResultTimeout
  | route => exact h.execRoute
  | mirror => exact h.execMirror
  | expel => exact h.execExpel
  | transactionTimeout => exact h.execTransactionTimeout
  | hdFound => exact h.execHdFound
  | hdSwap => exact h.execHdSwap
  | hdLeave => exact h.execHdLeave
  | hdExpel => exact h.execHdExpel
  | pmStart => exact h.execPmStart
  | estimateWindow => exact h.execEstimateWindow
  | dvfsStepComplete => exact h.execDvfsStepComplete
  | regulatorTimeout => exact h.execRegulatorTimeout
  | calibrationPeriod => exact h.execCalibrationPeriod
  | railLimitWindow => exact h.execRailLimitWindow
  | activityParityError => exact h.execActivityParityError
  | sensorSample => exact h.execSensorSample
  | sensorBad => exact h.execSensorBad
  | thermalTrip => exact h.execThermalTrip
  | railStuck => exact h.execRailStuck
  | regAlert => exact h.execRegAlert
  | extAlert => exact h.execExtAlert
  | regAlertRelease => exact h.execRegAlertRelease
  | extAlertRelease => exact h.execExtAlertRelease
  | alertHoldEnd => exact h.execAlertHoldEnd
  | huReady => exact h.execHuReady
  | gaugeDisagree => exact h.execGaugeDisagree
  | gaugeRezero => exact h.execGaugeRezero
  | huFault => exact h.execHuFault
  | powerLoss => exact h.execPowerLoss
  | shutdownSaveDone => exact h.execShutdownSaveDone
  | inputOvervoltage => exact h.execInputOvervoltage
  | watchdogRestart => exact h.execWatchdogRestart
  | auditAckMsg => exact h.execAuditAckMsg
  | registerWriteMsg => exact h.execRegisterWriteMsg
  | lfReq => exact h.execLfReq
  | lfChallengeRead => exact h.execLfChallengeRead
  | nestRead => exact h.execNestRead
  | nestWrite => exact h.execNestWrite
  | nestEmptySlot => exact h.execNestEmptySlot
  | nestWipe => exact h.execNestWipe
  | tamper => exact h.execTamper
  | nestWipeDone => exact h.execNestWipeDone
  | auditMirror => exact h.execAuditMirror
  | auditExportPush => exact h.execAuditExportPush
  | auditAck => exact h.execAuditAck
  | auditRead => exact h.execAuditRead
  | fwLoad => exact h.execFwLoad
  | fwLoadDone => exact h.execFwLoadDone
  | fwVerifyDone => exact h.execFwVerifyDone
  | debugUnlock => exact h.execDebugUnlock
  | spiRead => exact h.execSpiRead
  | spiWrite => exact h.execSpiWrite
  | spiStatus => exact h.execSpiStatus
  | spiRing n => exact h.execSpiRing (n := n)
  | mctpControl => exact h.execMctpControl
  | getIdentity => exact h.execGetIdentity
  | getTelemetry => exact h.execGetTelemetry
  | setPowerLimit => exact h.execSetPowerLimit
  | readReg => exact h.execReadReg
  | writeReg => exact h.execWriteReg
  | readAudit => exact h.execReadAudit
  | ackAudit => exact h.execAckAudit
  | fwStage => exact h.execFwStage
  | fwStatus => exact h.execFwStatus
  | getChallenge => exact h.execGetChallenge
  | lfRequest => exact h.execLfRequest
  | sparePrepare => exact h.execSparePrepare
  | sparePrepared => exact h.execSparePrepared
  | spareMigrate => exact h.execSpareMigrate
  | migrateSwitch => exact h.execMigrateSwitch
  | spareFresh => exact h.execSpareFresh
  | spareCancel => exact h.execSpareCancel
  | stackRetire => exact h.execStackRetire
  | sliceRetire => exact h.execSliceRetire
  | stackReinstate => exact h.execStackReinstate
  | sliceReinstate => exact h.execSliceReinstate
  | svcPowerOn => exact h.execSvcPowerOn
  | moduleColdReset => exact h.execModuleColdReset
  | tripHoldEnd => exact h.execTripHoldEnd
  | bootSequence => exact h.execBootSequence
  | thermalHoldRetry => exact h.execThermalHoldRetry
  | pwrEnRise => exact h.execPwrEnRise
  | pwrEnFall => exact h.execPwrEnFall
  | railFault => exact h.execRailFault
  | pcieConventionalReset => exact h.execPcieConventionalReset
  | pcieLinkTrain => exact h.execPcieLinkTrain
  | tapReset => exact h.execTapReset
  | spineDomainOff => exact h.execSpineDomainOff
  | hbmAccess => exact h.execHbmAccess
  | uncorrectableCodeword => exact h.execUncorrectableCodeword
  | badFrame => exact h.execBadFrame
  | herdSilent => exact h.execHerdSilent
  | registerRead => exact h.execRegisterRead
  | hostReadCompletion => exact h.execHostReadCompletion
  | rejectedResetPulse => exact h.execRejectedResetPulse

end Kept

end Sys2Proof.Machine
end

section
/-! SUPPORT. Stable properties through one step: a lemma for each operation, in the order of the model. -/
namespace Sys2Proof.Machine

open Sys2Proof

namespace Kept
variable {s : State}

theorem step (h : Kept State.canonical s) : KeptNext State.canonical (step s) := by
  unfold Machine.step
  split
  · exact h.idle
  · exact h.withPending.exec _

end Kept

end Sys2Proof.Machine
end

section
/-! Obligations O4 and O55: the canonical form through a step, and the rails after a trip and a loss of power. -/
namespace Sys2Proof.Machine

open Sys2Proof

/-- Settles O4: the canonical form is a stable property, and each instruction keeps every stable property that does not speak of
the rails, the clocks and the pins. -/
theorem stepKeepsForm : Obligations.StepKeepsForm := by
  intro s t hs hstep
  have h : KeptNext State.canonical (step s) := hs.kept.step
  rw [hstep] at h
  exact h.holds

/-! ## The rails go down -/

/-- The rails and clocks are off and PWR_GOOD is low; the trip, its moment and the other pins are those of `s`. -/
structure RailsOff (s t : State) : Prop where
  rails : t.power.rails = false
  clocks : t.power.clocks = false
  pwrGood : t.pins.pwrGood = false
  tripped : t.power.tripped = s.power.tripped
  tripFt : t.power.tripFt = s.power.tripFt
  thermtrip : t.pins.thermtrip = s.pins.thermtrip
  p54 : t.pins.p54 = s.pins.p54

theorem RailsOff.trans {s t u : State} (h : RailsOff s t) (hu : SamePower t u) : RailsOff s u :=
  ⟨hu.rails.trans h.rails, hu.clocks.trans h.clocks, hu.pwrGood.trans h.pwrGood, hu.tripped.trans h.tripped,
    hu.tripFt.trans h.tripFt, hu.thermtrip.trans h.thermtrip, hu.p54.trans h.p54⟩

theorem railsDown_off (s : State) : RailsOff s s.railsDown := by
  unfold State.railsDown
  extract_lets s1 s2 s3 s4 y y' s5 s6 s7 y'' s8
  have h1 : Kept (SamePower s) s1 := (SamePower.refl s).each fun _ _ ht => ht.clusterDrop
  have h2 : Kept (SamePower s) s2 := h1.each fun _ _ ht => ht.stackDrop
  have h3 : Kept (SamePower s) s3 := h2.each fun _ _ ht => ht.spineDrop
  have h4 : SamePower s s4 := h3.ioDrop.holds
  clear_value s4
  have h5 : RailsOff s s5 := ⟨rfl, rfl, rfl, h4.tripped, h4.tripFt, h4.thermtrip, h4.p54⟩
  have h6 : Kept (SamePower s5) s6 := (SamePower.refl s5).each fun _ _ ht => ht.setFld.setFld.setFlag
  have h7 : Kept (SamePower s5) s7 := h6.each fun _ _ ht => ht.setFld
  have h8 : Kept (SamePower s5) s8 := h7.setFlag.withPm
  exact h5.trans h8.setFld.setFld.throttle.reasons.holds

/-- What a thermal trip leaves of rails, clocks, trip and pins. -/
structure TrippedNow (s t : State) : Prop where
  tripped : t.power.tripped = true
  tripFt : t.power.tripFt = s.now
  thermtrip : t.pins.thermtrip = true
  rails : t.power.rails = false
  clocks : t.power.clocks = false
  pwrGood : t.pins.pwrGood = false

theorem exec_thermalTrip {s : State} {i temp : Nat} (htrip : s.power.tripped = false) (hrails : s.power.rails = true)
    (hon : s.sensorOn i = true) (hbad : s.flag .TH_SENSOR_BAD i 0 = false) (htemp : 460 ≤ temp) :
    ∃ t, exec (.thermalTrip i temp) s = .next t ∧ TrippedNow s t := by
  have hcond : ¬ (s.power.tripped = true ∨ s.power.rails = false ∨ s.sensorOn i = false ∨
      s.flag .TH_SENSOR_BAD i 0 = true ∨ temp < 460) := by
    rw [htrip, hrails, hon, hbad]
    simp only [Bool.false_eq_true, Bool.true_eq_false, false_or]
    omega
  refine ⟨_, congrArg Host.Outcome.next (if_neg hcond), ?_⟩
  extract_lets s1 head s2 s3 st s4 y y' s5
  have hoff : RailsOff s5 ((s5.railsDown.auditEvent 3 i).writeRecord head) :=
    (railsDown_off s5).trans (SamePower.refl _).auditEvent.writeRecord.holds
  exact ⟨hoff.tripped, hoff.tripFt, hoff.thermtrip, hoff.rails, hoff.clocks, hoff.pwrGood⟩

theorem powerLoss_saving {s : State} (hon : s.power.svcOn = true) (hsave : s.power.saving = false) :
    s.powerLoss.power.saving = true ∧ s.powerLoss.pins.p54 = false ∧ s.powerLoss.power.rails = false ∧
      s.powerLoss.power.clocks = false := by
  unfold State.powerLoss
  rw [if_pos ⟨hon, hsave⟩]
  extract_lets both head y s1 s2 y' y''
  have hoff : RailsOff s1 s2 := railsDown_off s1
  exact ⟨rfl, hoff.p54, hoff.rails, hoff.clocks⟩

/-! ## The service domain without power -/

theorem svcReset_tm_words (s : State) (cold : Bool) : (s.svcReset cold).tm.words = [] := by
  unfold State.svcReset
  extract_lets seq kept life img au ents y sv y' pins_ y'' y2 y3 r r0 r1
  rw [State.setFlag_tm, State.setFlag_tm, State.setFlag_tm, State.setFld_tm, State.setFld_tm, State.setFld_tm, State.setFld_tm]
  rfl

theorem svcReset_hbm_sectors (s : State) (cold : Bool) : (s.svcReset cold).hbm.sectors = [] := by
  unfold State.svcReset
  extract_lets seq kept life img au ents y sv y' pins_ y'' y2 y3 r r0 r1
  rw [State.setFlag_hbm, State.setFlag_hbm, State.setFlag_hbm, State.setFld_hbm, State.setFld_hbm, State.setFld_hbm,
    State.setFld_hbm]
  rfl

theorem svcReset_svc_nest (s : State) (cold : Bool) : (s.svcReset cold).svc.nest = [] := by
  unfold State.svcReset
  extract_lets seq kept life img au ents y sv y' pins_ y'' y2 y3 r r0 r1
  rw [State.setFlag_svc, State.setFlag_svc, State.setFlag_svc, State.setFld_svc, State.setFld_svc, State.setFld_svc,
    State.setFld_svc]
  rfl

theorem exec_shutdownSaveDone {s : State} (hsave : s.power.saving = true) :
    ∃ t, exec (.shutdownSaveDone true 0) s = .next t ∧ t.power.svcOn = false ∧ t.tm.words = [] ∧ t.hbm.sectors = [] ∧
      t.svc.nest = [] := by
  obtain ⟨u, t, ht, hexec⟩ : ∃ u t : State, t = u.svcReset false ∧
      execShutdownSaveDone true 0 s = .next (t.withPower { t.power with svcOn := false }) := by
    unfold execShutdownSaveDone
    rw [if_neg (by rw [hsave]; decide)]
    extract_lets seq q s1 s2 s3 y
    exact ⟨s2, s3, rfl, rfl⟩
  have htm : t.tm.words = [] := by rw [ht, svcReset_tm_words]
  have hhbm : t.hbm.sectors = [] := by rw [ht, svcReset_hbm_sectors]
  have hnest : t.svc.nest = [] := by rw [ht, svcReset_svc_nest]
  exact ⟨_, hexec, rfl, htm, hhbm, hnest⟩

/-! ## Sensors, alerts and the hold-up store -/

theorem exec_alertHoldEnd {s : State} {n h : Nat} (hh : s.pm.holds = [(n, h)]) (hdue : h ≤ s.now) :
    exec (.alertHoldEnd n) s = .next ((((s.withPm { s.pm with holds := [] }).throttle (5 + n) false).setFlag
      .TH_ALERT_HOLD 0 0 (((s.withPm { s.pm with holds := [] }).throttle (5 + n) false).pins.regAlert ||
        ((s.withPm { s.pm with holds := [] }).throttle (5 + n) false).pins.extAlert ||
        ((s.withPm { s.pm with holds := [] }).throttle (5 + n) false).pm.holds.length != 0)).reasons) := by
  have hfind : s.pm.holds.find? (fun (x : Nat × Nat) => x.1 == n && decide (x.2 ≤ s.now)) = some (n, h) := by
    rw [hh]
    simp [hdue]
  have herase : s.pm.holds.erase (n, h) = [] := by
    rw [hh, List.erase_cons_head]
  change execAlertHoldEnd n s = _
  simp only [execAlertHoldEnd, hfind, herase]

theorem exec_huReady {s : State} (hon : s.power.svcOn = true) (volt soc : Nat) (ch : Bool) {s1 : State}
    (h1 : s1 = ((s.setFld .TH_HU_STATUS_VOLT 0 0 volt).setFld .TH_HU_STATUS_SOC 0 0 soc).setFlag .TH_HU_STATUS_CHARGING 0 0 ch) :
    exec (.huReady volt soc ch) s = .next (s1.setFlag .TH_HU_STATUS_READY 0 0 (decide (10 * s1.readyV ≤ volt))) := by
  have hready : s1.readyV = s.readyV := by
    unfold State.readyV
    rw [h1, fld_setFlag_of_ne _ (by decide), fld_setFld_ne _ _ _ _ _ _ (by decide), fld_setFld_ne _ _ _ _ _ _ (by decide)]
  rw [hready, h1]
  exact congrArg Host.Outcome.next (if_neg (by rw [hon]; decide))

/-- Settles O55: the parts of a trip and of a loss of power keep rails, clocks, trip and pins but where the rails go down. -/
theorem heatTripAndPowerLoss : Obligations.HeatTripAndPowerLoss := by
  refine ⟨fun s hon => ?events, fun s hon => ⟨?trip, ?loss, ?saved⟩⟩
  case trip =>
    intro i temp htrip hrails hsens hbad htemp
    obtain ⟨t, ht, h⟩ := exec_thermalTrip htrip hrails hsens hbad htemp
    exact ⟨t, ht, h.tripped, h.tripFt, h.thermtrip, h.rails, h.clocks, h.pwrGood⟩
  case loss => exact fun hsave => ⟨s.powerLoss, rfl, rfl, powerLoss_saving hon hsave⟩
  case saved => exact fun hsave => exec_shutdownSaveDone hsave
  case events =>
    have hoff : ¬ s.power.svcOn = false := by rw [hon]; decide
    refine ⟨?sample, ?stack, ?bad, ?stuck, ?reg, ?ext, ?regEnd, ?extEnd, ?hold, ?ready, ?gauge, ?rezero, ?fault⟩
    case sample =>
      intro i temp hi
      exact congrArg Host.Outcome.next ((if_neg hoff).trans (if_neg (by omega)))
    case stack =>
      intro k temp hk
      refine congrArg Host.Outcome.next ((if_neg hoff).trans ((if_pos ⟨by omega, hk⟩).trans ?_))
      rw [hk, Nat.add_sub_cancel_left]
    case bad =>
      intro i hi hs
      exact congrArg Host.Outcome.next ((if_pos hs).trans (if_neg (by omega)))
    case stuck => exact fun htrip hpin => congrArg Host.Outcome.next (if_pos ⟨htrip, hpin⟩)
    case reg =>
      intro rail hpin
      exact congrArg Host.Outcome.next (if_neg (by simp [hon, hpin]))
    case ext => exact fun hpin => congrArg Host.Outcome.next (if_neg (by simp [hon, hpin]))
    case regEnd => exact fun hpin => congrArg Host.Outcome.next (if_pos hpin)
    case extEnd => exact fun hpin => congrArg Host.Outcome.next (if_pos hpin)
    case hold => exact fun n h hh hdue _ _ => exec_alertHoldEnd hh hdue
    case ready => exact fun volt soc ch => exec_huReady hon volt soc ch rfl
    case gauge =>
      intro hsoc hready
      exact congrArg Host.Outcome.next (if_pos (by simp [hready, hsoc]))
    case rezero => exact fun hvolt => congrArg Host.Outcome.next (if_pos hvolt)
    case fault => exact fun hready => congrArg Host.Outcome.next (if_pos ⟨hon, hready⟩)

end Sys2Proof.Machine
end
